-- ==== Sys2Proof/Word.lean ====
section
/-! DEFINITION. Sys2Proof/Word.lean: the machine's words. R5 and R224 fix the sizes: a byte, the 32-bit word that
every syllable and every half of a control-space register is, and the 64-bit word of a general register. -/
namespace Sys2Proof

/-- One byte of any memory (R5). -/
abbrev Byte := BitVec 8

/-- A 32-bit word: a syllable (R220) or one word of a control-space register (R611). -/
abbrev W32 := BitVec 32

/-- A general register g0 to g63 (R224). -/
abbrev Word := BitVec 64

/-- A segment descriptor (R25). -/
abbrev SegDesc := BitVec 128

/-- A vector descriptor (R29). -/
abbrev VecDesc := BitVec 256

end Sys2Proof
end

