-- ==== Sys2Proof/Syntax.lean ====
section
/-! DEFINITION. Sys2Proof/Syntax.lean: the commands the block takes, one constructor of `Instr` for each row of
the spec's table, and the operand types they carry. A sequencer's rows are its syllables (R220): each names the
sequencer that meets it and whether it ends its Loaf. The event rows name the unit, channel, queue or port they
reach, and carry what comes from outside the block (a sensor's reading, a host's or a partner's message). -/
namespace Sys2Proof

/-- What every scalar syllable carries beside its operands (R220 to R222): the sequencer, whether an A or B
operation stands in the B slot, the stop bit, and whether some reserved field of the word is not zero. -/
structure SylHdr where
  seq : Fin 9
  slotB : Bool
  stop : Bool
  rsv : Bool
  deriving DecidableEq, Repr

/-- Scalar operations of form R and of the B slot (Table 7-5). -/
inductive AluOp
  | add | sub | and | or | xor | andn | shl | shr | sra | rol | min | max | minu | maxu | slt | sltu | ceq
  | clz | popc | mul | mulhs | mulhu | divs | divu | rems | remu
  deriving DecidableEq, Repr

/-- Scalar operations of form I (Table 7-5). -/
inductive AluImmOp
  | addi | andi | ori | xori | shli | shri | srai | slti | ceqi
  deriving DecidableEq, Repr

/-- Scalar memory forms (Table 7-7). -/
inductive MemOp
  | lb | lbu | lh | lhu | lw | lwu | ld | sb | sh | sw | sd
  | aaddW | aaddD | aswpW | aswpD | acasD | sgld | sgst | vdld | vdst
  deriving DecidableEq, Repr

/-- The conditional branches (Table 7-10). -/
inductive BrCond
  | eq | ne | lt | ge | le | gt
  deriving DecidableEq, Repr

/-- Vector opcodes of Tables 3-6 to 3-13, and the thirty-two Recipe opcodes (R69). -/
inductive VOpc
  | vadd | vsub | vaddc | vsubb | vmin | vmax | vabs | vneg | vcmp | vsel | vcvt | vcopy | vfill | viota
  | vmul | vmulh | vfma | vfms | vfnma
  | vdadd | vdsub | vdcmp | vdneg | vdcvt | vdshift | vdchk
  | vand | vor | vxor | vandn | vnot | vshl | vshr | vsra | vrol | vpopc | vclz
  | vdiv | vrem | vsqrt
  | vcprs | vexpd | vmstep | vrsum | vrmin | vrmax | vrand | vror | vrxor | vscan | vcount
  | vaese | vaesd | vghash | vsha256 | vcrc32c
  | vaadd | vamin | vamax | vaor | vaand | vafadd
  | vsync | vrestart
  | recipe (k : Fin 32)
  deriving DecidableEq, Repr

/-- A V syllable (R60) beside its OPC, which the row gives. `b31` and `r34` are the bits the encoding wants zero. -/
structure VSyl where
  seq : Fin 9
  stop : Bool
  b31 : Bool
  r34 : BitVec 3
  form : BitVec 3
  mod : BitVec 4
  d : Fin 32
  a : Fin 32
  b : Fin 32
  c : Fin 32
  e : Fin 32
  m : Fin 32
  gs : Fin 64
  een : Bool
  men : Bool
  mneg : Bool
  deriving DecidableEq, Repr

/-- A stream of a vector instruction: a data operand by its position (R63), the index stream of a data operand, or
the mask (R46, R52). -/
inductive StreamKey
  | data (p : Nat)
  | index (p : Nat)
  | mask
  deriving DecidableEq, Repr

/-- One syllable of a Loaf as the sequencer holds it while the Loaf is assembled (R220, R221). -/
inductive Syl
  | alu (op : AluOp) (slotB rsv w : Bool) (d a b : Fin 64)
  | alui (op : AluImmOp) (slotB rsv : Bool) (d a : Fin 64) (imm : BitVec 10)
  | movi (slotB rsv : Bool) (d : Fin 64) (imm : BitVec 16)
  | movk (slotB rsv : Bool) (q : Fin 4) (d : Fin 64) (imm : BitVec 16)
  | mem (op : MemOp) (rsv : Bool) (d a sg : Fin 64) (imm : BitVec 5)
  | vdset (rsv : Bool) (d a : Fin 64) (imm : BitVec 5)
  | vdget (rsv : Bool) (d sg : Fin 64) (imm : BitVec 5)
  | mfs (rsv : Bool) (d : Fin 64) (sr : BitVec 6)
  | mts (rsv : Bool) (a : Fin 64) (sr : BitVec 6)
  | pld (rsv : Bool) (d a : Fin 64) (imm : BitVec 5)
  | pst (rsv : Bool) (d a : Fin 64) (imm : BitVec 5)
  | fence (rsv : Bool)
  | br (c : BrCond) (rsv annul hint : Bool) (a : Fin 64) (disp : BitVec 16)
  | jump (rsv annul : Bool) (disp : BitVec 23)
  | call (rsv annul : Bool) (disp : BitVec 23)
  | jr (rsv annul : Bool) (a : Fin 64)
  | callr (rsv annul : Bool) (a : Fin 64)
  | ret (rsv annul : Bool) (a : Fin 64)
  | gate (rsv : Bool) (code : BitVec 16)
  | syscall (rsv : Bool) (code : BitVec 16)
  | rfe (rsv : Bool) (code : BitVec 16)
  | brk (rsv : Bool) (code : BitVec 16)
  | iflush (rsv annul : Bool) (disp : BitVec 23)
  | vec (op : VOpc) (v : VSyl)
  deriving DecidableEq, Repr


/-! ### Operands of the event rows -/

/-- How the checks of a Slice at the Commit Horizon come out (R124, R131, R137, R138): all pass; one of Table 4-5 fails;
a double-bit error stands in the buffer of a stream; the pipes of a Paired Run disagree, and agree on the replay;
they disagree again and a vote on a spare outvotes the pipe on a side; or all three differ. -/
inductive SliceCheck
  | pass | failed
  | operand (key : StreamKey)
  | pairAgain
  | pairVote (side : Bool)
  | pairLost
  deriving DecidableEq, Repr

/-- A master of the control fabric (Table 10-12) with the world and level its request carries. -/
structure Master where
  id : Nat
  world : Bool
  sup : Bool
  deriving DecidableEq, Repr

/-- The kinds of address a fabric request carries (R345). -/
inductive FabKind
  | ctl | prog | store
  deriving DecidableEq, Repr

/-- A request at a fabric port (R345 to R348): its master, whether it travels on VC2, its kind with the sequencer or
store number (for a host, its endpoint on the port), its address, its size in bytes, and the data of a write. -/
structure FabReq where
  who : Master
  vc2 : Bool
  kind : FabKind
  unit : Fin 9
  addr : Nat
  size : Nat
  data : Option Nat
  deriving DecidableEq, Repr

/-- A source's report as it reaches the Fault and Journal Unit (R444). -/
structure FaultIn where
  src : Fin 512
  unit : BitVec 20
  sev : Fin 5
  spec : Bool
  detail : BitVec 224
  deriving DecidableEq, Repr

/-- What a start comes to (R495, R497): which images are valid, the units that fail their tests, whether a failed
Journal half passes its test, the last stage the start comes to (0 to 10, from code 0x10 or 0x30 on), and the source
and cause where that stage's own check fails. -/
structure ProofRun where
  okA : Bool
  okB : Bool
  fails : List (BitVec 20)
  halfOk : Bool
  reach : Fin 11
  fail : Option (Fin 512 × Fin 16)
  deriving DecidableEq, Repr

/-- Who asks for a mode (R489): a manager through 0x2000:02, or a fabric master through ST_MODE_REQ. -/
inductive ModeVia
  | dict (path : Fin 7) (src : BitVec 13)
  | reg (who : Master)
  deriving DecidableEq, Repr

/-- A Jenzia request (Table 17-7): its path, addresses, transaction tag, object, FLAGS, LEN, OFFSET, TOTAL and data. -/
structure JenziaReq where
  path : Fin 7
  src : BitVec 13
  dst : BitVec 13
  tid : Byte
  index : BitVec 16
  sub : Byte
  flags : Byte
  len : BitVec 16
  offset : BitVec 32
  total : BitVec 32
  data : List Byte
  deriving DecidableEq, Repr

/-- The IEEE 1149.1 instructions that the TAP tells apart (R590). -/
inductive TapCode
  | bypass | idcode | sample | extest | priv
  deriving DecidableEq, Repr

/-- Who rings a doorbell (R296): a function of a host endpoint, or a master of the control fabric. -/
inductive DbVia
  | host (i : Fin 4) (f : Fin 257)
  | ctl (m : Master)
  deriving DecidableEq, Repr

/-- A message of the Adenik Link (R390): its header slot and the bytes of its data slots. -/
structure ChMsg where
  hdr : BitVec 128
  data : List Byte
  deriving DecidableEq, Repr

/-- A flit as a port receives it (R387): whether its CRC passes, the link header's fields, the logical lane whose swap
LCTL asks for, and its fifteen slots. -/
structure FlitIn where
  intact : Bool
  seq : BitVec 12
  ack : BitVec 12
  nak : Bool
  cvc : BitVec 3
  credits : BitVec 12
  swap : Option (Fin 8)
  slots : List (BitVec 128)
  deriving DecidableEq, Repr

/-- What a host sets up while its link trains (R422 to R424, Table 13-9): width and rate codes, FLIT mode, NumVFs, VF
Enable, and the functions with Bus Master Enable, with MSI-X Enable and with Function Mask. -/
structure HostCfg where
  width : Fin 4
  rate : Fin 6
  flit : Bool
  numVf : Fin 257
  vfe : Bool
  bme : List (Fin 257)
  msix : List (Fin 257)
  fmask : List (Fin 257)
  deriving DecidableEq, Repr

/-- The commands of the block: one constructor for each row of the opcode table, in its order. -/
inductive Instr
  | add (h : SylHdr) (d a b : Fin 64) (w : Bool)
  | sub (h : SylHdr) (d a b : Fin 64) (w : Bool)
  | and (h : SylHdr) (d a b : Fin 64) (w : Bool)
  | or (h : SylHdr) (d a b : Fin 64) (w : Bool)
  | xor (h : SylHdr) (d a b : Fin 64) (w : Bool)
  | andn (h : SylHdr) (d a b : Fin 64) (w : Bool)
  | shl (h : SylHdr) (d a b : Fin 64) (w : Bool)
  | shr (h : SylHdr) (d a b : Fin 64) (w : Bool)
  | sra (h : SylHdr) (d a b : Fin 64) (w : Bool)
  | rol (h : SylHdr) (d a b : Fin 64) (w : Bool)
  | min (h : SylHdr) (d a b : Fin 64) (w : Bool)
  | max (h : SylHdr) (d a b : Fin 64) (w : Bool)
  | minu (h : SylHdr) (d a b : Fin 64) (w : Bool)
  | maxu (h : SylHdr) (d a b : Fin 64) (w : Bool)
  | slt (h : SylHdr) (d a b : Fin 64) (w : Bool)
  | sltu (h : SylHdr) (d a b : Fin 64) (w : Bool)
  | ceq (h : SylHdr) (d a b : Fin 64) (w : Bool)
  | clz (h : SylHdr) (d a b : Fin 64) (w : Bool)
  | popc (h : SylHdr) (d a b : Fin 64) (w : Bool)
  | addi (h : SylHdr) (d a : Fin 64) (imm : BitVec 10)
  | andi (h : SylHdr) (d a : Fin 64) (imm : BitVec 10)
  | ori (h : SylHdr) (d a : Fin 64) (imm : BitVec 10)
  | xori (h : SylHdr) (d a : Fin 64) (imm : BitVec 10)
  | shli (h : SylHdr) (d a : Fin 64) (imm : BitVec 10)
  | shri (h : SylHdr) (d a : Fin 64) (imm : BitVec 10)
  | srai (h : SylHdr) (d a : Fin 64) (imm : BitVec 10)
  | slti (h : SylHdr) (d a : Fin 64) (imm : BitVec 10)
  | ceqi (h : SylHdr) (d a : Fin 64) (imm : BitVec 10)
  | movi (h : SylHdr) (d : Fin 64) (imm : BitVec 16)
  | movk (h : SylHdr) (q : Fin 4) (d : Fin 64) (imm : BitVec 16)
  | mul (h : SylHdr) (d a b : Fin 64) (w : Bool)
  | mulhs (h : SylHdr) (d a b : Fin 64) (w : Bool)
  | mulhu (h : SylHdr) (d a b : Fin 64) (w : Bool)
  | divs (h : SylHdr) (d a b : Fin 64) (w : Bool)
  | divu (h : SylHdr) (d a b : Fin 64) (w : Bool)
  | rems (h : SylHdr) (d a b : Fin 64) (w : Bool)
  | remu (h : SylHdr) (d a b : Fin 64) (w : Bool)
  | divideDone (n : Fin 9)
  | lb (h : SylHdr) (d a sg : Fin 64) (imm : BitVec 5)
  | lbu (h : SylHdr) (d a sg : Fin 64) (imm : BitVec 5)
  | lh (h : SylHdr) (d a sg : Fin 64) (imm : BitVec 5)
  | lhu (h : SylHdr) (d a sg : Fin 64) (imm : BitVec 5)
  | lw (h : SylHdr) (d a sg : Fin 64) (imm : BitVec 5)
  | lwu (h : SylHdr) (d a sg : Fin 64) (imm : BitVec 5)
  | ld (h : SylHdr) (d a sg : Fin 64) (imm : BitVec 5)
  | sb (h : SylHdr) (d a sg : Fin 64) (imm : BitVec 5)
  | sh (h : SylHdr) (d a sg : Fin 64) (imm : BitVec 5)
  | sw (h : SylHdr) (d a sg : Fin 64) (imm : BitVec 5)
  | sd (h : SylHdr) (d a sg : Fin 64) (imm : BitVec 5)
  | aaddW (h : SylHdr) (d a sg : Fin 64) (imm : BitVec 5)
  | aaddD (h : SylHdr) (d a sg : Fin 64) (imm : BitVec 5)
  | aswpW (h : SylHdr) (d a sg : Fin 64) (imm : BitVec 5)
  | aswpD (h : SylHdr) (d a sg : Fin 64) (imm : BitVec 5)
  | acasD (h : SylHdr) (d a sg : Fin 64) (imm : BitVec 5)
  | sgld (h : SylHdr) (d a sg : Fin 64) (imm : BitVec 5)
  | sgst (h : SylHdr) (d a sg : Fin 64) (imm : BitVec 5)
  | vdld (h : SylHdr) (d a sg : Fin 64) (imm : BitVec 5)
  | vdst (h : SylHdr) (d a sg : Fin 64) (imm : BitVec 5)
  | vdset (h : SylHdr) (d a : Fin 64) (imm : BitVec 5)
  | vdadv (h : SylHdr) (d a : Fin 64)
  | vdget (h : SylHdr) (d sg : Fin 64) (imm : BitVec 5)
  | mfs (h : SylHdr) (d : Fin 64) (sr : BitVec 6)
  | mts (h : SylHdr) (a : Fin 64) (sr : BitVec 6)
  | pld (h : SylHdr) (d a : Fin 64) (imm : BitVec 5)
  | pst (h : SylHdr) (d a : Fin 64) (imm : BitVec 5)
  | fenceSl (h : SylHdr)
  | beq (h : SylHdr) (annul hint : Bool) (a : Fin 64) (disp : BitVec 16)
  | bne (h : SylHdr) (annul hint : Bool) (a : Fin 64) (disp : BitVec 16)
  | blt (h : SylHdr) (annul hint : Bool) (a : Fin 64) (disp : BitVec 16)
  | bge (h : SylHdr) (annul hint : Bool) (a : Fin 64) (disp : BitVec 16)
  | ble (h : SylHdr) (annul hint : Bool) (a : Fin 64) (disp : BitVec 16)
  | bgt (h : SylHdr) (annul hint : Bool) (a : Fin 64) (disp : BitVec 16)
  | j (h : SylHdr) (annul : Bool) (disp : BitVec 23)
  | call (h : SylHdr) (annul : Bool) (disp : BitVec 23)
  | jr (h : SylHdr) (annul : Bool) (a : Fin 64)
  | callr (h : SylHdr) (annul : Bool) (a : Fin 64)
  | ret (h : SylHdr) (annul : Bool) (a : Fin 64)
  | gate (h : SylHdr) (code : BitVec 16)
  | syscall (h : SylHdr) (code : BitVec 16)
  | rfe (h : SylHdr) (code : BitVec 16)
  | brk (h : SylHdr) (code : BitVec 16)
  | iflush (h : SylHdr) (annul : Bool) (disp : BitVec 23)
  | interruptEntry (n : Fin 9)
  | lateBusError (n : Fin 9)
  | loadResponse (n : Fin 9)
  | storeBufferDrain (n : Fin 9)
  | branchResolve (n : Fin 9)
  | btbInvalidate (n : Fin 9)
  | vadd (v : VSyl)
  | vsub (v : VSyl)
  | vaddc (v : VSyl)
  | vsubb (v : VSyl)
  | vmin (v : VSyl)
  | vmax (v : VSyl)
  | vabs (v : VSyl)
  | vneg (v : VSyl)
  | vcmp (v : VSyl)
  | vsel (v : VSyl)
  | vcvt (v : VSyl)
  | vcopy (v : VSyl)
  | vfill (v : VSyl)
  | viota (v : VSyl)
  | vmul (v : VSyl)
  | vmulh (v : VSyl)
  | vfma (v : VSyl)
  | vfms (v : VSyl)
  | vfnma (v : VSyl)
  | vdadd (v : VSyl)
  | vdsub (v : VSyl)
  | vdcmp (v : VSyl)
  | vdneg (v : VSyl)
  | vdcvt (v : VSyl)
  | vdshift (v : VSyl)
  | vdchk (v : VSyl)
  | vand (v : VSyl)
  | vor (v : VSyl)
  | vxor (v : VSyl)
  | vandn (v : VSyl)
  | vnot (v : VSyl)
  | vshl (v : VSyl)
  | vshr (v : VSyl)
  | vsra (v : VSyl)
  | vrol (v : VSyl)
  | vpopc (v : VSyl)
  | vclz (v : VSyl)
  | vdiv (v : VSyl)
  | vrem (v : VSyl)
  | vsqrt (v : VSyl)
  | vcprs (v : VSyl)
  | vexpd (v : VSyl)
  | vmstep (v : VSyl)
  | vrsum (v : VSyl)
  | vrmin (v : VSyl)
  | vrmax (v : VSyl)
  | vrand (v : VSyl)
  | vror (v : VSyl)
  | vrxor (v : VSyl)
  | vscan (v : VSyl)
  | vcount (v : VSyl)
  | vaese (v : VSyl)
  | vaesd (v : VSyl)
  | vghash (v : VSyl)
  | vsha256 (v : VSyl)
  | vcrc32c (v : VSyl)
  | vaadd (v : VSyl)
  | vamin (v : VSyl)
  | vamax (v : VSyl)
  | vaor (v : VSyl)
  | vaand (v : VSyl)
  | vafadd (v : VSyl)
  | vsync (v : VSyl)
  | vrestartResume (v : VSyl)
  | vrestartDiscard (v : VSyl)
  | recipe (k : Fin 32) (v : VSyl)
  | streamDataArrival (n : Fin 9) (id : Nat) (key : StreamKey) (slice : Nat)
  | vectorFaultRecord (n : Fin 9)
  | sliceCommit (n : Fin 9) (id : Nat) (check : SliceCheck)
  | vectorComplete (n : Fin 9) (id : Nat)
  | storeEntryDrain (n : Fin 9) (k : Nat) (bad : Bool)
  | pipeSpareAccept (p : Fin 18)
  | atomicQueueAdmit (n : Fin 9) (id : Nat)
  | atomicOperation (u : Fin 2048) (k : Fin 64) (misses : Fin 3)
  | atomicAck (u : Fin 2048)
  | lineIdleWriteback (u : Fin 2048) (granule : BitVec 30)
  | bankRequest (addr : BitVec 37) (size : Fin 129) (data : Option (List Byte)) (ra remap : Bool)
  | bankAccess (b : Fin 32768)
  | patrolScrub (t : Fin 4)
  | scrubRewrite (t : Fin 4)
  | scrubLate (r : Fin 96)
  | rowRefresh (bank : Fin 33280) (row : Fin 1536)
  | neighbourRefresh (bank : Fin 33280) (row : Fin 1536)
  | placeWindowClose (r : Fin 96) (conflicts : Nat)
  | regionMigrationReq (r : Fin 96) (who : Master) (value : Word)
  | migrationStart
  | swapPair (b : Fin 32768)
  | rowRepair (b : Fin 32768) (row : Fin 1536)
  | bankRegrowEnd (t : Fin 4)
  | fabricRequest (reqs : List FabReq)
  | fabricTimeout (req : FabReq)
  | doorbell (q : BitVec 16) (via : DbVia) (lo hi : Bool) (value : Word)
  | ovenWake (o : Fin 8)
  | ovenWakeDone (o : Fin 8)
  | ticketFetch
  | ticketArrival (q : BitVec 16) (data : Option (BitVec 512))
  | dispatchRead (o : Fin 8) (w : Bool) (who : Master)
  | completionPost (o : Fin 8) (w : Bool) (who : Master) (value : W32)
  | feedForward
  | dozeHint (o : Fin 8)
  | queueEnable (q : BitVec 16) (who : Master)
  | queuePause (q : BitVec 16) (who : Master)
  | queueResume (q : BitVec 16) (who : Master)
  | queueReset (q : BitVec 16) (who : Master)
  | queueResetEnd (q : BitVec 16)
  | queueContextWrite (q : BitVec 16) (who : Master) (word : Fin 16) (wide : Bool) (value : Word)
  | bufferAlloc (p : BitVec 8) (who : List Master)
  | bufferFree (p : BitVec 8) (who : Master) (addr : Word)
  | poolEnable (p : BitVec 8) (who : Master) (value : W32)
  | poolInitDone (p : BitVec 8)
  | poolDisable (p : BitVec 8) (who : Master) (value : W32)
  | ticketRedispatch
  | secureSizeWrite (n : Fin 9) (who : Master) (value : W32)
  | secureWipe (n : Fin 9) (who : Master) (value : W32)
  | secureWipeDone (n : Fin 9)
  | lsClearDone (n : Fin 9)
  | marchStart (n : Fin 9) (who : Master) (value : W32)
  | marchAbort (n : Fin 9) (who : Master) (value : W32) (fails : List (Fin 65536))
  | marchDone (n : Fin 9) (fails : List (Fin 65536))
  | bmStart (c : Fin 32) (who : Master)
  | bmPause (c : Fin 32) (who : Master)
  | bmResume (c : Fin 32) (who : Master)
  | bmAbort (c : Fin 32) (who : Master)
  | bmDescriptorFetch (c : Fin 32)
  | bmElement (c : Fin 32) (host : Option (List Byte))
  | bmDescriptorEnd (c : Fin 32)
  | bmHalt (c : Fin 32) (code : Fin 8) (side : Fin 3) (addr : Word)
  | bmRelease (who : Master)
  | bmHaltAuto
  | bmPowerAbort (c : Fin 32)
  | linkTrain (p : Fin 8) (signal : Bool)
  | chRetrain (p : Fin 8) (who : Master)
  | retrainTimeout (p : Fin 8)
  | laneErrorWindow (p : Fin 8) (errs : List (BitVec 16)) (ce : BitVec 31) (ue : BitVec 15)
  | laneForce (p : Fin 8) (who : Master) (lane : BitVec 4)
  | linkDown (p : Fin 8) (lost : Bool)
  | flitAckTimeout (p : Fin 8)
  | flitReceive (p : Fin 8) (f : FlitIn)
  | rd (p : Fin 8) (m : ChMsg)
  | wr (p : Fin 8) (m : ChMsg)
  | atom (p : Fin 8) (m : ChMsg)
  | db (p : Fin 8) (m : ChMsg)
  | rdrsp (p : Fin 8) (m : ChMsg)
  | wrack (p : Fin 8) (m : ChMsg)
  | atomrsp (p : Fin 8) (m : ChMsg)
  | errrsp (p : Fin 8) (m : ChMsg)
  | waking (p : Fin 8) (m : ChMsg)
  | mark (p : Fin 8) (m : ChMsg)
  | nbr (p : Fin 8) (m : ChMsg)
  | nbrPeriod
  | time (p : Fin 8) (m : ChMsg)
  | timeExchange (answer : Option (Word × Word × W32))
  | linkdownFlood (p : Fin 8) (m : ChMsg)
  | reconcile (p : Fin 8) (m : ChMsg)
  | mgmt (p : Fin 8) (m : ChMsg)
  | tagTimeout (tag : BitVec 12)
  | transitTimeout
  | ringRestore (who : Master)
  | doorbellSend (who : Master) (value : Word)
  | hostPostedWrite (ep : Fin 4) (f : Fin 257) (bar : Fin 3) (off : Word) (data : List Byte) (poison : Bool)
  | hostRead (ep : Fin 4) (f : Fin 257) (bar : Fin 3) (off : Word) (len : BitVec 13)
  | hostLinkDown (ep : Fin 4)
  | perst (ep : Fin 4)
  | vfFlr (ep : Fin 4) (v : Fin 257)
  | pfFlr (ep : Fin 4)
  | vfEnableClear (ep : Fin 4)
  | busMasterEnableClear (ep : Fin 4) (f : Fin 257)
  | msixUnmask (ep : Fin 4) (f : Fin 257) (vec : Option (Fin 2048))
  | mailboxGo (ep : Fin 4) (dest : Bool) (len : BitVec 9)
  | mailboxAbort (ep : Fin 4)
  | mailboxAnswer (ep : Fin 4) (who : Master) (rlen : BitVec 9)
  | faultEvent (evs : List FaultIn)
  | faultWindowClose (src : Fin 512)
  | reactionStart
  | autotomyEnd (unit : BitVec 20)
  | autotomyTimeout (unit : BitVec 20)
  | sequencerRegrowEnd (digestOk : Bool)
  | regrowTimeout (spare : BitVec 20)
  | faultForce (src : Fin 512) (who : Master) (value : W32)
  | firstRecordClear (who : Master)
  | alertPulseEnd
  | alertAck (who : Master)
  | journalWrite (failA failB : Fin 4)
  | journalRead (who : Master) (seq : Word)
  | fjReqAutotomy (who : Master) (unit : BitVec 20)
  | fjReqAutotomyRegrow (who : Master) (unit : BitVec 20)
  | fjReqRepair (who : Master) (unit : BitVec 20)
  | ustCheck (unit : BitVec 20) (copyA copyB copyC mgmt data : W32)
  | lastGaspClear (who : Master)
  | starterBoot (okA okB : Bool)
  | proofingStart (run : ProofRun)
  | proofingStageTimeout
  | restartDelayExpiry (run : ProofRun)
  | bootTriesClear
  | runAdmission
  | modeReqRun (via : ModeVia)
  | modeReqPairedRun (via : ModeVia)
  | modeReqBrumation (via : ModeVia)
  | modeReqStarterOnly (via : ModeVia)
  | modeReqProofing (via : ModeVia) (run : ProofRun)
  | modeReqWipe (via : ModeVia)
  | quiesceDone
  | quiesceTimeout
  | brumIdleExpiry
  | brumationWake (lost : List (Fin 9))
  | holdupEntry (mainFail p12v : Bool)
  | flushEnd
  | flushWatchdog
  | auxLoss
  | railFault
  | domainGateTimeout (unit : BitVec 20)
  | clockStretch (cycles : BitVec 32)
  | voltageLoop (low high : Bool)
  | frequencyLoop (stretch : Bool) (pin tj : W32) (allow : Bool)
  | thermalTrip
  | referenceMeasure (signal beyond stable : BitVec 3) (second : Bool)
  | referenceLos (r : Fin 3)
  | referenceSwitchEnd
  | chargerLoop (v amp : W32)
  | chargerCcTimeout
  | energyEstimate (v : W32)
  | capacitanceTest
  | testNow (path : Fin 7) (src : BitVec 13)
  | capacitanceTestEnd (v0 v1 v2 : W32) (dt : W32)
  | holdupStoreSample (v : W32)
  | coolantLoop (high : W32) (valid : Fin 33) (sensorBad : Bool)
  | valvePositionFault
  | lossOfFlow
  | sensorLossTrip
  | read (req : JenziaReq)
  | write (req : JenziaReq)
  | info (req : JenziaReq)
  | segment (path : Fin 7) (src dst : BitVec 13) (payload : List Byte)
  | segAck (req : JenziaReq)
  | abort (req : JenziaReq)
  | segmentTimeout (src : BitVec 13) (tid : Byte)
  | relayTimeout (src : BitVec 13) (tid : Byte)
  | claim (path : Fin 7) (src : BitVec 13) (payload : List Byte)
  | renew (path : Fin 7) (src : BitVec 13) (payload : List Byte)
  | release (path : Fin 7) (src : BitVec 13) (payload : List Byte)
  | handover (path : Fin 7) (src : BitVec 13) (payload : List Byte)
  | electionClose
  | leaseLapse
  | handoverExpiry
  | heartbeat
  | canBusOffRecovery (bus : Fin 2)
  | syncLost
  | tbSetWrite (value : Word)
  | tbcapEdge (k : Fin 4)
  | tbCapRead (who : Master)
  | timerTick (n : Fin 16)
  | linkAction (n : Fin 16)
  | timerCaptureEdge (k : Fin 4) (rising : Bool)
  | captureRead (n : Fin 16) (who : Master)
  | compareWrite (n : Fin 16) (k : Bool) (value : W32)
  | countWrite (n : Fin 16) (value : W32)
  | prescaleWrite (n : Fin 16) (value : W32)
  | postedWriteApply
  | lcToken (path : Fin 7) (src : BitVec 13) (token : List Byte)
  | lcReq (path : Fin 7) (src : BitVec 13) (target : Byte)
  | epochWrite (path : Fin 7) (src : BitVec 13) (value : Byte)
  | keyRevoke (path : Fin 7) (src : BitVec 13) (value : Byte)
  | claimKeyWrite (path : Fin 7) (src : BitVec 13) (slot : Fin 4) (key : BitVec 256)
  | rngBlock (ok : Bool)
  | btbRenew (who : Master) (value : W32)
  | tamperDetect (k : Fin 7) (present : Bool)
  | tamperSample (differs : BitVec 4)
  | secNotifySet (who : Master) (secure : Bool) (ovens : Byte)
  | secNotifyClr (who : Master) (secure : Bool) (ovens : Byte)
  | secRngRead (who : Master)
  | wipeEntry (full : Bool)
  | wipeEnd
  | wideRegisterRead (who : Master) (addr : W32)
  | registerWrite (who : Master) (addr : W32) (wide : Bool) (value : Word)
  | tierSensorLoss (t : Fin 4)
  | laneLoss (p : Fin 8) (lane : Fin 9)
  | repairedLinkUp (p : Fin 8)
  | hostLinkUp (ep : Fin 4) (cfg : HostCfg)
  | hotReset (ep : Fin 4)
  | canBusError (bus : Fin 2) (busOff : Bool) (unsent : Nat)
  | alertHighTimeEnd
  | tapInstructionLoad (code : TapCode)
  deriving DecidableEq, Repr

end Sys2Proof
end

