-- ==== Sys2Proof/WellFormed.lean ====
section
/-! DEFINITION. Sys2Proof/WellFormed.lean: the operands that hardware can send. A command that fails here faults as
`illFormed`; a message or request that the spec has the device refuse or discard is well formed. -/
namespace Sys2Proof

/-- A master of Table 10-12 with the world and level its requests carry (R345, R426): the dispatcher, the Starter and the
Fault and Journal Unit are Secure supervisor; the Block Mover carries a channel's world; hosts and the chain are General. -/
def Master.ok (m : Master) : Bool :=
  decide (m.id < 9) || ((m.id == 9 || m.id == 13 || m.id == 14) && m.world && m.sup) || (m.id == 10 && !m.sup)
    || ((m.id == 11 || m.id == 12 || m.id == 15) && !m.world && !m.sup)

/-- A fabric request: its size in bytes, data that fits it, and VC2 for the Fault and Journal Unit alone (R348). -/
def FabReq.ok (r : FabReq) : Bool :=
  r.who.ok && (r.vc2 == (r.who.id == 14)) && [1, 2, 4, 8, 16, 32, 64].contains r.size && decide (r.addr < 2 ^ 32)
    && (match r.data with
      | none => true
      | some v => decide (v < 2 ^ (8 * r.size)))

/-- A message of a type, with as many data slots as its header calls for (Tables 12-4 and 12-5). -/
def ChMsg.isType (m : ChMsg) (ty : Nat) : Bool :=
  let h := m.hdr.toNat
  let bytes := h / 2 ^ 64 % 256 + 1
  let slots := if ty = 2 ∨ ty = 8 then (bytes + 15) / 16
    else if ty = 0x24 then min 4 ((bytes + 15) / 16)
    else if ty = 3 ∨ ty = 10 ∨ (0x20 ≤ ty ∧ ty ≤ 0x23) then 1 else 0
  decide (h % 64 = ty) && decide (m.data.length = 16 * slots)

/-- The longest payload of a path's frames (Table 17-6). -/
def pathMax (path : Fin 7) : Nat := if 2 ≤ path.val ∧ path.val ≤ 5 then 252 else 64

/-- A CLAIM frame's payload with a CMD (Table 17-13). -/
def claimOk (path : Fin 7) (payload : List Byte) (cmd : Nat) : Bool :=
  decide ((payload.getD 0 0).toNat = cmd) && decide (payload.length ≤ pathMax path)

/-- A request's data fits its frame. -/
def JenziaReq.ok (r : JenziaReq) : Bool := decide (r.data.length + 16 ≤ pathMax r.path)

/-- Who asks for a mode or rings a doorbell. -/
def ModeVia.ok : ModeVia → Bool
  | .dict _ _ => true
  | .reg m => m.ok
def DbVia.ok : DbVia → Bool
  | .host _ _ => true
  | .ctl m => m.ok

/-- A flit's slots (R387). -/
def FlitIn.ok (f : FlitIn) : Bool := decide (f.slots.length = 15)

/-- A bank request (R153): its data is as long as it says, and it lies within a Granule. -/
def bankReqOk (addr : BitVec 37) (size : Fin 129) (data : Option (List Byte)) : Bool :=
  decide (0 < size.val) && decide (addr.toNat % 128 + size.val ≤ 128)
    && (match data with
      | none => true
      | some d => decide (d.length = size.val))

/-- A host's write: 1 to 4,096 bytes. -/
def hostDataOk (data : List Byte) : Bool := decide (0 < data.length) && decide (data.length ≤ 4096)

/-- Whether hardware can send a command: the condition its meaning checks. -/
def Instr.wellFormed (i : Instr) : Bool :=
  match i with
  | .add _ _ _ _ _ => true
  | .sub _ _ _ _ _ => true
  | .and _ _ _ _ _ => true
  | .or _ _ _ _ _ => true
  | .xor _ _ _ _ _ => true
  | .andn _ _ _ _ _ => true
  | .shl _ _ _ _ _ => true
  | .shr _ _ _ _ _ => true
  | .sra _ _ _ _ _ => true
  | .rol _ _ _ _ _ => true
  | .min _ _ _ _ _ => true
  | .max _ _ _ _ _ => true
  | .minu _ _ _ _ _ => true
  | .maxu _ _ _ _ _ => true
  | .slt _ _ _ _ _ => true
  | .sltu _ _ _ _ _ => true
  | .ceq _ _ _ _ _ => true
  | .clz _ _ _ _ _ => true
  | .popc _ _ _ _ _ => true
  | .addi _ _ _ _ => true
  | .andi _ _ _ _ => true
  | .ori _ _ _ _ => true
  | .xori _ _ _ _ => true
  | .shli _ _ _ _ => true
  | .shri _ _ _ _ => true
  | .srai _ _ _ _ => true
  | .slti _ _ _ _ => true
  | .ceqi _ _ _ _ => true
  | .movi _ _ _ => true
  | .movk _ _ _ _ => true
  | .mul _ _ _ _ _ => true
  | .mulhs _ _ _ _ _ => true
  | .mulhu _ _ _ _ _ => true
  | .divs _ _ _ _ _ => true
  | .divu _ _ _ _ _ => true
  | .rems _ _ _ _ _ => true
  | .remu _ _ _ _ _ => true
  | .divideDone _ => true
  | .lb _ _ _ _ _ => true
  | .lbu _ _ _ _ _ => true
  | .lh _ _ _ _ _ => true
  | .lhu _ _ _ _ _ => true
  | .lw _ _ _ _ _ => true
  | .lwu _ _ _ _ _ => true
  | .ld _ _ _ _ _ => true
  | .sb _ _ _ _ _ => true
  | .sh _ _ _ _ _ => true
  | .sw _ _ _ _ _ => true
  | .sd _ _ _ _ _ => true
  | .aaddW _ _ _ _ _ => true
  | .aaddD _ _ _ _ _ => true
  | .aswpW _ _ _ _ _ => true
  | .aswpD _ _ _ _ _ => true
  | .acasD _ _ _ _ _ => true
  | .sgld _ _ _ _ _ => true
  | .sgst _ _ _ _ _ => true
  | .vdld _ _ _ _ _ => true
  | .vdst _ _ _ _ _ => true
  | .vdset _ _ _ _ => true
  | .vdadv _ _ _ => true
  | .vdget _ _ _ _ => true
  | .mfs _ _ _ => true
  | .mts _ _ _ => true
  | .pld _ _ _ _ => true
  | .pst _ _ _ _ => true
  | .fenceSl _ => true
  | .beq _ _ _ _ _ => true
  | .bne _ _ _ _ _ => true
  | .blt _ _ _ _ _ => true
  | .bge _ _ _ _ _ => true
  | .ble _ _ _ _ _ => true
  | .bgt _ _ _ _ _ => true
  | .j _ _ _ => true
  | .call _ _ _ => true
  | .jr _ _ _ => true
  | .callr _ _ _ => true
  | .ret _ _ _ => true
  | .gate _ _ => true
  | .syscall _ _ => true
  | .rfe _ _ => true
  | .brk _ _ => true
  | .iflush _ _ _ => true
  | .interruptEntry _ => true
  | .lateBusError _ => true
  | .loadResponse _ => true
  | .storeBufferDrain _ => true
  | .branchResolve _ => true
  | .btbInvalidate _ => true
  | .vadd _ => true
  | .vsub _ => true
  | .vaddc _ => true
  | .vsubb _ => true
  | .vmin _ => true
  | .vmax _ => true
  | .vabs _ => true
  | .vneg _ => true
  | .vcmp _ => true
  | .vsel _ => true
  | .vcvt _ => true
  | .vcopy _ => true
  | .vfill _ => true
  | .viota _ => true
  | .vmul _ => true
  | .vmulh _ => true
  | .vfma _ => true
  | .vfms _ => true
  | .vfnma _ => true
  | .vdadd _ => true
  | .vdsub _ => true
  | .vdcmp _ => true
  | .vdneg _ => true
  | .vdcvt _ => true
  | .vdshift _ => true
  | .vdchk _ => true
  | .vand _ => true
  | .vor _ => true
  | .vxor _ => true
  | .vandn _ => true
  | .vnot _ => true
  | .vshl _ => true
  | .vshr _ => true
  | .vsra _ => true
  | .vrol _ => true
  | .vpopc _ => true
  | .vclz _ => true
  | .vdiv _ => true
  | .vrem _ => true
  | .vsqrt _ => true
  | .vcprs _ => true
  | .vexpd _ => true
  | .vmstep _ => true
  | .vrsum _ => true
  | .vrmin _ => true
  | .vrmax _ => true
  | .vrand _ => true
  | .vror _ => true
  | .vrxor _ => true
  | .vscan _ => true
  | .vcount _ => true
  | .vaese _ => true
  | .vaesd _ => true
  | .vghash _ => true
  | .vsha256 _ => true
  | .vcrc32c _ => true
  | .vaadd _ => true
  | .vamin _ => true
  | .vamax _ => true
  | .vaor _ => true
  | .vaand _ => true
  | .vafadd _ => true
  | .vsync _ => true
  | .vrestartResume _ => true
  | .vrestartDiscard _ => true
  | .recipe _ _ => true
  | .streamDataArrival _ _ _ _ => true
  | .vectorFaultRecord _ => true
  | .sliceCommit _ _ _ => true
  | .vectorComplete _ _ => true
  | .storeEntryDrain _ _ _ => true
  | .pipeSpareAccept _ => true
  | .atomicQueueAdmit _ _ => true
  | .atomicOperation _ _ _ => true
  | .atomicAck _ => true
  | .lineIdleWriteback _ _ => true
  | .bankRequest addr size data _ _ => bankReqOk addr size data
  | .bankAccess _ => true
  | .patrolScrub _ => true
  | .scrubRewrite _ => true
  | .scrubLate _ => true
  | .rowRefresh _ _ => true
  | .neighbourRefresh _ _ => true
  | .placeWindowClose _ _ => true
  | .regionMigrationReq _ who _ => who.ok
  | .migrationStart => true
  | .swapPair _ => true
  | .rowRepair _ _ => true
  | .bankRegrowEnd _ => true
  | .fabricRequest reqs => reqs.all FabReq.ok
  | .fabricTimeout req => req.ok
  | .doorbell _ via _ _ _ => via.ok
  | .ovenWake _ => true
  | .ovenWakeDone _ => true
  | .ticketFetch => true
  | .ticketArrival _ _ => true
  | .dispatchRead _ _ who => who.ok
  | .completionPost _ _ who _ => who.ok
  | .feedForward => true
  | .dozeHint _ => true
  | .queueEnable _ who => who.ok
  | .queuePause _ who => who.ok
  | .queueResume _ who => who.ok
  | .queueReset _ who => who.ok
  | .queueResetEnd _ => true
  | .queueContextWrite _ who word wide _ => who.ok && !(wide && word.val % 2 == 1)
  | .bufferAlloc _ who => who.all Master.ok
  | .bufferFree _ who _ => who.ok
  | .poolEnable _ who _ => who.ok
  | .poolInitDone _ => true
  | .poolDisable _ who _ => who.ok
  | .ticketRedispatch => true
  | .secureSizeWrite _ who _ => who.ok
  | .secureWipe _ who _ => who.ok
  | .secureWipeDone _ => true
  | .lsClearDone _ => true
  | .marchStart _ who _ => who.ok
  | .marchAbort _ who _ _ => who.ok
  | .marchDone _ _ => true
  | .bmStart _ who => who.ok
  | .bmPause _ who => who.ok
  | .bmResume _ who => who.ok
  | .bmAbort _ who => who.ok
  | .bmDescriptorFetch _ => true
  | .bmElement _ _ => true
  | .bmDescriptorEnd _ => true
  | .bmHalt _ _ _ _ => true
  | .bmRelease who => who.ok
  | .bmHaltAuto => true
  | .bmPowerAbort _ => true
  | .linkTrain _ _ => true
  | .chRetrain _ who => who.ok
  | .retrainTimeout _ => true
  | .laneErrorWindow _ errs _ _ => decide (errs.length = 9)
  | .laneForce _ who _ => who.ok
  | .linkDown _ _ => true
  | .flitAckTimeout _ => true
  | .flitReceive _ f => f.ok
  | .rd _ m => m.isType 1
  | .wr _ m => m.isType 2
  | .atom _ m => m.isType 3
  | .db _ m => m.isType 4
  | .rdrsp _ m => m.isType 8
  | .wrack _ m => m.isType 9
  | .atomrsp _ m => m.isType 10
  | .errrsp _ m => m.isType 11
  | .waking _ m => m.isType 12
  | .mark _ m => m.isType 16
  | .nbr _ m => m.isType 32
  | .nbrPeriod => true
  | .time _ m => m.isType 33
  | .timeExchange _ => true
  | .linkdownFlood _ m => m.isType 34
  | .reconcile _ m => m.isType 35
  | .mgmt _ m => m.isType 36
  | .tagTimeout _ => true
  | .transitTimeout => true
  | .ringRestore who => who.ok
  | .doorbellSend who _ => who.ok
  | .hostPostedWrite _ _ _ _ data _ => hostDataOk data
  | .hostRead _ _ _ _ len => decide (0 < len.toNat) && decide (len.toNat ≤ 4096)
  | .hostLinkDown _ => true
  | .perst _ => true
  | .vfFlr _ v => decide (0 < v.val)
  | .pfFlr _ => true
  | .vfEnableClear _ => true
  | .busMasterEnableClear _ _ => true
  | .msixUnmask _ _ _ => true
  | .mailboxGo _ _ _ => true
  | .mailboxAbort _ => true
  | .mailboxAnswer _ who _ => who.ok
  | .faultEvent _ => true
  | .faultWindowClose _ => true
  | .reactionStart => true
  | .autotomyEnd _ => true
  | .autotomyTimeout _ => true
  | .sequencerRegrowEnd _ => true
  | .regrowTimeout _ => true
  | .faultForce _ who _ => who.ok
  | .firstRecordClear who => who.ok
  | .alertPulseEnd => true
  | .alertAck who => who.ok
  | .journalWrite _ _ => true
  | .journalRead who _ => who.ok
  | .fjReqAutotomy who _ => who.ok
  | .fjReqAutotomyRegrow who _ => who.ok
  | .fjReqRepair who _ => who.ok
  | .ustCheck _ _ _ _ _ _ => true
  | .lastGaspClear who => who.ok
  | .starterBoot _ _ => true
  | .proofingStart _ => true
  | .proofingStageTimeout => true
  | .restartDelayExpiry _ => true
  | .bootTriesClear => true
  | .runAdmission => true
  | .modeReqRun via => via.ok
  | .modeReqPairedRun via => via.ok
  | .modeReqBrumation via => via.ok
  | .modeReqStarterOnly via => via.ok
  | .modeReqProofing via _ => via.ok
  | .modeReqWipe via => via.ok
  | .quiesceDone => true
  | .quiesceTimeout => true
  | .brumIdleExpiry => true
  | .brumationWake _ => true
  | .holdupEntry _ _ => true
  | .flushEnd => true
  | .flushWatchdog => true
  | .auxLoss => true
  | .railFault => true
  | .domainGateTimeout _ => true
  | .clockStretch _ => true
  | .voltageLoop _ _ => true
  | .frequencyLoop _ _ _ _ => true
  | .thermalTrip => true
  | .referenceMeasure _ _ _ _ => true
  | .referenceLos _ => true
  | .referenceSwitchEnd => true
  | .chargerLoop _ _ => true
  | .chargerCcTimeout => true
  | .energyEstimate _ => true
  | .capacitanceTest => true
  | .testNow _ _ => true
  | .capacitanceTestEnd _ _ _ _ => true
  | .holdupStoreSample _ => true
  | .coolantLoop _ _ _ => true
  | .valvePositionFault => true
  | .lossOfFlow => true
  | .sensorLossTrip => true
  | .read req => req.ok
  | .write req => req.ok
  | .info req => req.ok
  | .segment path _ _ payload => decide (payload.length ≤ pathMax path)
  | .segAck req => req.ok
  | .abort req => req.ok
  | .segmentTimeout _ _ => true
  | .relayTimeout _ _ => true
  | .claim path _ payload => claimOk path payload 1
  | .renew path _ payload => claimOk path payload 2
  | .release path _ payload => claimOk path payload 3
  | .handover path _ payload => claimOk path payload 4
  | .electionClose => true
  | .leaseLapse => true
  | .handoverExpiry => true
  | .heartbeat => true
  | .canBusOffRecovery _ => true
  | .syncLost => true
  | .tbSetWrite _ => true
  | .tbcapEdge _ => true
  | .tbCapRead who => who.ok
  | .timerTick _ => true
  | .linkAction _ => true
  | .timerCaptureEdge _ _ => true
  | .captureRead _ who => who.ok
  | .compareWrite _ _ _ => true
  | .countWrite _ _ => true
  | .prescaleWrite _ _ => true
  | .postedWriteApply => true
  | .lcToken _ _ token => decide (token.length ≤ 116)
  | .lcReq _ _ _ => true
  | .epochWrite _ _ _ => true
  | .keyRevoke _ _ _ => true
  | .claimKeyWrite _ _ _ _ => true
  | .rngBlock _ => true
  | .btbRenew who _ => who.ok
  | .tamperDetect _ _ => true
  | .tamperSample _ => true
  | .secNotifySet who _ _ => who.ok
  | .secNotifyClr who _ _ => who.ok
  | .secRngRead who => who.ok
  | .wipeEntry _ => true
  | .wipeEnd => true
  | .wideRegisterRead who _ => who.ok
  | .registerWrite who _ _ _ => who.ok
  | .tierSensorLoss _ => true
  | .laneLoss _ _ => true
  | .repairedLinkUp _ => true
  | .hostLinkUp _ _ => true
  | .hotReset _ => true
  | .canBusError _ _ _ => true
  | .alertHighTimeEnd => true
  | .tapInstructionLoad _ => true

end Sys2Proof
end

