-- ==== Sys2Proof/Decode.lean ====
section
/-! DEFINITION. Sys2Proof/Decode.lean: the command that a word spells. The table gives no row any bits: a command comes with
its operands, so no word spells one. -/
namespace Sys2Proof

/-- The row whose bits a word is: none, since no row of the table has bits. -/
def decodeTableWord (_nbits _w : Nat) : Option Instr := none

end Sys2Proof
end

