-- ==== Sys2Proof/Machine/RegMap.lean ====
section
/-! DEFINITION. Sys2Proof/Machine/RegMap.lean: the control-space registers (Table 20-7 and the register maps of each
chapter): the address of every register, and every field as its lowest bit and its length. A register that exists once
for each unit, channel or entry takes the number of it. The names are the spec's. -/
namespace Sys2Proof.Machine

/-- A field of a register: its lowest bit in the whole register, and its length in bits. -/
abbrev Fld := Nat × Nat

/-- SEQ_CTL (Table 7-15). -/
def SEQ_CTL (n : Nat) : Nat := 0x100000 + n * 0x10000
def SEQ_CTL.REMAP : Fld := (0, 1)
def SEQ_CTL.BTB_DIS : Fld := (1, 1)
def SEQ_CTL.RA_DIS : Fld := (2, 1)
def SEQ_CTL.BTB_INV : Fld := (3, 1)
def SEQ_CTL.LOCK : Fld := (31, 1)

/-- SEQ_STATUS (Table 7-16). -/
def SEQ_STATUS (n : Nat) : Nat := 0x100004 + n * 0x10000
def SEQ_STATUS.STATE : Fld := (0, 2)
def SEQ_STATUS.OVEN : Fld := (2, 3)
def SEQ_STATUS.VOUT : Fld := (5, 4)
def SEQ_STATUS.SPEC : Fld := (9, 1)
def SEQ_STATUS.DIVB : Fld := (10, 1)
def SEQ_STATUS.OVF_LOAF : Fld := (11, 1)
def SEQ_STATUS.OVF_HOLD : Fld := (12, 1)

/-- SEQ_PM_SECMAP0 (Table 7-17). -/
def SEQ_PM_SECMAP0 (n : Nat) : Nat := 0x100010 + n * 0x10000
def SEQ_PM_SECMAP0.PAGES : Fld := (0, 64)

/-- SEQ_PM_SECMAP1 (Table 7-17). -/
def SEQ_PM_SECMAP1 (n : Nat) : Nat := 0x100018 + n * 0x10000
def SEQ_PM_SECMAP1.PAGES : Fld := (0, 64)

/-- SEQ_PERF_LOAF (R257). -/
def SEQ_PERF_LOAF (n : Nat) : Nat := 0x100020 + n * 0x10000
def SEQ_PERF_LOAF.COUNT : Fld := (0, 64)

/-- SEQ_PERF_HOLD (R257). -/
def SEQ_PERF_HOLD (n : Nat) : Nat := 0x100028 + n * 0x10000
def SEQ_PERF_HOLD.COUNT : Fld := (0, 64)

/-- SEQ_RECIPE (Table 3-18). -/
def SEQ_RECIPE (n k : Nat) : Nat := 0x100400 + n * 0x10000 + k * 0x20
def SEQ_RECIPE.VALID : Fld := (0, 1)
def SEQ_RECIPE.NSTEP : Fld := (1, 2)
def SEQ_RECIPE.ATYPES : Fld := (8, 16)
def SEQ_RECIPE.STEP0 : Fld := (32, 48)
def SEQ_RECIPE.STEP1 : Fld := (80, 48)
def SEQ_RECIPE.STEP2 : Fld := (128, 48)
def SEQ_RECIPE.STEP3 : Fld := (176, 48)

/-- SEQ_VFR_STATUS (Table 2-8). -/
def SEQ_VFR_STATUS (n : Nat) : Nat := 0x100800 + n * 0x10000
def SEQ_VFR_STATUS.VALID : Fld := (0, 1)
def SEQ_VFR_STATUS.PENDING : Fld := (1, 1)
def SEQ_VFR_STATUS.VCAUSE : Fld := (2, 5)
def SEQ_VFR_STATUS.OPND : Fld := (7, 3)
def SEQ_VFR_STATUS.FROM_INDEX : Fld := (10, 1)
def SEQ_VFR_STATUS.FROM_MASK : Fld := (11, 1)
def SEQ_VFR_STATUS.FENT : Fld := (12, 3)
def SEQ_VFR_STATUS.COUNT : Fld := (15, 4)
def SEQ_VFR_STATUS.SEG : Fld := (19, 6)
def SEQ_VFR_STATUS.WORLD : Fld := (25, 1)
def SEQ_VFR_STATUS.SUP : Fld := (26, 1)

/-- SEQ_VFR_ELEM (R50). -/
def SEQ_VFR_ELEM (n : Nat) : Nat := 0x100804 + n * 0x10000
def SEQ_VFR_ELEM.K : Fld := (0, 32)

/-- SEQ_VFR_OFFSET (R50). -/
def SEQ_VFR_OFFSET (n : Nat) : Nat := 0x100808 + n * 0x10000
def SEQ_VFR_OFFSET.OFF : Fld := (0, 64)

/-- SEQ_VFR_INDEX (R50). -/
def SEQ_VFR_INDEX (n : Nat) : Nat := 0x100810 + n * 0x10000
def SEQ_VFR_INDEX.X : Fld := (0, 64)

/-- SEQ_VSTAT (Table 2-11). -/
def SEQ_VSTAT (n : Nat) : Nat := 0x100818 + n * 0x10000
def SEQ_VSTAT.G_POISON : Fld := (0, 1)
def SEQ_VSTAT.G_POISON_MERGE : Fld := (1, 1)
def SEQ_VSTAT.S_POISON : Fld := (2, 1)
def SEQ_VSTAT.S_POISON_MERGE : Fld := (3, 1)

/-- SEQ_VFLAGS (Table 3-15a). -/
def SEQ_VFLAGS (n : Nat) : Nat := 0x10081c + n * 0x10000
def SEQ_VFLAGS.G : Fld := (0, 8)
def SEQ_VFLAGS.S : Fld := (16, 8)

/-- SEQ_RECIPE_LOCK (Table 3-20). -/
def SEQ_RECIPE_LOCK (n : Nat) : Nat := 0x100820 + n * 0x10000
def SEQ_RECIPE_LOCK.LOCK : Fld := (0, 1)
def SEQ_RECIPE_LOCK.WVIOL : Fld := (1, 1)

/-- SEQ_VFR_ENT (Table 2-10). -/
def SEQ_VFR_ENT (n k : Nat) : Nat := 0x100900 + n * 0x10000 + k * 0x10
def SEQ_VFR_ENT.INSN : Fld := (0, 64)
def SEQ_VFR_ENT.RESUME : Fld := (64, 32)
def SEQ_VFR_ENT.FAULTED : Fld := (96, 1)
def SEQ_VFR_ENT.CHAINED : Fld := (97, 1)
def SEQ_VFR_ENT.SLOTS : Fld := (98, 8)

/-- SEQ_VFR_DSNAP (R52). -/
def SEQ_VFR_DSNAP (n k : Nat) : Nat := 0x100c00 + n * 0x10000 + k * 0x20
def SEQ_VFR_DSNAP.DESC : Fld := (0, 256)

/-- PIPE_STATUS (Table 4-11). -/
def PIPE_STATUS (n : Nat) : Nat := 0x200000 + n * 0x10000
def PIPE_STATUS.STATE : Fld := (0, 2)
def PIPE_STATUS.OVEN : Fld := (2, 3)
def PIPE_STATUS.SIDE : Fld := (5, 1)
def PIPE_STATUS.PAIRED : Fld := (6, 1)
def PIPE_STATUS.GROUP : Fld := (7, 3)
def PIPE_STATUS.CBUF : Fld := (10, 8)
def PIPE_STATUS.OVF_COMMIT : Fld := (18, 1)
def PIPE_STATUS.OVF_RA : Fld := (19, 1)
def PIPE_STATUS.OVF_STALL : Fld := (20, 1)

/-- PIPE_CTL (Table 4-12). -/
def PIPE_CTL (n : Nat) : Nat := 0x200004 + n * 0x10000
def PIPE_CTL.REPLAY_LIMIT : Fld := (0, 2)
def PIPE_CTL.CHAIN_DIS : Fld := (2, 1)
def PIPE_CTL.OVF_IE : Fld := (3, 1)
def PIPE_CTL.LOCK : Fld := (31, 1)

/-- PIPE_REPLAY (Table 4-13). -/
def PIPE_REPLAY (n : Nat) : Nat := 0x200008 + n * 0x10000
def PIPE_REPLAY.COUNT : Fld := (0, 24)
def PIPE_REPLAY.SAT : Fld := (24, 1)

/-- PIPE_PERF_COMMIT (R144). -/
def PIPE_PERF_COMMIT (n : Nat) : Nat := 0x200010 + n * 0x10000
def PIPE_PERF_COMMIT.COUNT : Fld := (0, 64)

/-- PIPE_PERF_RA (R144). -/
def PIPE_PERF_RA (n : Nat) : Nat := 0x200018 + n * 0x10000
def PIPE_PERF_RA.COUNT : Fld := (0, 64)

/-- PIPE_PERF_STALL (R144). -/
def PIPE_PERF_STALL (n : Nat) : Nat := 0x200020 + n * 0x10000
def PIPE_PERF_STALL.COUNT : Fld := (0, 64)

/-- VM_STATUS (Table 5-9). -/
def VM_STATUS : Nat := 0x500000
def VM_STATUS.READY : Fld := (0, 1)
def VM_STATUS.TADPOLE_MAP : Fld := (1, 1)
def VM_STATUS.MIG_ACTIVE : Fld := (2, 1)
def VM_STATUS.MIG_REGION : Fld := (3, 7)
def VM_STATUS.REGROW_ACTIVE : Fld := (10, 4)
def VM_STATUS.SPARES_FREE : Fld := (14, 10)
def VM_STATUS.TSENSE_FAIL : Fld := (24, 1)
def VM_STATUS.OVF_CONFLICT : Fld := (26, 1)
def VM_STATUS.OVF_ACCESS : Fld := (27, 1)
def VM_STATUS.OVF_NBR : Fld := (28, 1)

/-- VM_PLACE_CTL (Table 5-10). -/
def VM_PLACE_CTL : Nat := 0x500004
def VM_PLACE_CTL.EN : Fld := (0, 1)
def VM_PLACE_CTL.WINDOW : Fld := (1, 4)
def VM_PLACE_CTL.THRESH : Fld := (5, 8)
def VM_PLACE_CTL.PERSIST : Fld := (13, 3)
def VM_PLACE_CTL.MIG_RATE : Fld := (16, 2)
def VM_PLACE_CTL.LOCK : Fld := (31, 1)

/-- VM_SCRUB_CTL (Table 5-11). -/
def VM_SCRUB_CTL : Nat := 0x500008
def VM_SCRUB_CTL.PERIOD : Fld := (0, 8)
def VM_SCRUB_CTL.MIN_PERIOD : Fld := (8, 8)
def VM_SCRUB_CTL.SCRUB_THRESH : Fld := (16, 8)
def VM_SCRUB_CTL.LOCK : Fld := (31, 1)

/-- VM_REPAIR_CTL (Table 5-12). -/
def VM_REPAIR_CTL : Nat := 0x50000c
def VM_REPAIR_CTL.ROW_CE : Fld := (0, 4)
def VM_REPAIR_CTL.BANK_ROWS : Fld := (4, 4)
def VM_REPAIR_CTL.AUTO_REGROW : Fld := (8, 1)
def VM_REPAIR_CTL.AUTO_ROW : Fld := (9, 1)
def VM_REPAIR_CTL.LOCK : Fld := (31, 1)

/-- VM_REGROW (Table 5-13). -/
def VM_REGROW (n : Nat) : Nat := 0x500020 + n * 8
def VM_REGROW.BANK : Fld := (0, 13)
def VM_REGROW.SPARE : Fld := (13, 7)
def VM_REGROW.BORROWED : Fld := (20, 1)
def VM_REGROW.COPY_PTR : Fld := (21, 15)
def VM_REGROW.ACTIVE : Fld := (36, 1)

/-- VM_PERF_CONFLICT (R185). -/
def VM_PERF_CONFLICT : Nat := 0x500080
def VM_PERF_CONFLICT.COUNT : Fld := (0, 64)

/-- VM_PERF_ACCESS (R185). -/
def VM_PERF_ACCESS : Nat := 0x500088
def VM_PERF_ACCESS.COUNT : Fld := (0, 64)

/-- VM_PERF_NBR (R185). -/
def VM_PERF_NBR : Nat := 0x500090
def VM_PERF_NBR.COUNT : Fld := (0, 64)

/-- VM_REGION (Table 5-14). -/
def VM_REGION (n : Nat) : Nat := 0x501000 + n * 0x10
def VM_REGION.KEY : Fld := (0, 4)
def VM_REGION.KEY_NEW : Fld := (4, 4)
def VM_REGION.ALLOW : Fld := (8, 16)
def VM_REGION.PIN : Fld := (24, 1)
def VM_REGION.MSTATE : Fld := (25, 2)
def VM_REGION.BOUNDARY : Fld := (27, 9)
def VM_REGION.REQ_KEY : Fld := (36, 4)
def VM_REGION.REQ : Fld := (40, 1)
def VM_REGION.REJ : Fld := (41, 1)
def VM_REGION.BOUND_HIT : Fld := (42, 1)

/-- VM_REGSTAT (Table 5-15). -/
def VM_REGSTAT (n : Nat) : Nat := 0x501008 + n * 0x10
def VM_REGSTAT.RATIO : Fld := (0, 8)
def VM_REGSTAT.RUN : Fld := (8, 3)
def VM_REGSTAT.HOLD : Fld := (11, 5)

/-- VM_SPARE (Table 5-16). -/
def VM_SPARE (n : Nat) : Nat := 0x502000 + n * 4
def VM_SPARE.USED : Fld := (0, 1)
def VM_SPARE.BORROWED : Fld := (1, 1)
def VM_SPARE.BANK : Fld := (2, 13)
def VM_SPARE.LOST : Fld := (15, 1)

/-- LS_STATUS (Table 10-7). -/
def LS_STATUS (n : Nat) : Nat := 0x600000 + n * 0x10000
def LS_STATUS.READY : Fld := (0, 1)
def LS_STATUS.CLEARING : Fld := (1, 1)
def LS_STATUS.SEC_WIPING : Fld := (2, 1)
def LS_STATUS.MARCH_BUSY : Fld := (3, 1)
def LS_STATUS.RET_LOST : Fld := (4, 1)

/-- LS_SEC (Table 10-8). -/
def LS_SEC (n : Nat) : Nat := 0x600004 + n * 0x10000
def LS_SEC.SIZE : Fld := (0, 5)
def LS_SEC.WIPE : Fld := (5, 1)
def LS_SEC.LOCK : Fld := (31, 1)

/-- LS_WCOL (Table 10-9). -/
def LS_WCOL (n : Nat) : Nat := 0x600008 + n * 0x10000
def LS_WCOL.WORD : Fld := (0, 19)
def LS_WCOL.LOSER : Fld := (19, 4)
def LS_WCOL.VALID : Fld := (23, 1)
def LS_WCOL.COUNT : Fld := (24, 8)
def LS_WCOL.SAT : Fld := (32, 1)

/-- LS_MARCH_CTL (Table 10-10). -/
def LS_MARCH_CTL (n : Nat) : Nat := 0x600010 + n * 0x10000
def LS_MARCH_CTL.ALG : Fld := (0, 2)
def LS_MARCH_CTL.BG : Fld := (2, 2)
def LS_MARCH_CTL.PRESERVE : Fld := (4, 1)
def LS_MARCH_CTL.BANKS : Fld := (5, 16)
def LS_MARCH_CTL.START : Fld := (21, 1)
def LS_MARCH_CTL.ABORT : Fld := (22, 1)

/-- LS_MARCH_STATUS (Table 10-11). -/
def LS_MARCH_STATUS (n : Nat) : Nat := 0x600018 + n * 0x10000
def LS_MARCH_STATUS.BUSY : Fld := (0, 1)
def LS_MARCH_STATUS.DONE : Fld := (1, 1)
def LS_MARCH_STATUS.FAIL : Fld := (2, 1)
def LS_MARCH_STATUS.ABORTED : Fld := (3, 1)
def LS_MARCH_STATUS.REJ : Fld := (4, 1)
def LS_MARCH_STATUS.FAIL_BANKS : Fld := (5, 16)
def LS_MARCH_STATUS.FIRST_LINE : Fld := (21, 16)
def LS_MARCH_STATUS.FAIL_COUNT : Fld := (37, 16)

/-- FAB_CTL (Table 10-17). -/
def FAB_CTL : Nat := 0x700000
def FAB_CTL.TIMEOUT : Fld := (0, 12)
def FAB_CTL.PARK_DIS : Fld := (12, 1)
def FAB_CTL.LOCK : Fld := (31, 1)

/-- FAB_ERR (Table 10-18). -/
def FAB_ERR : Nat := 0x700008
def FAB_ERR.ADDR : Fld := (0, 32)
def FAB_ERR.MASTER : Fld := (32, 4)
def FAB_ERR.CODE : Fld := (36, 3)
def FAB_ERR.KIND : Fld := (39, 2)
def FAB_ERR.UNIT : Fld := (41, 4)
def FAB_ERR.WRITE : Fld := (45, 1)
def FAB_ERR.VALID : Fld := (46, 1)
def FAB_ERR.MULTI : Fld := (47, 1)

/-- QE_STATUS (Table 9-16). -/
def QE_STATUS : Nat := 0x800000
def QE_STATUS.READY : Fld := (0, 1)
def QE_STATUS.HOLD : Fld := (1, 1)
def QE_STATUS.QCMD_BUSY : Fld := (2, 1)
def QE_STATUS.QCMD_REJ : Fld := (3, 1)
def QE_STATUS.AWAKE : Fld := (4, 8)
def QE_STATUS.OVF_DISP : Fld := (16, 1)
def QE_STATUS.OVF_CPL : Fld := (17, 1)

/-- QE_CTL (Table 9-17). -/
def QE_CTL : Nat := 0x800004
def QE_CTL.EN : Fld := (0, 1)
def QE_CTL.REDISP_MAX : Fld := (1, 3)
def QE_CTL.DOZE_IDLE : Fld := (4, 12)
def QE_CTL.FF_EN : Fld := (16, 1)
def QE_CTL.FF_PERIOD : Fld := (17, 7)
def QE_CTL.LOCK : Fld := (31, 1)

/-- QE_QCMD (R322). -/
def QE_QCMD : Nat := 0x800008
def QE_QCMD.QUEUE : Fld := (0, 16)
def QE_QCMD.CMD : Fld := (16, 3)

/-- QE_PERF_DISP (R323). -/
def QE_PERF_DISP : Nat := 0x800010
def QE_PERF_DISP.COUNT : Fld := (0, 64)

/-- QE_PERF_CPL (R323). -/
def QE_PERF_CPL : Nat := 0x800018
def QE_PERF_CPL.COUNT : Fld := (0, 64)

/-- QE_CLASS (Table 9-6). -/
def QE_CLASS (n : Nat) : Nat := 0x800100 + n * 4
def QE_CLASS.OVENS : Fld := (0, 8)
def QE_CLASS.PRIO : Fld := (8, 2)
def QE_CLASS.WEIGHT : Fld := (10, 8)

/-- QE_DISP_G (R307). -/
def QE_DISP_G (n : Nat) : Nat := 0x800200 + n * 0x40
def QE_DISP_G.VALUE : Fld := (0, 64)

/-- QE_DISP_S (R307). -/
def QE_DISP_S (n : Nat) : Nat := 0x800208 + n * 0x40
def QE_DISP_S.VALUE : Fld := (0, 64)

/-- QE_CPL_RES_G (R308). -/
def QE_CPL_RES_G (n : Nat) : Nat := 0x800210 + n * 0x40
def QE_CPL_RES_G.RESULT : Fld := (0, 64)

/-- QE_CPL_RES_S (R308). -/
def QE_CPL_RES_S (n : Nat) : Nat := 0x800218 + n * 0x40
def QE_CPL_RES_S.RESULT : Fld := (0, 64)

/-- QE_CPL_POST_G (R308). -/
def QE_CPL_POST_G (n : Nat) : Nat := 0x800220 + n * 0x40
def QE_CPL_POST_G.POST : Fld := (0, 32)

/-- QE_CPL_POST_S (R308). -/
def QE_CPL_POST_S (n : Nat) : Nat := 0x800224 + n * 0x40
def QE_CPL_POST_S.POST : Fld := (0, 32)

/-- QE_OVEN (Table 9-18). -/
def QE_OVEN (n : Nat) : Nat := 0x800228 + n * 0x40
def QE_OVEN.INFLIGHT : Fld := (0, 4)
def QE_OVEN.DEPTH : Fld := (4, 4)
def QE_OVEN.IE_G : Fld := (8, 1)
def QE_OVEN.IE_S : Fld := (9, 1)
def QE_OVEN.RDY : Fld := (10, 1)
def QE_OVEN.DOZE : Fld := (11, 1)
def QE_OVEN.ABANDON : Fld := (12, 8)

/-- QE_POOL_BASE (Table 9-9). -/
def QE_POOL_BASE (n : Nat) : Nat := 0x801000 + n * 0x20
def QE_POOL_BASE.LOW7 : Fld := (0, 7)
def QE_POOL_BASE.BASE : Fld := (7, 41)

/-- QE_POOL_RING (Table 9-9). -/
def QE_POOL_RING (n : Nat) : Nat := 0x801008 + n * 0x20
def QE_POOL_RING.LOW7 : Fld := (0, 7)
def QE_POOL_RING.RING : Fld := (7, 41)

/-- QE_POOL_CFG (Table 9-9). -/
def QE_POOL_CFG (n : Nat) : Nat := 0x801010 + n * 0x20
def QE_POOL_CFG.EN : Fld := (0, 1)
def QE_POOL_CFG.BSIZE : Fld := (1, 4)
def QE_POOL_CFG.WORLD : Fld := (5, 1)
def QE_POOL_CFG.TOTAL : Fld := (7, 24)

/-- QE_POOL_STAT (Table 9-9). -/
def QE_POOL_STAT (n : Nat) : Nat := 0x801014 + n * 0x20
def QE_POOL_STAT.FREE : Fld := (0, 24)
def QE_POOL_STAT.EXH : Fld := (24, 1)
def QE_POOL_STAT.INIT : Fld := (25, 1)

/-- QE_POOL_LOW (Table 9-9). -/
def QE_POOL_LOW (n : Nat) : Nat := 0x801018 + n * 0x20
def QE_POOL_LOW.LOW : Fld := (0, 24)

/-- QE_ALLOC (R312). -/
def QE_ALLOC (n : Nat) : Nat := 0x804000 + n * 8
def QE_ALLOC.VALUE : Fld := (0, 64)

/-- QE_FREE (R314). -/
def QE_FREE (n : Nat) : Nat := 0x806000 + n * 8
def QE_FREE.VALUE : Fld := (0, 64)

/-- QE_DB (R296). -/
def QE_DB (n : Nat) : Nat := 0x880000 + n * 8
def QE_DB.VALUE : Fld := (0, 64)

/-- QCTX (Table 9-1). -/
def QCTX (n : Nat) : Nat := 0x1000000 + n * 0x40
def QCTX.SQ_BASE : Fld := (0, 64)
def QCTX.CQ_BASE : Fld := (64, 64)
def QCTX.SQ_HEAD : Fld := (128, 16)
def QCTX.SQ_TAIL : Fld := (144, 16)
def QCTX.CQ_TAIL : Fld := (160, 16)
def QCTX.CQ_HEAD : Fld := (176, 16)
def QCTX.SQ_LOG : Fld := (192, 4)
def QCTX.CQ_LOG : Fld := (196, 4)
def QCTX.CQ_PHASE : Fld := (200, 1)
def QCTX.STATE : Fld := (201, 3)
def QCTX.CLASS : Fld := (204, 4)
def QCTX.WORLD : Fld := (208, 1)
def QCTX.LOC : Fld := (209, 2)
def QCTX.FAILOVER : Fld := (211, 1)
def QCTX.FUNC : Fld := (212, 9)
def QCTX.MSIX : Fld := (221, 11)
def QCTX.MSIX_EN : Fld := (232, 1)
def QCTX.RSV : Fld := (240, 16)
def QCTX.INFLIGHT : Fld := (256, 8)
def QCTX.MAX_INFLIGHT : Fld := (264, 8)
def QCTX.SEQNO : Fld := (272, 32)
def QCTX.REDISP : Fld := (304, 16)
def QCTX.REDISP_SAT : Fld := (320, 1)
def QCTX.LASTERR : Fld := (321, 8)

/-- BM_STATUS (Table 11-9). -/
def BM_STATUS : Nat := 0x900000
def BM_STATUS.READY : Fld := (0, 1)
def BM_STATUS.HALTED : Fld := (1, 1)
def BM_STATUS.HOLD : Fld := (2, 1)
def BM_STATUS.FENCED : Fld := (3, 1)
def BM_STATUS.OVF_BYTES : Fld := (4, 1)

/-- BM_CTL (Table 11-10). -/
def BM_CTL : Nat := 0x900004
def BM_CTL.RELEASE : Fld := (0, 1)
def BM_CTL.HALT_MAX : Fld := (1, 10)
def BM_CTL.LOCK : Fld := (31, 1)

/-- BM_ERR (Table 11-11). -/
def BM_ERR : Nat := 0x900008
def BM_ERR.CHAN : Fld := (0, 5)
def BM_ERR.CODE : Fld := (5, 3)
def BM_ERR.SIDE : Fld := (8, 2)
def BM_ERR.VALID : Fld := (10, 1)
def BM_ERR.MULTI : Fld := (11, 1)

/-- BM_ERR_ADDR (R378). -/
def BM_ERR_ADDR : Nat := 0x900010
def BM_ERR_ADDR.ADDR : Fld := (0, 64)

/-- BM_PERF_BYTES (R378). -/
def BM_PERF_BYTES : Nat := 0x900018
def BM_PERF_BYTES.COUNT : Fld := (0, 64)

/-- BM_CFG (Table 11-12). -/
def BM_CFG (n : Nat) : Nat := 0x901000 + n * 0x40
def BM_CFG.WORLD : Fld := (0, 1)
def BM_CFG.HPORT : Fld := (1, 1)
def BM_CFG.FUNC : Fld := (2, 9)
def BM_CFG.MSIX_VEC : Fld := (11, 11)
def BM_CFG.MSIX_EN : Fld := (22, 1)

/-- BM_CMD (Table 11-13). -/
def BM_CMD (n : Nat) : Nat := 0x901004 + n * 0x40
def BM_CMD.START : Fld := (0, 1)
def BM_CMD.PAUSE : Fld := (1, 1)
def BM_CMD.RESUME : Fld := (2, 1)
def BM_CMD.ABORT : Fld := (3, 1)

/-- BM_CHST (Table 11-14). -/
def BM_CHST (n : Nat) : Nat := 0x901008 + n * 0x40
def BM_CHST.STATE : Fld := (0, 3)
def BM_CHST.LAST : Fld := (3, 3)
def BM_CHST.PAUSE_PEND : Fld := (6, 1)
def BM_CHST.ERRED : Fld := (7, 1)
def BM_CHST.REJ : Fld := (8, 1)
def BM_CHST.POISON : Fld := (9, 1)

/-- BM_CHK (Table 11-15). -/
def BM_CHK (n : Nat) : Nat := 0x90100c + n * 0x40
def BM_CHK.CRC : Fld := (0, 32)

/-- BM_DESC (Table 11-15). -/
def BM_DESC (n : Nat) : Nat := 0x901010 + n * 0x40
def BM_DESC.DESC : Fld := (0, 64)

/-- BM_POS (Table 11-15). -/
def BM_POS (n : Nat) : Nat := 0x901018 + n * 0x40
def BM_POS.I0 : Fld := (0, 32)
def BM_POS.I1 : Fld := (32, 16)
def BM_POS.I2 : Fld := (48, 16)

/-- CH_STATUS (Table 12-13). -/
def CH_STATUS (n : Nat) : Nat := 0xa00000 + n * 0x10000
def CH_STATUS.LSTATE : Fld := (0, 3)
def CH_STATUS.SPARE_USED : Fld := (3, 1)
def CH_STATUS.SPARE_OF : Fld := (4, 4)
def CH_STATUS.HALF_HI : Fld := (8, 1)
def CH_STATUS.PEER_ID : Fld := (9, 12)
def CH_STATUS.PEER_VALID : Fld := (21, 1)
def CH_STATUS.OVF_TX : Fld := (22, 1)
def CH_STATUS.OVF_RX : Fld := (23, 1)
def CH_STATUS.WIRING : Fld := (24, 1)

/-- CH_CTL (Table 12-14). -/
def CH_CTL (n : Nat) : Nat := 0xa00004 + n * 0x10000
def CH_CTL.EN : Fld := (0, 1)
def CH_CTL.ROLE : Fld := (1, 2)
def CH_CTL.DATELINE : Fld := (3, 1)
def CH_CTL.RETRAIN : Fld := (4, 1)
def CH_CTL.LOCK : Fld := (31, 1)

/-- CH_LANE (Table 12-15). -/
def CH_LANE (n : Nat) : Nat := 0xa00008 + n * 0x10000
def CH_LANE.FORCE_LANE : Fld := (0, 4)
def CH_LANE.FORCE : Fld := (4, 1)
def CH_LANE.SPARE_EXP : Fld := (8, 4)
def CH_LANE.LANE_FAIL : Fld := (12, 9)

/-- CH_ERRS (Table 12-16). -/
def CH_ERRS (n : Nat) : Nat := 0xa00010 + n * 0x10000
def CH_ERRS.FEC_CE : Fld := (0, 31)
def CH_ERRS.CE_SAT : Fld := (31, 1)
def CH_ERRS.FEC_UE : Fld := (32, 15)
def CH_ERRS.UE_SAT : Fld := (47, 1)
def CH_ERRS.REPLAY : Fld := (48, 15)
def CH_ERRS.RP_SAT : Fld := (63, 1)

/-- CH_PERF_TX (R419). -/
def CH_PERF_TX (n : Nat) : Nat := 0xa00018 + n * 0x10000
def CH_PERF_TX.COUNT : Fld := (0, 64)

/-- CH_PERF_RX (R419). -/
def CH_PERF_RX (n : Nat) : Nat := 0xa00020 + n * 0x10000
def CH_PERF_RX.COUNT : Fld := (0, 64)

/-- CH_ID (Table 12-17). -/
def CH_ID : Nat := 0xa01000
def CH_ID.ID : Fld := (0, 12)
def CH_ID.VALID : Fld := (12, 1)
def CH_ID.LOCK : Fld := (31, 1)

/-- CH_CFG (Table 12-18). -/
def CH_CFG : Nat := 0xa01004
def CH_CFG.TTL : Fld := (0, 4)
def CH_CFG.RSP_TIMEOUT : Fld := (4, 8)
def CH_CFG.RETRAIN_MAX : Fld := (12, 6)
def CH_CFG.TRANSIT_MAX : Fld := (18, 7)
def CH_CFG.DB_EN : Fld := (25, 1)
def CH_CFG.LOCK : Fld := (31, 1)

/-- CH_RING (Table 12-19). -/
def CH_RING : Nat := 0xa01008
def CH_RING.POS : Fld := (0, 4)
def CH_RING.SIZE : Fld := (4, 4)
def CH_RING.EN : Fld := (8, 1)
def CH_RING.FAIL_A : Fld := (9, 4)
def CH_RING.FAIL_A_V : Fld := (13, 1)
def CH_RING.FAIL_B : Fld := (14, 4)
def CH_RING.FAIL_B_V : Fld := (18, 1)
def CH_RING.TRANSIT : Fld := (19, 1)
def CH_RING.RESTORE : Fld := (20, 1)
def CH_RING.LOCK : Fld := (31, 1)

/-- CH_TIMING (Table 12-20). -/
def CH_TIMING : Nat := 0xa0100c
def CH_TIMING.UPPORT : Fld := (0, 3)
def CH_TIMING.SOURCE : Fld := (3, 1)
def CH_TIMING.EN : Fld := (4, 1)
def CH_TIMING.PERIOD : Fld := (5, 4)
def CH_TIMING.FREQ_C : Fld := (9, 1)
def CH_TIMING.VALID : Fld := (10, 1)
def CH_TIMING.LOCK : Fld := (31, 1)

/-- CH_TOFFSET (R416). -/
def CH_TOFFSET : Nat := 0xa01010
def CH_TOFFSET.NS : Fld := (0, 64)

/-- CH_TDELAY (R416). -/
def CH_TDELAY : Nat := 0xa01018
def CH_TDELAY.NS : Fld := (0, 24)

/-- CH_DBSEND (R402). -/
def CH_DBSEND : Nat := 0xa01020
def CH_DBSEND.VALUE : Fld := (0, 64)

/-- CH_WIN (Table 12-21). -/
def CH_WIN (n : Nat) : Nat := 0xa01100 + n * 0x10
def CH_WIN.BASE : Fld := (0, 48)
def CH_WIN.SRC_LO : Fld := (48, 12)
def CH_WIN.STORE : Fld := (60, 4)
def CH_WIN.LIMIT : Fld := (64, 48)
def CH_WIN.SRC_HI : Fld := (112, 12)
def CH_WIN.VALID : Fld := (124, 1)
def CH_WIN.RD : Fld := (125, 1)
def CH_WIN.WR : Fld := (126, 1)
def CH_WIN.ATOM : Fld := (127, 1)

/-- CH_ROUTE (Table 12-22). -/
def CH_ROUTE (n : Nat) : Nat := 0xa08000 + n * 4
def CH_ROUTE.PORT : Fld := (0, 3)
def CH_ROUTE.VALID : Fld := (3, 1)
def CH_ROUTE.RING : Fld := (4, 1)
def CH_ROUTE.DIR : Fld := (5, 1)
def CH_ROUTE.POS : Fld := (6, 4)

/-- HP_STATUS (Table 13-9). -/
def HP_STATUS (n k : Nat) : Nat := 0xb00000 + n * 0x10000 + k * 0x4000
def HP_STATUS.LSTATE : Fld := (0, 3)
def HP_STATUS.WIDTH : Fld := (3, 2)
def HP_STATUS.RATE : Fld := (5, 3)
def HP_STATUS.FLIT : Fld := (8, 1)
def HP_STATUS.NUMVF : Fld := (9, 9)
def HP_STATUS.VFE : Fld := (18, 1)
def HP_STATUS.BME : Fld := (19, 1)
def HP_STATUS.MOVED : Fld := (20, 1)
def HP_STATUS.OVF_DROP : Fld := (21, 1)

/-- HP_CTL (Table 13-10). -/
def HP_CTL (n k : Nat) : Nat := 0xb00008 + n * 0x10000 + k * 0x4000
def HP_CTL.EN : Fld := (0, 1)
def HP_CTL.BIFUR : Fld := (1, 1)
def HP_CTL.FAILOVER_EN : Fld := (2, 1)
def HP_CTL.FAILVEC : Fld := (3, 11)
def HP_CTL.MB_VEC : Fld := (14, 11)
def HP_CTL.VF_WIN_LOG : Fld := (25, 3)
def HP_CTL.PF_WINREG : Fld := (28, 7)
def HP_CTL.VFSPLIT : Fld := (35, 9)
def HP_CTL.LOCK : Fld := (63, 1)

/-- HP_QRANGE (Table 13-11). -/
def HP_QRANGE (n k : Nat) : Nat := 0xb00010 + n * 0x10000 + k * 0x4000
def HP_QRANGE.FIRST : Fld := (0, 16)
def HP_QRANGE.LAST : Fld := (16, 16)

/-- HP_MBCTL (Table 13-12). -/
def HP_MBCTL (n k : Nat) : Nat := 0xb00014 + n * 0x10000 + k * 0x4000
def HP_MBCTL.PEND : Fld := (0, 1)
def HP_MBCTL.IE : Fld := (1, 1)
def HP_MBCTL.ANSWER : Fld := (2, 1)
def HP_MBCTL.RLEN : Fld := (3, 9)
def HP_MBCTL.WORLD : Fld := (12, 1)
def HP_MBCTL.OVEN : Fld := (13, 3)

/-- HP_PM_ADDR (R439). -/
def HP_PM_ADDR (n k : Nat) : Nat := 0xb00018 + n * 0x10000 + k * 0x4000
def HP_PM_ADDR.ADDR : Fld := (0, 48)
def HP_PM_ADDR.VALID : Fld := (63, 1)

/-- HP_DROP (R439). -/
def HP_DROP (n k : Nat) : Nat := 0xb00020 + n * 0x10000 + k * 0x4000
def HP_DROP.COUNT : Fld := (0, 64)

/-- HP_MB_REQ (Table 13-8). -/
def HP_MB_REQ (n k : Nat) : Nat := 0xb00100 + n * 0x10000 + k * 0x4000
def HP_MB_REQ.DATA : Fld := (0, 2048)

/-- HP_MB_RSP (Table 13-8). -/
def HP_MB_RSP (n k : Nat) : Nat := 0xb00200 + n * 0x10000 + k * 0x4000
def HP_MB_RSP.DATA : Fld := (0, 2048)

/-- HP_VFCFG (Table 13-13). -/
def HP_VFCFG (h e k : Nat) : Nat := 0xb01000 + h * 0x10000 + e * 0x4000 + k * 0x10
def HP_VFCFG.QBASE : Fld := (0, 16)
def HP_VFCFG.QCOUNT : Fld := (16, 9)
def HP_VFCFG.POOL_LO : Fld := (32, 8)
def HP_VFCFG.POOL_HI : Fld := (40, 8)
def HP_VFCFG.POOL_EN : Fld := (48, 1)
def HP_VFCFG.WINREG : Fld := (64, 7)

/-- FJ_STATUS (Table 14-16). -/
def FJ_STATUS : Nat := 0xc00000
def FJ_STATUS.READY : Fld := (0, 1)
def FJ_STATUS.REACT : Fld := (1, 3)
def FJ_STATUS.RQUEUE : Fld := (4, 6)
def FJ_STATUS.REGROWS : Fld := (10, 4)
def FJ_STATUS.JNL : Fld := (14, 2)
def FJ_STATUS.ALERT : Fld := (16, 1)
def FJ_STATUS.FORCED : Fld := (17, 1)

/-- FJ_CTL (Table 14-17). -/
def FJ_CTL : Nat := 0xc00004
def FJ_CTL.FIRST_MIN : Fld := (0, 3)
def FJ_CTL.JNL_INFO : Fld := (3, 1)
def FJ_CTL.FORCE_EN : Fld := (4, 1)
def FJ_CTL.FORCE_ACT : Fld := (5, 1)
def FJ_CTL.RETEST : Fld := (6, 1)
def FJ_CTL.AUTO_ACT : Fld := (7, 1)
def FJ_CTL.LOCK : Fld := (31, 1)

/-- FJ_PIN_CTL (Table 14-18). -/
def FJ_PIN_CTL : Nat := 0xc00008
def FJ_PIN_CTL.MODE : Fld := (0, 2)
def FJ_PIN_CTL.PULSE : Fld := (2, 8)
def FJ_PIN_CTL.ACK : Fld := (10, 1)
def FJ_PIN_CTL.LOW : Fld := (11, 1)
def FJ_PIN_CTL.LOCK : Fld := (31, 1)

/-- FJ_REQ (Table 14-19). -/
def FJ_REQ : Nat := 0xc0000c
def FJ_REQ.UNIT : Fld := (0, 20)
def FJ_REQ.CMD : Fld := (20, 3)
def FJ_REQ.BUSY : Fld := (23, 1)
def FJ_REQ.REJ : Fld := (24, 1)

/-- FJ_FIRST (Table 14-20). -/
def FJ_FIRST : Nat := 0xc00010
def FJ_FIRST.SOURCE : Fld := (0, 9)
def FJ_FIRST.SEV : Fld := (9, 3)
def FJ_FIRST.VALID : Fld := (12, 1)
def FJ_FIRST.LATCHED : Fld := (13, 1)
def FJ_FIRST.PRESENT : Fld := (14, 1)
def FJ_FIRST.FORCED : Fld := (15, 1)
def FJ_FIRST.COUNT : Fld := (16, 16)
def FJ_FIRST.UNIT : Fld := (32, 20)
def FJ_FIRST.JSEQ : Fld := (64, 64)

/-- FJ_ALSO (R451). -/
def FJ_ALSO (n : Nat) : Nat := 0xc00020 + n * 4
def FJ_ALSO.BITS : Fld := (0, 32)

/-- FJ_NOTICE (R455). -/
def FJ_NOTICE : Nat := 0xc00060
def FJ_NOTICE.G : Fld := (0, 9)
def FJ_NOTICE.S : Fld := (16, 9)

/-- FJ_UST_SEL (R467). -/
def FJ_UST_SEL : Nat := 0xc00064
def FJ_UST_SEL.UNIT : Fld := (0, 20)

/-- FJ_UST_ENT (Table 14-11). -/
def FJ_UST_ENT : Nat := 0xc00068
def FJ_UST_ENT.ENTRY : Fld := (0, 32)

/-- FJ_JNL_STATUS (Table 14-23). -/
def FJ_JNL_STATUS : Nat := 0xc00070
def FJ_JNL_STATUS.STATE : Fld := (0, 2)
def FJ_JNL_STATUS.BAD_A : Fld := (2, 13)
def FJ_JNL_STATUS.BAD_B : Fld := (15, 13)
def FJ_JNL_STATUS.WSAT_A : Fld := (28, 1)
def FJ_JNL_STATUS.WSAT_B : Fld := (29, 1)

/-- FJ_JNL_WEAR (Table 14-23). -/
def FJ_JNL_WEAR : Nat := 0xc00078
def FJ_JNL_WEAR.PASS_A : Fld := (0, 32)
def FJ_JNL_WEAR.PASS_B : Fld := (32, 32)

/-- FJ_JNL_SEQ (R461). -/
def FJ_JNL_SEQ : Nat := 0xc00080
def FJ_JNL_SEQ.SEQ : Fld := (0, 64)

/-- FJ_JRD_SEQ (R481). -/
def FJ_JRD_SEQ : Nat := 0xc00088
def FJ_JRD_SEQ.SEQ : Fld := (0, 64)

/-- FJ_JRD_STAT (R481). -/
def FJ_JRD_STAT : Nat := 0xc00090
def FJ_JRD_STAT.STAT : Fld := (0, 32)

/-- FJ_JRD_DATA (R481). -/
def FJ_JRD_DATA : Nat := 0xc000c0
def FJ_JRD_DATA.DATA : Fld := (0, 512)

/-- FJ_SRC_CFG (Table 14-21). -/
def FJ_SRC_CFG (n : Nat) : Nat := 0xc01000 + n * 8
def FJ_SRC_CFG.SEV : Fld := (0, 3)
def FJ_SRC_CFG.ESC : Fld := (3, 3)
def FJ_SRC_CFG.WINDOW : Fld := (6, 4)
def FJ_SRC_CFG.THRESH : Fld := (10, 16)
def FJ_SRC_CFG.ACTION : Fld := (26, 2)
def FJ_SRC_CFG.NOTIFY_G : Fld := (28, 1)
def FJ_SRC_CFG.NOTIFY_S : Fld := (29, 1)
def FJ_SRC_CFG.FORCE : Fld := (31, 1)

/-- FJ_SRC_STAT (Table 14-22). -/
def FJ_SRC_STAT (n : Nat) : Nat := 0xc02000 + n * 8
def FJ_SRC_STAT.LATCHED : Fld := (0, 1)
def FJ_SRC_STAT.PRESENT : Fld := (1, 1)
def FJ_SRC_STAT.TRIPPED : Fld := (2, 1)
def FJ_SRC_STAT.SAT : Fld := (3, 1)
def FJ_SRC_STAT.WOPEN : Fld := (4, 1)
def FJ_SRC_STAT.WCOUNT : Fld := (5, 16)
def FJ_SRC_STAT.EVENTS : Fld := (32, 32)

/-- ST_IDENT (Table 0-5). -/
def ST_IDENT : Nat := 0xd00000
def ST_IDENT.STEP_MAJOR : Fld := (28, 4)
def ST_IDENT.STEP_MINOR : Fld := (24, 4)
def ST_IDENT.PART : Fld := (8, 16)
def ST_IDENT.LID : Fld := (4, 4)
def ST_IDENT.FAMILY : Fld := (0, 4)

/-- ST_WSTAT (Table 20-3). -/
def ST_WSTAT : Nat := 0xd00004
def ST_WSTAT.BUSY : Fld := (0, 1)
def ST_WSTAT.WDROP : Fld := (1, 1)
def ST_WSTAT.DBLOCK : Fld := (2, 1)
def ST_WSTAT.DMASTER : Fld := (3, 4)
def ST_WSTAT.VOTES : Fld := (8, 8)
def ST_WSTAT.VSAT : Fld := (16, 1)

/-- ST_MODE (Table 15-12). -/
def ST_MODE : Nat := 0xd00100
def ST_MODE.MODE : Fld := (0, 4)
def ST_MODE.MOULT : Fld := (4, 1)
def ST_MODE.TRANSIT : Fld := (5, 1)
def ST_MODE.PAIRED : Fld := (6, 1)
def ST_MODE.ADMIT : Fld := (7, 1)
def ST_MODE.BYPASS : Fld := (8, 1)
def ST_MODE.DOZE_OVENS : Fld := (9, 8)
def ST_MODE.BOOT_TRIES : Fld := (17, 2)

/-- ST_MODE_REQ (Table 15-13). -/
def ST_MODE_REQ : Nat := 0xd00104
def ST_MODE_REQ.REQ : Fld := (0, 4)
def ST_MODE_REQ.GO : Fld := (4, 1)
def ST_MODE_REQ.REJ : Fld := (5, 1)
def ST_MODE_REQ.DONE : Fld := (6, 1)
def ST_MODE_REQ.PEND : Fld := (7, 1)

/-- ST_BOOT (Table 15-14). -/
def ST_BOOT : Nat := 0xd00108
def ST_BOOT.STAGE : Fld := (0, 8)
def ST_BOOT.IMAGE : Fld := (8, 1)
def ST_BOOT.FALLBACK : Fld := (9, 1)
def ST_BOOT.TADPOLE : Fld := (10, 1)

/-- ST_BOOT_REASON (Table 15-14). -/
def ST_BOOT_REASON : Nat := 0xd0010c
def ST_BOOT_REASON.REASON : Fld := (0, 32)

/-- ST_VF_BOUNDS (Table 16-12). -/
def ST_VF_BOUNDS : Nat := 0xd00200
def ST_VF_BOUNDS.VMIN : Fld := (0, 10)
def ST_VF_BOUNDS.VMAX : Fld := (16, 10)
def ST_VF_BOUNDS.FLOOR : Fld := (32, 11)
def ST_VF_BOUNDS.CEIL : Fld := (48, 11)
def ST_VF_BOUNDS.LOCK : Fld := (63, 1)

/-- ST_PCAP (Table 16-13). -/
def ST_PCAP : Nat := 0xd00208
def ST_PCAP.PCAP : Fld := (0, 10)
def ST_PCAP.TJ_LIMIT : Fld := (10, 8)
def ST_PCAP.LOCK : Fld := (31, 1)

/-- ST_VF_STATUS (Table 16-14). -/
def ST_VF_STATUS : Nat := 0xd0020c
def ST_VF_STATUS.VNOW : Fld := (0, 10)
def ST_VF_STATUS.FNOW : Fld := (10, 11)
def ST_VF_STATUS.LIMIT : Fld := (21, 3)
def ST_VF_STATUS.PINNED : Fld := (24, 1)
def ST_VF_STATUS.STRETCHED : Fld := (25, 1)
def ST_VF_STATUS.OVF_STRETCH : Fld := (26, 1)

/-- ST_STRETCH (R537). -/
def ST_STRETCH : Nat := 0xd00210
def ST_STRETCH.COUNT : Fld := (0, 64)

/-- ST_CLK_STATUS (Table 16-15). -/
def ST_CLK_STATUS : Nat := 0xd00218
def ST_CLK_STATUS.STATE : Fld := (0, 3)
def ST_CLK_STATUS.SEL : Fld := (3, 2)
def ST_CLK_STATUS.QUAL : Fld := (5, 3)
def ST_CLK_STATUS.LOS : Fld := (8, 3)
def ST_CLK_STATUS.REVERT_PEND : Fld := (11, 1)
def ST_CLK_STATUS.HO_TIME : Fld := (12, 20)

/-- ST_HU_STATUS (Table 16-16). -/
def ST_HU_STATUS : Nat := 0xd00220
def ST_HU_STATUS.V_NOW : Fld := (0, 16)
def ST_HU_STATUS.E_NET : Fld := (16, 16)
def ST_HU_STATUS.CHG : Fld := (32, 2)
def ST_HU_STATUS.TEST : Fld := (34, 1)
def ST_HU_STATUS.ENOUGH : Fld := (35, 1)
def ST_HU_STATUS.WARN : Fld := (36, 1)
def ST_HU_STATUS.CHG_FAULT : Fld := (37, 1)

/-- ST_LG_CTL (Table 14-10). -/
def ST_LG_CTL : Nat := 0xd00400
def ST_LG_CTL.NEXT : Fld := (0, 4)
def ST_LG_CTL.COUNT : Fld := (4, 5)
def ST_LG_CTL.OVW : Fld := (9, 1)
def ST_LG_CTL.CLR : Fld := (31, 1)

/-- ST_LG (Table 14-9). -/
def ST_LG (n : Nat) : Nat := 0xd00410 + n * 0x10
def ST_LG.SEQ : Fld := (0, 64)
def ST_LG.SOURCE : Fld := (64, 9)
def ST_LG.SEV : Fld := (73, 3)
def ST_LG.KIND : Fld := (76, 4)
def ST_LG.UNIT : Fld := (80, 20)
def ST_LG.VALID : Fld := (100, 1)

/-- TMR_STATUS (Table 18-5). -/
def TMR_STATUS : Nat := 0xe00000
def TMR_STATUS.BUSY : Fld := (0, 1)
def TMR_STATUS.TB_VALID : Fld := (1, 1)
def TMR_STATUS.SYNC : Fld := (2, 1)
def TMR_STATUS.STEPPED : Fld := (3, 1)
def TMR_STATUS.TBCAP_VALID : Fld := (4, 1)
def TMR_STATUS.TBCAP_OVR : Fld := (5, 1)

/-- TB_CTL (Table 18-6). -/
def TB_CTL : Nat := 0xe00004
def TB_CTL.STEER_EN : Fld := (0, 1)
def TB_CTL.ALLOW_BACK : Fld := (1, 1)
def TB_CTL.MAX_PPM : Fld := (2, 10)
def TB_CTL.STEP_NS : Fld := (12, 12)
def TB_CTL.TBCAP_SRC : Fld := (24, 3)
def TB_CTL.LOCK : Fld := (31, 1)

/-- TB_NOW (Table 18-4). -/
def TB_NOW : Nat := 0xe00008
def TB_NOW.NS : Fld := (0, 64)

/-- TB_SET (Table 18-4). -/
def TB_SET : Nat := 0xe00010
def TB_SET.NS : Fld := (0, 64)

/-- TB_ADJ (Table 18-4). -/
def TB_ADJ : Nat := 0xe00018
def TB_ADJ.PPB : Fld := (0, 32)

/-- TB_CAP (Table 18-4). -/
def TB_CAP : Nat := 0xe00020
def TB_CAP.NS : Fld := (0, 64)

/-- TMR_CTL (Table 18-7). -/
def TMR_CTL (n : Nat) : Nat := 0xe00100 + n * 0x40
def TMR_CTL.EN : Fld := (0, 1)
def TMR_CTL.SRC : Fld := (1, 3)
def TMR_CTL.DIR : Fld := (4, 2)
def TMR_CTL.INSEL : Fld := (6, 2)
def TMR_CTL.CAPSRC : Fld := (8, 2)
def TMR_CTL.WORLD : Fld := (10, 1)
def TMR_CTL.OVENS : Fld := (11, 8)
def TMR_CTL.LOCK : Fld := (31, 1)

/-- TMR_PSC (R579). -/
def TMR_PSC (n : Nat) : Nat := 0xe00104 + n * 0x40
def TMR_PSC.PSC : Fld := (0, 32)

/-- TMR_TOP (R589). -/
def TMR_TOP (n : Nat) : Nat := 0xe00108 + n * 0x40
def TMR_TOP.TOP : Fld := (0, 32)

/-- TMR_COUNT (R583). -/
def TMR_COUNT (n : Nat) : Nat := 0xe0010c + n * 0x40
def TMR_COUNT.COUNT : Fld := (0, 32)

/-- TMR_CMP0 (R582). -/
def TMR_CMP0 (n : Nat) : Nat := 0xe00110 + n * 0x40
def TMR_CMP0.CMP : Fld := (0, 32)

/-- TMR_CMP1 (R582). -/
def TMR_CMP1 (n : Nat) : Nat := 0xe00114 + n * 0x40
def TMR_CMP1.CMP : Fld := (0, 32)

/-- TMR_ACT (Table 18-8). -/
def TMR_ACT (n : Nat) : Nat := 0xe00118 + n * 0x40
def TMR_ACT.ACT_M0 : Fld := (0, 3)
def TMR_ACT.TGT_M0 : Fld := (3, 1)
def TMR_ACT.IRQ_M0 : Fld := (4, 1)
def TMR_ACT.WAKE_M0 : Fld := (5, 1)
def TMR_ACT.ACT_M1 : Fld := (6, 3)
def TMR_ACT.TGT_M1 : Fld := (9, 1)
def TMR_ACT.IRQ_M1 : Fld := (10, 1)
def TMR_ACT.WAKE_M1 : Fld := (11, 1)
def TMR_ACT.ACT_OVF : Fld := (12, 3)
def TMR_ACT.TGT_OVF : Fld := (15, 1)
def TMR_ACT.IRQ_OVF : Fld := (16, 1)
def TMR_ACT.WAKE_OVF : Fld := (17, 1)
def TMR_ACT.ACT_PEAK : Fld := (18, 3)
def TMR_ACT.TGT_PEAK : Fld := (21, 1)
def TMR_ACT.IRQ_PEAK : Fld := (22, 1)
def TMR_ACT.WAKE_PEAK : Fld := (23, 1)
def TMR_ACT.LINK : Fld := (24, 4)

/-- TMR_STAT (Table 18-9). -/
def TMR_STAT (n : Nat) : Nat := 0xe0011c + n * 0x40
def TMR_STAT.FLAGS : Fld := (0, 4)
def TMR_STAT.CMPPAST0 : Fld := (4, 1)
def TMR_STAT.CMPPAST1 : Fld := (5, 1)
def TMR_STAT.DOWN : Fld := (6, 1)
def TMR_STAT.OUT : Fld := (7, 1)
def TMR_STAT.QCOUNT : Fld := (8, 3)
def TMR_STAT.OVR : Fld := (11, 1)
def TMR_STAT.DROPS : Fld := (12, 8)
def TMR_STAT.DSAT : Fld := (20, 1)

/-- TMR_CAP (R586). -/
def TMR_CAP (n : Nat) : Nat := 0xe00120 + n * 0x40
def TMR_CAP.ENTRY : Fld := (0, 64)

/-- SEC_STATUS (Table 19-10). -/
def SEC_STATUS : Nat := 0xf00000
def SEC_STATUS.LC : Fld := (0, 3)
def SEC_STATUS.EPOCH : Fld := (3, 6)
def SEC_STATUS.REVOKED : Fld := (9, 4)
def SEC_STATUS.SLOTS : Fld := (13, 4)
def SEC_STATUS.RNG_OK : Fld := (17, 1)
def SEC_STATUS.WIPE_PEND : Fld := (18, 1)

/-- SEC_CTL (Table 19-10). -/
def SEC_CTL : Nat := 0xf00004
def SEC_CTL.WIPE_FULL : Fld := (0, 1)
def SEC_CTL.LOCK : Fld := (31, 1)

/-- SEC_TAMPER_CFG (Table 19-10). -/
def SEC_TAMPER_CFG : Nat := 0xf00008
def SEC_TAMPER_CFG.RESP : Fld := (0, 14)
def SEC_TAMPER_CFG.LOOP : Fld := (16, 4)

/-- SEC_TAMPER_STAT (Table 19-10). -/
def SEC_TAMPER_STAT : Nat := 0xf0000c
def SEC_TAMPER_STAT.LATCHED : Fld := (0, 7)
def SEC_TAMPER_STAT.PRESENT : Fld := (8, 7)

/-- SEC_BTB_RENEW (Table 19-10). -/
def SEC_BTB_RENEW : Nat := 0xf00010
def SEC_BTB_RENEW.CTXID : Fld := (0, 8)
def SEC_BTB_RENEW.SUP : Fld := (8, 1)
def SEC_BTB_RENEW.WORLD : Fld := (9, 1)
def SEC_BTB_RENEW.ALL : Fld := (10, 1)
def SEC_BTB_RENEW.SEQS : Fld := (11, 9)
def SEC_BTB_RENEW.GO : Fld := (20, 1)

/-- SEC_NOTIFY_G (Table 19-10). -/
def SEC_NOTIFY_G : Nat := 0xf00014
def SEC_NOTIFY_G.SET : Fld := (0, 8)
def SEC_NOTIFY_G.CLR : Fld := (8, 8)
def SEC_NOTIFY_G.PEND : Fld := (16, 8)

/-- SEC_NOTIFY_S (Table 19-10). -/
def SEC_NOTIFY_S : Nat := 0xf00018
def SEC_NOTIFY_S.SET : Fld := (0, 8)
def SEC_NOTIFY_S.CLR : Fld := (8, 8)
def SEC_NOTIFY_S.PEND : Fld := (16, 8)

/-- SEC_RNG (Table 19-10). -/
def SEC_RNG : Nat := 0xf00020
def SEC_RNG.VALUE : Fld := (0, 64)

end Sys2Proof.Machine
end

