-- ==== Sys2Proof/Machine/DictTable.lean ====
section
/-! DEFINITION. Sys2Proof/Machine/DictTable.lean: the objects of the Jenzia dictionary (R540 to R548): Tables 17-5,
15-15, 16-10, 14-24, 9-21, 12-24, 13-15, 5-17 and 19-11, R589 and R644. -/
namespace Sys2Proof.Machine

/-- Where an object's value is: stored with the Starter, in a register that it mirrors (its address for the first
index and subindex, and what each further index and subindex adds), or computed when it is read. -/
inductive DictHome
  | stored
  | mirror (addr si sj : Nat)
  | view
  deriving DecidableEq, Repr

/-- A row of the object tables: `n` indexes from `index` on with `m` subindexes from `sub` on. `ty` is the code of
Table 17-1, `acc` 0 RO, 1 RW-owner, 2 WO-owner, 3 RW-any, and `pers` 0 volatile, 1 saved, 2 boot area, 3 fixed (Table
17-8). `later` marks the mirrored objects whose writes act at the next Proofing. -/
structure DictObj where
  index : Nat
  n : Nat
  sub : Nat
  m : Nat
  ty : Nat
  size : Nat
  acc : Nat
  pers : Nat
  dflt : Nat
  lo : Nat
  hi : Nat
  home : DictHome
  later : Bool
  deriving DecidableEq, Repr

/-- Sizes of Table 17-1, zero for STRING and DOMAIN. -/
def tySize (t : Nat) : Nat := [0, 1, 1, 2, 4, 8, 4, 8, 4].getD t 0

/-- An object held by the Starter, with its range. -/
def obj (index sub ty acc pers dflt lo hi : Nat) : DictObj :=
  ⟨index, 1, sub, 1, ty, tySize ty, acc, pers, dflt, lo, hi, .stored, false⟩
/-- An object with the whole range of its type. -/
def objT (index sub ty acc pers dflt : Nat) : DictObj :=
  obj index sub ty acc pers dflt 0 (if ty = 1 then 1 else 2 ^ (8 * tySize ty) - 1)
/-- A computed object. -/
def objV (index sub ty size : Nat) : DictObj :=
  ⟨index, 1, sub, 1, ty, size, 0, 0, 0, 0, 2 ^ (8 * size), .view, false⟩
/-- An object that mirrors a register. -/
def objM (index sub ty acc pers addr : Nat) : DictObj :=
  ⟨index, 1, sub, 1, ty, tySize ty, acc, pers, 0, 0, 2 ^ (8 * tySize ty) - 1, .mirror addr 0 0, false⟩

/-- FIX16.16 of a number of sixteenths of a percent: only exact values are used. -/
def fix (num den : Nat) : Nat := num * 65536 / den

def dictIdent : List DictObj :=
  [⟨0x1000, 1, 1, 1, 9, 256, 0, 3, 0, 0, 0, .view, false⟩, ⟨0x1000, 1, 2, 1, 9, 256, 0, 3, 0, 0, 0, .view, false⟩,
   ⟨0x1000, 1, 3, 1, 4, 4, 0, 3, 0, 0, 0, .view, false⟩, ⟨0x1000, 1, 4, 1, 9, 256, 0, 3, 0, 0, 0, .view, false⟩,
   ⟨0x1000, 1, 5, 1, 5, 8, 0, 3, 0, 0, 0, .view, false⟩, objT 0x1000 6 4 0 0 0,
   obj 0x1010 1 2 1 1 3 0 3, obj 0x1010 2 2 1 1 0 0 1, obj 0x1010 3 2 1 1 0 0 2, objT 0x1010 4 3 1 1 1000,
   obj 0x1010 5 2 1 1 3 0 4, objV 0x1010 6 2 1] ++
  [objV 0x1F00 1 3 2, objV 0x1F00 2 2 1, objV 0x1F00 3 5 8, objV 0x1F00 4 4 4, objV 0x1F00 5 2 1,
   obj 0x1F00 6 3 1 1 50 10 1000, objT 0x1F00 7 1 1 1 0, obj 0x1F00 8 3 1 1 2000 100 10000, objT 0x1F00 9 2 1 1 0x7F,
   objT 0x1F00 0xA 3 3 0 0xFFFF, objT 0x1F00 0xB 4 0 0 0,
   ⟨0x1F00, 1, 0x10, 8, 5, 8, 0, 1, 0, 0, 2 ^ 64 - 1, .stored, false⟩]

def dictModes : List DictObj :=
  [objV 0x2000 1 2 1, ⟨0x2000, 1, 2, 1, 2, 1, 2, 0, 0, 0, 255, .view, false⟩, objM 0x2000 3 4 0 0 ST_MODE,
   objT 0x2000 4 1 1 1 1, obj 0x2000 5 2 1 1 4 1 8, objT 0x2000 6 3 1 1 2000, objT 0x2000 7 3 1 1 1000,
   objT 0x2000 8 1 1 1 1, objT 0x2000 9 4 1 1 0, obj 0x2010 1 8 1 1 (fix 140 1) (fix 140 1) (2 ^ 31 - 1),
   objV 0x2010 2 1 1, objT 0x2010 3 1 1 0 0] ++
  [objT 0x2100 1 2 0 2 0, objT 0x2100 2 4 0 2 0, objV 0x2100 3 2 1, obj 0x2100 4 2 1 2 0 0 1, objT 0x2100 5 4 0 2 0,
   objT 0x2100 6 2 0 2 0, objT 0x2100 7 5 0 2 0, objV 0x2100 8 2 1,
   ⟨0x2100, 1, 9, 3, 4, 4, 0, 2, 0, 0, 2 ^ 32 - 1, .stored, false⟩]

def dictPower : List DictObj :=
  [objT 0x3000 1 8 0 0 0, objT 0x3000 8 8 0 0 0, objT 0x3010 1 3 1 1 0x0210, objT 0x3010 2 1 1 1 1, obj 0x3010 3 2 1 1 0 0 3,
   obj 0x3010 4 3 1 1 10 1 3600, objT 0x3010 5 8 1 1 (fix 20 1), objT 0x3010 6 8 1 1 (fix 50 1),
   obj 0x3020 1 2 1 1 0 0 1, objT 0x3020 2 8 1 1 (fix 40 1), objT 0x3020 3 8 1 1 (fix 20 1), objT 0x3020 4 8 1 1 (fix 2 5),
   objT 0x3020 5 8 1 1 (fix 1 1), objT 0x3020 6 8 1 1 (fix 2 1), obj 0x3020 7 8 1 1 (fix 17 20) (fix 1 2) (fix 1 1)] ++
  [objT 0x3020 8 8 1 1 (fix 2 1), objT 0x3020 9 3 1 1 24, objT 0x3020 0xA 8 1 1 (fix 1 10), objT 0x3020 0xB 8 1 1 0,
   objT 0x3020 0xC 8 0 1 0, objT 0x3020 0xD 8 0 1 (fix 1 5), objT 0x3020 0xE 8 0 1 0, objT 0x3020 0xF 8 0 0 0,
   objT 0x3020 0x10 8 0 0 0, ⟨0x3020, 1, 0x11, 1, 1, 1, 2, 0, 0, 0, 1, .view, false⟩, objT 0x3020 0x12 8 1 1 (fix 1 10),
   objT 0x3020 0x13 8 1 1 0, objT 0x3020 0x14 8 0 0 0, obj 0x3020 0x15 8 1 1 (fix 42 1) 0 (fix 56 1)] ++
  [⟨0x3021, 1, 1, 1, 10, 256, 1, 1, 0, 0, 0, .stored, false⟩,
   objT 0x3030 1 8 1 1 (fix 80 1), objT 0x3030 2 8 1 1 (fix 2 1), objT 0x3030 3 8 1 1 (fix 1 2),
   objT 0x3030 4 8 1 1 (fix 10 1), objT 0x3030 5 8 1 1 (fix 40 1), objT 0x3030 6 8 1 1 (fix 1 5),
   objT 0x3030 7 8 1 1 (fix 60 1), objT 0x3030 8 8 1 1 (fix 185 4), objT 0x3030 9 8 1 1 (fix 5 1),
   objT 0x3030 0xA 1 1 1 0, objV 0x3030 0xB 8 4, objT 0x3030 0xC 8 0 0 0, objT 0x3030 0xD 8 0 0 0]

/-- VMIN, VMAX, FLOOR, CEIL, PCAP and TJ_LIMIT (0x3000:02 to 0x3000:07) are fields of ST_VF_BOUNDS and ST_PCAP. -/
def dictBounds : List DictObj :=
  [objT 0x3000 2 3 1 1 600, objT 0x3000 3 3 1 1 900, objT 0x3000 4 3 1 1 750, objT 0x3000 5 3 1 1 1500,
   objT 0x3000 6 3 1 1 560, objT 0x3000 7 2 1 1 105]

def dictFaults : List DictObj :=
  [objM 0x4000 1 4 0 0 FJ_STATUS, objM 0x4000 2 4 1 1 FJ_CTL, objM 0x4000 3 4 1 1 FJ_PIN_CTL,
   ⟨0x4000, 1, 4, 1, 10, 16, 1, 0, 0, 0, 0, .view, false⟩, objV 0x4000 5 10 64,
   ⟨0x4000, 1, 6, 1, 10, 20, 0, 0, 0, 0, 0, .view, false⟩, objV 0x4000 7 5 8, objV 0x4000 8 10 64] ++
  [objV 0x4010 1 2 1, objV 0x4010 2 3 2, objV 0x4010 3 3 2, objV 0x4010 4 4 4, objV 0x4010 5 4 4, objT 0x4010 6 5 0 2 0,
   ⟨0x4011, 1, 1, 16, 10, 16, 0, 0, 0, 0, 0, .mirror (ST_LG 0) 0 0x10, false⟩,
   ⟨0x4011, 1, 0x11, 1, 1, 1, 2, 0, 0, 0, 1, .view, false⟩, objM 0x4011 0x12 4 0 0 ST_LG_CTL,
   objM 0x4020 1 5 1 0 FJ_JRD_SEQ, objV 0x4020 2 10 65] ++
  [⟨0x4200, 512, 1, 1, 5, 8, 1, 1, 0, 0, 2 ^ 64 - 1, .mirror (FJ_SRC_CFG 0) 8 0, false⟩,
   ⟨0x4200, 512, 2, 1, 5, 8, 0, 0, 0, 0, 2 ^ 64 - 1, .mirror (FJ_SRC_STAT 0) 8 0, false⟩,
   ⟨0x4200, 512, 3, 1, 1, 1, 2, 0, 0, 0, 1, .view, false⟩]

def dictQueues : List DictObj :=
  [objM 0x5000 1 4 0 0 QE_STATUS, objM 0x5000 2 4 1 0 QE_CTL, objM 0x5000 3 5 0 0 QE_PERF_DISP,
   objM 0x5000 4 5 0 0 QE_PERF_CPL, objV 0x5000 5 4 4, objV 0x5000 6 2 1, objT 0x5010 1 3 0 0 0, objT 0x5010 2 2 0 0 0,
   objT 0x5010 3 2 0 0 0, ⟨0x5020, 1, 1, 16, 4, 4, 1, 0, 0, 0, 2 ^ 32 - 1, .mirror (QE_CLASS 0) 0 4, false⟩,
   ⟨0x5030, 1, 1, 8, 4, 4, 1, 0, 0, 0, 2 ^ 32 - 1, .mirror (QE_OVEN 0) 0 0x40, false⟩,
   objV 0x5040 1 10 32, objV 0x5040 2 10 32, objT 0x5050 1 3 3 0 0, objV 0x5050 2 10 66]

def dictChain : List DictObj :=
  [⟨0x6000, 1, 1, 1, 3, 2, 1, 1, 0xFFFF, 0, 0xFFFF, .stored, false⟩,
   { objM 0x6000 2 4 1 1 CH_CFG with later := true }, { objM 0x6000 3 4 1 1 CH_RING with later := true, hi := 511 },
   { objM 0x6000 4 4 1 1 CH_TIMING with later := true }, objM 0x6000 5 7 0 0 CH_TOFFSET, objM 0x6000 6 4 0 0 CH_TDELAY,
   objV 0x6000 7 3 2, ⟨0x6000, 1, 8, 1, 1, 1, 2, 0, 0, 0, 1, .view, false⟩,
   objT 0x6010 1 1 1 1 0, obj 0x6010 2 3 1 1 100 10 1000] ++
  [⟨0x6100, 8, 1, 1, 4, 4, 1, 1, 0, 0, 2 ^ 32 - 1, .mirror (CH_CTL 0) 0x10000 0, true⟩,
   ⟨0x6100, 8, 2, 1, 4, 4, 0, 0, 0, 0, 2 ^ 32 - 1, .mirror (CH_STATUS 0) 0x10000 0, false⟩,
   ⟨0x6100, 8, 3, 1, 4, 4, 1, 1, 0, 0, 2 ^ 32 - 1, .mirror (CH_LANE 0) 0x10000 0, true⟩,
   ⟨0x6100, 8, 4, 1, 5, 8, 0, 0, 0, 0, 2 ^ 64 - 1, .mirror (CH_ERRS 0) 0x10000 0, false⟩,
   ⟨0x6100, 8, 5, 1, 5, 8, 0, 0, 0, 0, 2 ^ 64 - 1, .mirror (CH_PERF_TX 0) 0x10000 0, false⟩,
   ⟨0x6100, 8, 6, 1, 5, 8, 0, 0, 0, 0, 2 ^ 64 - 1, .mirror (CH_PERF_RX 0) 0x10000 0, false⟩,
   ⟨0x6200, 1, 1, 8, 10, 16, 1, 1, 0, 0, 0, .mirror (CH_WIN 0) 0 0x10, false⟩,
   ⟨0x6300, 1, 1, 1, 10, 16384, 1, 0, 0, 0, 0, .mirror (CH_ROUTE 0) 0 0, false⟩]

/-- Host endpoint objects: index 0x7000 + h × 2 + e. -/
def dictHost : List DictObj :=
  [⟨0x7000, 4, 1, 1, 4, 4, 0, 0, 0, 0, 2 ^ 32 - 1, .mirror 0 0 0, false⟩,
   ⟨0x7000, 4, 2, 1, 5, 8, 1, 1, 0, 0, 2 ^ 64 - 1, .mirror 8 0 0, true⟩,
   ⟨0x7000, 4, 3, 1, 4, 4, 1, 1, 0, 0, 2 ^ 32 - 1, .mirror 0x10 0 0, true⟩,
   ⟨0x7000, 4, 4, 1, 5, 8, 0, 0, 0, 0, 2 ^ 64 - 1, .mirror 0x20 0 0, false⟩,
   ⟨0x7000, 4, 5, 1, 5, 8, 0, 0, 0, 0, 2 ^ 64 - 1, .mirror 0x18 0 0, false⟩,
   ⟨0x7000, 4, 6, 1, 4, 4, 1, 1, 0, 0, 2 ^ 32 - 1, .mirror 0x14 0 0, true⟩]

def dictMemory : List DictObj :=
  [objM 0x8000 1 4 0 0 VM_STATUS, objM 0x8000 2 4 1 1 VM_PLACE_CTL, objM 0x8000 3 4 1 1 VM_SCRUB_CTL,
   objM 0x8000 4 4 1 1 VM_REPAIR_CTL, ⟨0x8000, 1, 5, 3, 5, 8, 0, 0, 0, 0, 2 ^ 64 - 1, .mirror VM_PERF_CONFLICT 0 8, false⟩,
   ⟨0x8010, 1, 1, 96, 2, 1, 0, 1, 1, 0, 255, .stored, false⟩,
   ⟨0x8011, 1, 1, 96, 5, 8, 1, 0, 0, 0, 2 ^ 64 - 1, .mirror (VM_REGION 0) 0 0x10, false⟩,
   ⟨0x8020, 4, 1, 128, 4, 4, 0, 1, 0, 0, 2 ^ 32 - 1, .mirror (VM_SPARE 0) 0x200 4, false⟩,
   ⟨0x8030, 4, 1, 1, 4, 4, 0, 0, 0, 0, 2 ^ 32 - 1, .view, false⟩, obj 0x8040 1 3 3 0 0 0 33279, objV 0x8040 2 10 34]

def dictRest : List DictObj :=
  [objV 0x9000 1 5 8, ⟨0x9000, 1, 2, 1, 5, 8, 2, 0, 0, 0, 2 ^ 64 - 1, .view, false⟩, objM 0x9000 3 4 1 1 TB_CTL,
   objM 0x9000 4 7 0 0 CH_TOFFSET] ++
  [objV 0xA000 1 2 1, ⟨0xA000, 1, 2, 1, 2, 1, 2, 0, 0, 0, 255, .view, false⟩,
   ⟨0xA000, 1, 3, 1, 10, 116, 3, 0, 0, 0, 0, .view, false⟩, obj 0xA000 4 2 1 1 1 0 1,
   ⟨0xA000, 1, 5, 1, 2, 1, 1, 3, 0, 0, 63, .view, false⟩, ⟨0xA000, 1, 6, 1, 2, 1, 1, 3, 0, 0, 15, .view, false⟩,
   ⟨0xA010, 1, 1, 4, 10, 32, 2, 1, 0, 0, 0, .view, false⟩, objV 0xA010 5 2 1,
   objM 0xA020 1 4 1 1 SEC_TAMPER_CFG, objM 0xA020 2 4 0 0 SEC_TAMPER_STAT] ++
  [⟨0xB001, 13, 1, 1, 10, 1 <<< 24, 0, 0, 0, 0, 0, .view, false⟩, ⟨0xB0F0, 1, 1, 1, 4, 4, 2, 0, 0, 0, 2 ^ 32 - 1, .view, false⟩]

/-- Every object of the dictionary. -/
def dictTable : List DictObj :=
  dictIdent ++ dictModes ++ dictPower ++ dictBounds ++ dictFaults ++ dictQueues ++ dictChain ++ dictHost ++ dictMemory
    ++ dictRest

/-- The row that names an object, with its places in the row. -/
def dictFind (index sub : Nat) : Option DictObj :=
  dictTable.find? (fun o => decide (o.index ≤ index) && decide (index < o.index + o.n) && decide (o.sub ≤ sub)
    && decide (sub < o.sub + o.m))

/-- R540: the highest subindex in use at an index, if the index is in use. -/
def dictTop (index : Nat) : Option Nat :=
  let l := dictTable.filter (fun o => decide (o.index ≤ index) && decide (index < o.index + o.n))
  if l.isEmpty then none else some (l.foldl (fun a o => max a (o.sub + o.m - 1)) 0)

/-- The register an object mirrors. -/
def DictObj.regAt (o : DictObj) (index sub : Nat) : Option Nat :=
  match o.home with
  | .mirror a si sj =>
    if o.index = 0x7000 then some (HP_STATUS ((index - 0x7000) / 2) ((index - 0x7000) % 2) + a)
    else some (a + (index - o.index) * si + (sub - o.sub) * sj)
  | _ => none

/-- QUEUE contexts: DictObj for a register may be wider than its 8 B; its size in words. -/
def DictObj.words (o : DictObj) : Nat := (o.size + 3) / 4

/-- An object's key in the Starter's store. -/
def objKey (index sub : Nat) : Nat := index * 256 + sub

end Sys2Proof.Machine
end

