-- ==== Sys2Proof/Machine/Elem.lean ====
section
/-! DEFINITION. Sys2Proof/Machine/Elem.lean: element types (R35), the status element and the sticky flags
(R71, R72), and the integer arithmetic of the ADD, MUL, LOG, DIV and PRM classes (R75 to R77). An element is the
number its bits spell. -/
namespace Sys2Proof.Machine

/-- Element types of Table 2-5; ETYPE 15 is reserved. -/
inductive ETy
  | i8 | i16 | i32 | i64 | u8 | u16 | u32 | u64 | bf16 | f32 | f64 | pd8 | pd16 | bit | b128 | rsvd
  deriving DecidableEq, Repr

/-- The type an ETYPE code names. -/
def etyOf : Nat → ETy
  | 0 => .i8 | 1 => .i16 | 2 => .i32 | 3 => .i64 | 4 => .u8 | 5 => .u16 | 6 => .u32 | 7 => .u64
  | 8 => .bf16 | 9 => .f32 | 10 => .f64 | 11 => .pd8 | 12 => .pd16 | 13 => .bit | 14 => .b128 | _ => .rsvd

/-- The ETYPE code of a type. -/
def ETy.code : ETy → Nat
  | .i8 => 0 | .i16 => 1 | .i32 => 2 | .i64 => 3 | .u8 => 4 | .u16 => 5 | .u32 => 6 | .u64 => 7
  | .bf16 => 8 | .f32 => 9 | .f64 => 10 | .pd8 => 11 | .pd16 => 12 | .bit => 13 | .b128 => 14 | .rsvd => 15

/-- Width of an element in bits. -/
def ETy.width : ETy → Nat
  | .i8 | .u8 => 8
  | .i16 | .u16 | .bf16 => 16
  | .i32 | .u32 | .f32 => 32
  | .i64 | .u64 | .f64 | .pd8 => 64
  | .pd16 | .b128 => 128
  | .bit => 1
  | .rsvd => 8

/-- Size in bytes; a BIT element has none of its own and counts as one byte where a size is asked for. -/
def ETy.size (t : ETy) : Nat := if t = .bit then 1 else t.width / 8

def ETy.isI : ETy → Bool
  | .i8 | .i16 | .i32 | .i64 => true
  | _ => false

def ETy.isU : ETy → Bool
  | .u8 | .u16 | .u32 | .u64 => true
  | _ => false

def ETy.isIU (t : ETy) : Bool := t.isI || t.isU

def ETy.isF : ETy → Bool
  | .bf16 | .f32 | .f64 => true
  | _ => false

def ETy.isP : ETy → Bool
  | .pd8 | .pd16 => true
  | _ => false

/-- Type letter W of Table 3-5. -/
def ETy.isW : ETy → Bool
  | .i32 | .i64 | .u32 | .u64 => true
  | _ => false

/-- What one operation on one element gives: the result for D, the second result for E (carry, high half,
remainder, maximum or digest half, where the opcode has one), the status element of Table 3-14 and the sticky
flags of Table 3-15a (bits 0 to 7, of whichever world issued it). -/
structure ERes where
  d : Nat
  e : Nat := 0
  st : Nat := 0
  fl : Nat := 0
  deriving DecidableEq, Repr

/- Status bits of Table 3-14. -/
def stNX : Nat := 1
def stUF : Nat := 2
def stOF : Nat := 4
def stDZ : Nat := 8
def stNV : Nat := 16
def stPSN : Nat := 32

/- Sticky flag bits of Table 3-15a. -/
def flNV : Nat := 1
def flDZ : Nat := 2
def flOF : Nat := 4
def flUF : Nat := 8
def flNX : Nat := 16
def flIOVF : Nat := 32
def flDOVF : Nat := 64
def flDINV : Nat := 128

/-- An element as the integer it holds: signed for types I, unsigned otherwise (R75). -/
def ETy.toInt (t : ETy) (v : Nat) : Int :=
  if t.isI then toSigned t.width v else ((v % 2 ^ t.width : Nat) : Int)

/-- Largest and smallest integer of a type. -/
def ETy.maxInt (t : ETy) : Int := if t.isI then (2 ^ (t.width - 1) : Nat) - 1 else (2 ^ t.width : Nat) - 1
def ETy.minInt (t : ETy) : Int := if t.isI then -((2 ^ (t.width - 1) : Nat) : Int) else 0

/-- Whether an exact integer lies in the range of a type. -/
def ETy.inRange (t : ETy) (z : Int) : Bool := decide (t.minInt ≤ z) && decide (z ≤ t.maxInt)

/-- R75: an exact integer result fitted to the type of D. Out of range, it wraps (SAT = 0) or clamps (SAT = 1),
and either way sets OF and IOVF. -/
def intFit (t : ETy) (sat : Bool) (z : Int) : ERes :=
  if t.inRange z then { d := ofInt t.width z }
  else
    let c := if sat then (if z < t.minInt then t.minInt else t.maxInt) else z
    { d := ofInt t.width c, st := stOF, fl := flIOVF }

/-- MOD[3] and MOD[2:0] of an opcode (R60). -/
def modSat (mod : Nat) : Bool := bitAt mod 3
def modRm (mod : Nat) : Nat := mod % 8

/-- R76: integer division of A by B in one type. `d` is the quotient, `e` the remainder. -/
def intDivide (t : ETy) (a b : Nat) : ERes :=
  let za := t.toInt a
  let zb := t.toInt b
  if zb = 0 then
    { d := ofInt t.width (if za < 0 then t.minInt else t.maxInt), e := a % 2 ^ t.width, st := stDZ, fl := flDZ }
  else if za = t.minInt ∧ t.isI = true ∧ zb = -1 then
    { d := ofInt t.width t.minInt, e := 0, st := stOF, fl := flIOVF }
  else
    { d := ofInt t.width (za.tdiv zb), e := ofInt t.width (za.tmod zb) }

/-- R76: VREM is the remainder; its result is in range, so it reports only a zero divisor. -/
def intRem (t : ETy) (a b : Nat) : ERes :=
  let r := intDivide t a b
  { d := r.e, st := if t.toInt b = 0 then stDZ else 0, fl := if t.toInt b = 0 then flDZ else 0 }

/-- R77: VMUL of types I and U, low half to D and high half to E. -/
def intMul (t : ETy) (sat : Bool) (a b : Nat) : ERes :=
  let p := t.toInt a * t.toInt b
  let r := intFit t sat p
  { r with e := ofInt t.width (p / ((2 ^ t.width : Nat) : Int)) }

/-- R75: VADDC and VSUBB always wrap and report by E alone. -/
def intAddC (t : ETy) (sub : Bool) (a b c : Nat) : ERes :=
  let w := t.width
  let x := a % 2 ^ w
  let y := b % 2 ^ w + c % 2
  if sub then { d := ofInt w ((x : Int) - (y : Int)), e := if x < y then 1 else 0 }
  else { d := (x + y) % 2 ^ w, e := (x + y) / 2 ^ w }

/-- R77: counts are taken modulo the width. -/
def shiftLeft (w a n : Nat) : Nat := a * 2 ^ (n % w) % 2 ^ w
def shiftRight (w a n : Nat) : Nat := a % 2 ^ w / 2 ^ (n % w)
def shiftArith (w a n : Nat) : Nat := ofInt w (toSigned w a / ((2 ^ (n % w) : Nat) : Int))
def rotLeft (w a n : Nat) : Nat :=
  (a % 2 ^ w * 2 ^ (n % w) + a % 2 ^ w / 2 ^ (w - n % w)) % 2 ^ w

/-- Leading zeros of the low `w` bits. -/
def leadZeros (w a : Nat) : Nat := w - bitLen (a % 2 ^ w)

end Sys2Proof.Machine
end

