-- ==== Sys2Proof/Machine/ElemCry.lean ====
section
/-! DEFINITION. Sys2Proof/Machine/ElemCry.lean: the CRY class (R94 to R98). A B128 element is a number whose byte j
(R94) is byte j of the standard's block. -/
namespace Sys2Proof.Machine

/-- The sixteen bytes of a block, byte 0 first. -/
def blockBytes (v : Nat) : List Nat := (upTo 16).map (fun j => bitsOf v (8 * j) 8)

/-- The block that sixteen bytes make. -/
def ofBlockBytes : List Nat → Nat
  | [] => 0
  | b :: bs => b % 256 + 256 * ofBlockBytes bs

/-- Byte `i` of a list of bytes. -/
def byteAt (l : List Nat) (i : Nat) : Nat := l.getD i 0

/-- Multiplication by x in the field of FIPS 197. -/
def gfX (a : Nat) : Nat := if a < 128 then 2 * a else (2 * a - 256) ^^^ 0x1B

/-- Product in GF(2^8), by the low `n` bits of `b`. -/
def gfMulN : Nat → Nat → Nat → Nat
  | 0, _, _ => 0
  | n + 1, a, b => (if b % 2 = 1 then a else 0) ^^^ gfMulN n (gfX a) (b / 2)

def gfMul (a b : Nat) : Nat := gfMulN 8 a b

/-- The multiplicative inverse in GF(2^8), `a^254`, with 0 to 0. -/
def gfInv (a : Nat) : Nat :=
  let a2 := gfMul a a
  let a3 := gfMul a2 a
  let a6 := gfMul a3 a3
  let a12 := gfMul a6 a6
  let a15 := gfMul a12 a3
  let a30 := gfMul a15 a15
  let a60 := gfMul a30 a30
  let a120 := gfMul a60 a60
  let a126 := gfMul a120 a6
  let a127 := gfMul a126 a
  gfMul a127 a127

/-- Rotation of a byte to the left. -/
def rot8 (a n : Nat) : Nat := (a * 2 ^ n + a / 2 ^ (8 - n)) % 256

/-- SubBytes and its inverse on one byte (FIPS 197). -/
def aesSub (a : Nat) : Nat :=
  let i := gfInv a
  i ^^^ rot8 i 1 ^^^ rot8 i 2 ^^^ rot8 i 3 ^^^ rot8 i 4 ^^^ 0x63

def aesInvSub (a : Nat) : Nat := gfInv (rot8 a 1 ^^^ rot8 a 3 ^^^ rot8 a 6 ^^^ 0x05)

/-- ShiftRows and its inverse: byte j of the block is row j mod 4, column j / 4. -/
def aesShiftRows (l : List Nat) : List Nat := (upTo 16).map (fun j => byteAt l ((j + 4 * (j % 4)) % 16))
def aesInvShiftRows (l : List Nat) : List Nat := (upTo 16).map (fun j => byteAt l ((j + 12 * (j % 4)) % 16))

/-- A column product with the circulant matrix whose first row is `c0 c1 c2 c3`. -/
def aesMixWith (c0 c1 c2 c3 : Nat) (l : List Nat) : List Nat :=
  (upTo 16).map (fun j =>
    let base := j / 4 * 4
    let b := fun k => byteAt l (base + (j + k) % 4)
    gfMul (b 0) c0 ^^^ gfMul (b 1) c1 ^^^ gfMul (b 2) c2 ^^^ gfMul (b 3) c3)

/-- R95: one AES encryption round of A with round key B. -/
def aesEncRound (final : Bool) (a b : Nat) : Nat :=
  let s := aesShiftRows ((blockBytes a).map aesSub)
  let s := if final then s else aesMixWith 2 3 1 1 s
  ofBlockBytes s ^^^ b

/-- R95: one AES decryption round of A with round key B. -/
def aesDecRound (final : Bool) (a b : Nat) : Nat :=
  let s := ofBlockBytes ((aesInvShiftRows (blockBytes a)).map aesInvSub) ^^^ b
  if final then s else ofBlockBytes (aesMixWith 14 11 13 9 (blockBytes s))

/-- A block as the polynomial of SP 800-38D: its bit 127 is the first, most significant bit of byte 0. -/
def ghashBits (v : Nat) : Nat := (blockBytes v).foldl (fun acc b => acc * 256 + b) 0
def ghashBlock (p : Nat) : Nat := ofBlockBytes ((upTo 16).map (fun j => bitsOf p (8 * (15 - j)) 8))

/-- Multiplication of SP 800-38D: bit 127 of a polynomial number is the coefficient of x^0. -/
def ghashMulN : Nat → Nat → Nat → Nat → Nat
  | 0, z, _, _ => z
  | n + 1, z, v, x =>
    let z := if bitAt x n then z ^^^ v else z
    let v' := if v % 2 = 1 then v / 2 ^^^ 0xE1000000000000000000000000000000 else v / 2
    ghashMulN n z v' x

/-- R96: VGHASH, (A XOR B) • C. -/
def ghash (a b c : Nat) : Nat := ghashBlock (ghashMulN 128 0 (ghashBits c) (ghashBits (a ^^^ b)))

/-- R98: CRC32C over one byte, reflected polynomial 0x82F6_3B78. -/
def crcBits : Nat → Nat → Nat
  | 0, c => c
  | n + 1, c => crcBits n (if c % 2 = 1 then c / 2 ^^^ 0x82F63B78 else c / 2)

def crcByte (c b : Nat) : Nat := crcBits 8 (c ^^^ b)

/-- A CRC32C register advanced over bytes. -/
def crc32c (c : Nat) (l : List Nat) : Nat := l.foldl crcByte c

/-- R97: the round constants of FIPS 180-4. -/
def shaK0 : List Nat :=
  [0x428a2f98, 0x71374491, 0xb5c0fbcf, 0xe9b5dba5, 0x3956c25b, 0x59f111f1, 0x923f82a4, 0xab1c5ed5,
   0xd807aa98, 0x12835b01, 0x243185be, 0x550c7dc3, 0x72be5d74, 0x80deb1fe, 0x9bdc06a7, 0xc19bf174]
def shaK1 : List Nat :=
  [0xe49b69c1, 0xefbe4786, 0x0fc19dc6, 0x240ca1cc, 0x2de92c6f, 0x4a7484aa, 0x5cb0a9dc, 0x76f988da,
   0x983e5152, 0xa831c66d, 0xb00327c8, 0xbf597fc7, 0xc6e00bf3, 0xd5a79147, 0x06ca6351, 0x14292967]
def shaK2 : List Nat :=
  [0x27b70a85, 0x2e1b2138, 0x4d2c6dfc, 0x53380d13, 0x650a7354, 0x766a0abb, 0x81c2c92e, 0x92722c85,
   0xa2bfe8a1, 0xa81a664b, 0xc24b8b70, 0xc76c51a3, 0xd192e819, 0xd6990624, 0xf40e3585, 0x106aa070]
def shaK3 : List Nat :=
  [0x19a4c116, 0x1e376c08, 0x2748774c, 0x34b0bcb5, 0x391c0cb3, 0x4ed8aa4a, 0x5b9cca4f, 0x682e6ff3,
   0x748f82ee, 0x78a5636f, 0x84c87814, 0x8cc70208, 0x90befffa, 0xa4506ceb, 0xbef9a3f7, 0xc67178f2]
def shaK : List Nat := shaK0 ++ shaK1 ++ shaK2 ++ shaK3

def rotr32 (x n : Nat) : Nat := (x / 2 ^ n + x * 2 ^ (32 - n)) % 2 ^ 32
def not32 (x : Nat) : Nat := 2 ^ 32 - 1 - x % 2 ^ 32
def shaBig0 (x : Nat) : Nat := rotr32 x 2 ^^^ rotr32 x 13 ^^^ rotr32 x 22
def shaBig1 (x : Nat) : Nat := rotr32 x 6 ^^^ rotr32 x 11 ^^^ rotr32 x 25
def shaSm0 (x : Nat) : Nat := rotr32 x 7 ^^^ rotr32 x 18 ^^^ x / 2 ^ 3
def shaSm1 (x : Nat) : Nat := rotr32 x 17 ^^^ rotr32 x 19 ^^^ x / 2 ^ 10

/-- The message schedule: `n` more words after the sixteen of the block; the newest word stands first. -/
def shaSched : Nat → List Nat → List Nat
  | 0, w => w
  | n + 1, w =>
    let x := (shaSm1 (byteAt w 1) + byteAt w 6 + shaSm0 (byteAt w 14) + byteAt w 15) % 2 ^ 32
    shaSched n (x :: w)

/-- One round on the eight working variables a to h. -/
def shaRound (s : List Nat) (kw : Nat) : List Nat :=
  let a := byteAt s 0
  let b := byteAt s 1
  let c := byteAt s 2
  let e := byteAt s 4
  let f := byteAt s 5
  let g := byteAt s 6
  let ch := (e &&& f) ^^^ (not32 e &&& g)
  let maj := (a &&& b) ^^^ (a &&& c) ^^^ (b &&& c)
  let t1 := byteAt s 7 + shaBig1 e + ch + kw
  let t2 := shaBig0 a + maj
  [(t1 + t2) % 2 ^ 32, a, b, c, (byteAt s 3 + t1) % 2 ^ 32, e, f, g]

/-- Four 32-bit words of a block, each big-endian (R97). -/
def shaWords (v : Nat) : List Nat :=
  (upTo 4).map (fun i => (upTo 4).foldl (fun acc j => acc * 256 + bitsOf v (8 * (4 * i + j)) 8) 0)

/-- The block that four words make, each big-endian. -/
def ofShaWords (l : List Nat) : Nat :=
  ofBlockBytes ((upTo 16).map (fun j => bitsOf (byteAt l (j / 4)) (8 * (3 - j % 4)) 8))

/-- R97: one SHA-256 compression of the state in A and C with the 64 B message block in four elements of B. -/
def sha256 (a c : Nat) (blk : List Nat) : Nat × Nat :=
  let h := shaWords a ++ shaWords c
  let w := (shaSched 48 ((blk.map shaWords).flatten).reverse).reverse
  let s := (shaK.zip w).foldl (fun s p => shaRound s (p.1 + p.2)) h
  let out := (h.zip s).map (fun p => (p.1 + p.2) % 2 ^ 32)
  (ofShaWords (out.take 4), ofShaWords (out.drop 4))

end Sys2Proof.Machine
end

