-- ==== Sys2Proof/Config.lean ====
section
/-! DEFINITION. Sys2Proof/Config.lean: what the part fixes at assembly, and the values the spec leaves open.
A free value has no body: nothing can be proved of it, so a statement that holds, holds for every value of it. -/
namespace Sys2Proof

/-- The ordering code fused at module assembly (R1, Table 0-5): LQ has ST_IDENT.LID = 1, BQ has 2. -/
inductive OrderingCode
  | lq
  | bq
  deriving DecidableEq, Repr, Inhabited

/-- The ordering code of the modelled part. R1 gives two; which one a module is, nothing in the spec says. -/
opaque Config.orderingCode : OrderingCode

/-- The free value of every place where the spec calls a result UNPREDICTABLE (R9) or states none. The argument
is the counter `State.freeCtr`, which every use advances; a use keeps the low bits it needs. -/
opaque Config.freeValue : Nat → Nat

/-- The 32 KiB boot ROM of a sequencer (R244), a byte for each offset. The spec gives its size and place, not its
contents, beyond the program-entry tables that R303 says hold zero there (`Ops.romByte` reads those as zero). -/
opaque Config.bootRom : Nat → Byte

/-- The module serial number, dictionary 0x1000:05 (R11), fused at assembly. -/
opaque Config.serial : Word

/-- The branch target secrets (R254, R596): what a draw gives a context. No path reads one. -/
opaque Config.secret : Nat → Nat → BitVec 17

/-- The SPI NOR flash (R494): a byte for each address. The carrier programs it; no command of the block does. -/
opaque Config.flash : Nat → Byte

/-- Whether a life-cycle token's signature checks under production key `k` (R591, R593). The keys are fixed in the
Starter boot ROM, and the spec does not give them. -/
opaque Config.tokenSigned : Nat → List Byte → Bool

/-- Whether the header signature of image `img` (0 A, 1 B) verifies under key `k` (R593): 0 to 3 are PROD0 to PROD3, 4 is
DEV0. -/
opaque Config.imageSigned : Nat → Nat → Bool

end Sys2Proof
end

