-- ==== Sys2Proof/Machine/RegTable.lean ====
section
/-! DEFINITION. Sys2Proof/Machine/RegTable.lean: for every control-space register its place, its width in words, its
reset value and the access types of its bits (R7, R613), block by block in the order of Table 20-7. A reset value that
differs from unit to unit is in `regResetSpecial`. -/
namespace Sys2Proof.Machine

/-- One register, or a family of equal ones at two strides. `rw`, `rwl`, `w1c`, `w1s` and `rsv` are the bits of each
access type (R613) and the reserved bits that R6 asks software to write as zero; the bits of no mask are RO or WO.
The lock bit (R615) stands at `lockAt` (moved by the strides `lk1` and `lk2` for the unit) and locks the RWL bits. -/
structure RegDesc where
  base : Nat
  s1 : Nat
  n1 : Nat
  s2 : Nat
  n2 : Nat
  words : Nat
  reset : Nat
  rw : Nat
  rwl : Nat
  w1c : Nat
  w1s : Nat
  rsv : Nat
  lockAt : Nat
  lk1 : Nat
  lk2 : Nat
  lockBit : Nat
  deriving DecidableEq, Repr

/-- The registers of the SEQ block. -/
def regsSeq : List RegDesc :=
  [⟨0x100000, 0x10000, 9, 0, 1, 1, 0, 0, 7, 0, 0x80000008, 0x7ffffff0, 0x100000, 0x10000, 0, 0x1f⟩,
   ⟨0x100004, 0x10000, 9, 0, 1, 1, 0, 0, 0, 0x1800, 0, 0, 0, 0, 0, 0⟩,
   ⟨0x100010, 0x10000, 9, 0, 1, 2, 0xffffffffffffffff, 0, 0xffffffffffffffff, 0, 0, 0, 0x100000, 0x10000, 0, 0x1f⟩,
   ⟨0x100018, 0x10000, 9, 0, 1, 2, 0xffffffffffffffff, 0, 0xffffffffffffffff, 0, 0, 0, 0x100000, 0x10000, 0, 0x1f⟩,
   ⟨0x100020, 0x10000, 9, 0, 1, 2, 0, 0xffffffffffffffff, 0, 0, 0, 0, 0, 0, 0, 0⟩,
   ⟨0x100028, 0x10000, 9, 0, 1, 2, 0, 0xffffffffffffffff, 0, 0, 0, 0, 0, 0, 0, 0⟩] ++
  [⟨0x100400, 0x10000, 9, 0x20, 0x20, 8, 0, 0, 0xffffffffffffffffffffffffffffffffffffffffffffffff00ffff07, 0, 0, 0xffffffff000000000000000000000000000000000000000000000000ff0000f8, 0x100820, 0x10000, 0, 0⟩,
   ⟨0x100800, 0x10000, 9, 0, 1, 1, 0, 0, 0, 0, 0, 0, 0, 0, 0, 0⟩,
   ⟨0x100804, 0x10000, 9, 0, 1, 1, 0, 0, 0, 0, 0, 0, 0, 0, 0, 0⟩,
   ⟨0x100808, 0x10000, 9, 0, 1, 2, 0, 0, 0, 0, 0, 0, 0, 0, 0, 0⟩,
   ⟨0x100810, 0x10000, 9, 0, 1, 2, 0, 0, 0, 0, 0, 0, 0, 0, 0, 0⟩,
   ⟨0x100818, 0x10000, 9, 0, 1, 1, 0, 0, 0, 0xf, 0, 0, 0, 0, 0, 0⟩] ++
  [⟨0x10081c, 0x10000, 9, 0, 1, 1, 0, 0, 0, 0xff00ff, 0, 0, 0, 0, 0, 0⟩,
   ⟨0x100820, 0x10000, 9, 0, 1, 1, 0, 0, 0, 0, 1, 0, 0, 0, 0, 0⟩,
   ⟨0x100900, 0x10000, 9, 0x10, 8, 4, 0, 0, 0, 0, 0, 0, 0, 0, 0, 0⟩,
   ⟨0x100c00, 0x10000, 9, 0x20, 0x40, 8, 0, 0, 0, 0, 0, 0, 0, 0, 0, 0⟩]

/-- The registers of the PIPE block. -/
def regsPipe : List RegDesc :=
  [⟨0x200000, 0x10000, 0x12, 0, 1, 1, 0, 0, 0, 0x1c0000, 0, 0, 0, 0, 0, 0⟩,
   ⟨0x200004, 0x10000, 0x12, 0, 1, 1, 2, 0, 0xf, 0, 0x80000000, 0x7ffffff0, 0x200004, 0x10000, 0, 0x1f⟩,
   ⟨0x200008, 0x10000, 0x12, 0, 1, 1, 0, 0xffffff, 0, 0x1000000, 0, 0, 0, 0, 0, 0⟩,
   ⟨0x200010, 0x10000, 0x12, 0, 1, 2, 0, 0xffffffffffffffff, 0, 0, 0, 0, 0, 0, 0, 0⟩,
   ⟨0x200018, 0x10000, 0x12, 0, 1, 2, 0, 0xffffffffffffffff, 0, 0, 0, 0, 0, 0, 0, 0⟩,
   ⟨0x200020, 0x10000, 0x12, 0, 1, 2, 0, 0xffffffffffffffff, 0, 0, 0, 0, 0, 0, 0, 0⟩]

/-- The registers of the VM block. -/
def regsVm : List RegDesc :=
  [⟨0x500000, 0, 1, 0, 1, 1, 0, 0, 0, 0x1c000000, 0, 0, 0, 0, 0, 0⟩,
   ⟨0x500004, 0, 1, 0, 1, 1, 0x26809, 0, 0x3ffff, 0, 0x80000000, 0x7ffc0000, 0x500004, 0, 0, 0x1f⟩,
   ⟨0x500008, 0, 1, 0, 1, 1, 0x100118, 0, 0xffffff, 0, 0x80000000, 0x7f000000, 0x500008, 0, 0, 0x1f⟩,
   ⟨0x50000c, 0, 1, 0, 1, 1, 0x343, 0, 0x3ff, 0, 0x80000000, 0x7ffffc00, 0x50000c, 0, 0, 0x1f⟩,
   ⟨0x500020, 8, 4, 0, 1, 2, 0, 0, 0, 0, 0, 0, 0, 0, 0, 0⟩,
   ⟨0x500080, 0, 1, 0, 1, 2, 0, 0xffffffffffffffff, 0, 0, 0, 0, 0, 0, 0, 0⟩] ++
  [⟨0x500088, 0, 1, 0, 1, 2, 0, 0xffffffffffffffff, 0, 0, 0, 0, 0, 0, 0, 0⟩,
   ⟨0x500090, 0, 1, 0, 1, 2, 0, 0xffffffffffffffff, 0, 0, 0, 0, 0, 0, 0, 0⟩,
   ⟨0x501000, 0x10, 0x60, 0, 1, 2, 0xfffe01, 0xf001ffff00, 0, 0x60000000000, 0x10000000000, 0, 0, 0, 0, 0⟩,
   ⟨0x501008, 0x10, 0x60, 0, 1, 1, 0, 0, 0, 0, 0, 0, 0, 0, 0, 0⟩,
   ⟨0x502000, 4, 0x200, 0, 1, 1, 0, 0, 0, 0, 0, 0, 0, 0, 0, 0⟩]

/-- The registers of the LS block. -/
def regsLs : List RegDesc :=
  [⟨0x600000, 0x10000, 9, 0, 1, 1, 0, 0, 0, 0x10, 0, 0, 0, 0, 0, 0⟩,
   ⟨0x600004, 0x10000, 9, 0, 1, 1, 0, 0, 0x1f, 0, 0x80000020, 0x7fffffc0, 0x600004, 0x10000, 0, 0x1f⟩,
   ⟨0x600008, 0x10000, 9, 0, 1, 2, 0, 0xff000000, 0, 0x100800000, 0, 0, 0, 0, 0, 0⟩,
   ⟨0x600010, 0x10000, 9, 0, 1, 1, 0, 0x1fffff, 0, 0, 0x600000, 0xff800000, 0, 0, 0, 0⟩,
   ⟨0x600018, 0x10000, 9, 0, 1, 2, 0, 0, 0, 0x1e, 0, 0, 0, 0, 0, 0⟩]

/-- The registers of the FAB block. -/
def regsFab : List RegDesc :=
  [⟨0x700000, 0, 1, 0, 1, 1, 0x100, 0, 0x1fff, 0, 0x80000000, 0x7fffe000, 0x700000, 0, 0, 0x1f⟩,
   ⟨0x700008, 0, 1, 0, 1, 2, 0, 0, 0, 0xc00000000000, 0, 0, 0, 0, 0, 0⟩]

/-- The registers of the QE block. -/
def regsQe : List RegDesc :=
  [⟨0x800000, 0, 1, 0, 1, 1, 0, 0, 0, 0x30008, 0, 0, 0, 0, 0, 0⟩,
   ⟨0x800004, 0, 1, 0, 1, 1, 0x150644, 1, 0xfffffe, 0, 0x80000000, 0x7f000000, 0x800004, 0, 0, 0x1f⟩,
   ⟨0x800008, 0, 1, 0, 1, 1, 0, 0x7ffff, 0, 0, 0, 0, 0, 0, 0, 0⟩,
   ⟨0x800010, 0, 1, 0, 1, 2, 0, 0xffffffffffffffff, 0, 0, 0, 0, 0, 0, 0, 0⟩,
   ⟨0x800018, 0, 1, 0, 1, 2, 0, 0xffffffffffffffff, 0, 0, 0, 0, 0, 0, 0, 0⟩,
   ⟨0x800100, 4, 0x10, 0, 1, 1, 0x4ff, 0, 0x3ffff, 0, 0, 0xfffc0000, 0x800004, 0, 0, 0x1f⟩] ++
  [⟨0x800200, 0x40, 8, 0, 1, 2, 0, 0, 0, 0, 0, 0, 0, 0, 0, 0⟩,
   ⟨0x800208, 0x40, 8, 0, 1, 2, 0, 0, 0, 0, 0, 0, 0, 0, 0, 0⟩,
   ⟨0x800210, 0x40, 8, 0, 1, 2, 0, 0xffffffffffffffff, 0, 0, 0, 0, 0, 0, 0, 0⟩,
   ⟨0x800218, 0x40, 8, 0, 1, 2, 0, 0xffffffffffffffff, 0, 0, 0, 0, 0, 0, 0, 0⟩,
   ⟨0x800220, 0x40, 8, 0, 1, 1, 0, 0, 0, 0, 0, 0, 0, 0, 0, 0⟩,
   ⟨0x800224, 0x40, 8, 0, 1, 1, 0, 0, 0, 0, 0, 0, 0, 0, 0, 0⟩] ++
  [⟨0x800228, 0x40, 8, 0, 1, 1, 0x80, 0x7f0, 0, 0, 0, 0, 0, 0, 0, 0⟩,
   ⟨0x801000, 0x20, 0x100, 0, 1, 2, 0, 0xffffffffff80, 0, 0, 0, 0, 0, 0, 0, 0⟩,
   ⟨0x801008, 0x20, 0x100, 0, 1, 2, 0, 0xffffffffff80, 0, 0, 0, 0, 0, 0, 0, 0⟩,
   ⟨0x801010, 0x20, 0x100, 0, 1, 1, 0, 0x7fffffbf, 0, 0, 0, 0, 0, 0, 0, 0⟩,
   ⟨0x801014, 0x20, 0x100, 0, 1, 1, 0, 0, 0, 0, 0, 0, 0, 0, 0, 0⟩,
   ⟨0x801018, 0x20, 0x100, 0, 1, 1, 0, 0xffffff, 0, 0, 0, 0, 0, 0, 0, 0⟩] ++
  [⟨0x804000, 8, 0x100, 0, 1, 2, 0, 0, 0, 0, 0, 0, 0, 0, 0, 0⟩,
   ⟨0x806000, 8, 0x100, 0, 1, 2, 0, 0, 0, 0, 0, 0, 0, 0, 0, 0⟩,
   ⟨0x880000, 8, 0x10000, 0, 1, 2, 0, 0, 0, 0, 0, 0, 0, 0, 0, 0⟩]

/-- The registers of the CTX block. -/
def regsCtx : List RegDesc :=
  [⟨0x1000000, 0x40, 0x10000, 0, 1, 0x10, 0, 0xff00000001fffffff0ff0000000000000000fffffffffffffff0ffffffffffffffc0, 0, 0x100000000000000000000000000000000000000000000000000000000000000000000000000000000, 0, 0xfe0000000000000000000000000000000000000000000000000000000000, 0, 0, 0, 0⟩]

/-- The registers of the BM block. -/
def regsBm : List RegDesc :=
  [⟨0x900000, 0, 1, 0, 1, 1, 0, 0, 0, 0x10, 0, 0, 0, 0, 0, 0⟩,
   ⟨0x900004, 0, 1, 0, 1, 1, 0xc8, 0, 0x7fe, 0, 0x80000001, 0x7ffff800, 0x900004, 0, 0, 0x1f⟩,
   ⟨0x900008, 0, 1, 0, 1, 1, 0, 0, 0, 0xc00, 0, 0, 0, 0, 0, 0⟩,
   ⟨0x900010, 0, 1, 0, 1, 2, 0, 0, 0, 0, 0, 0, 0, 0, 0, 0⟩,
   ⟨0x900018, 0, 1, 0, 1, 2, 0, 0xffffffffffffffff, 0, 0, 0, 0, 0, 0, 0, 0⟩,
   ⟨0x901000, 0x40, 0x20, 0, 1, 1, 0, 0x7fffff, 0, 0, 0, 0xff800000, 0, 0, 0, 0⟩] ++
  [⟨0x901004, 0x40, 0x20, 0, 1, 1, 0, 0, 0, 0, 0, 0xfffffff0, 0, 0, 0, 0⟩,
   ⟨0x901008, 0x40, 0x20, 0, 1, 1, 0, 0, 0, 0x300, 0, 0, 0, 0, 0, 0⟩,
   ⟨0x90100c, 0x40, 0x20, 0, 1, 1, 0xffffffff, 0, 0, 0, 0, 0, 0, 0, 0, 0⟩,
   ⟨0x901010, 0x40, 0x20, 0, 1, 2, 0, 0xffffffffffffffff, 0, 0, 0, 0, 0, 0, 0, 0⟩,
   ⟨0x901018, 0x40, 0x20, 0, 1, 2, 0, 0, 0, 0, 0, 0, 0, 0, 0, 0⟩]

/-- The registers of the CH block. -/
def regsCh : List RegDesc :=
  [⟨0xa00000, 0x10000, 8, 0, 1, 1, 0, 0, 0, 0xc00000, 0, 0, 0, 0, 0, 0⟩,
   ⟨0xa00004, 0x10000, 8, 0, 1, 1, 1, 0, 0xf, 0, 0x80000010, 0x7fffffe0, 0xa00004, 0x10000, 0, 0x1f⟩,
   ⟨0xa00008, 0x10000, 8, 0, 1, 1, 0x700, 0xf, 0xf00, 0, 0x10, 0xe0, 0xa00004, 0x10000, 0, 0x1f⟩,
   ⟨0xa00010, 0x10000, 8, 0, 1, 2, 0, 0x7fff7fff7fffffff, 0, 0x8000800080000000, 0, 0, 0, 0, 0, 0⟩,
   ⟨0xa00018, 0x10000, 8, 0, 1, 2, 0, 0xffffffffffffffff, 0, 0, 0, 0, 0, 0, 0, 0⟩,
   ⟨0xa00020, 0x10000, 8, 0, 1, 2, 0, 0xffffffffffffffff, 0, 0, 0, 0, 0, 0, 0, 0⟩] ++
  [⟨0xa01000, 0, 1, 0, 1, 1, 0, 0, 0x1fff, 0, 0x80000000, 0x7fffe000, 0xa01000, 0, 0, 0x1f⟩,
   ⟨0xa01004, 0, 1, 0, 1, 1, 0x29428f, 0, 0x3ffffff, 0, 0x80000000, 0x7c000000, 0xa01004, 0, 0, 0x1f⟩,
   ⟨0xa01008, 0, 1, 0, 1, 1, 0, 0, 0x1ff, 0, 0x80100000, 0x7fe00000, 0xa01008, 0, 0, 0x1f⟩,
   ⟨0xa0100c, 0, 1, 0, 1, 1, 0x140, 0, 0x3ff, 0, 0x80000000, 0x7ffff800, 0xa0100c, 0, 0, 0x1f⟩,
   ⟨0xa01010, 0, 1, 0, 1, 2, 0, 0, 0, 0, 0, 0, 0, 0, 0, 0⟩,
   ⟨0xa01018, 0, 1, 0, 1, 1, 0, 0, 0, 0, 0, 0, 0, 0, 0, 0⟩] ++
  [⟨0xa01020, 0, 1, 0, 1, 2, 0, 0, 0, 0, 0, 0, 0, 0, 0, 0⟩,
   ⟨0xa01100, 0x10, 8, 0, 1, 4, 0, 0xffffffffffffffffffffffffffffffff, 0, 0, 0, 0, 0, 0, 0, 0⟩,
   ⟨0xa08000, 4, 0x1000, 0, 1, 1, 0, 0x3ff, 0, 0, 0, 0xfffffc00, 0, 0, 0, 0⟩]

/-- The registers of the HP block. -/
def regsHp : List RegDesc :=
  [⟨0xb00000, 0x10000, 2, 0x4000, 2, 1, 0, 0, 0, 0x300000, 0, 0, 0, 0, 0, 0⟩,
   ⟨0xb00008, 0x10000, 2, 0x4000, 2, 2, 0x40000000001, 0, 0xfffffffffff, 0, 0x8000000000000000, 0x7ffff00000000000, 0xb00008, 0x10000, 0x4000, 0x3f⟩,
   ⟨0xb00010, 0x10000, 2, 0x4000, 2, 1, 0, 0, 0xffffffff, 0, 0, 0, 0xb00008, 0x10000, 0x4000, 0x3f⟩,
   ⟨0xb00014, 0x10000, 2, 0x4000, 2, 1, 0, 0xffa, 0xf000, 0, 4, 0, 0xb00008, 0x10000, 0x4000, 0x3f⟩,
   ⟨0xb00018, 0x10000, 2, 0x4000, 2, 2, 0, 0, 0, 0x8000000000000000, 0, 0, 0, 0, 0, 0⟩,
   ⟨0xb00020, 0x10000, 2, 0x4000, 2, 2, 0, 0xffffffffffffffff, 0, 0, 0, 0, 0, 0, 0, 0⟩] ++
  [⟨0xb00100, 0x10000, 2, 0x4000, 2, 0x40, 0, 0, 0, 0, 0, 0, 0, 0, 0, 0⟩,
   ⟨0xb00200, 0x10000, 2, 0x4000, 2, 0x40, 0, 0xffffffffffffffffffffffffffffffffffffffffffffffffffffffffffffffffffffffffffffffffffffffffffffffffffffffffffffffffffffffffffffffffffffffffffffffffffffffffffffffffffffffffffffffffffffffffffffffffffffffffffffffffffffffffffffffffffffffffffffffffffffffffffffffffffffffffffffffffffffffffffffffffffffffffffffffffffffffffffffffffffffffffffffffffffffffffffffffffffffffffffffffffffffffffffffffffffffffffffffffffffffffffffffffffffffffffffffffffffffffffffffffffffffffffffffffffffffffffffffffffffffffffffffffffffffffffffffffff, 0, 0, 0, 0, 0, 0, 0, 0⟩,
   ⟨0xb01010, 0x10000, 2, 0x10, 0x100, 4, 0, 0x7f0001ffff01ffffff, 0, 0, 0, 0xffffffffffffff80fffe0000fe000000, 0, 0, 0, 0⟩]

/-- The registers of the FJ block. -/
def regsFj : List RegDesc :=
  [⟨0xc00000, 0, 1, 0, 1, 1, 0, 0, 0, 0x20000, 0, 0, 0, 0, 0, 0⟩,
   ⟨0xc00004, 0, 1, 0, 1, 1, 0x82, 0, 0xff, 0, 0x80000000, 0x7fffff00, 0xc00004, 0, 0, 0x1f⟩,
   ⟨0xc00008, 0, 1, 0, 1, 1, 9, 0, 0x3ff, 0, 0x80000400, 0x7ffff000, 0xc00008, 0, 0, 0x1f⟩,
   ⟨0xc0000c, 0, 1, 0, 1, 1, 0, 0x7fffff, 0, 0x1000000, 0, 0, 0, 0, 0, 0⟩,
   ⟨0xc00010, 0, 1, 0, 1, 4, 0, 0, 0, 0x1000, 0, 0, 0, 0, 0, 0⟩,
   ⟨0xc00020, 4, 0x10, 0, 1, 1, 0, 0, 0, 0xffffffff, 0, 0, 0, 0, 0, 0⟩] ++
  [⟨0xc00060, 0, 1, 0, 1, 1, 0, 0, 0, 0x1ff01ff, 0, 0, 0, 0, 0, 0⟩,
   ⟨0xc00064, 0, 1, 0, 1, 1, 0, 0xfffff, 0, 0, 0, 0, 0, 0, 0, 0⟩,
   ⟨0xc00068, 0, 1, 0, 1, 1, 0, 0, 0, 0, 0, 0, 0, 0, 0, 0⟩,
   ⟨0xc00070, 0, 1, 0, 1, 2, 0, 0, 0, 0x30000000, 0, 0, 0, 0, 0, 0⟩,
   ⟨0xc00078, 0, 1, 0, 1, 2, 0, 0, 0, 0, 0, 0, 0, 0, 0, 0⟩,
   ⟨0xc00080, 0, 1, 0, 1, 2, 0, 0, 0, 0, 0, 0, 0, 0, 0, 0⟩] ++
  [⟨0xc00088, 0, 1, 0, 1, 2, 0, 0xffffffffffffffff, 0, 0, 0, 0, 0, 0, 0, 0⟩,
   ⟨0xc00090, 0, 1, 0, 1, 1, 0, 0, 0, 0, 0, 0, 0, 0, 0, 0⟩,
   ⟨0xc000c0, 0, 1, 0, 1, 0x10, 0, 0, 0, 0, 0, 0, 0, 0, 0, 0⟩,
   ⟨0xc01000, 8, 0x200, 0, 1, 2, 0, 0, 0x3fffffff, 0, 0x80000000, 0xffffffff40000000, 0xc00004, 0, 0, 0x1f⟩,
   ⟨0xc02000, 8, 0x200, 0, 1, 2, 0, 0xffffffff00000000, 0, 0xd, 0, 0, 0, 0, 0, 0⟩]

/-- The registers of the ST block. -/
def regsSt : List RegDesc :=
  [⟨0xd00000, 0, 1, 0, 1, 1, 0, 0, 0, 0, 0, 0, 0, 0, 0, 0⟩,
   ⟨0xd00004, 0, 1, 0, 1, 1, 0, 0, 0, 0x10002, 0, 0, 0, 0, 0, 0⟩,
   ⟨0xd00100, 0, 1, 0, 1, 1, 1, 0x60000, 0, 0, 0, 0, 0, 0, 0, 0⟩,
   ⟨0xd00104, 0, 1, 0, 1, 1, 0, 0xf, 0, 0x60, 0x10, 0, 0, 0, 0, 0⟩,
   ⟨0xd00108, 0, 1, 0, 1, 1, 0, 0, 0, 0, 0, 0, 0, 0, 0, 0⟩,
   ⟨0xd0010c, 0, 1, 0, 1, 1, 0, 0, 0, 0, 0, 0, 0, 0, 0, 0⟩] ++
  [⟨0xd00200, 0, 1, 0, 1, 2, 0x5dc02ee03840258, 0, 0x7ff07ff03ff03ff, 0, 0x8000000000000000, 0x7800f800fc00fc00, 0xd00200, 0, 0, 0x3f⟩,
   ⟨0xd00208, 0, 1, 0, 1, 1, 0x1a630, 0, 0x3ffff, 0, 0x80000000, 0x7ffc0000, 0xd00208, 0, 0, 0x1f⟩,
   ⟨0xd0020c, 0, 1, 0, 1, 1, 0, 0, 0, 0x4000000, 0, 0, 0, 0, 0, 0⟩,
   ⟨0xd00210, 0, 1, 0, 1, 2, 0, 0xffffffffffffffff, 0, 0, 0, 0, 0, 0, 0, 0⟩,
   ⟨0xd00218, 0, 1, 0, 1, 1, 0x18, 0, 0, 0, 0, 0, 0, 0, 0, 0⟩,
   ⟨0xd00220, 0, 1, 0, 1, 2, 0, 0, 0, 0, 0, 0, 0, 0, 0, 0⟩] ++
  [⟨0xd00400, 0, 1, 0, 1, 1, 0, 0x3ff, 0, 0, 0x80000000, 0, 0, 0, 0, 0⟩,
   ⟨0xd00410, 0x10, 0x10, 0, 1, 4, 0, 0, 0, 0, 0, 0, 0, 0, 0, 0⟩]

/-- The registers of the TMR block. -/
def regsTmr : List RegDesc :=
  [⟨0xe00000, 0, 1, 0, 1, 1, 0, 0, 0, 0x28, 0, 0, 0, 0, 0, 0⟩,
   ⟨0xe00004, 0, 1, 0, 1, 1, 0x3e8190, 0, 0x7ffffff, 0, 0x80000000, 0x78000000, 0xe00004, 0, 0, 0x1f⟩,
   ⟨0xe00008, 0, 1, 0, 1, 2, 0, 0, 0, 0, 0, 0, 0, 0, 0, 0⟩,
   ⟨0xe00010, 0, 1, 0, 1, 2, 0, 0, 0, 0, 0, 0, 0, 0, 0, 0⟩,
   ⟨0xe00018, 0, 1, 0, 1, 1, 0, 0, 0, 0, 0, 0, 0, 0, 0, 0⟩,
   ⟨0xe00020, 0, 1, 0, 1, 2, 0, 0, 0, 0, 0, 0, 0, 0, 0, 0⟩] ++
  [⟨0xe00100, 0x40, 0x10, 0, 1, 1, 0, 0x7ffff, 0, 0, 0x80000000, 0x7ff80000, 0xe00100, 0x40, 0, 0x1f⟩,
   ⟨0xe00104, 0x40, 0x10, 0, 1, 1, 0x100, 0xffffffff, 0, 0, 0, 0, 0, 0, 0, 0⟩,
   ⟨0xe00108, 0x40, 0x10, 0, 1, 1, 0xffffffff, 0xffffffff, 0, 0, 0, 0, 0, 0, 0, 0⟩,
   ⟨0xe0010c, 0x40, 0x10, 0, 1, 1, 0, 0xffffffff, 0, 0, 0, 0, 0, 0, 0, 0⟩,
   ⟨0xe00110, 0x40, 0x10, 0, 1, 1, 0, 0xffffffff, 0, 0, 0, 0, 0, 0, 0, 0⟩,
   ⟨0xe00114, 0x40, 0x10, 0, 1, 1, 0, 0xffffffff, 0, 0, 0, 0, 0, 0, 0, 0⟩] ++
  [⟨0xe00118, 0x40, 0x10, 0, 1, 1, 0, 0xfffffff, 0, 0, 0, 0xf0000000, 0, 0, 0, 0⟩,
   ⟨0xe0011c, 0x40, 0x10, 0, 1, 1, 0, 0xff000, 0, 0x10083f, 0, 0, 0, 0, 0, 0⟩,
   ⟨0xe00120, 0x40, 0x10, 0, 1, 2, 0, 0, 0, 0, 0, 0, 0, 0, 0, 0⟩]

/-- The registers of the SEC block. -/
def regsSec : List RegDesc :=
  [⟨0xf00000, 0, 1, 0, 1, 1, 0, 0, 0, 0, 0, 0, 0, 0, 0, 0⟩,
   ⟨0xf00004, 0, 1, 0, 1, 1, 1, 0, 1, 0, 0x80000000, 0x7ffffffe, 0xf00004, 0, 0, 0x1f⟩,
   ⟨0xf00008, 0, 1, 0, 1, 1, 0x1500, 0, 0xf3fff, 0, 0, 0xfff0c000, 0xf00004, 0, 0, 0x1f⟩,
   ⟨0xf0000c, 0, 1, 0, 1, 1, 0, 0, 0, 0x7f, 0, 0, 0, 0, 0, 0⟩,
   ⟨0xf00010, 0, 1, 0, 1, 1, 0, 0xfffff, 0, 0, 0x100000, 0, 0, 0, 0, 0⟩,
   ⟨0xf00014, 0, 1, 0, 1, 1, 0, 0, 0, 0, 0, 0, 0, 0, 0, 0⟩] ++
  [⟨0xf00018, 0, 1, 0, 1, 1, 0, 0, 0, 0, 0, 0, 0, 0, 0, 0⟩,
   ⟨0xf00020, 0, 1, 0, 1, 2, 0, 0, 0, 0, 0, 0, 0, 0, 0, 0⟩]

end Sys2Proof.Machine
end

