-- ==== Sys2Proof/Machine/State.lean ====
section
/-! DEFINITION. Sys2Proof/Machine/State.lean: everything the spec gives the machine, as plain data; the outcomes a
meaning may end in; and the machine right after reset. Registers of the control space live in `regs`, one entry for
each 32-bit word whose value differs from its reset value (Machine/RegMap.lean has the reset values); what the spec
gives the machine beside registers has a field of its own. -/
namespace Sys2Proof.Machine

/-- The reasons a meaning stops with a fault. -/
inductive Fault
  /-- Raised by a command whose operands no hardware can send (`Instr.wellFormed` is false: a Ticket that is not
  64 bytes, a payload longer than its frame). Safe: the spec gives such a command no meaning. -/
  | illFormed
  deriving DecidableEq, Repr

/-- The reasons a meaning is refused. -/
inductive Refusal
  /-- Raised by an arm of `exec` whose instruction has no meaning in this model yet. Safe. -/
  | notModelled (mnemonic : String)
  deriving DecidableEq, Repr

/-! ### Sequencers (R220 to R286) -/

/-- What a sequencer holds once for each world (R264): the exception registers, the return stack (R241; an entry is
the word address in bits [18:2]) and the segment descriptors (R25). -/
structure WorldCtx where
  era : Word
  esr : W32
  ecause : W32
  eaddr : Word
  rsTop : BitVec 4
  rsDepth : Nat
  rse : Vector (BitVec 17) 16
  sg : Vector SegDesc 64
  deriving DecidableEq, Repr

/-- The architectural registers of one sequencer (R224 to R226, R29, R258), and its program counter. -/
structure Arch where
  g : Vector Word 64
  vd : Vector VecDesc 32
  ssr : W32
  gen : WorldCtx
  sec : WorldCtx
  dra : Word
  dsr : W32
  dcause : W32
  dfault : Bool
  pc : BitVec 19
  deriving DecidableEq, Repr

/-- Where an access goes (R27, R234, R244): local Vector Memory, the Oven's local store, control space, program
memory, or a remote device (its ID, and its local store or Vector Memory as the STORE code of Table 12-4). -/
inductive Target
  | vm
  | ls
  | ctl
  | pm
  | remote (dev : Nat) (store : Nat)
  deriving DecidableEq, Repr

/-- A scalar access on its way (R232, R235, R246): its operation, registers, place, size, and the segment and offset
an exception would report. `data` and `data2` are the operands of a scalar atomic. -/
structure Access where
  op : MemOp
  isPld : Bool
  dst : Fin 64
  tgt : Target
  addr : Nat
  size : Nat
  seg : Fin 64
  off : Nat
  world : Bool
  sup : Bool
  misaligned : Bool
  data : Nat
  data2 : Nat
  deriving DecidableEq, Repr

/-- What a branch Loaf comes to (R237, R252): a known target, or none where it is not taken; or a prediction. -/
inductive BrDecision
  | known (target : Option (BitVec 19))
  | predicted (target : Option (BitVec 19))
  deriving DecidableEq, Repr

/-- A buffered scalar store (R194). `sent` is set once a remote store is on its way and its acknowledgement awaited. -/
structure SbEntry where
  tgt : Target
  addr : Nat
  size : Nat
  data : Nat
  seg : Fin 64
  off : Nat
  world : Bool
  sup : Bool
  sent : Bool
  deriving DecidableEq, Repr

/-- What an entry of `spec` waits for: a scalar access to return (R271), of a branch Loaf or its delay Loaf where `pair`
names the pair; a predicted branch to resolve (R211), with the registers after its Loaf and its delay Loaf; or a branch
Loaf that has executed to retire with its delay Loaf (R239), with the stores it holds back. `sent` says that an access
has left for its unit or device, `failed` that it received an error response, and `ran` that the delay Loaf is done. -/
inductive SpecKind
  | access (a : Access) (pair : Option Nat) (sent failed : Bool)
  | branch (br delay : List Syl) (target : Option (BitVec 19)) (after : Arch) (pair : Nat)
  | pair (br : List Syl) (stores : List SbEntry) (dec : BrDecision) (ran : Bool)
  deriving DecidableEq, Repr

/-- An access shadow, a branch or a pair that is not finished, oldest first in `Seq.spec`: the registers as they stood
before its Loaf, that Loaf's address, the Loafs executed under it and not yet retired (R257), and what it waits for. -/
structure SpecRec where
  id : Nat
  ckpt : Arch
  loafPc : BitVec 19
  loafs : Nat
  kind : SpecKind
  deriving DecidableEq, Repr

/-- A pending LATE_BUS_ERROR of one world (R272). -/
structure LateErr where
  seg : Fin 64
  off : Nat
  multi : Bool
  deriving DecidableEq, Repr

/-- The kind of a branch target buffer entry (R253). -/
inductive BtbKind
  | conditional | direct | indirect
  deriving DecidableEq, Repr

/-- A valid entry of the branch target buffer (R253, R254); `Seq.btb` lists them most recently used first. -/
structure BtbEntry where
  set : Nat
  pcTag : Nat
  world : Bool
  sup : Bool
  ctx : Nat
  target : BitVec 17
  counter : Nat
  kind : BtbKind
  deriving DecidableEq, Repr

/-! ### Vector instructions (R25 to R147) -/

/-- One stream of an instruction with its copies (R30): the descriptor, its segment number, and the segment. -/
structure Stream where
  key : StreamKey
  desc : VecDesc
  segNo : Nat
  seg : SegDesc
  deriving DecidableEq, Repr

/-- An element in the machine: its bits and its poison mark (R57). -/
structure LElem where
  v : Nat
  psn : Bool
  deriving DecidableEq, Repr

/-- The data of one Slice of one stream, arrived at its load engine (R114, R121). An absent lane holds none. -/
structure Buf where
  key : StreamKey
  slice : Nat
  lanes : List (Option LElem)
  deriving DecidableEq, Repr

/-- A vector fault found in an instruction (R46, Table 2-8). -/
structure VFault where
  k : Nat
  cause : Nat
  opnd : Nat
  fromIdx : Bool
  fromMask : Bool
  seg : Nat
  off : Int
  idx : Int
  deriving DecidableEq, Repr

/-- One element of an atomic instruction that has committed and waits to enter its unit's queue (R126, R165). -/
structure AtomSend where
  elem : Nat
  tgt : Target
  addr : Nat
  v : Nat
  psn : Bool
  deriving DecidableEq, Repr

/-- A vector instruction outstanding in a sequencer, or stopped in its record. `done` is the Commit Horizon as an
element number: every element below it has committed. `acc` is the partial result of a reduction or a running sum,
`count` the active elements packed so far, `part` the lanes of a Slice that a reduction has taken only in part.
`replays` counts the replays of the oldest uncommitted Slice (R132). `unpred` marks an unchecked error of R28 or R43.
`ord` is its place in the order of issue, which VRESTART gives anew (R55). -/
structure VIns where
  id : Nat
  op : VOpc
  syl : VSyl
  world : Bool
  sup : Bool
  ct : Bool
  streams : List Stream
  scal : Nat
  n : Nat
  grp : Nat
  spec : Nat
  wait : List Nat
  done : Nat
  bufs : List Buf
  fault : Option VFault
  sends : List AtomSend
  unacked : List Nat
  acc : Nat
  accPsn : Bool
  accFl : Nat
  count : Nat
  part : List (Option LElem)
  replays : Nat
  recipe : Nat
  unpred : Bool
  ord : Nat
  deriving DecidableEq, Repr

/-- The vector fault record (R50 to R52): the first fault, and the stopped instructions in issue order. `again` is
set when an instruction issued under R56 faulted and was discarded; `mark` is the first number given after delivery. -/
structure VRec where
  valid : Bool
  pending : Bool
  first : Option VFault
  fent : Nat
  world : Bool
  sup : Bool
  entries : List VIns
  again : Bool
  mark : Nat
  deriving DecidableEq, Repr

/-- One element's write to memory: whole bytes, or one bit of a BIT stream (R31), with its poison mark (R160). -/
inductive EWrite
  | bytes (addr : Nat) (data : List Byte) (psn : Bool)
  | bit (addr : Nat) (idx : Nat) (v : Bool) (psn : Bool)
  deriving DecidableEq, Repr

/-- A committed entry of a store engine (R122, R126, R127). An E entry of an atomic instruction is not drainable
until its acknowledgements have filled it (R99): `elems` numbers its elements, and `missing` lists those it still lacks. `sent` counts the
acknowledgements a remote entry awaits, once its writes have been sent. -/
structure StoreEntry where
  vid : Nat
  pos : Nat
  slice : Nat
  side : Bool
  world : Bool
  tgt : Target
  writes : List EWrite
  elems : List Nat
  missing : List Nat
  sent : Option Nat
  deriving DecidableEq, Repr

/-- A C operation that finishes after its Loaf (R245, R268, R278): its syllable, the registers that stood before its
Loaf, and for GATE the descriptor that supplies the fields and whether the Secure world is entered from the General. -/
structure Tail where
  op : Syl
  pre : Arch
  desc : BitVec 128
  cross : Bool
  deriving DecidableEq, Repr

/-- A sequencer: its registers, the Loaf it assembles, the pair record whose delay Loaf comes next (R239), complete Loafs
that hold, the Loaf whose divide runs (R230), the C operation of a Loaf that waits to finish with the registers that
stood before it (R270), and its buffers. `cycle` counts thousandths of core clocks (Table 7-3). -/
structure Seq where
  arch : Arch
  cycle : Nat
  asm : List Syl
  delayOf : Option Nat
  waiting : List (List Syl)
  div : Option (List Syl)
  tail : Option Tail
  spec : List SpecRec
  nextId : Nat
  sb : List SbEntry
  lateGen : Option LateErr
  lateSec : Option LateErr
  btb : List BtbEntry
  gateEntered : Bool
  outs : List VIns
  openGrp : Option Nat
  vrec : VRec
  cbuf : List StoreEntry
  deriving DecidableEq, Repr

/-! ### Vector Memory (R148 to R189) -/

/-- The stored state of a Granule (Table 5-2). Unlisted Granules are clean. -/
inductive GClass
  | clean | corrected | poisoned | uncorrectable
  deriving DecidableEq, Repr

/-- Who sent an element to a bank-side atomic unit: a vector instruction, a scalar atomic, a remote device's
request, by what its answer must find. -/
inductive AtomSrc
  | vec (seq : Fin 9) (vid elem : Nat)
  | scalar (seq : Fin 9) (recId : Nat)
  | chain (port : Fin 8) (src tag : Nat)
  deriving DecidableEq, Repr

/-- The operations an atomic unit applies: the vector opcodes, and the scalar forms of R232. -/
inductive AtomOp
  | vec (op : VOpc)
  | add | swap | cas (cmp : Nat)
  deriving DecidableEq, Repr

/-- A queued atomic element (R165): its unit, location, element types, operand, poison mark, and the Lease of the
pipe that sent it. -/
structure AtomEl where
  unit : Nat
  addr : Nat
  size : Nat
  op : AtomOp
  ety : Nat
  aty : Nat
  v : Nat
  psn : Bool
  src : AtomSrc
  lease : Nat
  world : Bool
  deriving DecidableEq, Repr

/-- The acknowledgement of an applied element (R99): its status, flags, old value with poison mark, or an error. -/
structure AtomAck where
  unit : Nat
  src : AtomSrc
  st : Nat
  fl : Nat
  old : Nat
  psn : Bool
  merge : Bool
  err : Bool
  deriving DecidableEq, Repr

/-- A line buffer of an atomic unit (R164), in the order of use in `VMem.lines`, most recent first. -/
structure UnitLine where
  unit : Nat
  granule : Nat
  dirty : Bool
  deriving DecidableEq, Repr

/-- A request queued at a bank front-end (R153). A read has no data. -/
structure BankReq where
  bank : Nat
  addr : Nat
  size : Nat
  data : Option (List Byte)
  ra : Bool
  deriving DecidableEq, Repr

/-- The answer of a front-end to a request: read data with its class, REMAP, or an error. -/
structure BankResp where
  addr : Nat
  data : List Byte
  psn : Bool
  remap : Bool
  err : Bool
  deriving DecidableEq, Repr

/-- A row served from a spare row of its physical bank (R177), and whether Proofing has fused it. -/
structure RowEntry where
  bank : Nat
  spare : Nat
  row : Nat
  fused : Bool
  deriving DecidableEq, Repr

/-- A queued region migration (R173). -/
structure MigJob where
  region : Nat
  key : Nat
  software : Bool
  deriving DecidableEq, Repr

/-- Vector Memory. `bytes` holds what the Granules hold as software sees them (a location's bank never shows, R148 to
R150), `cls` the Granules that are not clean. `scrubQ` are the scrub priority lists of the four tiers (R157), `patrol`
the next slot of each tier's patrol, `found` the corrected Granules of each region's pass in a tier, `fast` the regions
(by region × 4 + tier) scrubbed at the faster rate. `act` counts row activations since the row's refresh (R163),
`ceSeen` the (bank, row, granule) triples with corrected errors in the VM_CE window (R177), `ueSeen` the banks of the
VM_UE events in their window (R178); `rowDue` and `bankDue` are the repairs triggered and not yet made, `rowHeld` and
`bankHeld` those that AUTO_ROW or AUTO_REGROW = 0 holds back. `placeAcc` is the monitor's count of the open window
(R170), `swapped` the pairs (by their lower bank) already swapped in the stripe being migrated (R174), `tsense` the
tiers whose sensor reading is lost (R162), `tadTier` the tier of Tadpole's map (R151). -/
structure VMem where
  bytes : List Host.Cell
  cls : List (Nat × GClass)
  scrubQ : List Nat
  patrol : List (Nat × Nat)
  found : List (Nat × Nat)
  fast : List Nat
  atomQ : List AtomEl
  atomWait : List AtomEl
  atomAcks : List AtomAck
  lines : List UnitLine
  bankQ : List BankReq
  bankResp : List BankResp
  act : List (Nat × Nat)
  ceSeen : List (Nat × Nat × Nat)
  ueSeen : List Nat
  rowDue : List (Nat × Nat)
  rowHeld : List (Nat × Nat)
  bankDue : List Nat
  bankHeld : List Nat
  rows : List RowEntry
  bankMap : List (Nat × Nat)
  lostBanks : List Nat
  lostUnits : List Nat
  placeAcc : List (Nat × Nat)
  migQ : List MigJob
  swapped : List Nat
  tsense : List Nat
  tadTier : Nat
  deriving DecidableEq, Repr

/-! ### The Fault and Journal Unit (R442 to R484) -/

/-- One half of the Journal (R457, R460, R462, R463): its slots, unlisted slots holding no record, the slots marked
bad, the slot each area writes next, its failure, and the completed passes of its fault ring. -/
structure JHalf where
  slots : List (Nat × BitVec 512)
  bad : List Nat
  headBoot : Nat
  headCfg : Nat
  headFault : Nat
  failed : Bool
  passes : Nat
  wearRaised : Bool
  deriving DecidableEq, Repr

/-- A reaction (R449, R450, R453): the source and unit of the trip, its ACTION, the record under construction, and
whether FJ_FIRST holds its event. -/
structure Reaction where
  src : Nat
  unit : Nat
  action : Nat
  bits : BitVec 512
  first : Bool
  deriving DecidableEq, Repr

/-- A Regrow in progress (R475): the spare's unit ID, the unit it replaces, and its record. -/
structure Regrow where
  spare : Nat
  lost : Nat
  bits : BitVec 512
  deriving DecidableEq, Repr

/-- What the unit holds beside its registers. `wclose` is when the open window of a source closes and `tripped` the
sources that have tripped in it (R446); `jq` the record queue (R459), oldest first; `repairs` the units whose last
trigger waits for FJ_REQ (R479), with ACTION × 2^20. The alert episode of R456 is open from its fall to its rise; `alertMin` says that
its minimum low time has passed, `alertHigh` that the high time of pulse mode runs, and `alertNext` that an episode
waits for its end. `firstSeq` is the SEQ that FJ_FIRST.JSEQ will take (R451), and
`fatal` the source of a FATAL event whose change of mode is due (R448). `flA` and `flB` count the slots that each
half retires during a Hold-up flush (R507), `flAt` is when the flush began and `flN` counts the records it has written. -/
structure FaultUnit where
  running : List Reaction
  queued : List Reaction
  onSource : List Reaction
  regrows : List Regrow
  repairs : List Nat
  wclose : List (Nat × Nat)
  tripped : List Nat
  jq : List (BitVec 512)
  alertOpen : Bool
  alertMin : Bool
  alertHigh : Bool
  alertNext : Bool
  firstSeq : Nat
  fatal : Option Nat
  flA : Nat
  flB : Nat
  flAt : Nat
  flN : Nat
  deriving DecidableEq, Repr

/-- What outlives the loss of every supply: the two halves of the Journal and the next SEQ (R461); the saved and
boot-area objects (R546, R511) by index × 256 + subindex; the saved Unit State Table (R469); the fuses and the vault
(R590, R596): life-cycle state, epoch, revocations, claim key slots, WIPE_PEND; and how the
present run ended, for LAST_END of the next start (R508). -/
structure Durable where
  ja : JHalf
  jb : JHalf
  jnext : Nat
  saved : List (Nat × List Byte)
  boot : List (Nat × List Byte)
  savedUst : List (Nat × W32)
  lc : Nat
  epoch : Nat
  revoked : Nat
  keys : Vector (BitVec 256) 4
  wipePend : Bool
  lastEnd : Nat
  deriving DecidableEq, Repr

/-! ### The Starter: modes, power, the time base and timers, the dictionary, ownership, security -/

/-- A write accepted by a posted block and not yet applied (R617), oldest first in `Starter.posted`. -/
structure Posted where
  master : Nat
  world : Bool
  sup : Bool
  addr : Nat
  size : Nat
  data : Nat
  deriving DecidableEq, Repr

/-- What a timer holds beside its registers (R579, R586): its prescaler's accumulator, its captures with their GAP
marks, and whether the next capture has GAP = 1. -/
structure Timer where
  acc : Nat
  caps : List (W32 × Bool)
  gapNext : Bool
  deriving DecidableEq, Repr

/-- An action on its way to a linked timer (R584), and who is linked. -/
structure LinkAct where
  target : Fin 16
  code : Nat
  deriving DecidableEq, Repr

/-- A Jenzia frame on its way out: its path (R549), FUNC, DST, SRC and payload. -/
structure Frame where
  path : Nat
  func : Nat
  dst : Nat
  src : Nat
  data : List Byte
  deriving DecidableEq, Repr

/-- A request served, kept for 1 s against repeats (R554), with its answer. -/
structure Served where
  src : Nat
  tid : Nat
  req : List Byte
  resp : List Byte
  at_ : Nat
  deriving DecidableEq, Repr

/-- A segmented transfer (R552): who runs it, whether the device sends (a READ), the value or the part received, the
next segment expected or the first unacknowledged one, the next one to send, whether a resend has been made, and the
request's payload. -/
structure Xfer where
  path : Nat
  src : Nat
  tid : Nat
  index : Nat
  sub : Nat
  sending : Bool
  data : List Byte
  total : Nat
  base : Nat
  next : Nat
  resent : Bool
  req : List Byte
  deriving DecidableEq, Repr

/-- A frame relayed over the chain (R562): whose answers go back by its path, and whether one has come. -/
structure Relay where
  path : Nat
  src : Nat
  dst : Nat
  tid : Nat
  index : Nat
  sub : Nat
  answered : Bool
  deriving DecidableEq, Repr

/-- A claimant: its address, path, PRIO, lease in ms, transaction tag and key slot (R564, R567). -/
structure Claimant where
  src : Nat
  path : Nat
  prio : Nat
  lease : Nat
  tid : Nat
  key : Nat
  deriving DecidableEq, Repr

/-- Ownership (R563 to R572): the owner, when its lease ends, its last counter, the candidates of an open election,
and the armed successor (address, path). -/
structure Owning where
  owner : Option Claimant
  leaseEnd : Nat
  counter : Nat
  electing : Bool
  electEnd : Nat
  cands : List Claimant
  succ : Option (Nat × Nat)
  succEnd : Nat
  deriving DecidableEq, Repr

/-- What the Starter holds beside its registers. Modes (R485 to R492): `base` is the base mode, and `holdup` and
`wipe` the two laid over every other (`wipe` with its scope, and whether the base die was powered at its entry);
`quiesce` the requested mode whose quiescing runs (with 16 added where the idle policy asked for it);
`known` the base die's registers as they stood when it was last powered (R556); `wake` a wake that waits for admission or for the end of an entry;
`triesBefore` BOOT_TRIES before the start's increment, while it has not cleared (`triesOpen`); `restart` a restart
that waits for RESTART_DELAY; `barred` set when no automatic start is made. Power (R522 to R536): whether a reference
was ever locked, the reference a running switch goes to, the first test of this start, the
state of charge of a pack in units of 2^-48, the valve's last command (FIX16.16 %), a failed coolant sensor, the
integral and feed-forward terms of the coolant loop in units of 2^-16 %, a forced-open valve, the valid-sensor loss.
The time base (R573, R576): its value, its fraction in units of 10^-9 ns, and the last eight offsets' verdicts. Security
(R596 to R600): CHALLENGE, the blocks passed since a failed test, the draw that each context's branch target secret
comes from (by context, and by sequencer above 9,216), the
life-cycle state that this boot runs in (R592), the samples each tamper input has missed, and the TAP's
instruction. `mgmtFrom` is the device through which an address last reached this one over the chain (R562). -/
structure Starter where
  base : Nat
  holdup : Bool
  wipe : Option (Bool × Bool)
  quiesce : Option Nat
  known : List (Nat × W32)
  wake : Bool
  triesBefore : Nat
  triesOpen : Bool
  restart : Bool
  barred : Bool
  extest : Bool
  locked : Bool
  switchTo : Option Nat
  tested : Bool
  testDue : Bool
  soc : Int
  valve : Nat
  coolBad : Bool
  coolI : Int
  coolFF : Int
  valveOpen : Bool
  chgPin : Bool
  testPin : Bool
  tb : Nat
  tbFrac : Int
  offs : List Bool
  posted : List Posted
  timers : Vector Timer 16
  links : List LinkAct
  dict : List (Nat × List Byte)
  served : List Served
  xfers : List Xfer
  relays : List Relay
  own : Owning
  canEn : Nat
  canState : List (Nat × Nat)
  mgmtFrom : List (Nat × Nat)
  canTx : List Frame
  emcySent : List (Nat × Nat)
  challenge : Word
  rngGood : Nat
  secrets : List (Nat × Nat)
  secDraw : Nat
  lc : Nat
  tamperMiss : List (Nat × Nat)
  tap : Nat
  deriving DecidableEq, Repr

/-- A staged word of a wide register (R612): its address, the master that wrote it, and the word. `State.wideRd` holds
the captured copies, by register address × 32 + world × 16 + master. -/
structure StagedWord where
  addr : Nat
  master : Nat
  data : W32
  deriving DecidableEq, Repr

/-! ### Local stores and the control fabric (R328 to R355) -/

/-- A wipe that runs in a store (R337, R338): the part, and the size it leaves when it releases blocks. -/
structure LsWipe where
  store : Nat
  lo : Nat
  hi : Nat
  size : Option Nat
  deriving DecidableEq, Repr

/-- A march run (R340 to R343): its store, whether it preserves, its banks. -/
structure March where
  store : Nat
  preserve : Bool
  banks : Nat
  deriving DecidableEq, Repr

/-- The fabric: requests that wait at their ports, the master each port is parked on and last granted (by port number),
and the answers given, newest last: the request, its error code (0 for none) and the data read. -/
structure Fabric where
  waiting : List FabReq
  parked : List (Nat × Nat)
  answers : List (FabReq × Nat × Nat)
  deriving DecidableEq, Repr

/-! ### The Queue Engine (R287 to R327) and the host ports (R422 to R441) -/

/-- Where a Ticket that holds a fetch buffer stands (R299 to R304, R316): its read is out; it waits for a slot; it
stands in a slot of an Oven; or its sequencer was lost. -/
inductive TktAt
  | reading
  | waiting
  | slot (oven slot : Nat)
  | lost
  deriving DecidableEq, Repr

/-- A fetch buffer (R299, R304): its Ticket's queue, SEQNO, ring index and port, where it stands, the copy, the BUF_REQ
buffer (pool and number), RCOUNT, whether its completion is abandoned (R291), and the sequencer it was given to. -/
structure Tkt where
  queue : Nat
  seqno : Nat
  index : Nat
  at_ : TktAt
  data : BitVec 512
  buf : Option (Nat × Nat)
  rcount : Nat
  gone : Bool
  unit : Nat
  deriving DecidableEq, Repr

/-- Who holds a pool buffer (Table 9-10): a sequencer, a function of a host endpoint, the Starter, or a queue with the
Ticket's SEQNO (none after a HAND). -/
inductive Holder
  | unit (u : Nat)
  | host (ep f : Nat)
  | starter
  | queue (q : Nat) (seqno : Option Nat)
  deriving DecidableEq, Repr

/-- A buffer pool (R311 to R314): buffers numbered `next` and up have not been granted since INIT and stand at the head
of the ring, the numbers of `ring` behind them; the held buffers; and the requester last granted. -/
structure Pool where
  next : Nat
  ring : List Nat
  held : List (Nat × Holder)
  last : Nat
  deriving DecidableEq, Repr

/-- A request for a buffer that waits (R311, R313). -/
structure PoolReq where
  pool : Nat
  who : Master
  holder : Holder
  world : Bool
  deriving DecidableEq, Repr

/-- What the Queue Engine holds beside its registers and the queue contexts: fetch buffers in the order of fetch; the
dispatches not yet read (Oven, world, slot); the scheduler's deficits, the class last served of each priority and one more
than the queue last served of each class (R299); classes whose QE_AFFINITY was raised (R301); parked queues with their pools (R305); pools and
waiting requests; the entries written and not yet consumed (queue, index, entry), which R435 writes again; queues moved
to an endpoint (R435); Ovens with a wake request on its way or waking; and when the last feed-forward left (R309). -/
structure QueueEng where
  tkts : List Tkt
  unread : List (Nat × Bool × Nat)
  deficit : List (Nat × Nat)
  lastClass : List (Nat × Nat)
  lastQueue : List (Nat × Nat)
  affinity : List Nat
  parked : List (Nat × Nat)
  pools : List (Nat × Pool)
  poolWait : List PoolReq
  cpls : List (Nat × Nat × BitVec 128)
  moved : List (Nat × Nat)
  wakes : List Nat
  waking : List Nat
  ffAt : Nat
  deriving DecidableEq, Repr

/-- What a host port sends (R207, R431), in order: a write by a function (numbered port-wide as R424 does) with its EP mark
(Table 11-5), or an MSI-X message with its address and data. -/
inductive HostOut
  | write (ep func addr : Nat) (data : List Byte) (poison : Bool)
  | msix (ep f vec addr data : Nat)
  deriving DecidableEq, Repr

/-- An answer to a host's read (R430): the request's address, its status (0 successful, 1 UR, 2 CA), data and EP mark. -/
structure HostResp where
  ep : Nat
  addr : Nat
  status : Nat
  data : List Byte
  poison : Bool
  deriving DecidableEq, Repr

/-- What a host endpoint holds beside its registers (R422 to R432): functions with Bus Master Enable, with MSI-X enabled,
with Function Mask; the MSI-X tables by function × 32,768 + offset; pending vectors (function, vector); MB_HCTL; and the
reports made through AER (address, status: 1 UR, 2 CA, 3 Poisoned TLP Received). -/
structure HostEp where
  bme : List Nat
  msixOn : List Nat
  fmask : List Nat
  table : List (Nat × Byte)
  pend : List (Nat × Nat)
  hctl : W32
  aer : List (Nat × Nat)
  deriving DecidableEq, Repr

/-- A request from the host (R427 to R430): its endpoint and function, its BAR (0 BAR0, 1 BAR2, 2 BAR4) and offset, its
length, the data of a write and its EP mark. -/
structure HostReq where
  ep : Nat
  f : Nat
  bar : Nat
  off : Nat
  len : Nat
  data : Option (List Byte)
  poison : Bool
  deriving DecidableEq, Repr

/-- The host ports: endpoints HP0 a, HP0 b, HP1 a, HP1 b; the ports (bit h) that Proofing bifurcated (R423); what they
send, and their answers to reads; and the requests that wait for a wake or behind one that waits (R206). -/
structure HostPorts where
  eps : Vector HostEp 4
  bifur : Nat
  out : List HostOut
  resp : List HostResp
  held : List HostReq
  deriving DecidableEq, Repr
/-! ### The chain ports (R381 to R421) and the Block Mover (R356 to R380) -/

/-- A flit that stays in the replay buffer until it is acknowledged (R388): its SEQ, its slots, and the messages whose
last slot it carries, which R410 resends. -/
structure SentFlit where
  seq : Nat
  slots : List (BitVec 128)
  ends : List ChMsg
  deriving DecidableEq, Repr

/-- A flit as a port sends it, link header first (R387); `swap` is the lane that LCTL asks the partner to move. -/
structure ChFlit where
  port : Nat
  seq : Nat
  ack : Nat
  nak : Bool
  cvc : Nat
  credits : Nat
  swap : Option Nat
  slots : List (BitVec 128)
  deriving DecidableEq, Repr

/-- Why a port trains: it starts, or it retrains with its replay buffer kept (R383, R385). -/
inductive ChTrain
  | none | start | again
  deriving DecidableEq, Repr

/-- What a chain port holds beside its registers: the SEQ it accepted last and the one it sends next, the replay buffer, the
messages that wait to leave, the one being sent with the slots left of it, the credits it holds and those it owes by
buffer (VC × 2 + class), the slots of a message received in part, the run of NAKs of one flit (R386), a NAK to be sent,
the lane swap to be asked for, the training, and the logical lanes that failed with the spare in use. -/
structure ChPort where
  rxSeq : Nat
  txSeq : Nat
  replay : List SentFlit
  queue : List ChMsg
  sending : Option ChMsg
  left : List (BitVec 128)
  credit : List Nat
  owed : List Nat
  part : List (BitVec 128)
  nakOf : Nat
  nakRun : Nat
  nakDue : Bool
  swapReq : Option Nat
  train : ChTrain
  failed : List Nat
  deriving DecidableEq, Repr

/-- Who waits for the response to a tag (R404): a scalar access or store of a sequencer, the lanes of a Slice of a stream,
an element of a committed store entry, an atomic element, a Block Mover channel's read or write, a doorbell. -/
inductive ChReq
  | scalar (n : Fin 9)
  | store (n : Fin 9)
  | stream (n : Fin 9) (vid : Nat) (key : StreamKey) (slice : Nat) (lanes : List Nat)
  | drain (n : Fin 9) (vid pos slice : Nat)
  | elem (n : Fin 9) (vid elem : Nat)
  | bmRead (c : Nat)
  | bmWrite (c elem : Nat)
  | bell
  deriving DecidableEq, Repr

/-- A tag in use: its number, its requester, the port its request left by, and whether WAKING lengthened its timer. -/
structure ChTag where
  tag : Nat
  who : ChReq
  port : Nat
  waking : Bool
  deriving DecidableEq, Repr

/-- A message held back by Transit (R411) and the direction (true: west) it went before. -/
structure ChHeld where
  msg : ChMsg
  west : Bool
  deriving DecidableEq, Repr

/-- The chain beyond its registers: ports; tags; floods passed on (SRC, TAG) and the next flood's TAG; the MARKs out (VC,
direction); held messages; the dead ring port of an end device, whether reconciliation has finished, and the messages
that wait there to be turned; requests held for a wake (R403); messages for this device that wait to be taken (port of
arrival, 8 for its own); the time exchange's t1 (R416); the flits sent. -/
structure ChainState where
  ports : Vector ChPort 8
  tags : List ChTag
  seen : List (Nat × Nat)
  floodTag : Nat
  marks : List (Nat × Bool)
  held : List ChHeld
  dead : Option Nat
  recDone : Bool
  deadQ : List ChMsg
  wakeQ : List (Nat × ChMsg)
  inbox : List (Nat × ChMsg)
  t1 : Option Nat
  out : List ChFlit
  deriving DecidableEq, Repr

/-- Where a channel stands in its descriptor: none; its descriptor is being fetched; elements move; its end is due. -/
inductive BmPhase
  | idle | fetch | move | finish
  deriving DecidableEq, Repr

/-- What a Block Mover channel holds beside its registers (R359 to R373): the descriptor copy, its phase, the poison
marks, whether a remote read is out and the data that came back, the remote writes out (element number, and the check
register before that element), and whether the descriptor's own memory answered with an error. -/
structure BmChan where
  desc : BitVec 512
  phase : BmPhase
  spoison : Bool
  pmerge : Bool
  asked : Bool
  got : List Byte
  gotPsn : Bool
  writes : List (Nat × Nat)
  descErr : Bool
  deriving DecidableEq, Repr


/-- The whole block. `pm` lists the program SRAM bytes that differ from the sequencer image, where `pmImg` holds the
sequencer's number × 2 + image, and from zero elsewhere. -/
structure State where
  pending : List Instr
  freeCtr : Nat
  now : Nat
  regs : List (Nat × W32)
  seqs : Vector Seq 9
  vm : VMem
  ls : List Host.Cell
  lsBad : List Nat
  lsWipes : List LsWipe
  marches : List March
  fab : Fabric
  qe : QueueEng
  hp : HostPorts
  ch : ChainState
  bm : Vector BmChan 32
  pm : List Host.Cell
  pmImg : List Nat
  pmBad : List Nat
  ustA : List (Nat × W32)
  ustB : List (Nat × W32)
  ustC : List (Nat × W32)
  ustMgmt : List (Nat × W32)
  ustData : List (Nat × W32)
  fj : FaultUnit
  nv : Durable
  st : Starter
  wideRd : List (Nat × Nat)
  wideWr : List StagedWord
  deriving DecidableEq, Repr

/-! ### Reset -/

/-- R258 and R285: one world's registers at reset, all zero. -/
def WorldCtx.reset : WorldCtx :=
  { era := 0, esr := 0, ecause := 0, eaddr := 0, rsTop := 0, rsDepth := 0,
    rse := Vector.replicate 16 0, sg := Vector.replicate 64 0 }

/-- R258: the registers of a sequencer at reset; it enters Secure supervisor at 0x0_0800 (R244). -/
def Arch.reset : Arch :=
  { g := Vector.replicate 64 0, vd := Vector.replicate 32 0, ssr := 3, gen := WorldCtx.reset, sec := WorldCtx.reset,
    dra := 0, dsr := 0, dcause := 0, dfault := false, pc := 0x800 }

/-- R59: no vector fault is recorded at reset. -/
def VRec.reset : VRec :=
  { valid := false, pending := false, first := none, fent := 0, world := false, sup := false, entries := [],
    again := false, mark := 0 }

/-- R258, R216 and R145: a sequencer at reset. -/
def Seq.reset : Seq :=
  { arch := Arch.reset, cycle := 0, asm := [], delayOf := none, waiting := [], div := none, tail := none, spec := [], nextId := 1,
    sb := [], lateGen := none, lateSec := none, btb := [], gateEntered := false, outs := [], openGrp := none,
    vrec := VRec.reset, cbuf := [] }

/-- R188 and R189: Vector Memory holds nothing at reset; unlisted bytes read as zero, which Proofing writes. -/
def VMem.reset : VMem :=
  { bytes := [], cls := [], scrubQ := [], patrol := [], found := [], fast := [], atomQ := [], atomWait := [], atomAcks := [],
    lines := [], bankQ := [], bankResp := [], act := [], ceSeen := [], ueSeen := [], rowDue := [],
    rowHeld := [], bankDue := [], bankHeld := [], rows := [],
    bankMap := [], lostBanks := [], lostUnits := [], placeAcc := [], migQ := [], swapped := [],
    tsense := [], tadTier := 0 }

/-- R355: no request, every port parked on master 13 (which `parked` lists none for). -/
def Fabric.reset : Fabric := { waiting := [], parked := [], answers := [] }

/-- R325: no Ticket, every pool disabled. -/
def QueueEng.reset : QueueEng :=
  { tkts := [], unread := [], deficit := [], lastClass := [], lastQueue := [], affinity := [], parked := [], pools := [],
    poolWait := [], cpls := [], moved := [], wakes := [], waking := [], ffAt := 0 }

/-- A pool that was never initialised. -/
def Pool.reset : Pool := { next := 0, ring := [], held := [], last := 12 }

/-- An endpoint whose configuration state is at reset. -/
def HostEp.reset : HostEp :=
  { bme := [], msixOn := [], fmask := [], table := [], pend := [], hctl := 0, aer := [] }

/-- R437: every endpoint down. -/
def HostPorts.reset : HostPorts := { eps := Vector.replicate 4 HostEp.reset, bifur := 0, out := [], resp := [], held := [] }

/-- A port that is down: each direction's first flit has SEQ 0, and the credits are the partner's sizes (R394). -/
def ChPort.reset : ChPort :=
  { rxSeq := 4095, txSeq := 0, replay := [], queue := [], sending := none, left := [],
    credit := [2048, 2048, 2048, 2048, 256, 256], owed := [0, 0, 0, 0, 0, 0], part := [], nakOf := 0, nakRun := 0,
    nakDue := false, swapReq := none, train := .none, failed := [] }

/-- R417: every port down, no tag in use. -/
def ChainState.reset : ChainState :=
  { ports := Vector.replicate 8 ChPort.reset, tags := [], seen := [], floodTag := 0, marks := [], held := [], dead := none,
    recDone := true, deadQ := [], wakeQ := [], inbox := [], t1 := none, out := [] }

/-- R380: an idle channel. -/
def BmChan.reset : BmChan :=
  { desc := 0, phase := .idle, spoison := false, pmerge := false, asked := false, got := [], gotPsn := false,
    writes := [], descErr := false }

/-- R484: nothing counted, queued or latched. -/
def FaultUnit.reset : FaultUnit :=
  { running := [], queued := [], onSource := [], regrows := [], repairs := [], wclose := [], tripped := [], jq := [],
    alertOpen := false, alertMin := false, alertHigh := false, alertNext := false, firstSeq := 0,
    fatal := none, flA := 0, flB := 0, flAt := 0, flN := 0 }

/-- A half that holds no record. -/
def JHalf.reset : JHalf :=
  { slots := [], bad := [], headBoot := 0, headCfg := 4096, headFault := 20480, failed := false, passes := 0,
    wearRaised := false }

/-- A module as it leaves the factory: R461's first SEQ, no saved object, and a PRODUCTION life cycle. -/
def Durable.reset : Durable :=
  { ja := JHalf.reset, jb := JHalf.reset, jnext := 1, saved := [], boot := [], savedUst := [], lc := 3, epoch := 0,
    revoked := 0, keys := Vector.replicate 4 0, wipePend := false, lastEnd := 0 }

def Timer.reset : Timer := { acc := 0, caps := [], gapNext := false }

/-- R572: no owner. -/
def Owning.reset : Owning :=
  { owner := none, leaseEnd := 0, counter := 0, electing := false, electEnd := 0, cands := [], succ := none,
    succEnd := 0 }

/-- The Starter after a boot from Off: Starter-only (R496). -/
def Starter.reset : Starter :=
  { base := 1, holdup := false, wipe := none, quiesce := none, known := [], wake := false, triesBefore := 0, triesOpen := false,
    restart := false, barred := false, extest := false, locked := false, switchTo := none,
    tested := false, testDue := false, soc := 0, valve := 0xA0000, coolBad := false, coolI := 0, coolFF := 0, valveOpen := false, chgPin := false,
    testPin := false, tb := 0, tbFrac := 0, offs := [], posted := [], timers := Vector.replicate 16 Timer.reset,
    links := [], dict := [], served := [], xfers := [], relays := [], own := Owning.reset, canEn := 3, canState := [], mgmtFrom := [],
    canTx := [], emcySent := [], challenge := 0, rngGood := 0, secrets := [], secDraw := 0, lc := 3, tamperMiss := [], tap := 0 }

/-- The block right after P3V3_AUX arrives on a new module (R487, R496): Starter-only, every register at the reset value of
its table, the base die unpowered, memories and tables holding nothing, no command waiting. -/
def State.reset : State :=
  { pending := [], freeCtr := 0, now := 0, regs := [], seqs := Vector.replicate 9 Seq.reset, vm := VMem.reset, ls := [],
    lsBad := [], lsWipes := [], marches := [], fab := Fabric.reset, qe := QueueEng.reset, hp := HostPorts.reset,
    ch := ChainState.reset, bm := Vector.replicate 32 BmChan.reset, pm := [], pmImg := [], pmBad := [], ustA := [], ustB := [],
    ustC := [], ustMgmt := [], ustData := [], fj := FaultUnit.reset, nv := Durable.reset, st := Starter.reset, wideRd := [],
    wideWr := [] }

end Sys2Proof.Machine
end

