-- ==== Sys2Proof/Machine/Ops.lean ====
section
/-! DEFINITION. Sys2Proof/Machine/Ops.lean: the named operations every meaning uses: sparse maps in their canonical
form, memories, control-space registers and their fields, general and special registers, and free values. -/
namespace Sys2Proof.Machine

/-! ### Sparse maps: keys strictly rising, no entry equal to what an unlisted key reads as -/

/-- What key `k` holds, `d k` when it is not listed. -/
def mget {β : Type} (d : Nat → β) : List (Nat × β) → Nat → β
  | [], k => d k
  | (a, v) :: m, k => if a = k then v else mget d m k

/-- Entry `k` put in before `m`, unless its value is what an unlisted key reads as. -/
def mcons {β : Type} [DecidableEq β] (d : Nat → β) (k : Nat) (v : β) (m : List (Nat × β)) : List (Nat × β) :=
  if v = d k then m.filter (fun p => p.1 != k) else (k, v) :: m

/-- The map with key `k` holding `v`. -/
def mput {β : Type} [DecidableEq β] (d : Nat → β) : List (Nat × β) → Nat → β → List (Nat × β)
  | [], k, v => mcons d k v []
  | (a, w) :: m, k, v =>
    if k < a then mcons d k v ((a, w) :: m)
    else if a = k then mcons d k v m
    else (a, w) :: mput d m k v

/-- The canonical form: keys above `lo` and strictly rising, and every entry different from the default. -/
def mwfFrom {β : Type} [DecidableEq β] (d : Nat → β) : Nat → List (Nat × β) → Bool
  | _, [] => true
  | lo, (a, v) :: m => decide (lo ≤ a) && decide (v ≠ d a) && mwfFrom d (a + 1) m

/-- The canonical form of a sparse map. -/
def mwf {β : Type} [DecidableEq β] (d : Nat → β) (m : List (Nat × β)) : Bool := mwfFrom d 0 m

/-- A counter map: unlisted keys count zero. -/
def cget (m : List (Nat × Nat)) (k : Nat) : Nat := mget (fun _ => 0) m k
def cput (m : List (Nat × Nat)) (k v : Nat) : List (Nat × Nat) := mput (fun _ => 0) m k v

/-! ### Memories: bytes that nothing has written read as zero, as Proofing leaves them (R188, R248, R339) -/

def memByte (m : List Host.Cell) (a : Nat) : Byte := mget (fun _ => 0) m a
def memPut (m : List Host.Cell) (a : Nat) (b : Byte) : List Host.Cell := mput (fun _ => 0) m a b

/-- `n` bytes from address `a` on, lowest first. -/
def memRead (m : List Host.Cell) (a : Nat) : Nat → List Byte
  | 0 => []
  | n + 1 => memByte m a :: memRead m (a + 1) n

/-- The bytes written from address `a` on. -/
def memWrite (m : List Host.Cell) (a : Nat) : List Byte → List Host.Cell
  | [] => m
  | b :: bs => memWrite (memPut m a b) (a + 1) bs

/-- The `n`-byte little-endian number at `a` (R5). -/
def memNat (m : List Host.Cell) (a n : Nat) : Nat := ofBytes (memRead m a n)

/-- The canonical form of a memory. -/
def Memory.wf (m : List Host.Cell) : Bool := mwf (fun _ => (0 : Byte)) m

/-! ### Control-space registers -/

/-- The registers of the block whose window holds an address (Table 20-7). -/
def blockRegs (a : Nat) : List RegDesc :=
  if a < 0x100000 then []
  else if a < 0x190000 then regsSeq
  else if a < 0x200000 then []
  else if a < 0x320000 then regsPipe
  else if a < 0x500000 then []
  else if a < 0x510000 then regsVm
  else if a < 0x600000 then []
  else if a < 0x690000 then regsLs
  else if a < 0x700000 then []
  else if a < 0x710000 then regsFab
  else if a < 0x800000 then []
  else if a < 0x900000 then regsQe
  else if a < 0x910000 then regsBm
  else if a < 0xA00000 then []
  else if a < 0xA80000 then regsCh
  else if a < 0xB00000 then []
  else if a < 0xB20000 then regsHp
  else if a < 0xC00000 then []
  else if a < 0xC10000 then regsFj
  else if a < 0xD00000 then []
  else if a < 0xD10000 then regsSt
  else if a < 0xE00000 then []
  else if a < 0xE10000 then regsTmr
  else if a < 0xF00000 then []
  else if a < 0xF10000 then regsSec
  else if a < 0x1000000 then []
  else if a < 0x1400000 then regsCtx
  else []

/-- Where an address falls in a register family: the unit and entry numbers, and the word of the register. -/
def RegDesc.locate (r : RegDesc) (a : Nat) : Option (Nat × Nat × Nat) :=
  if a < r.base then none
  else
    let off := a - r.base
    let i := if r.n1 = 1 then 0 else off / r.s1
    let off := if r.n1 = 1 then off else off % r.s1
    let j := if r.n2 = 1 then 0 else off / r.s2
    let off := if r.n2 = 1 then off else off % r.s2
    if i < r.n1 ∧ j < r.n2 ∧ off < 4 * r.words then some (i, j, off / 4) else none

/-- The register an address belongs to, with its unit and entry numbers and the word; none at an unlisted offset. -/
def regFind (a : Nat) : Option (RegDesc × Nat × Nat × Nat) :=
  (blockRegs a).findSome? (fun r => (r.locate a).map (fun p => (r, p.1, p.2.1, p.2.2)))

/-- The lowest severity that the owning chapter gives a source (R445): Tables 14-6, 5-7, 10-19, 9-19, 11-16, 12-23,
13-14, 16-17, 15-16 and 19-12, and R132, R138, R142, R247, R279, R280. Reserved numbers get zero. -/
def srcSev (s : Nat) : Nat :=
  let at' := fun (l : List Nat) (i : Nat) => l.getD i 0
  if s < 0x20 then at' [3, 2, 3, 1, 0, 0, 0, 1, 3, 3, 3, 4, 3] s
  else if s < 0x44 then at' [1, 3, 0, 3] (s % 4)
  else if 0x50 ≤ s ∧ s < 0x98 then at' [1, 3, 0, 0] (s % 4)
  else if 0xA0 ≤ s ∧ s < 0xB0 then at' [1, 3, 2, 0, 2, 2, 3, 0, 1, 0, 2, 0] (s - 0xA0)
  else if 0xB0 ≤ s ∧ s < 0xF8 then at' [1, 3, 0, 0, 2, 2, 0, 0] (s % 8)
  else if 0xF8 ≤ s ∧ s < 0x100 then at' [0, 0, 1, 3] (s - 0xF8)
  else if 0x100 ≤ s ∧ s < 0x110 then at' [0, 0, 0, 1, 3, 2, 2, 3] (s - 0x100)
  else if 0x110 ≤ s ∧ s < 0x120 then at' [0, 0, 0, 0, 2] (s - 0x110)
  else if 0x120 ≤ s ∧ s < 0x1A0 then at' [1, 2, 2, 2, 3, 3, 2] (s % 16)
  else if 0x1A0 ≤ s ∧ s < 0x1C0 then at' [2, 2, 1] (s % 8)
  else if 0x1F0 ≤ s ∧ s < 0x200 then at' [2, 4, 2, 0, 0, 2, 3, 0, 3, 3, 2, 2, 3, 0, 2, 3] (s - 0x1F0)
  else 0

/-- Table 14-4 (R447): WINDOW, THRESH, ESC and ACTION of a source. -/
def srcCount (s : Nat) : Nat × Nat × Nat × Nat :=
  let none' := (7, 0, srcSev s, 0)
  if s = 0x003 then (9, 256, 2, 0) else if s = 0x006 then (5, 4, 3, 0) else if s = 0x007 then (7, 4, 3, 0)
  else if 0x20 ≤ s ∧ s < 0x44 then
    (if s % 4 = 0 then (7, 8, 2, 0) else if s % 4 = 1 then (9, 2, 3, 2) else if s % 4 = 3 then (7, 2, 3, 2) else none')
  else if 0x50 ≤ s ∧ s < 0x98 then
    (if s % 4 = 0 then (3, 16, 2, 2) else if s % 4 = 1 then (7, 2, 3, 0) else none')
  else if s = 0xA0 then (9, 4096, 2, 0) else if s = 0xA1 then (9, 64, 3, 0)
  else if 0xB0 ≤ s ∧ s < 0xF8 then
    (if s % 8 = 0 then (7, 16, 2, 2) else if s % 8 = 1 then (7, 2, 3, 2) else none')
  else if s = 0xFA then (7, 16, 3, 0) else if s = 0x103 then (7, 64, 2, 0)
  else if 0x120 ≤ s ∧ s < 0x1A0 then
    (if s % 16 = 0 then (3, 4096, 2, 0) else if s % 16 = 6 then (5, 16, 3, 0) else none')
  else if 0x1A0 ≤ s ∧ s < 0x1C0 ∧ s % 8 = 2 then (3, 256, 2, 0)
  else none'

/-- The reset value of FJ_SRC_CFG of a source (Table 14-21, R445, R447). -/
def fjCfgReset (s : Nat) : Nat :=
  let c := srcCount s
  srcSev s + c.2.2.1 * 2 ^ 3 + c.1 * 2 ^ 6 + c.2.1 * 2 ^ 10 + c.2.2.2 * 2 ^ 26 + 2 ^ 29

/-- Reset values that differ from unit to unit or from part to part: FJ_SRC_CFGs (Table 14-4), HP_CTL and HP_QRANGE
(Tables 13-10 and 13-11) and ST_IDENT (Table 0-5). -/
def regResetSpecial (a : Nat) : Option Nat :=
  if 0xC01000 ≤ a ∧ a < 0xC02000 then
    some (bitsOf (fjCfgReset ((a - 0xC01000) / 8)) (32 * ((a - 0xC01000) / 4 % 2)) 32)
  else if a = HP_CTL 0 1 + 4 ∨ a = HP_CTL 1 1 + 4 then some 0
  else if a = HP_QRANGE 0 0 then some 0x7FFF0000
  else if a = HP_QRANGE 1 0 then some 0xFFFF8000
  else if a = HP_QRANGE 0 1 ∨ a = HP_QRANGE 1 1 then some 1
  else if a = ST_IDENT then some (if Config.orderingCode = .lq then 0x11169611 else 0x11169621)
  else none

/-- The reset value of the 32-bit word at a control-space address. -/
def regReset (a : Nat) : W32 :=
  match regResetSpecial a with
  | some v => BitVec.ofNat 32 v
  | none =>
    match regFind a with
    | some (r, _, _, w) => BitVec.ofNat 32 (r.reset / 2 ^ (32 * w))
    | none => 0

/-- The register word at a word address. -/
def State.reg (s : State) (a : Nat) : W32 := mget regReset s.regs a

/-- The state with that register word changed. -/
def State.setReg (s : State) (a : Nat) (v : W32) : State := { s with regs := mput regReset s.regs a v }

/-- The register of `w` words at `a`, as a number. -/
def State.regNat (s : State) (a : Nat) : (words : Nat) → Nat
  | 0 => 0
  | w + 1 => (s.reg a).toNat + 2 ^ 32 * s.regNat (a + 4) w

/-- The register of `w` words at `a` set to a number. -/
def State.setRegNat (s : State) (a : Nat) : Nat → Nat → State
  | 0, _ => s
  | w + 1, v => (s.setReg a (BitVec.ofNat 32 v)).setRegNat (a + 4) w (v / 2 ^ 32)

/-- Words that a field touches. -/
def fldWords (f : Fld) : Nat := (f.1 % 32 + f.2 + 31) / 32

/-- A field of the register at `a`. -/
def State.fld (s : State) (a : Nat) (f : Fld) : Nat :=
  bitsOf (s.regNat (a + 4 * (f.1 / 32)) (fldWords f)) (f.1 % 32) f.2

/-- A field of the register at `a` set. -/
def State.setFld (s : State) (a : Nat) (f : Fld) (v : Nat) : State :=
  let b := a + 4 * (f.1 / 32)
  let w := fldWords f
  s.setRegNat b w (setBits (s.regNat b w) (f.1 % 32) f.2 v)

/-- A one-bit field as a Bool. -/
def State.flag (s : State) (a : Nat) (f : Fld) : Bool := decide (s.fld a f ≠ 0)
def State.setFlag (s : State) (a : Nat) (f : Fld) (b : Bool) : State := s.setFld a f (bit01 b)

/-- R621: a counting field one higher; at its largest value it stays there and its flag is set. -/
def State.countSat (s : State) (a : Nat) (f sat : Fld) : State :=
  let v := satInc (2 ^ f.2 - 1) (s.fld a f)
  let s := s.setFld a f v
  if v = 2 ^ f.2 - 1 then s.setFld a sat 1 else s

/-- R621: a 64-bit performance counter moved on by `k`; when it wraps, its OVF bit is set. -/
def State.countWrap (s : State) (a : Nat) (k : Nat) (ovfReg : Nat) (ovf : Fld) : State :=
  let v := s.regNat a 2 + k
  let s := s.setRegNat a 2 (v % 2 ^ 64)
  if 2 ^ 64 ≤ v then s.setFld ovfReg ovf 1 else s

/-! ### Free values (R9) -/

/-- A value nothing constrains, and the counter moved past it. -/
def State.fresh (s : State) : Nat := Config.freeValue s.freeCtr
def State.tick (s : State) : State := { s with freeCtr := s.freeCtr + 1 }

/-! ### General and special registers of a sequencer -/

/-- gN: g0 reads as zero (R224). -/
def Arch.reg (a : Arch) (i : Fin 64) : Word := if i = 0 then 0 else a.g[i]

/-- gN written; a write to g0 is discarded (R224). -/
def Arch.setReg (a : Arch) (i : Fin 64) (v : Word) : Arch := if i = 0 then a else { a with g := a.g.set i v }

/-- The register after gN of a pair (R224). -/
def pairOf (i : Fin 64) : Fin 64 := i + 1

/-- SSR fields (Table 7-2). -/
def Arch.world (a : Arch) : Bool := a.ssr.getLsbD 0
def Arch.sup (a : Arch) : Bool := a.ssr.getLsbD 1
def Arch.ie (a : Arch) : Bool := a.ssr.getLsbD 2
def Arch.ct (a : Arch) : Bool := a.ssr.getLsbD 3
def Arch.eip (a : Arch) : Bool := a.ssr.getLsbD 4
def Arch.rsm (a : Arch) : Bool := a.ssr.getLsbD 5
def Arch.ctxid (a : Arch) : Nat := bitsOf a.ssr.toNat 8 8

/-- SSR with some of its low six bits set: (WORLD, SUP, IE, CT, EIP, RSM) in `v`, those in `mask`. -/
def ssrWith (ssr : W32) (mask v : Nat) : W32 :=
  BitVec.ofNat 32 (ssr.toNat - (ssr.toNat &&& mask) + (v &&& mask))

/-- The registers of a world (R264). -/
def Arch.ctx (a : Arch) (w : Bool) : WorldCtx := if w then a.sec else a.gen
def Arch.setCtx (a : Arch) (w : Bool) (c : WorldCtx) : Arch := if w then { a with sec := c } else { a with gen := c }

/-- A segment descriptor of a world. -/
def Arch.seg (a : Arch) (w : Bool) (i : Fin 64) : SegDesc := (a.ctx w).sg[i]
def Arch.setSeg (a : Arch) (w : Bool) (i : Fin 64) (d : SegDesc) : Arch :=
  a.setCtx w { a.ctx w with sg := (a.ctx w).sg.set i d }

/-- A sequencer of the block, and the block with it changed. -/
def State.seq (s : State) (n : Fin 9) : Seq := s.seqs[n]
def State.setSeq (s : State) (n : Fin 9) (q : Seq) : State := { s with seqs := s.seqs.set n q }

end Sys2Proof.Machine
end

