-- ==== Sys2Proof/Machine/Units.lean ====
section
/-! DEFINITION. Sys2Proof/Machine/Units.lean: unit IDs, the Unit State Table in its three voted copies (R443, R466,
R467), and what an Oven consists of (R14, R15, R115). -/
namespace Sys2Proof.Machine

/-- A unit ID (R443). -/
def unitId (cls idx : Nat) : Nat := cls * 65536 + idx
def seqUnit (n : Nat) : Nat := unitId 0 n
def pipeUnit (n : Nat) : Nat := unitId 1 n
def lsUnit (n : Nat) : Nat := unitId 2 n
def bankUnit (b : Nat) : Nat := unitId 3 b
def atomUnit (u : Nat) : Nat := unitId 4 u
def portUnit (p : Nat) : Nat := unitId 5 p
def laneUnit (p l : Nat) : Nat := unitId 6 (p * 9 + l)
def hostUnit (i : Nat) : Nat := unitId 7 i
def bmUnit : Nat := unitId 8 0
def qeUnit : Nat := unitId 9 0
def fabUnit : Nat := unitId 10 0
def fjUnit : Nat := unitId 11 0
def starterUnit : Nat := unitId 12 0

/-- STATE codes of Table 14-11. -/
def usIdle : Nat := 0
def usBound : Nat := 1
def usFenced : Nat := 2
def usRegrow : Nat := 3
def usLost : Nat := 4

/-- R466: the Table's contents at reset: every unit bound as R14 gives, the spares idle; 0b111 for no such unit. -/
def ustResetNat (u : Nat) : Nat :=
  let cls := u / 65536
  let i := u % 65536
  match cls with
  | 0 | 2 => if i < 8 then 1 + 8 * i else if i = 8 then 0 else 7
  | 1 => if i < 16 then 1 + 8 * (i / 2) + 64 * (i % 2) else if i < 18 then 0 else 7
  | 3 => if i < 33280 then (if i % 8320 < 8192 then 1 else 0) else 7
  | 4 => if i < 2048 then 1 else 7
  | 5 => if i < 8 then 1 else 7
  | 6 => if i < 72 then (if i % 9 = 8 then 0 else 1) else 7
  | 7 => if i < 4 then 1 else 7
  | 8 | 9 | 10 | 11 | 12 => if i = 0 then 1 else 7
  | _ => 7

def ustReset (u : Nat) : W32 := BitVec.ofNat 32 (ustResetNat u)

/-- The bitwise majority of three copies (R467, R619). -/
def majority (a b c : W32) : W32 := (a &&& b) ||| (a &&& c) ||| (b &&& c)

/-- A unit's entry as the Table reads it. -/
def State.ustEntry (s : State) (u : Nat) : W32 :=
  majority (mget ustReset s.ustA u) (mget ustReset s.ustB u) (mget ustReset s.ustC u)

/-- An entry written to the three copies and to both views (R467, R468). -/
def State.setUst (s : State) (u : Nat) (v : W32) : State :=
  { s with ustA := mput ustReset s.ustA u v, ustB := mput ustReset s.ustB u v, ustC := mput ustReset s.ustC u v,
           ustMgmt := mput ustReset s.ustMgmt u v, ustData := mput ustReset s.ustData u v }

/-- STATE of a unit; the reserved codes count as lost (R467). -/
def State.unitState (s : State) (u : Nat) : Nat :=
  let c := bitsOf (s.ustEntry u).toNat 0 3
  if c = 5 ∨ c = 6 then usLost else c

def State.unitOven (s : State) (u : Nat) : Nat := bitsOf (s.ustEntry u).toNat 3 3
def State.unitSide (s : State) (u : Nat) : Bool := bitAt (s.ustEntry u).toNat 6
def State.unitPaired (s : State) (u : Nat) : Bool := bitAt (s.ustEntry u).toNat 7

/-- A unit's STATE changed, its other fields kept. -/
def State.setUnitState (s : State) (u st : Nat) : State :=
  s.setUst u (BitVec.ofNat 32 (setBits (s.ustEntry u).toNat 0 3 st))

/-- The numbers of a class bound to an Oven, lowest first. -/
def State.boundTo (s : State) (mk : Nat → Nat) (count o : Nat) : List Nat :=
  (upTo count).filter (fun i => s.unitState (mk i) == usBound && s.unitOven (mk i) == o)

/-- The Oven that sequencer `n` serves (R15). -/
def State.ovenOf (s : State) (n : Fin 9) : Nat := s.unitOven (seqUnit n)

/-- The sequencer bound to an Oven, if any. -/
def State.seqOf (s : State) (o : Nat) : Option Nat := (s.boundTo seqUnit 9 o).head?

/-- The local store of an Oven: the one bound to it (R15). -/
def State.lsOf (s : State) (o : Nat) : Option Nat := (s.boundTo lsUnit 9 o).head?

/-- The pipes bound to an Oven. -/
def State.pipesOf (s : State) (o : Nat) : List Nat := s.boundTo pipeUnit 18 o

/-- R115: the pipe that runs a Slice of an Oven: the one on side s mod 2, or the only one. In Paired Run the pipe on
side 0 is primary (R136). -/
def State.pipeOf (s : State) (o slice : Nat) : Option Nat :=
  let ps := s.pipesOf o
  let want := slice % 2 == 1 && !(ps.any (fun p => s.unitPaired (pipeUnit p)))
  match ps.find? (fun p => s.unitSide (pipeUnit p) == want) with
  | some p => some p
  | none => ps.head?

/-- The operating mode (Table 15-12). -/
def State.mode (s : State) : Nat := s.fld ST_MODE ST_MODE.MODE

/-- Modes of the device (R485). -/
def mOff : Nat := 0
def mStarter : Nat := 1
def mProof : Nat := 2
def mTadpole : Nat := 3
def mBrum : Nat := 4
def mDoze : Nat := 5
def mRun : Nat := 6
def mPaired : Nat := 7
def mMoult : Nat := 8
def mTransit : Nat := 9
def mHoldup : Nat := 10
def mWipe : Nat := 11

/-- Modes in which the base die runs Loafs. -/
def modeRuns (m : Nat) : Bool := m == mProof || m == mTadpole || (decide (mDoze ≤ m) && decide (m ≤ mTransit))

/-- Whether a sequencer fetches and runs Loafs: it is bound, or under Regrow (R476); its Oven is
awake; and the base die runs (R14, R22). -/
def State.seqRuns (s : State) (n : Fin 9) : Bool :=
  (s.unitState (seqUnit n) == usBound || s.unitState (seqUnit n) == usRegrow) && modeRuns s.mode
    && !bitAt (s.fld ST_MODE ST_MODE.DOZE_OVENS) (s.ovenOf n)

end Sys2Proof.Machine
end

