-- ==== Sys2Proof/Machine/Journal.lean ====
section
/-! DEFINITION. Sys2Proof/Machine/Journal.lean: the Journal's records, halves and rings (R457 to R464), the last-gasp
registers (R465), and the name of the mode (R486), whose every change is a record. -/
namespace Sys2Proof.Machine

/-- An event as a source reports it (R444). -/
structure Event where
  src : Nat
  unit : Nat
  sev : Nat
  spec : Bool := false
  forced : Bool := false
  detail : Nat := 0
  deriving DecidableEq, Repr

/- Severities (R445) and record KINDs (Table 14-8). -/
def svInfo : Nat := 0
def svCorrected : Nat := 1
def svDegraded : Nat := 2
def svSevere : Nat := 3
def svFatal : Nat := 4
def kEvent : Nat := 0
def kTrip : Nat := 1
def kAutotomy : Nat := 2
def kRegrowStart : Nat := 3
def kRegrowEnd : Nat := 4
def kUst : Nat := 5
def kMode : Nat := 6
def kJournal : Nat := 7
def kLastGasp : Nat := 8
def kFlush : Nat := 9

/-- The object of the boot area at index × 256 + subindex, as a number. -/
def State.bootObj (s : State) (k : Nat) : Nat := ofBytes (mget (fun _ => []) s.nv.boot k)
def State.setBootObj (s : State) (k n v : Nat) : State :=
  { s with nv := { s.nv with boot := mput (fun _ => []) s.nv.boot k (toBytes n v) } }

/-- An object that the Starter holds: its running value, or its default while nothing was loaded or written (R547). -/
def State.obj (s : State) (index sub : Nat) : List Byte :=
  let v := mget (fun _ => []) s.st.dict (objKey index sub)
  if !v.isEmpty then v
  else match dictFind index sub with
    | some o => toBytes o.size o.dflt
    | none => []
def State.objNat (s : State) (index sub : Nat) : Nat := ofBytes (s.obj index sub)
def State.setObj (s : State) (index sub : Nat) (v : List Byte) : State :=
  { s with st := { s.st with dict := mput (fun _ => []) s.st.dict (objKey index sub) v } }

/-- Keys of the boot area's objects (Table 15-15). -/
def obTries : Nat := 0x210001
def obReason : Nat := 0x210002
def obPref : Nat := 0x210004
def obStarts : Nat := 0x210005
def obLastEnd : Nat := 0x210006
def obFlushSeq : Nat := 0x210007
def obHistory (i : Nat) : Nat := 0x210009 + i
def obHalfFail : Nat := 0x401006

/-- A record without its SEQ, SINGLE and CHECK (Table 14-8). -/
def State.jRec (s : State) (e : Event) (kind sev : Nat) (esc noact : Bool) : Nat :=
  s.st.tb % 2 ^ 64 * 2 ^ 64 + e.src % 512 * 2 ^ 128 + sev % 8 * 2 ^ 137 + kind % 16 * 2 ^ 140
    + e.unit % 2 ^ 20 * 2 ^ 144 + bit01 e.spec * 2 ^ 164 + bit01 esc * 2 ^ 165 + bit01 e.forced * 2 ^ 167
    + s.mode % 16 * 2 ^ 168 + bit01 noact * 2 ^ 172 + 2 ^ 176 + s.bootObj obStarts % 2 ^ 32 * 2 ^ 192
    + e.detail % 2 ^ 224 * 2 ^ 256

def recSeq (r : BitVec 512) : Nat := bitsOf r.toNat 0 64
def recSrc (r : BitVec 512) : Nat := bitsOf r.toNat 128 9
def recSev (r : BitVec 512) : Nat := bitsOf r.toNat 137 3
def recKind (r : BitVec 512) : Nat := bitsOf r.toNat 140 4
def recUnit (r : BitVec 512) : Nat := bitsOf r.toNat 144 20
def recCount (r : BitVec 512) : Nat := bitsOf r.toNat 176 16

/-- R453: one more event merged into a record, which takes the higher severity. -/
def recMerge (r : BitVec 512) (sev : Nat) : BitVec 512 :=
  let v := setBits r.toNat 176 16 (satInc 0xFFFF (recCount r))
  BitVec.ofNat 512 (setBits v 137 3 (max (recSev r) sev))

/-- R364: CRC32C as the Block Mover computes it: started at all ones, and inverted at the end. -/
def crcWhole (l : List Byte) : Nat := crc32c 0xFFFFFFFF (l.map BitVec.toNat) ^^^ 0xFFFFFFFF

/-- A record as it is stored: SINGLE (R463) and CHECK filled in. -/
def recStored (single : Bool) (r : BitVec 512) : BitVec 512 :=
  let v := setBits r.toNat 166 1 (bit01 single)
  BitVec.ofNat 512 (setBits v 480 32 (crcWhole (toBytes 60 v)))

/-! ### Halves -/

/-- The areas of a half (Table 14-7): first slot and the slot after the last. -/
inductive JArea
  | boot | cfg | ring
  deriving DecidableEq, Repr

def JArea.lo : JArea → Nat
  | .boot => 0
  | .cfg => 4096
  | .ring => 20480
def JArea.hi : JArea → Nat
  | .boot => 4096
  | .cfg => 20480
  | .ring => 524288

def JHalf.head (h : JHalf) : JArea → Nat
  | .boot => h.headBoot
  | .cfg => h.headCfg
  | .ring => h.headFault

/-- The head of an area moved past slot `n`; a completed pass of the fault ring is counted (R462). -/
def JHalf.advance (h : JHalf) (a : JArea) (n : Nat) : JHalf :=
  let m := if n + 1 < a.hi then n + 1 else a.lo
  match a with
  | .boot => { h with headBoot := m }
  | .cfg => { h with headCfg := m }
  | .ring => { h with headFault := m, passes := if n + 1 < a.hi then h.passes else h.passes + 1 }

def JHalf.slot (h : JHalf) (n : Nat) : BitVec 512 := mget (fun _ => 0) h.slots n

/-- The head moved to a usable slot (R460). At most the bad slots are passed over. -/
def JHalf.usable : Nat → JHalf → JArea → JHalf
  | 0, h, _ => h
  | k + 1, h, a => if h.bad.contains (h.head a) then JHalf.usable k (h.advance a (h.head a)) a else h

/-- A record written into the next usable slot of an area. -/
def JHalf.put (h : JHalf) (a : JArea) (r : BitVec 512) : JHalf :=
  let h := h.usable h.bad.length a
  let n := h.head a
  ({ h with slots := mput (fun _ => 0) h.slots n r }).advance a n

/-- R460: the slot whose read-back differed is marked bad, and the head moves on. -/
def JHalf.retire (h : JHalf) (a : JArea) : JHalf :=
  let h := h.usable h.bad.length a
  let n := h.head a
  ({ h with bad := n :: h.bad }).advance a n

/-- Whether two records of the configuration area are of one value: of one object and part, or, for Unit State Table
changes (R469), of one unit. -/
def recSame (r x : BitVec 512) : Bool :=
  decide (recKind r = recKind x)
    && (if recKind r = kUst then decide (recUnit r = recUnit x)
        else decide (bitsOf r.toNat 256 28 = bitsOf x.toNat 256 28))

/-- R546: whether a record of the configuration area is part of a value in force: no record of the same value has a
higher SEQ. -/
def JHalf.inForce (h : JHalf) (r : BitVec 512) : Bool :=
  decide (r ≠ 0) && !(h.slots.any (fun p => decide (4096 ≤ p.1) && decide (p.1 < 20480)
    && recSame r p.2 && decide (recSeq r < recSeq p.2)))

/-- R546: a record put into the configuration ring; one in force that it would overwrite is written again at the head. -/
def JHalf.putCfg : Nat → JHalf → BitVec 512 → JHalf
  | 0, h, r => h.put .cfg r
  | k + 1, h, r =>
    let h1 := h.usable h.bad.length .cfg
    let old := h1.slot (h1.head .cfg)
    let h2 := h1.put .cfg r
    if h2.inForce old then JHalf.putCfg k h2 old else h2

def JHalf.write (h : JHalf) (a : JArea) (r : BitVec 512) : JHalf :=
  if h.failed then h else if a = .cfg then h.putCfg 16384 r else h.put a r

/-- Whether one half alone is in service (R463). -/
def State.jSingle (s : State) : Bool := s.nv.ja.failed != s.nv.jb.failed
def State.jLost (s : State) : Bool := s.nv.ja.failed && s.nv.jb.failed

/-- FJ_STATUS.JNL and FJ_JNL_STATUS as the halves stand, and FJ_JNL_WEAR (R462). -/
def State.jShow (s : State) : State :=
  let st := if s.jLost then 3 else if s.nv.jb.failed then 1 else if s.nv.ja.failed then 2 else 0
  let s := (s.setFld FJ_STATUS FJ_STATUS.JNL st).setFld FJ_JNL_STATUS FJ_JNL_STATUS.STATE st
  let s := s.setFld FJ_JNL_STATUS FJ_JNL_STATUS.BAD_A (min 8191 s.nv.ja.bad.length)
  let s := s.setFld FJ_JNL_STATUS FJ_JNL_STATUS.BAD_B (min 8191 s.nv.jb.bad.length)
  let pa := min (2 ^ 32 - 1) (s.nv.ja.passes / 4)
  let pb := min (2 ^ 32 - 1) (s.nv.jb.passes / 4)
  let s := (s.setFld FJ_JNL_WEAR FJ_JNL_WEAR.PASS_A pa).setFld FJ_JNL_WEAR FJ_JNL_WEAR.PASS_B pb
  let s := if pa = 2 ^ 32 - 1 then s.setFld FJ_JNL_STATUS FJ_JNL_STATUS.WSAT_A 1 else s
  if pb = 2 ^ 32 - 1 then s.setFld FJ_JNL_STATUS FJ_JNL_STATUS.WSAT_B 1 else s

/-- A record written at once into an area of every half in service. -/
def State.jStore (s : State) (a : JArea) (r : BitVec 512) : State :=
  let r := recStored s.jSingle r
  ({ s with nv := { s.nv with ja := s.nv.ja.write a r, jb := s.nv.jb.write a r } }).jShow

/-- A record given the next SEQ (R461). -/
def State.jAccept (s : State) (v : Nat) : State × BitVec 512 :=
  ({ s with nv := { s.nv with jnext := s.nv.jnext + 1 } }, BitVec.ofNat 512 (v + s.nv.jnext % 2 ^ 64))

/-! ### Last-gasp registers (R465) -/

/-- R465: an entry written in ring order. -/
def State.lgWrite (s : State) (r : BitVec 512) : State :=
  let n := s.fld ST_LG_CTL ST_LG_CTL.NEXT
  let was := s.flag (ST_LG n) ST_LG.VALID
  let v := recSeq r + recSrc r * 2 ^ 64 + recSev r * 2 ^ 73 + recKind r * 2 ^ 76 + recUnit r * 2 ^ 80 + 2 ^ 100
  let s := s.setRegNat (ST_LG n) 4 v
  let s := s.setFld ST_LG_CTL ST_LG_CTL.NEXT (n + 1)
  if was then s.setFld ST_LG_CTL ST_LG_CTL.OVW 1
  else s.setFld ST_LG_CTL ST_LG_CTL.COUNT (s.fld ST_LG_CTL ST_LG_CTL.COUNT + 1)

/-- LAST_GASP_CLEAR (R465): every entry invalid, NEXT, COUNT and OVW zero. -/
def State.lgClear (s : State) : State :=
  let s := (upTo 16).foldl (fun s n => s.setRegNat (ST_LG n) 4 0) s
  s.setRegNat ST_LG_CTL 1 0

/-! ### The record queue (R459) -/

/-- R484: whether the Fault and Journal Unit runs. -/
def State.fjRuns (s : State) : Bool := decide (2 ≤ s.mode)

/-- The queue without its newest record below SEVERE that is no flush record, and that record. -/
def displace : List (BitVec 512) → Option (List (BitVec 512) × BitVec 512)
  | [] => none
  | r :: rs =>
    match displace rs with
    | some (rs', x) => some (r :: rs', x)
    | none => if recSev r < svSevere ∧ recKind r ≠ kFlush then some (rs, r) else none

/-- R459: a record placed. The second result is the source of a record lost by it, the third the SEQ it took. -/
def State.jPlace (s : State) (v : Nat) : State × Option Nat × Nat :=
  let sev := bitsOf v 137 3
  if s.jLost then
    let (s, r) := s.jAccept v
    (s.lgWrite r, none, recSeq r)
  else if (s.fj.jq.filter (fun r => decide (recKind r ≠ kFlush))).length < 64 then
    let (s, r) := s.jAccept v
    ({ s with fj := { s.fj with jq := s.fj.jq ++ [r] } }, none, recSeq r)
  else if sev < svSevere then (s, some (bitsOf v 128 9), 0)
  else
    match displace s.fj.jq with
    | some (q, x) =>
      let (s, r) := s.jAccept v
      ({ s with fj := { s.fj with jq := q ++ [r] } }, some (recSrc x), recSeq r)
    | none =>
      let (s, r) := s.jAccept v
      (s.lgWrite r, none, recSeq r)

/-! ### The name of the mode (R486) -/

/-- Ovens that have a bound sequencer. -/
def State.boundOvens (s : State) : List Nat := (upTo 8).filter (fun o => (s.seqOf o).isSome)

/-- The mode that ST_MODE.MODE names. -/
def State.modeName (s : State) : Nat :=
  let dozing := s.boundOvens.all (fun o => bitAt (s.fld ST_MODE ST_MODE.DOZE_OVENS) o)
  if s.st.wipe.isSome then mWipe
  else if s.st.holdup then mHoldup
  else if s.st.base < mBrum then s.st.base
  else if s.flag ST_MODE ST_MODE.TRANSIT then mTransit
  else if s.flag ST_MODE ST_MODE.MOULT then mMoult
  else if s.flag ST_MODE ST_MODE.PAIRED then mPaired
  else if s.st.base = mBrum then mBrum
  else if dozing && !s.boundOvens.isEmpty then mDoze
  else mRun

/-- R535: the valve's command as a mode takes it over: UMIN in Starter-only, 100 % in Proofing and Wipe, its last
command in every other mode. -/
def State.valveMode (s : State) (m : Nat) : State :=
  if m = mStarter then { s with st := { s.st with valve := s.objNat 0x3030 4 } }
  else if m = mProof ∨ m = mWipe then { s with st := { s.st with valve := fix 100 1 } }
  else s

/-- R486: MODE named again; a change writes a record of KIND mode change, except in Hold-up, whose only such records
are those of the flush. The record goes straight to the halves where no Fault and Journal Unit runs to queue it. -/
def State.rename (s : State) : State :=
  let m := s.modeName
  if m = s.mode then s
  else
    let s := s.setFld ST_MODE ST_MODE.MODE m
    let s := s.valveMode m
    if m = mHoldup ∨ m = mOff then s
    else
      let v := s.jRec { src := 0, unit := starterUnit, sev := svInfo } kMode svInfo false false
      if s.fjRuns then (s.jPlace v).1
      else
        let (s, r) := s.jAccept v
        s.jStore .ring r

/-- An overlay flag of ST_MODE set or cleared, and MODE named again. -/
def State.overlay (s : State) (f : Fld) (b : Bool) : State := (s.setFlag ST_MODE f b).rename

end Sys2Proof.Machine
end

