-- ==== Sys2Proof/Machine/Fault.lean ====
section
/-! DEFINITION. Sys2Proof/Machine/Fault.lean: what the Fault and Journal Unit does with an event: counting (R446),
classification and reactions (R448 to R456), the first-fault record (R451), and the ACTION queue (R449, R450). -/
namespace Sys2Proof.Machine

/-! ### ALERT_N (R456) -/

/-- The fall of ALERT_N that opens an episode. -/
def State.alertFall (s : State) : State :=
  let s := (s.setFld FJ_PIN_CTL FJ_PIN_CTL.LOW 1).setFld FJ_STATUS FJ_STATUS.ALERT 1
  { s with fj := { s.fj with alertOpen := true, alertMin := false } }

/-- The rise of ALERT_N that ends an episode; in pulse mode the pin then stays high for at least 20 µs. -/
def State.alertRise (s : State) : State :=
  let s := (s.setFld FJ_PIN_CTL FJ_PIN_CTL.LOW 0).setFld FJ_STATUS FJ_STATUS.ALERT 0
  let s := s.setFld FJ_PIN_CTL FJ_PIN_CTL.ACK 0
  { s with fj := { s.fj with alertOpen := false, alertMin := false,
                             alertHigh := decide (s.fld FJ_PIN_CTL FJ_PIN_CTL.MODE = 0) } }

/-- A SEVERE or FATAL event reaches the pin. -/
def State.alertEvent (s : State) : State :=
  if s.fj.alertOpen then s
  else if s.fj.alertHigh then { s with fj := { s.fj with alertNext := true } }
  else s.alertFall

/-- Whether a SEVERE or FATAL condition source is PRESENT. Every condition source of the spec is DEGRADED by its own
chapter, so its severity is its floor (R445). -/
def State.severePresent (s : State) : Bool :=
  (upTo 512).any (fun k => s.flag (FJ_SRC_STAT k) FJ_SRC_STAT.PRESENT
    && decide (svSevere ≤ max (srcSev k) (s.fld (FJ_SRC_CFG k) FJ_SRC_CFG.SEV)))

/-- R456: the pin after its minimum low time, by MODE: it rises in pulse mode, on ACK in held mode, and on ACK once no
severe condition is present in the third. -/
def State.alertSettle (s : State) : State :=
  if !(s.fj.alertOpen && s.fj.alertMin) then s
  else
    let m := s.fld FJ_PIN_CTL FJ_PIN_CTL.MODE
    let ack := s.flag FJ_PIN_CTL FJ_PIN_CTL.ACK
    if m = 0 then s.alertRise
    else if !ack then s
    else if m = 2 ∧ s.severePresent then s
    else s.alertRise

/-! ### Reactions -/

/-- A trip of a local store acts on its sequencer (R447): the unit an ACTION is for. -/
def actUnit (u : Nat) : Nat := if u / 65536 = 2 then seqUnit (u % 65536) else u

/-- R473: the units that are never fenced. -/
def fenceable (u : Nat) : Bool := decide (u / 65536 < 9)

def Reaction.covers (r : Reaction) (u : Nat) : Bool := actUnit r.unit == actUnit u

/-- Every reaction from its trip to its end (R453). -/
def FaultUnit.reactions (f : FaultUnit) : List Reaction := f.running ++ f.queued ++ f.onSource

/-- FJ_STATUS.REACT, RQUEUE and REGROWS, which count what `fj` holds. -/
def State.fjShow (s : State) : State :=
  let s := s.setFld FJ_STATUS FJ_STATUS.REACT s.fj.running.length
  let s := s.setFld FJ_STATUS FJ_STATUS.RQUEUE s.fj.queued.length
  let n := s.fj.regrows.length + (s.fj.running.filter (fun r => r.action == 2)).length
  s.setFld FJ_STATUS FJ_STATUS.REGROWS (min 15 n)

/-- R478: Moult holds while an Autotomy whose ACTION includes Regrow, or a Regrow, is in progress; never in Proofing
or Tadpole (R486). -/
def State.moultShow (s : State) : State :=
  let on := s.fj.reactions.any (fun r => r.action == 2) || !s.fj.regrows.isEmpty
  s.overlay ST_MODE.MOULT (on && decide (mBrum ≤ s.st.base))

/-- R450: an ACTION queued in trip order; with 32 queued it stays pending on its source and FJ_QUEUE_FULL is raised. -/
def State.actPush (s : State) (r : Reaction) : State × List Event :=
  let full := decide (32 ≤ s.fj.queued.length)
  let f := if full then { s.fj with onSource := s.fj.onSource ++ [r] }
           else { s.fj with queued := s.fj.queued ++ [r] }
  let s := ({ s with fj := f }).fjShow.moultShow
  (s, if full then [{ src := 0x00C, unit := fjUnit, sev := svSevere }] else [])

/-! ### An event -/

/-- Table 14-3, in ns. -/
def windowNs (w : Nat) : Nat :=
  [1000000, 10000000, 100000000, 1000000000, 10000000000, 60000000000, 600000000000, 3600000000000,
   21600000000000, 86400000000000].getD w 604800000000000

/-- R445: an event's own severity; SPEC events are CORRECTED. -/
def State.sevOf (s : State) (e : Event) : Nat :=
  if e.spec then svCorrected else max e.sev (s.fld (FJ_SRC_CFG e.src) FJ_SRC_CFG.SEV)

/-- Whether a source's window is open now (R446). -/
def State.winOpen (s : State) (k : Nat) : Bool :=
  s.flag (FJ_SRC_STAT k) FJ_SRC_STAT.WOPEN && decide (s.now < cget s.fj.wclose k)

/-- FAULT_WINDOW_CLOSE: a source's window closes. -/
def State.winClose (s : State) (k : Nat) : State :=
  let s := s.setFld (FJ_SRC_STAT k) FJ_SRC_STAT.WOPEN 0
  { s with fj := { s.fj with wclose := cput s.fj.wclose k 0, tripped := s.fj.tripped.filter (fun x => x != k) } }

/-- EVENTS one higher; saturation sets SAT (R446, R621). -/
def State.countEvent (s : State) (k : Nat) : State :=
  let a := FJ_SRC_STAT k
  (s.countSat a FJ_SRC_STAT.EVENTS FJ_SRC_STAT.SAT).setFld a FJ_SRC_STAT.LATCHED 1

/-- R446: the event counted in its window. The results: the state, whether it opened the window, whether it trips. -/
def State.countWindow (s : State) (k : Nat) : State × Bool × Bool :=
  let a := FJ_SRC_STAT k
  let opens := !s.winOpen k
  let s := if opens then
      let s := ((s.winClose k).setFld a FJ_SRC_STAT.WOPEN 1).setFld a FJ_SRC_STAT.WCOUNT 0
      let w := windowNs (s.fld (FJ_SRC_CFG k) FJ_SRC_CFG.WINDOW)
      { s with fj := { s.fj with wclose := cput s.fj.wclose k (s.now + w) } }
    else s
  let s := s.setFld a FJ_SRC_STAT.WCOUNT (satInc 0xFFFF (s.fld a FJ_SRC_STAT.WCOUNT))
  let s := s.countEvent k
  let th := s.fld (FJ_SRC_CFG k) FJ_SRC_CFG.THRESH
  let trips := decide (th ≠ 0) && decide (s.fld a FJ_SRC_STAT.WCOUNT = th) && !s.fj.tripped.contains k
  let s := if trips then
      { s.setFld a FJ_SRC_STAT.TRIPPED 1 with fj := { s.fj with tripped := k :: s.fj.tripped } }
    else s
  (s, opens, trips)

/-- R451: FJ_FIRST captures an event, or, in a clock in which it was captured already, FJ_ALSO does. -/
def State.firstCapture (s : State) (e : Event) (sev : Nat) (same : Bool) : State × Bool :=
  if sev < s.fld FJ_CTL FJ_CTL.FIRST_MIN then (s, false)
  else if !s.flag FJ_FIRST FJ_FIRST.VALID then
    let v := e.src % 512 + sev * 2 ^ 9 + 2 ^ 12 + bit01 e.forced * 2 ^ 15 + e.unit % 2 ^ 20 * 2 ^ 32
    (s.setRegNat FJ_FIRST 4 v, true)
  else if same then
    (s.setFld (FJ_ALSO (e.src / 32)) (e.src % 32, 1) 1, false)
  else (s, false)

/-- R455: the notice bits of an event for every bound sequencer. -/
def State.notify (s : State) (k : Nat) : State :=
  let g := s.flag (FJ_SRC_CFG k) FJ_SRC_CFG.NOTIFY_G
  let sec := s.flag (FJ_SRC_CFG k) FJ_SRC_CFG.NOTIFY_S
  (upTo 9).foldl (fun s n =>
    if s.unitState (seqUnit n) = usBound then
      let s := if g then s.setFld FJ_NOTICE (n, 1) 1 else s
      if sec then s.setFld FJ_NOTICE (16 + n, 1) 1 else s
    else s) s

/-- EVENTS_BY_SEV (0x4000:06): five saturating counts since the Starter booted. -/
def State.countSeverity (s : State) (sev : Nat) : State :=
  let l := s.obj 0x4000 6
  let v := ofBytes ((l.drop (4 * sev)).take 4)
  s.setObj 0x4000 6 (l.take (4 * sev) ++ toBytes 4 (satInc (2 ^ 32 - 1) v) ++ l.drop (4 * sev + 4))

/-- EMERGENCY (R559, Table 17-12): broadcast on each enabled bus for an event of EMCY_MIN or higher, at most 100 on a
bus in any second. -/
def State.emergency (s : State) (e : Event) (sev : Nat) (trip : Bool) (seq addr : Nat) : State :=
  let data := toBytes 2 (e.src % 512) ++ toBytes 2 (sev + bit01 e.forced * 2 ^ 8 + bit01 e.spec * 2 ^ 9
      + bit01 trip * 2 ^ 10) ++ toBytes 4 (e.unit % 2 ^ 20) ++ toBytes 8 seq ++ toBytes 8 s.st.tb
  (upTo 2).foldl (fun s b =>
    let recent := s.st.emcySent.filter (fun p => decide (s.now < p.2 + 1000000000))
    if bitAt s.st.canEn b && decide (cget s.st.canState b < 2) && decide ((recent.filter (fun p => p.1 == b)).length < 100) then
      { s with st := { s.st with emcySent := recent ++ [(b, s.now)],
                                 canTx := s.st.canTx ++ [{ path := b, func := 0, dst := 0x1FFF, src := addr, data := data }] } }
    else s) s

/-- R550: the device's Jenzia address. -/
def State.jenziaAddr (s : State) : Nat :=
  let v := s.objNat 0x6000 1
  if v < 0x1000 then v else 0x1FFE

/-- R449: whether a trip's ACTION is taken now. -/
def State.actTaken (s : State) (e : Event) (u : Nat) : Bool :=
  s.flag FJ_CTL FJ_CTL.AUTO_ACT && (!e.forced || s.flag FJ_CTL FJ_CTL.FORCE_ACT)
    && fenceable u && s.unitState u != usFenced && s.unitState u != usLost && s.unitState u != 7

/-- R446, R448, R449, R453: one event counted, classified and reacted to, all but the change of mode. `same` says that
FJ_FIRST was captured in this clock. The results: the state, whether FJ_FIRST captured this event, further events. -/
def State.raiseCore (s : State) (e : Event) (same : Bool) : State × Bool × List Event :=
  let (s, opens, trips) := if e.spec then (s.countEvent e.src, false, false) else s.countWindow e.src
  let own := s.sevOf e
  let sev := if trips then max own (s.fld (FJ_SRC_CFG e.src) FJ_SRC_CFG.ESC) else own
  let s := if e.forced then s.setFld FJ_STATUS FJ_STATUS.FORCED 1 else s
  let s := s.countSeverity sev
  let (s, first) := s.firstCapture e sev same
  let s := if sev < svFatal then s.notify e.src else s
  let s := if svSevere ≤ sev then s.alertEvent else s
  let s := if sev = svFatal ∧ (e.forced = false ∨ s.flag FJ_CTL FJ_CTL.FORCE_ACT = true) then
      { s with fj := { s.fj with fatal := some e.src } } else s
  if s.fj.reactions.any (fun r => r.covers e.unit) then
    let up := fun (r : Reaction) => if r.covers e.unit then { r with bits := recMerge r.bits sev } else r
    let hit := s.fj.reactions.any (fun r => r.covers e.unit && r.first)
    let f := { s.fj with running := s.fj.running.map up, queued := s.fj.queued.map up, onSource := s.fj.onSource.map up }
    let s := { s with fj := f }
    let s := if hit then
        let s := s.setFld FJ_FIRST FJ_FIRST.COUNT (satInc 0xFFFF (s.fld FJ_FIRST FJ_FIRST.COUNT))
        s.setFld FJ_FIRST FJ_FIRST.SEV (max sev (s.fld FJ_FIRST FJ_FIRST.SEV))
      else s
    let s := if sev = svFatal then
        match s.fj.reactions.find? (fun r => r.covers e.unit) with
        | some r => s.lgWrite r.bits
        | none => s
      else s
    (s, first, [])
  else
    let act := s.fld (FJ_SRC_CFG e.src) FJ_SRC_CFG.ACTION
    let u := actUnit e.unit
    let wants := trips && decide (act ≠ 0)
    let taken := wants && s.actTaken e u
    let noact := (wants && !taken) || (e.forced && decide (sev = svFatal) && !s.flag FJ_CTL FJ_CTL.FORCE_ACT)
    let esc := decide (own < sev)
    let bits := s.jRec e (if trips then kTrip else kEvent) sev esc noact
    let wanted := if s.mode = mHoldup then decide (svSevere ≤ sev)
      else if svDegraded ≤ sev then true
      else if e.spec || decide (sev = svInfo) then s.flag FJ_CTL FJ_CTL.JNL_INFO
      else opens || trips
    let (s, lost, seq) := if wanted then s.jPlace bits else (s, none, 0)
    let s := if first then { s with fj := { s.fj with firstSeq := seq } } else s
    let s := if sev = svFatal then s.lgWrite (BitVec.ofNat 512 (bits + seq % 2 ^ 64)) else s
    let s := if s.objNat 0x1010 5 ≤ sev then s.emergency e sev trips seq s.jenziaAddr else s
    let drop := match lost with
      | some k => if k = 0x004 then [] else [{ src := 0x004, unit := fjUnit, sev := svInfo }]
      | none => []
    let s := if wants && !s.flag FJ_CTL FJ_CTL.AUTO_ACT then
        { s with fj := { s.fj with repairs := (act * 2 ^ 20 + u) :: s.fj.repairs.filter (fun x => x % 2 ^ 20 != u) } } else s
    if taken then
      let r : Reaction := { src := e.src, unit := u, action := act, first := first,
                            bits := BitVec.ofNat 512 (setBits (s.jRec e kAutotomy sev esc false) 144 20 u) }
      let (s, more) := s.actPush r
      (s, first, drop ++ more)
    else (s, first, drop)

/-- Events handled one after another, with those they raise in turn. -/
def raiseAll : Nat → State → List Event → State
  | 0, s, _ => s
  | _, s, [] => s
  | n + 1, s, e :: es =>
    let (s, _, more) := s.raiseCore e false
    raiseAll n s (es ++ more)

/-- A reserved source number never raises an event (R442). -/
def srcKnown (k : Nat) : Bool :=
  decide (k < 0xD) || (decide (0x20 ≤ k) && decide (k < 0x44))
    || (decide (0x50 ≤ k) && decide (k < 0x98) && decide (k % 4 < 3)) || (decide (0xA0 ≤ k) && decide (k < 0xAC))
    || (decide (0xB0 ≤ k) && decide (k < 0xF8) && decide (k % 8 < 6)) || (decide (0xF8 ≤ k) && decide (k < 0xFC))
    || (decide (0x100 ≤ k) && decide (k < 0x10D)) || (decide (0x110 ≤ k) && decide (k < 0x116))
    || (decide (0x120 ≤ k) && decide (k < 0x1A0) && decide (k % 16 < 12)) || (decide (0x1A0 ≤ k) && decide (k < 0x1C0))
    || (decide (0x1F0 ≤ k) && decide (k < 0x200))

/-- R484: an event below the mode change: handled by the unit where it runs; in Starter-only the Starter records FATAL
events in ST_LGn alone. -/
def State.raise0 (s : State) (e : Event) : State :=
  if !srcKnown e.src then s
  else if s.fjRuns then raiseAll 8 s [e]
  else if s.mode = mStarter ∧ s.sevOf e = svFatal then
    let (s, r) := s.jAccept (s.jRec e kEvent svFatal false false)
    s.lgWrite r
  else s

end Sys2Proof.Machine
end

