-- ==== Sys2Proof/Machine/Start.lean ====
section
/-! DEFINITION. Sys2Proof/Machine/Start.lean: the base die powered down (R485, Table 20-2), Starter-only, failed
starts (R498 to R500), and raising an event with the change of mode that a FATAL one makes (R448). -/
namespace Sys2Proof.Machine

/-- Whether an address lies in a block that the base die's power-down leaves alone: the Fault and Journal Unit's
registers, which the dictionary still mirrors (R556), and the blocks of the Starter die. -/
def keptBlock (a : Nat) : Bool := decide (0xC00000 ≤ a) && decide (a < 0x1000000)

/-- Table 20-2: every block of the base die at its reset values; the memories hold nothing (Table 15-1). -/
def State.baseReset (s : State) : State :=
  { s with regs := s.regs.filter (fun p => keptBlock p.1), seqs := Vector.replicate 9 Seq.reset, vm := VMem.reset,
           ls := [], lsBad := [], lsWipes := [], marches := [], fab := Fabric.reset, qe := QueueEng.reset,
           hp := HostPorts.reset, ch := ChainState.reset, bm := Vector.replicate 32 BmChan.reset, pm := [], pmBad := [], pmImg := [] }

/-- What is left of the Fault and Journal Unit when its domain loses power: the pin, which the Starter drives (R456). -/
def FaultUnit.cold (f : FaultUnit) : FaultUnit :=
  { FaultUnit.reset with alertOpen := f.alertOpen, alertMin := f.alertMin, alertHigh := f.alertHigh, alertNext := f.alertNext }

/-- The base die powered down: the unit's reactions and its queue are lost with it, and the dictionary keeps the last known
values of the registers it mirrors (R556). -/
def State.baseOff (s : State) : State :=
  let s := if s.st.base < 2 then s else { s with st := { s.st with known := s.regs.filter (fun p => !keptBlock p.1) } }
  (({ s with fj := s.fj.cold }.baseReset).setFld FJ_STATUS FJ_STATUS.READY 0).fjShow

/-- R488, R489: a request that a taken transition makes invalid is refused. -/
def State.reqCancel (s : State) : State :=
  match s.st.quiesce with
  | some t => { (if t < 16 then s.setFld ST_MODE_REQ ST_MODE_REQ.REJ 1 else s) with st := { s.st with quiesce := none } }
  | none => s

/-- The record queue written out to the halves (R459). -/
def State.jDrain (s : State) : State :=
  { s.fj.jq.foldl (fun s r => s.jStore .ring r) s with fj := { s.fj with jq := [] } }

/-- BOOT_TRIES (R498): the voted field, with its copy in the boot area. -/
def State.bootTries (s : State) : Nat := s.fld ST_MODE ST_MODE.BOOT_TRIES
def State.setBootTries (s : State) (n : Nat) : State := (s.setFld ST_MODE ST_MODE.BOOT_TRIES n).setBootObj obTries 1 n

/-- Starter-only entered; `code` is what LAST_END of the next start will say (R508). -/
def State.goStarter (s : State) (code : Nat) : State :=
  let s := s.reqCancel.baseOff
  let s := ((s.setFld ST_MODE ST_MODE.MOULT 0).setFld ST_MODE ST_MODE.TRANSIT 0).setFld ST_MODE ST_MODE.PAIRED 0
  let s := (s.setFld ST_MODE ST_MODE.DOZE_OVENS 0).setFld ST_MODE ST_MODE.ADMIT 0
  { s with st := { s.st with base := 1, holdup := false, wipe := none, quiesce := none, wake := false },
           nv := { s.nv with lastEnd := code } }.rename

/-- R498: a start that ends before BOOT_TRIES has cleared, by no failure, gives its increment back. -/
def State.giveBack (s : State) : State :=
  if s.st.triesOpen then
    { s.setBootTries s.st.triesBefore with st := { s.st with triesOpen := false } }
  else s

/-- The reason code of a failed start (Table 15-6). -/
def State.reasonCode (s : State) (stage src cause : Nat) : Nat :=
  stage % 256 + src % 512 * 2 ^ 8 + s.fld ST_BOOT ST_BOOT.IMAGE * 2 ^ 17 + cause % 16 * 2 ^ 18 + s.bootTries * 2 ^ 24

/-- R500: the reason code written where the spec says, and its record. -/
def State.reasonWrite (s : State) (code : Nat) : State :=
  let s := (((s.setBootObj (obHistory 2) 4 (s.bootObj (obHistory 1))).setBootObj (obHistory 1) 4
    (s.bootObj (obHistory 0))).setBootObj (obHistory 0) 4 code).setBootObj obReason 4 code
  let s := s.setRegNat ST_BOOT_REASON 1 code
  let e : Event := { src := 0x1F8, unit := starterUnit, sev := svSevere, detail := code }
  if s.fjRuns then (s.raise0 e).jDrain
  else
    let (s, r) := s.jAccept (s.jRec e kEvent svSevere false false)
    s.jStore .ring r

/-- R616: the Fault and Journal Unit powered up, but for the pin. -/
def State.fjReset (s : State) : State :=
  let s := { s with regs := s.regs.filter (fun p => !(decide (0xC00000 ≤ p.1) && decide (p.1 < 0xC10000))), fj := s.fj.cold }
  if s.fj.alertOpen then (s.setFld FJ_PIN_CTL FJ_PIN_CTL.LOW 1).setFld FJ_STATUS FJ_STATUS.ALERT 1 else s

/-- The lock bit of a register that stands in the word at `a`, by its weight (R544). -/
def lockBitIn (a : Nat) : Nat :=
  match regFind a with
  | none => 0
  | some (r, i, j, _) => if r.lockAt ≠ 0 ∧ r.lockAt + i * r.lk1 + j * r.lk2 = a then 2 ^ r.lockBit else 0

/-- The words of a saved value without the lock bits that stand among them. -/
def noLocks (a words v : Nat) : Nat :=
  (upTo words).foldl (fun x w => x + (v / 2 ^ (32 * w) % 2 ^ 32 &&& (0xFFFFFFFF - lockBitIn (a + 4 * w))) * 2 ^ (32 * w)) 0

/-- R441, R544: a saved value loaded into the register that its object mirrors; `pick` chooses the registers. A lock bit
is never loaded. -/
def State.loadMirrors (s : State) (pick : Nat → Bool) : State :=
  (dictTable.filter (fun o => o.pers == 1)).foldl (fun s o =>
    (upTo o.n).foldl (fun s i => (upTo o.m).foldl (fun s j =>
      match o.regAt (o.index + i) (o.sub + j) with
      | none => s
      | some a =>
        let v := mget (fun _ => []) s.nv.saved (objKey (o.index + i) (o.sub + j))
        if v.isEmpty || !pick a then s else s.setRegNat a o.words (noLocks a o.words (ofBytes v))) s) s) s

/-- Proofing begun (R497): as a Tadpole start (R501) or as another, which counts a try (R498). Every sequencer is reset, so
its branch target secrets are drawn afresh (R599). -/
def State.proofBegin (s : State) (tad : Bool) : State :=
  let s := if tad then s else
    { s.setBootTries (min 3 (s.bootTries + 1)) with st := { s.st with triesBefore := s.bootTries, triesOpen := true } }
  let s := s.setBootObj obStarts 4 (s.bootObj obStarts + 1)
  let s := s.setBootObj obLastEnd 1 s.nv.lastEnd
  let s := { s.baseReset.fjReset with ustA := [], ustB := [], ustC := [], ustMgmt := [], ustData := [] }
  let s := s.loadMirrors (fun a => decide (a < 0xC00000))
  let d := s.st.secDraw + 1
  let s := { s with st := { s.st with secDraw := d, secrets := (upTo 9).foldl (fun m n => cput m (9216 + n) d) s.st.secrets } }
  let s := ((s.setFld ST_BOOT ST_BOOT.STAGE (if tad then 0x30 else 0x10)).setFlag ST_BOOT ST_BOOT.TADPOLE tad).setFld
    ST_BOOT ST_BOOT.FALLBACK 0
  { s with st := { s.st with base := 2, restart := false, barred := false, valveOpen := false, tested := false,
                             testDue := true } }.rename

/-- R499: a failed start, at a stage, by a source and cause of Table 15-6. A restart waits for RESTART_DELAY; a third
failure begins a Tadpole start; a failure of that one, or no valid image, ends automatic starts. -/
def State.startFail (s : State) (stage src cause last : Nat) : State :=
  let tad := s.flag ST_BOOT ST_BOOT.TADPOLE
  let s := s.reasonWrite (s.reasonCode stage src (if tad then 7 else cause))
  let s := { s with st := { s.st with triesOpen := false } }
  if tad || decide (cause = 5) then
    let s := s.goStarter last
    { s with st := { s.st with barred := true } }
  else if s.bootTries < 3 then
    let s := s.goStarter last
    { s with st := { s.st with restart := decide (s.objNat 0x2000 4 ≠ 0) } }
  else
    let s := s.reqCancel.baseOff
    let s := { s with st := { s.st with holdup := false, wipe := none, wake := false } }
    let s := ((s.setFld ST_MODE ST_MODE.MOULT 0).setFld ST_MODE ST_MODE.TRANSIT 0).setFld ST_MODE ST_MODE.PAIRED 0
    let s := (s.setFld ST_MODE ST_MODE.DOZE_OVENS 0).setFld ST_MODE ST_MODE.ADMIT 0
    (s.proofBegin true).raise0 { src := 0x1F9, unit := starterUnit, sev := svSevere }

/-- Whether the device is in a start that a FATAL event fails (R499): in Proofing, or before BOOT_TRIES cleared. -/
def State.inStart (s : State) : Bool := decide (s.st.base = 2) || s.st.triesOpen || decide (s.st.base = 3)

/-- R448, R499: the change of mode that a FATAL event makes. Wipe goes before it (R488). -/
def State.fatalStop (s : State) (src : Nat) : State :=
  if s.st.wipe.isSome || decide (s.st.base < 2) then s
  else if s.inStart then
    s.startFail (if s.st.base = 2 then s.fld ST_BOOT ST_BOOT.STAGE else 0x20) src 3 3
  else
    let s := s.goStarter 3
    { s with st := { s.st with restart := decide (s.objNat 0x2000 4 ≠ 0) } }

/-- The change of mode due after events were handled. -/
def State.fatalSettle (s : State) : State :=
  match s.fj.fatal with
  | none => s
  | some k => { s with fj := { s.fj with fatal := none } }.fatalStop k

/-- An event of a source, with everything R446 to R453 make of it. -/
def State.raise (s : State) (k unit sev : Nat) (spec : Bool := false) (detail : Nat := 0) : State :=
  (s.raise0 { src := k, unit := unit, sev := sev, spec := spec, detail := detail }).fatalSettle

/-- R444, R452: a condition becomes present, which is an event when it was not. -/
def State.condSet (s : State) (k unit sev : Nat) : State :=
  if s.flag (FJ_SRC_STAT k) FJ_SRC_STAT.PRESENT || !s.fjRuns then s
  else (s.setFld (FJ_SRC_STAT k) FJ_SRC_STAT.PRESENT 1).raise k unit sev

/-- A condition ends. -/
def State.condClear (s : State) (k : Nat) : State :=
  if s.flag (FJ_SRC_STAT k) FJ_SRC_STAT.PRESENT then (s.setFld (FJ_SRC_STAT k) FJ_SRC_STAT.PRESENT 0).alertSettle else s

def State.cond (s : State) (on : Bool) (k unit sev : Nat) : State := if on then s.condSet k unit sev else s.condClear k

end Sys2Proof.Machine
end

