-- ==== Sys2Proof/Machine/RegAccess.lean ====
section
/-! DEFINITION. Sys2Proof/Machine/RegAccess.lean: reads and writes of registers by their access types (R611 to R621),
whatever block they belong to; the masters of Table 10-12 and the error codes of Table 10-14. -/
namespace Sys2Proof

def Master.isSeq (m : Master) : Bool := decide (m.id < 9)
def Master.isHost (m : Master) : Bool := decide (m.id = 11) || decide (m.id = 12)
/-- Secure supervisor level, or the Starter. -/
def Master.secSup (m : Master) : Bool := (m.isSeq && m.world && m.sup) || decide (m.id = 13)
/-- Supervisor level of either world, or the Starter. -/
def Master.anySup (m : Master) : Bool := (m.isSeq && m.sup) || decide (m.id = 13)

end Sys2Proof

namespace Sys2Proof.Machine

def mSeq (n : Nat) (w sup : Bool) : Master := ⟨n, w, sup⟩
def mQe : Master := ⟨9, true, true⟩
def mBm (w : Bool) : Master := ⟨10, w, false⟩
def mHost (h : Nat) : Master := ⟨11 + h, false, false⟩
def mStart : Master := ⟨13, true, true⟩
def mFj : Master := ⟨14, true, true⟩
def mChain : Master := ⟨15, false, false⟩

/- Error codes of Table 10-14. -/
def erDefault : Nat := 1
def erDenied : Nat := 2
def erUe : Nat := 3
def erFenced : Nat := 4
def erTimeout : Nat := 5

/-- The masks of one 32-bit word of a register: RW, RWL, W1C, W1S and reserved bits. -/
structure WordMask where
  rw : Nat
  rwl : Nat
  w1c : Nat
  w1s : Nat
  rsv : Nat
  deriving DecidableEq, Repr

def RegDesc.mask (r : RegDesc) (w : Nat) : WordMask :=
  { rw := bitsOf r.rw (32 * w) 32, rwl := bitsOf r.rwl (32 * w) 32, w1c := bitsOf r.w1c (32 * w) 32,
    w1s := bitsOf r.w1s (32 * w) 32, rsv := bitsOf r.rsv (32 * w) 32 }

/-- R615: whether the lock bit of a register is set. -/
def State.locked (s : State) (r : RegDesc) (i j : Nat) : Bool :=
  decide (r.lockAt ≠ 0) && s.flag (r.lockAt + i * r.lk1 + j * r.lk2) (r.lockBit, 1)

/-- Bits of `v` under a mask. -/
def bitsIn (v mask : Nat) : Nat := v &&& mask
/-- Bits of `v` outside a mask of 32 bits. -/
def bitsOut (v mask : Nat) : Nat := v &&& (0xFFFFFFFF - mask % 2 ^ 32)

/-- R613, Table 20-1: a word written by the access types of its bits; R6: a non-zero write to a reserved field leaves
values that nothing constrains in the fields written. -/
def State.wordWrite (s : State) (a v : Nat) : State :=
  match regFind a with
  | none => s
  | some (r, i, j, w) =>
    let m := r.mask w
    let stored := m.rw ||| (if s.locked r i j then 0 else m.rwl)
    let (s, x) := if bitsIn v m.rsv ≠ 0 then (s.tick, s.fresh) else (s, v)
    let old := (s.reg a).toNat
    let y := bitsOut old stored ||| bitsIn x stored
    let y := bitsOut y (bitsIn v m.w1c) ||| bitsIn v m.w1s
    s.setReg a (BitVec.ofNat 32 y)

/-- A write of 4 or 8 bytes by access types, lowest word first. -/
def State.typedWrite (s : State) (a size v : Nat) : State :=
  let s := s.wordWrite a (v % 2 ^ 32)
  if size = 8 then s.wordWrite (a + 4) (v / 2 ^ 32 % 2 ^ 32) else s

/-- R611: whether every word of an access is listed. -/
def regListed (a size : Nat) : Bool := (regFind a).isSome && (decide (size ≠ 8) || (regFind (a + 4)).isSome)

/-- The bits an access writes in a field of the register at `r`: whether the field's bit `b` is written 1. -/
def wrBit (a size v r b : Nat) : Bool :=
  let w := r + 4 * (b / 32)
  decide (a ≤ w) && decide (w < a + size) && bitAt v (8 * (w - a) + b % 32)

/-- Whether an access writes the word that holds bit `b` of the register at `r`. -/
def wrHits (a size r b : Nat) : Bool :=
  let w := r + 4 * (b / 32)
  decide (a ≤ w) && decide (w < a + size)

end Sys2Proof.Machine
end

