-- ==== Sys2Proof/Machine/Table.lean ====
section
/-! DEFINITION. Sys2Proof/Machine/Table.lean: changes of the Unit State Table (R469) and the start and end of a Regrow as
the Fault and Journal Unit keeps them (R458, R475, R478). -/
namespace Sys2Proof.Machine

/-- R469: an entry changed, with its record of KIND Unit State Table change and its saved copy. -/
def State.ustChange (s : State) (u v : Nat) : State :=
  let s := s.setUst u (BitVec.ofNat 32 v)
  if s.jLost then s
  else
    let e : Event := { src := bitsOf v 8 9, unit := u, sev := svInfo, detail := v }
    let (s, r) := s.jAccept (s.jRec e kUst svInfo false false)
    let s := s.jStore .cfg r
    { s with nv := { s.nv with savedUst := mput ustReset s.nv.savedUst u (BitVec.ofNat 32 v) } }

/-- A unit's entry with STATE changed. -/
def State.ustState (s : State) (u st : Nat) : State := s.ustChange u (setBits (s.ustEntry u).toNat 0 3 st)

/-- A unit fenced: STATE and CAUSE (Table 14-11). -/
def State.ustFence (s : State) (u cause : Nat) : State :=
  s.ustChange u (setBits (setBits (s.ustEntry u).toNat 0 3 usFenced) 8 9 cause)

/-- A unit bound to an Oven on a side, or for other classes simply bound. -/
def State.ustBind (s : State) (u st oven : Nat) (side : Bool) : State :=
  s.ustChange u (setBits (setBits (setBits (s.ustEntry u).toNat 0 3 st) 3 3 oven) 6 1 (bit01 side))

/-- The key, in `Durable.saved`, of the Journal's Regrow record that names the unit a spare replaces (R469). -/
def regrowKey (spare : Nat) : Nat := 0x2000000 + spare

def State.regrowKeep (s : State) (spare : Nat) (v : List Byte) : State :=
  { s with nv := { s.nv with saved := mput (fun _ => []) s.nv.saved (regrowKey spare) v } }

/-- R475, R478: a Regrow starts: its record, Moult, and REGROWS. The record's UNIT is the spare, and its DETAIL names
the unit replaced. -/
def State.regrowOpen (s : State) (src spare lost : Nat) : State :=
  let e : Event := { src := src, unit := spare, sev := svInfo, detail := lost }
  let s := (s.jPlace (s.jRec e kRegrowStart svInfo false false)).1
  let g : Regrow := { spare := spare, lost := lost, bits := BitVec.ofNat 512 (s.jRec e kRegrowEnd svInfo false false) }
  ({ s with fj := { s.fj with regrows := s.fj.regrows ++ [g] } }.regrowKeep spare (toBytes 4 (lost + 1))).fjShow.moultShow

/-- A Regrow ends, well or not, with its record. -/
def State.regrowClose (s : State) (spare : Nat) : State :=
  match s.fj.regrows.find? (fun g => g.spare == spare) with
  | none => s
  | some g =>
    let s := { s with fj := { s.fj with regrows := s.fj.regrows.filter (fun x => x.spare != spare) } }.regrowKeep spare []
    (s.jPlace (setBits g.bits.toNat 64 64 s.st.tb)).1.fjShow.moultShow

end Sys2Proof.Machine
end

