-- ==== Sys2Proof/Machine/HostOut.lean ====
section
/-! DEFINITION. Sys2Proof/Machine/HostOut.lean: host functions and what the device sends to a host (R424, R425, R431,
R434): writes, MSI-X messages, and the writes and messages dropped. -/
namespace Sys2Proof.Machine

/- Fault sources of Table 13-14, by endpoint. -/
def hpLinkDown (i : Nat) : Nat := 0x1A0 + i * 8
def hpFailover (i : Nat) : Nat := 0x1A1 + i * 8
def hpErrRsp (i : Nat) : Nat := 0x1A3 + i * 8
def hpPmerge (i : Nat) : Nat := 0x1A4 + i * 8
def hpDropSrc (i : Nat) : Nat := 0x1A5 + i * 8
def hpMsixRange (i : Nat) : Nat := 0x1A6 + i * 8
def hpCfgIgnored (i : Nat) : Nat := 0x1A7 + i * 8

/-- Endpoint `i` = h × 2 + e (R441): its register set. -/
def hpStatus (i : Nat) : Nat := HP_STATUS (i / 2) (i % 2)
def hpCtl (i : Nat) : Nat := HP_CTL (i / 2) (i % 2)
def hpQrange (i : Nat) : Nat := HP_QRANGE (i / 2) (i % 2)
def hpMbctl (i : Nat) : Nat := HP_MBCTL (i / 2) (i % 2)

def HostPorts.ep (h : HostPorts) (i : Nat) : HostEp := h.eps.toList.getD i HostEp.reset
def State.hostEp (s : State) (i : Nat) : HostEp := s.hp.ep i
def State.setHostEp (s : State) (i : Nat) (e : HostEp) : State :=
  { s with hp := { s.hp with eps := s.hp.eps.setIfInBounds i e } }

def State.bifurOf (s : State) (h : Nat) : Bool := bitAt s.hp.bifur h

/-- R423: the endpoints a port has. -/
def State.epExists (s : State) (i : Nat) : Bool := decide (i % 2 = 0) || s.bifurOf (i / 2)

/-- The virtual functions of endpoint a (R424); endpoint b has the others. -/
def State.vfSplit (s : State) (h : Nat) : Nat :=
  if s.bifurOf h then min 256 (s.fld (HP_CTL h 0) HP_CTL.VFSPLIT) else 256

/-- Whether a queue lies in an endpoint's range. -/
def State.inRange (s : State) (i q : Nat) : Bool :=
  decide (s.fld (hpQrange i) HP_QRANGE.FIRST ≤ q) && decide (q ≤ s.fld (hpQrange i) HP_QRANGE.LAST)

/-- R424: the endpoint and function that port `h`'s FUNC names for a queue. -/
def State.funcOf (s : State) (h q func : Nat) : Nat × Nat :=
  if func = 0 then
    (if s.qe.moved.contains (q, h * 2) then h * 2
     else if s.bifurOf h && s.inRange (h * 2 + 1) q then h * 2 + 1 else h * 2, 0)
  else if func ≤ s.vfSplit h then (h * 2, func)
  else (h * 2 + 1, func - s.vfSplit h)

/-- The configuration of VF `f` of an endpoint: HP_VFCFGv is held once per port (R438). -/
def State.vfCfg (s : State) (i f : Nat) : Nat :=
  HP_VFCFG (i / 2) 0 (if i % 2 = 0 then f else f + s.vfSplit (i / 2))

/-- The port-wide FUNC of a function. -/
def State.portFunc (s : State) (i f : Nat) : Nat := if f = 0 then 0 else if i % 2 = 0 then f else f + s.vfSplit (i / 2)

def State.epUp (s : State) (i : Nat) : Bool :=
  let l := s.fld (hpStatus i) HP_STATUS.LSTATE
  decide (l = 2) || decide (l = 3)

/-- R425: whether a function reaches a queue. -/
def State.reaches (s : State) (i f q : Nat) : Bool :=
  !s.flag (QCTX q) QCTX.WORLD &&
  (if f = 0 then s.inRange i q || s.qe.moved.contains (q, i)
   else
    let a := s.vfCfg i f
    let b := s.fld a HP_VFCFG.QBASE
    s.inRange i q && decide (b ≤ q) && decide (q < b + min 256 (s.fld a HP_VFCFG.QCOUNT)))

/-- R434, R439: a write or message discarded and counted. -/
def State.hostDrop (s : State) (i : Nat) : State :=
  (s.countWrap (HP_DROP (i / 2) (i % 2)) 1 (hpStatus i) HP_STATUS.OVF_DROP).raise (hpDropSrc i) (hostUnit i) svInfo

/-- A write sent to host memory by a function (R207), or dropped where its link is down or Bus Master Enable clear. -/
def State.hostWrite (s : State) (i f addr : Nat) (data : List Byte) (poison : Bool := false) : State :=
  if s.epUp i && (s.hostEp i).bme.contains f then
    { s with hp := { s.hp with out := s.hp.out ++ [.write i (s.portFunc i f) addr data poison] } }
  else s.hostDrop i

/-- A byte of a function's MSI-X table; every vector is masked until the host unmasks it (R422). -/
def HostEp.tab (e : HostEp) (f off : Nat) : Byte :=
  mget (fun k => if k % 16 = 12 then 1 else 0) e.table (f * 32768 + off)

def HostEp.tabNat (e : HostEp) (f off n : Nat) : Nat := ofBytes ((upTo n).map (fun i => e.tab f (off + i)))

def HostEp.setTab (e : HostEp) (f off : Nat) (b : Byte) : HostEp :=
  { e with table := mput (fun k => if k % 16 = 12 then 1 else 0) e.table (f * 32768 + off) b }

/-- R431: an MSI-X message of a function's vector. -/
def State.msix (s : State) (i f vec : Nat) : State :=
  let e := s.hostEp i
  if f ≠ 0 ∧ 64 ≤ vec then s.raise (hpMsixRange i) (hostUnit i) svInfo
  else if !s.epUp i || !e.bme.contains f then s.hostDrop i
  else if !e.msixOn.contains f || e.fmask.contains f then s
  else if e.tabNat f (vec * 16 + 12) 1 % 2 = 1 then
    if e.pend.contains (f, vec) then s else s.setHostEp i { e with pend := e.pend ++ [(f, vec)] }
  else
    { s with hp := { s.hp with out := s.hp.out ++ [.msix i f vec (e.tabNat f (vec * 16) 8) (e.tabNat f (vec * 16 + 8) 4)] } }

/-! ### Answers to requests (R430) -/

/-- What the host sees of an error code of Table 10-14: UR or CA (Table 13-4). -/
def hostStatus (code : Nat) : Nat := if code = 0 then 0 else if code = 1 then 1 else 2

/-- Table 13-14: a request that received UR or CA. -/
def State.hostErr (s : State) (i status : Nat) : State :=
  if status = 1 ∨ status = 2 then s.raise (hpErrRsp i) (hostUnit i) svInfo else s

/-- A read of the host answered. -/
def State.hostAnswer (s : State) (i off status : Nat) (data : List Byte) (poison : Bool) : State :=
  let a : HostResp := { ep := i, addr := off, status := status, data := data, poison := poison }
  { s with hp := { s.hp with resp := s.hp.resp ++ [a] } }.hostErr i status

/-- A posted write of the host discarded and reported through AER. -/
def State.hostReport (s : State) (i off status : Nat) : State :=
  let e := s.hostEp i
  (s.setHostEp i { e with aer := e.aer ++ [(off, status)] }).hostErr i status

/-- A request of the control fabric answered with a code and the data read; a host's is answered on its link too. -/
def State.fabAnswer (s : State) (r : FabReq) (c v : Nat) : State :=
  let s := { s with fab := { s.fab with answers := s.fab.answers ++ [(r, c, v)] } }
  if r.who.id = 11 ∨ r.who.id = 12 then
    let i := (r.who.id - 11) * 2 + r.unit.val % 2
    match r.data with
    | none => s.hostAnswer i r.addr (hostStatus c) (if c = 0 then toBytes r.size v else []) false
    | some _ => if c = 0 then s else s.hostReport i r.addr (hostStatus c)
  else s

end Sys2Proof.Machine
end

