-- ==== Sys2Proof/Machine/Security.lean ====
section
/-! DEFINITION. Sys2Proof/Machine/Security.lean: SHA-256 and HMAC over bytes (R564), random draws, branch target
secrets (R596, R599), world notification (R607) and the SEC block (R608). -/
namespace Sys2Proof.Machine

/-! ### SHA-256 and HMAC-SHA-256 over bytes -/

/-- A 32-bit big-endian word of a byte list. -/
def beWord (l : List Byte) : Nat := l.foldl (fun a b => a * 256 + b.toNat) 0

/-- The sixteen words of a 64 B block. -/
def shaBlockWords (l : List Byte) : List Nat := (upTo 16).map (fun i => beWord ((l.drop (4 * i)).take 4))

/-- One compression of an eight-word state (FIPS 180-4). -/
def shaStep (h : List Nat) (blk : List Byte) : List Nat :=
  let w := (shaSched 48 (shaBlockWords blk).reverse).reverse
  let s := (shaK.zip w).foldl (fun s p => shaRound s (p.1 + p.2)) h
  (h.zip s).map (fun p => (p.1 + p.2) % 2 ^ 32)

def shaInit : List Nat :=
  [0x6a09e667, 0xbb67ae85, 0x3c6ef372, 0xa54ff53a, 0x510e527f, 0x9b05688c, 0x1f83d9ab, 0x5be0cd19]

def shaBlocks : Nat → List Nat → List Byte → List Nat
  | 0, h, _ => h
  | n + 1, h, l => shaBlocks n (shaStep h (l.take 64)) (l.drop 64)

/-- SHA-256 of a byte string. -/
def sha256Bytes (l : List Byte) : List Byte :=
  let pad := (119 - l.length % 64) % 64
  let m := l ++ [0x80] ++ List.replicate pad 0 ++ (toBytes 8 (8 * l.length)).reverse
  ((shaBlocks (m.length / 64) shaInit m).map (fun w => (toBytes 4 w).reverse)).flatten

/-- HMAC-SHA-256 (R564) under a 32 B key. -/
def hmac256 (key msg : List Byte) : List Byte :=
  let k := key ++ List.replicate (64 - key.length) 0
  let inner := sha256Bytes (k.map (· ^^^ 0x36) ++ msg)
  sha256Bytes (k.map (· ^^^ 0x5c) ++ inner)

/-! ### Draws -/

def State.rngOk (s : State) : Bool := s.flag SEC_STATUS SEC_STATUS.RNG_OK

/-- R565: a fresh CHALLENGE. -/
def State.newChallenge (s : State) : State :=
  { s.tick with st := { s.st with challenge := BitVec.ofNat 64 s.fresh } }

/-- A branch target context (R254): its sequencer, world, level and context ID. -/
def secretKey (n : Nat) (w sup : Bool) (ctx : Nat) : Nat := n * 1024 + bit01 w * 512 + bit01 sup * 256 + ctx % 256

/-- The secret of a context: of its own last draw or its sequencer's, whichever is later. -/
def State.secret (s : State) (n : Nat) (w sup : Bool) (ctx : Nat) : BitVec 17 :=
  let k := secretKey n w sup ctx
  Config.secret (max (cget s.st.secrets k) (cget s.st.secrets (9216 + n))) k

/-- R599: fresh secrets for a list of contexts, or of whole sequencers (numbers from 9,216 on). -/
def State.drawSecrets (s : State) (ks : List Nat) : State :=
  let d := s.st.secDraw + 1
  { s with st := { s.st with secDraw := d, secrets := ks.foldl (fun m k => cput m k d) s.st.secrets } }

def State.drawSeq (s : State) (n : Nat) : State := s.drawSecrets [9216 + n]
def State.drawAll (s : State) : State := s.drawSecrets ((upTo 9).map (9216 + ·))

/-- BTB_RENEW (R599): the contexts that SEC_BTB_RENEW names get fresh secrets, and GO clears. -/
def State.btbRenew (s : State) : State :=
  let v := s.regNat SEC_BTB_RENEW 1
  let w := bitAt v 9
  let seqs := (upTo 9).filter (fun n => bitAt v (11 + n))
  let one := fun n => if bitAt v 10 then
      (upTo 512).map (fun i => secretKey n w (decide (256 ≤ i)) (i % 256))
    else [secretKey n w (bitAt v 8) (v % 256)]
  (s.drawSecrets (seqs.map one).flatten).setFld SEC_BTB_RENEW SEC_BTB_RENEW.GO 0

/-- RNG_BLOCK (R598): a block of the generator passes its health tests or fails them. -/
def State.rngBlock (s : State) (ok : Bool) : State :=
  if ok then
    let n := min 1024 (s.st.rngGood + 1)
    let s := { s with st := { s.st with rngGood := n } }
    if n = 1024 then s.setFld SEC_STATUS SEC_STATUS.RNG_OK 1 else s
  else
    let s := { s with st := { s.st with rngGood := 0 } }.setFld SEC_STATUS SEC_STATUS.RNG_OK 0
    s.raise 0x1FF starterUnit svSevere

/-! ### World notification (R607) -/

/-- Bits of PEND set and cleared; a bit both set and cleared stays set. -/
def pendNext (old set clr : Nat) : Nat := (old &&& (255 - clr % 256)) ||| set % 256

/-- A write of SEC_NOTIFY_G or SEC_NOTIFY_S: the bits the master may write act, the others give DENIED. -/
def State.notifyWrite (s : State) (m : Master) (sec : Bool) (v : Nat) : State × Option Nat :=
  let a := if sec then SEC_NOTIFY_S else SEC_NOTIFY_G
  let f : Fld := SEC_NOTIFY_G.PEND
  let set := bitsOf v 0 8
  let clr := bitsOf v 8 8
  let maySet := if sec then m.anySup else m.secSup
  let own := fun o => m.isSeq && m.sup && !m.world && decide (s.seqOf o = some m.id)
  let mayClr := fun o => if sec then m.secSup else m.secSup || own o
  let clrOk := (upTo 8).foldl (fun acc o => acc + bit01 (bitAt clr o && mayClr o) * 2 ^ o) 0
  let s := s.setFld a f (pendNext (s.fld a f) (if maySet then set else 0) clrOk)
  (s, if (set ≠ 0 ∧ maySet = false) ∨ clrOk ≠ clr then some erDenied else none)

/-- The WORLD_NOTIFY line of a world on an Oven (R281, R607). -/
def State.notifyLine (s : State) (o : Nat) (w : Bool) : Bool :=
  bitAt (s.fld (if w then SEC_NOTIFY_S else SEC_NOTIFY_G) SEC_NOTIFY_G.PEND) o

/-! ### The SEC block (R608) -/

/-- The claim key slots that are provisioned (R597). -/
def State.keySlots (s : State) : Nat :=
  (upTo 4).foldl (fun acc k => acc + bit01 (decide ((s.nv.keys.toList.getD k 0) ≠ 0)) * 2 ^ k) 0

/-- SEC_STATUS, as fuses, vault and generator give it. -/
def State.secStatus (s : State) : Nat :=
  s.nv.lc % 8 + s.nv.epoch % 64 * 2 ^ 3 + s.nv.revoked % 16 * 2 ^ 9 + s.keySlots * 2 ^ 13 + bit01 s.rngOk * 2 ^ 17
    + bit01 s.nv.wipePend * 2 ^ 18

/-- SEC_RNG_READ (R608): fresh bits on each read, zero while RNG_OK = 0. -/
def State.rngRead (s : State) : State × Nat := if s.rngOk then (s.tick, s.fresh % 2 ^ 64) else (s, 0)

/-- A word of the SEC block as it is read. -/
def State.secView (s : State) (a : Nat) : Nat :=
  if a = SEC_STATUS then s.secStatus
  else if a = SEC_NOTIFY_G ∨ a = SEC_NOTIFY_S then s.regNat a 1 / 2 ^ 16 * 2 ^ 16
  else s.regNat a 1

/-- Whether General supervisor level may make a write of SEC_BTB_RENEW (R599): one that names a General context. -/
def btbMayWrite (m : Master) (v : Nat) : Bool := m.secSup || (m.isSeq && m.sup && !bitAt v 9)

/-- A word of the SEC block written. -/
def State.secWord (s : State) (m : Master) (a v : Nat) : State × Option Nat :=
  if a = SEC_NOTIFY_G then s.notifyWrite m false v
  else if a = SEC_NOTIFY_S then s.notifyWrite m true v
  else if a = SEC_BTB_RENEW then
    if btbMayWrite m v then
      let s := s.wordWrite a v
      (if bitAt v 20 then s.btbRenew else s, none)
    else (s, some erDenied)
  else if m.secSup then (s.wordWrite a v, none)
  else (s, some erDenied)

def State.secWrite (s : State) (m : Master) (a size v : Nat) : State × Option Nat :=
  let (s, e) := s.secWord m a (v % 2 ^ 32)
  if size = 8 then
    let (s, e') := s.secWord m (a + 4) (v / 2 ^ 32 % 2 ^ 32)
    (s, if e.isSome then e else e')
  else (s, e)

/-! ### Tamper (R600, R601) -/

/-- A source detects: LATCHED, PRESENT, and the response of its RESP field, which nothing takes during Wipe. SEC_TAMPER
is raised with k in its detail. -/
def State.tamperLatch (s : State) (k : Nat) (present : Bool) : State × Nat :=
  let resp := s.fld SEC_TAMPER_CFG (2 * k, 2)
  let s := s.setFld SEC_TAMPER_STAT (8 + k, 1) (bit01 present)
  if resp = 0 then (s, 0)
  else
    let s := s.setFld SEC_TAMPER_STAT (k, 1) 1
    if s.st.wipe.isSome then (s, 0) else (s.raise 0x1FC starterUnit svSevere false k, resp)

end Sys2Proof.Machine
end

