-- ==== Sys2Proof/Machine/Own.lean ====
section
/-! DEFINITION. Sys2Proof/Machine/Own.lean: saving objects (R545, R546), Jenzia answers (R551, R555, R564), and
ownership of the device: claims, elections, handover and lapse (R563 to R572). -/
namespace Sys2Proof.Machine

/- Abort codes of Table 17-9. -/
def abUnknown : Nat := 1
def abNotReadable : Nat := 2
def abReadOnly : Nat := 3
def abNotOwner : Nat := 4
def abTypeLength : Nat := 5
def abOutOfRange : Nat := 6
def abLocked : Nat := 7
def abNoStore : Nat := 8
def abState : Nat := 9
def abBusy : Nat := 10
def abTimeout : Nat := 11
def abAborted : Nat := 12
def abRange : Nat := 13
def abAuth : Nat := 14
def abUnreachable : Nat := 15
def abMalformed : Nat := 16
def abDenied : Nat := 17

/-! ### Saved objects -/

/-- The parts of a saved value: 23 B each (R546). -/
def saveParts : Nat → List Byte → List (List Byte)
  | 0, _ => []
  | n + 1, l => if l.length ≤ 23 then [l] else l.take 23 :: saveParts n (l.drop 23)

/-- Table 17-3: one part's record, written to the configuration area of every half in service. -/
def State.savePart (s : State) (index sub part last : Nat) (v : List Byte) : State :=
  let d := index % 2 ^ 16 + sub % 256 * 2 ^ 16 + part % 16 * 2 ^ 24 + last % 16 * 2 ^ 28 + v.length % 256 * 2 ^ 32
    + ofBytes v * 2 ^ 40
  let (s, r) := s.jAccept (s.jRec { src := 0, unit := 0, sev := 0, detail := d } 0 0 false false)
  s.jStore .cfg r

/-- A value saved: its records stand in the configuration area, and it is the one that a boot from Off will load. -/
def State.saveObj (s : State) (index sub : Nat) (v : List Byte) : State :=
  let ps := saveParts 12 v
  let s := (ps.zip (upTo ps.length)).foldl (fun s p => s.savePart index sub p.2 (ps.length - 1) p.1) s
  { s with nv := { s.nv with saved := mput (fun _ => []) s.nv.saved (objKey index sub) v } }

/-- A saved object given a value of the device's own (HISTORY, an estimate, a region's key). -/
def State.keepObj (s : State) (index sub : Nat) (v : List Byte) : State :=
  let s := s.setObj index sub v
  if s.jLost then s else s.saveObj index sub v

/-! ### Frames out -/

/-- A frame put on its way. -/
def State.send (s : State) (path func dst : Nat) (data : List Byte) : State :=
  { s with st := { s.st with canTx := s.st.canTx ++ [{ path := path, func := func, dst := dst, src := s.jenziaAddr,
                                                       data := data }] } }

/-- Table 17-8: a response. -/
def respBytes (rcmd tid index sub ty len abort total : Nat) (data : List Byte) : List Byte :=
  toBytes 1 rcmd ++ toBytes 1 tid ++ toBytes 2 index ++ toBytes 1 sub ++ toBytes 1 ty ++ toBytes 2 len
    ++ toBytes 4 abort ++ toBytes 4 total ++ data

/-- R555: a refusal. -/
def refusal (tid index sub abort : Nat) : List Byte := respBytes 0xFF tid index sub 0 0 abort 0 []

/-! ### Claims -/

/-- A CLAIM frame as it arrives (Table 17-13): its path, the frame's source address, and its payload. -/
structure ClaimIn where
  path : Nat
  src : Nat
  data : List Byte
  deriving DecidableEq, Repr

def ClaimIn.at_ (c : ClaimIn) (o n : Nat) : Nat := ofBytes ((c.data.drop o).take n)
def ClaimIn.cmd (c : ClaimIn) : Nat := c.at_ 0 1
def ClaimIn.tid (c : ClaimIn) : Nat := c.at_ 3 1
def ClaimIn.key (c : ClaimIn) : Nat := c.at_ 1 1 / 16 % 4
def ClaimIn.lease (c : ClaimIn) : Nat := c.at_ 12 4

def ClaimIn.claimant (c : ClaimIn) : Claimant :=
  { src := c.src, path := c.path, prio := c.at_ 1 1 % 16, lease := c.lease, tid := c.tid, key := c.key }

/-- A claim key slot's 32 bytes. -/
def State.claimKey (s : State) (k : Nat) : List Byte := toBytes 32 (s.nv.keys.toList.getD k 0).toNat

/-- R564: the answer to a claim, signed under the claim's key slot. -/
def State.claimAnswer (s : State) (path dst cmd result tid abort lease key : Nat) : State :=
  let own := match s.st.own.owner with
    | some o => toBytes 2 o.src ++ toBytes 1 o.path
    | none => toBytes 2 0xFFFF ++ toBytes 1 0xFF
  let b := toBytes 1 (if abort = 0 then cmd + 0x80 else 0xFF) ++ toBytes 1 result ++ [0] ++ toBytes 1 tid
    ++ toBytes 4 abort ++ own ++ [0] ++ toBytes 4 lease ++ toBytes 8 s.st.challenge.toNat
  s.send path 3 dst (b ++ (hmac256 (s.claimKey key) b).take 16)

/-- R571: an entry of HISTORY; the earlier ones move down one subindex. -/
def State.history (s : State) (src path ev : Nat) : State :=
  let e := src % 2 ^ 13 + path % 8 * 2 ^ 13 + ev % 16 * 2 ^ 16 + s.st.tb / 2 ^ 20 * 2 ^ 20
  let s := [6, 5, 4, 3, 2, 1, 0].foldl (fun s i =>
    let v := s.obj 0x1F00 (0x10 + i)
    if ofBytes v = 0 then s else s.keepObj 0x1F00 (0x11 + i) v) s
  s.keepObj 0x1F00 0x10 (toBytes 8 e)

/-- R571: the segmented transfers of an address and path end with ABORTED. -/
def State.abortXfers (s : State) (src path : Nat) : State :=
  let mine := fun (x : Xfer) => x.src == src && x.path == path
  let s := (s.st.xfers.filter mine).foldl (fun s x => s.send x.path 3 x.src (refusal x.tid x.index x.sub abAborted)) s
  { s with st := { s.st with xfers := s.st.xfers.filter (fun x => !mine x) } }

/-- The owner and the armed successor gone, with no history and no fresh CHALLENGE. -/
def State.dropOwner (s : State) : State :=
  match s.st.own.owner with
  | none => s
  | some o =>
    let s := s.abortXfers o.src o.path
    { s with st := { s.st with own := { s.st.own with owner := none, leaseEnd := 0, succ := none } } }

/-- R567: end_ownership with its event. -/
def State.endOwner (s : State) (ev : Nat) : State :=
  match s.st.own.owner with
  | none => s
  | some o => (s.dropOwner.newChallenge).history o.src o.path ev

/-- R567: ownership granted, with its history event. -/
def State.grant (s : State) (c : Claimant) (cmd ev : Nat) : State :=
  let s := s.dropOwner
  let s := { s with st := { s.st with own := { s.st.own with owner := some c, leaseEnd := s.now + c.lease * 1000000,
                                                             counter := 0, succ := none } } }
  let s := (s.newChallenge).history c.src c.path ev
  s.claimAnswer c.path c.src cmd 0 c.tid 0 c.lease c.key

/-- R567: ranking: higher PRIO, then lower address, then lower path code. -/
def outranks (a b : Claimant) : Bool :=
  decide (b.prio < a.prio) || (decide (a.prio = b.prio) && (decide (a.src < b.src)
    || (decide (a.src = b.src) && decide (a.path < b.path))))

def weakest : List Claimant → Option Claimant
  | [] => none
  | c :: cs => match weakest cs with
    | none => some c
    | some d => if outranks c d then some d else some c

def strongest : List Claimant → Option Claimant
  | [] => none
  | c :: cs => match strongest cs with
    | none => some c
    | some d => if outranks d c then some d else some c

/-- R566: a refused claim is counted; AUTH is reported. -/
def State.claimRefuse (s : State) (c : ClaimIn) (abort : Nat) : State :=
  let n := satInc (2 ^ 32 - 1) (s.objNat 0x1F00 0xB)
  let s := s.setObj 0x1F00 0xB (toBytes 4 n)
  let s := if abort = abAuth then s.raise 0x1FD starterUnit svInfo else s
  s.claimAnswer c.path c.src c.cmd 0 c.tid abort 0 c.key

/-- Whether an address on a path is the owner (R563). -/
def State.isOwner (s : State) (src path : Nat) : Bool :=
  match s.st.own.owner with
  | some o => o.src == src && o.path == path
  | none => false

/-- R566: the checks of a claim in order; the abort code of the first that fails. -/
def State.claimCheck (s : State) (c : ClaimIn) : Option Nat :=
  let timed := c.cmd = 1 ∨ c.cmd = 2
  if c.data.length < 52 ∨ c.cmd = 0 ∨ 4 < c.cmd ∨ 64 ≤ c.at_ 1 1 ∨ c.at_ 9 3 ≠ 0 then some abMalformed
  else if !bitAt (s.objNat 0x1F00 9) c.path then some abState
  else if c.at_ 2 1 ≠ c.path ∨ c.at_ 4 2 ≠ c.src then some abAuth
  else if c.at_ 28 8 ≠ Config.serial.toNat ∨ c.at_ 20 8 ≠ s.st.challenge.toNat then some abAuth
  else if timed ∧ (c.lease < 100 ∨ 60000 < c.lease) then some abOutOfRange
  else if s.nv.keys.toList.getD c.key 0 = 0 then some abAuth
  else if (hmac256 (s.claimKey c.key) (c.data.take 36)).take 16 ≠ (c.data.drop 36).take 16 then some abAuth
  else if c.cmd = 1 then none
  else if !s.isOwner c.src c.path then some abState
  else if c.at_ 16 4 ≤ s.st.own.counter then some abAuth
  else none

/-- R567: a CLAIM joins or opens an election; an earlier claim of the same address and path is replaced; a seventeenth
candidate displaces the weakest if it ranks above it. -/
def State.candidate (s : State) (c : ClaimIn) : State :=
  let me := c.claimant
  let own := s.st.own
  let cs := own.cands.filter (fun d => !(d.src == me.src && d.path == me.path))
  let own := if own.electing then own else
    { own with electing := true, electEnd := s.now + s.objNat 0x1F00 6 * 1000000 }
  let set := fun (l : List Claimant) => ({ s with st := { s.st with own := { own with cands := l } } } : State)
  let pending := fun (s : State) => s.claimAnswer c.path c.src 1 1 c.tid 0 0 c.key
  if cs.length < 16 then pending (set (cs ++ [me]))
  else match weakest cs with
    | some w =>
      if outranks me w then
        let s := set ((cs.filter (fun d => d != w)) ++ [me])
        pending (s.claimAnswer w.path w.src 1 2 w.tid 0 0 w.key)
      else (set cs).claimAnswer c.path c.src 1 2 c.tid 0 0 c.key
    | none => pending (set [me])

/-- CLAIM (R567). -/
def State.claimDo (s : State) (c : ClaimIn) : State :=
  match s.st.own.succ with
  | some p =>
    if p = (c.src, c.path) then (if s.rngOk then s.grant c.claimant 1 2 else s.claimRefuse c abBusy)
    else s.claimRefuse c abState
  | none =>
    match s.st.own.owner with
    | none => s.candidate c
    | some o =>
      if s.objNat 0x1F00 7 ≠ 0 ∧ o.prio < c.at_ 1 1 % 16 ∧ (o.src, o.path) ≠ (c.src, c.path) then
        (if s.rngOk then s.grant c.claimant 1 5 else s.claimRefuse c abBusy)
      else s.claimRefuse c abState

/-- RENEW (R568). -/
def State.renewDo (s : State) (c : ClaimIn) : State :=
  let s := { s with st := { s.st with own := { s.st.own with leaseEnd := s.now + c.lease * 1000000,
                                                             counter := c.at_ 16 4 } } }
  s.claimAnswer c.path c.src 2 3 c.tid 0 c.lease c.key

/-- RELEASE (R567). -/
def State.releaseDo (s : State) (c : ClaimIn) : State :=
  (s.endOwner 3).claimAnswer c.path c.src 3 3 c.tid 0 0 c.key

/-- HANDOVER (R569). -/
def State.handoverDo (s : State) (c : ClaimIn) : State :=
  let v := c.at_ 6 3
  let own := { s.st.own with succ := some (v % 2 ^ 13, v / 2 ^ 16), counter := c.at_ 16 4,
                             succEnd := s.now + s.objNat 0x1F00 8 * 1000000 }
  ({ s with st := { s.st with own := own } } : State).claimAnswer c.path c.src 4 4 c.tid 0 0 c.key

/-- A claim served: refused by the first check that fails, or handled by its command. The dictionary's modes bound it
(R556): Off serves nothing, and Wipe refuses with STATE. -/
def State.claim (s : State) (c : ClaimIn) : State :=
  if s.st.base = 0 then s
  else if s.st.wipe.isSome then s.claimRefuse c abState
  else match s.claimCheck c with
    | some a => s.claimRefuse c a
    | none =>
      match c.cmd with
      | 1 => s.claimDo c
      | 2 => s.renewDo c
      | 3 => s.releaseDo c
      | _ => s.handoverDo c

/-- ELECTION_CLOSE (R567): the highest-ranked candidate is granted, every other answered lost. The grant draws a
CHALLENGE, so the close waits while RNG_OK = 0 (R598). -/
def State.electionClose (s : State) : State :=
  if !s.st.own.electing || !s.rngOk then s
  else
    let cs := s.st.own.cands
    let s := { s with st := { s.st with own := { s.st.own with electing := false, cands := [] } } }
    match strongest cs with
    | none => s
    | some w =>
      let s := s.grant w 1 1
      (cs.filter (fun d => d != w)).foldl (fun s d => s.claimAnswer d.path d.src 1 2 d.tid 0 0 d.key) s

/-- LEASE_LAPSE (R568). -/
def State.leaseLapse (s : State) : State := s.endOwner 4

/-- HANDOVER_EXPIRY (R569). -/
def State.handoverExpire (s : State) : State :=
  { s with st := { s.st with own := { s.st.own with succ := none } } }

/-- R572: ownership cleared by Wipe or by a ZEROISE response, with event 6; CHALLENGE is drawn even with no owner. -/
def State.clearOwner (s : State) : State :=
  match s.st.own.owner with
  | none => s.newChallenge
  | some _ => s.endOwner 6

end Sys2Proof.Machine
end

