-- ==== Sys2Proof/Machine/Power.lean ====
section
/-! DEFINITION. Sys2Proof/Machine/Power.lean: voltage and frequency (R516 to R519), clock references (R522 to R525),
the hold-up store (R527 to R531) and the coolant loop (R532 to R536). Quantities are FIX16.16 (R541) unless said
otherwise; a product or quotient is rounded down. -/
namespace Sys2Proof.Machine

/-! ### Voltage and frequency -/

/-- VMIN, VMAX, FLOOR and CEIL as they act (R518): inside the absolute window of VCORE and the range of F. -/
def State.vmax (s : State) : Nat := max 550 (min 950 (s.fld ST_VF_BOUNDS ST_VF_BOUNDS.VMAX))
def State.vmin (s : State) : Nat := min s.vmax (max 550 (min 950 (s.fld ST_VF_BOUNDS ST_VF_BOUNDS.VMIN)))
def State.fceil (s : State) : Nat := max 250 (min 1500 (s.fld ST_VF_BOUNDS ST_VF_BOUNDS.CEIL))
def State.ffloor (s : State) : Nat := min s.fceil (s.fld ST_VF_BOUNDS ST_VF_BOUNDS.FLOOR)
def State.pcap (s : State) : Nat := max 100 (min 560 (s.fld ST_PCAP ST_PCAP.PCAP))
def State.tjLimit (s : State) : Nat := min 105 (s.fld ST_PCAP ST_PCAP.TJ_LIMIT)

/-- RAIL_FAULT (R516): PWR_REG as FATAL. -/
def State.railFault (s : State) : State := s.raise 0x1F0 starterUnit svFatal

/-- A unit fenced by Autotomy, on no source's trip: a reaction queued with its record. -/
def State.autotomy (s : State) (src u action sev : Nat) : State :=
  if !fenceable u || s.unitState u == usFenced || s.unitState u == usLost || s.fj.reactions.any (fun r => r.covers u) then s
  else
    let bits := BitVec.ofNat 512 (s.jRec { src := src, unit := u, sev := sev } kAutotomy sev false false)
    let r : Reaction := { src := src, unit := u, action := action, first := false, bits := bits }
    let (s, es) := s.actPush r
    raiseAll 8 s es

/-- DOMAIN_GATE_TIMEOUT (R516): PWR_REG as DEGRADED, and the unit of the domain fenced by Autotomy. -/
def State.domainFault (s : State) (u : Nat) : State :=
  (s.raise 0x1F0 u svDegraded).autotomy 0x1F0 (actUnit u) 1 svDegraded

/-- CLOCK_STRETCH (R517): core cycles lengthened while a droop lasts. -/
def State.clockStretch (s : State) (cycles : Nat) : State :=
  (s.countWrap ST_STRETCH cycles ST_VF_STATUS ST_VF_STATUS.OVF_STRETCH).setFld ST_VF_STATUS ST_VF_STATUS.STRETCHED
    (bit01 (decide (cycles ≠ 0) || s.flag ST_VF_STATUS ST_VF_STATUS.STRETCHED))

/-- VOLTAGE_LOOP (R518): `low` and `high` say that the least margin lies below the target, or above it by more than
the hysteresis. -/
def State.voltageLoop (s : State) (low high : Bool) : State :=
  let v := s.fld ST_VF_STATUS ST_VF_STATUS.VNOW
  if low then (if v < s.vmax then s.setFld ST_VF_STATUS ST_VF_STATUS.VNOW (v + 5) else s)
  else if high && decide (s.vmin < v) then s.setFld ST_VF_STATUS ST_VF_STATUS.VNOW (v - 5)
  else s

/-- FREQUENCY_LOOP (R518): the stretch fraction limited 1 %, the P12V input power, TJ, and whether margins allow a step
up. LIMIT shows the limit that governs, the first of Table 16-14 that holds. -/
def State.frequencyLoop (s : State) (stretch : Bool) (pin tj : Nat) (allow : Bool) : State :=
  let s := (s.setObj 0x3000 1 (toBytes 4 pin)).setObj 0x3000 8 (toBytes 4 tj)
  let atVmax := stretch && decide (s.fld ST_VF_STATUS ST_VF_STATUS.VNOW = s.vmax)
  let overP := decide (fix s.pcap 1 < pin)
  let overT := decide ((fix s.tjLimit 1 : Int) < toSigned 32 tj)
  let limited := atVmax || overP || overT
  let f := s.fld ST_VF_STATUS ST_VF_STATUS.FNOW
  let f' := if limited then (if 250 < f then f - 25 else f)
    else if f < s.fceil ∧ (f < s.ffloor ∨ allow = true) then f + 25 else f
  let lim := if atVmax then 1 else if overP then 2 else if overT then 3 else if s.fceil ≤ f' then 4 else 0
  let s := (s.setFld ST_VF_STATUS ST_VF_STATUS.FNOW f').setFld ST_VF_STATUS ST_VF_STATUS.LIMIT lim
  let s := s.setFld ST_VF_STATUS ST_VF_STATUS.STRETCHED 0
  let pinned := decide (f' < s.ffloor)
  (s.setFlag ST_VF_STATUS ST_VF_STATUS.PINNED pinned).cond pinned 0x1F2 starterUnit svDegraded

/-- THERMAL_TRIP (R519): every P12V rail is removed, no flush is made; the Starter records PWR_TRIP in ST_LGn. -/
def State.thermalTrip (s : State) : State :=
  if s.st.base < 2 then s
  else
    let (s, r) := s.jAccept (s.jRec { src := 0x1F1, unit := starterUnit, sev := svFatal } kEvent svFatal false false)
    (s.lgWrite r).fatalStop 0x1F1

/-! ### Clock references -/

/-- STATE codes of ST_CLK_STATUS and reference numbers (Tables 16-15, 16-3). -/
def ckFree : Nat := 0
def ckLocked : Nat := 1
def ckSwitching : Nat := 2
def ckHoldover : Nat := 3

def State.refQual (s : State) (r : Nat) : Bool := bitAt (s.fld ST_CLK_STATUS ST_CLK_STATUS.QUAL) r

/-- R523: the references in PRIO order, first in [3:0]. -/
def State.refOrder (s : State) : List Nat :=
  ((upTo 4).map (fun i => bitsOf (s.objNat 0x3010 1) (4 * i) 4)).filter (fun r => decide (r < 3))

/-- Where a reference stands in the PRIO order; one that is not named stands last. -/
def State.refRank (s : State) (r : Nat) : Nat := s.refOrder.findIdx (fun x => x == r)

/-- The reference that R523 selects, if one is qualified. -/
def State.refBest (s : State) : Option Nat :=
  let f := s.objNat 0x3010 3
  if f ≠ 0 then (if s.refQual (f - 1) then some (f - 1) else none)
  else s.refOrder.find? (fun r => s.refQual r)

/-- R524: a switch to a reference begins: CLK_REF as INFO. -/
def State.refSwitch (s : State) (r : Nat) : State :=
  let s := (s.condClear 0x1F3).raise 0x1F3 starterUnit svInfo
  let s := (s.setFld ST_CLK_STATUS ST_CLK_STATUS.STATE ckSwitching).setFld ST_CLK_STATUS ST_CLK_STATUS.SEL r
  { s with st := { s.st with switchTo := some r } }

/-- R525: holdover, or FREERUN where no reference was ever locked. -/
def State.refLost (s : State) : State :=
  if s.st.locked then
    ((s.setFld ST_CLK_STATUS ST_CLK_STATUS.STATE ckHoldover).setFld ST_CLK_STATUS ST_CLK_STATUS.HO_TIME 0).condSet 0x1F3
      starterUnit svDegraded
  else (s.setFld ST_CLK_STATUS ST_CLK_STATUS.STATE ckFree).setFld ST_CLK_STATUS ST_CLK_STATUS.SEL 3

/-- R523 to R525: what a change of qualifications makes of the selection. -/
def State.refSelect (s : State) : State :=
  let st := s.fld ST_CLK_STATUS ST_CLK_STATUS.STATE
  let sel := s.fld ST_CLK_STATUS ST_CLK_STATUS.SEL
  let revert := decide (s.objNat 0x3010 2 ≠ 0)
  let force := decide (s.objNat 0x3010 3 ≠ 0)
  if st = ckSwitching then
    let higher := match s.refBest with
      | some r => decide (s.refRank r < s.refRank sel)
      | none => false
    if higher && revert && !force then s.setFld ST_CLK_STATUS ST_CLK_STATUS.REVERT_PEND 1 else s
  else match s.refBest with
    | none => if st = ckLocked ∧ s.refQual sel = false then s.refLost else s
    | some r =>
      if st = ckLocked then
        if r = sel then s
        else if s.refQual sel = false ∨ force = true ∨ (revert = true ∧ s.refRank r < s.refRank sel) then
          (if s.refQual sel = false && force then s.refLost else s.refSwitch r)
        else s
      else s.refSwitch r

/-- REFERENCE_MEASURE (R522): masks over A, B and C: signal present, beyond DISQ_PPM, and within QUAL_PPM for the
whole of QUAL_TIME. C qualifies only while CH_TIMING.FREQ_C = 1. In holdover a second of HO_TIME passes with every
tenth measurement, which `second` marks. -/
def State.refMeasure (s : State) (signal beyond stable : Nat) (second : Bool) : State :=
  let ok := fun r => bitAt signal r && !bitAt beyond r && (decide (r ≠ 2) || s.flag CH_TIMING CH_TIMING.FREQ_C)
  let q := (upTo 3).foldl (fun acc r => acc + bit01 (ok r && (bitAt stable r || s.refQual r)) * 2 ^ r) 0
  let los := 7 - signal % 8
  let s := (s.setFld ST_CLK_STATUS ST_CLK_STATUS.QUAL q).setFld ST_CLK_STATUS ST_CLK_STATUS.LOS los
  let s := if second && decide (s.fld ST_CLK_STATUS ST_CLK_STATUS.STATE = ckHoldover) then
      s.setFld ST_CLK_STATUS ST_CLK_STATUS.HO_TIME (satInc 0xFFFFF (s.fld ST_CLK_STATUS ST_CLK_STATUS.HO_TIME)) else s
  s.refSelect

/-- REFERENCE_LOS (R522): a reference without an edge for 1 µs is disqualified at once. -/
def State.refLos (s : State) (r : Fin 3) : State :=
  let s := (s.setFld ST_CLK_STATUS (5 + r.val, 1) 0).setFld ST_CLK_STATUS (8 + r.val, 1) 1
  s.refSelect

/-- REFERENCE_SWITCH_END (R524): the PLL is locked; a revertive switch that waited is acted on. -/
def State.refSwitchEnd (s : State) : State :=
  if s.fld ST_CLK_STATUS ST_CLK_STATUS.STATE ≠ ckSwitching then s
  else
    let s := (s.setFld ST_CLK_STATUS ST_CLK_STATUS.STATE ckLocked).setFld ST_CLK_STATUS ST_CLK_STATUS.REVERT_PEND 0
    { s with st := { s.st with locked := true, switchTo := none } }.refSelect

/-! ### The hold-up store -/

def State.huChg (s : State) : Nat := s.fld ST_HU_STATUS ST_HU_STATUS.CHG

/-- The charger put into a phase: HU_CHG_EN is high in constant current and constant voltage (R527). -/
def State.setChg (s : State) (c : Nat) : State :=
  { s.setFld ST_HU_STATUS ST_HU_STATUS.CHG c with st := { s.st with chgPin := c == 1 || c == 2 } }

/-- The capacitance or charge that estimates use, and its uncertainty (R528): the tested value, or the rated one. -/
def State.storeSize (s : State) : Nat × Nat :=
  if (mget (fun _ => []) s.nv.saved (objKey 0x3020 0xC)).isEmpty then (s.objNat 0x3020 0xB, fix 1 5)
  else (s.objNat 0x3020 0xC, s.objNat 0x3020 0xD)

/-- R528: E_avail of a store at voltage `v` (supercapacitor) or at the present state of charge (lithium-titanate). -/
def State.eAvail (s : State) (v : Nat) : Nat :=
  let eta := s.objNat 0x3020 7
  let size := s.storeSize.1
  if s.objNat 0x3020 1 = 0 then
    let vf := s.objNat 0x3020 3
    eta * size * (v * v - vf * vf) / 2 / 2 ^ 48
  else
    let d := (s.objNat 0x3020 0x14) - (s.objNat 0x3020 0x12)
    eta * d * size * s.objNat 0x3020 0x13 * 3600 / 2 ^ 48

/-- R528: E_err. -/
def State.eErr (s : State) (v : Nat) : Nat :=
  let e := s.eAvail v
  let eps := s.storeSize.2
  if s.objNat 0x3020 1 = 0 then
    let vf := s.objNat 0x3020 3
    if v ≤ vf then 0 else e * eps / 2 ^ 16 + e * 3 * v * 2 ^ 16 / (10 * (v * v - vf * vf))
  else
    let d := (s.objNat 0x3020 0x14) - (s.objNat 0x3020 0x12)
    if d = 0 then 0 else e * eps / 2 ^ 16 + e * fix 1 50 / d

/-- R502, R530: whether the store holds enough for an energy estimate, in FIX16.16 J. -/
def State.eReq (s : State) : Nat := s.objNat 0x2010 1

/-- HOLDUP_LOW (R503, R530): present while R502 does not hold, or BYPASS = 1. -/
def State.holdupLow (s : State) : State :=
  let enough := s.flag ST_HU_STATUS ST_HU_STATUS.ENOUGH
  let bypass := decide (s.objNat 0x2010 3 ≠ 0)
  let s := (s.setFlag ST_MODE ST_MODE.ADMIT (enough || bypass)).setFlag ST_MODE ST_MODE.BYPASS bypass
  s.cond (!enough || bypass) 0x1FB starterUnit svDegraded

/-- ENERGY_ESTIMATE (R528, R530): E_avail and E_err at the present voltage, WARN, and HOLDUP_LOW. -/
def State.energyEstimate (s : State) (v : Nat) : State :=
  let a := s.eAvail v
  let e := s.eErr v
  let net := a - e
  let s := (s.setObj 0x3020 0xF (toBytes 4 a)).setObj 0x3020 0x10 (toBytes 4 e)
  let s := s.setFld ST_HU_STATUS ST_HU_STATUS.V_NOW (min 0xFFFF (v * 100 / 65536))
  let s := s.setFld ST_HU_STATUS ST_HU_STATUS.E_NET (min 0xFFFF (net * 10 / 65536))
  let warn := decide (net * 5 < s.eReq * 6)
  let was := s.flag ST_HU_STATUS ST_HU_STATUS.WARN
  let s := (s.setFlag ST_HU_STATUS ST_HU_STATUS.ENOUGH (decide (s.eReq ≤ net))).setFlag ST_HU_STATUS ST_HU_STATUS.WARN warn
  let s := if warn && !was then s.raise 0x1F4 starterUnit svInfo else s
  s.holdupLow

/-- CHARGER_LOOP (R527): one step of the three phases at the store's voltage and current; a pack's state of charge
counts the current over the loop's 1 ms and is 1 at the end of each constant-voltage phase. -/
def State.chargerLoop (s : State) (v : Nat) (i : Int) : State :=
  if s.st.holdup || s.flag ST_HU_STATUS ST_HU_STATUS.TEST || decide (s.st.base = 0) then s
  else
    let s := s.setFld ST_HU_STATUS ST_HU_STATUS.V_NOW (min 0xFFFF (v * 100 / 65536))
    let pack := decide (s.objNat 0x3020 1 = 1)
    let q := s.storeSize.1
    let setSoc := fun (s : State) (z : Int) =>
      ({ s with st := { s.st with soc := z } } : State).setObj 0x3020 0x14 (toBytes 4 (z / 4294967296).toNat)
    let s := if pack && decide (q ≠ 0) then setSoc s (max 0 (s.st.soc + i * 281474976710656 / (3600000 * (q : Int)))) else s
    let vt := s.objNat 0x3020 2
    if s.flag ST_HU_STATUS ST_HU_STATUS.CHG_FAULT then s
    else if vt * 105 < v * 100 then
      ((s.setChg 0).setFld ST_HU_STATUS ST_HU_STATUS.CHG_FAULT 1).raise 0x1F4 starterUnit svSevere
    else match s.huChg with
      | 0 => s.setChg 1
      | 1 => if vt ≤ v then s.setChg 2 else s
      | 2 =>
        if i * 20 ≤ (s.objNat 0x3020 5 : Int) then
          let s := if pack then setSoc s 281474976710656 else s
          let s := s.setChg 3
          if s.st.tested then s else { s with st := { s.st with tested := true, testDue := true } }
        else s
      | _ => if v + s.objNat 0x3020 4 ≤ vt then s.setChg 1 else s

/-- CHARGER_CC_TIMEOUT (R527): a constant-current phase over 120 s stops, and HU_STORE is raised; the next loop tries
again. -/
def State.chargerTimeout (s : State) : State :=
  if s.huChg = 1 then (s.setChg 0).raise 0x1F4 starterUnit svDegraded else s

/-- R529: whether a test may start: in float, with enough energy at its planned end voltage. -/
def State.testMayStart (s : State) : Bool :=
  let v := s.fld ST_HU_STATUS ST_HU_STATUS.V_NOW * 65536 / 100
  let drop := s.objNat 0x3020 0xE * s.objNat 0x3020 6 / 65536 + s.objNat 0x3020 8
  let ve := v - drop
  decide (s.huChg = 3) && !s.flag ST_HU_STATUS ST_HU_STATUS.TEST && !s.st.holdup
    && decide (s.eReq ≤ s.eAvail ve - s.eErr ve)

/-- CAPACITANCE_TEST (R529): the charger off and the test load on, or the test deferred. -/
def State.testStart (s : State) : State :=
  if s.testMayStart then
    let s := (s.setChg 0).setFld ST_HU_STATUS ST_HU_STATUS.TEST 1
    { s with st := { s.st with testPin := true, testDue := false, tested := true } }
  else { s with st := { s.st with testDue := true } }

/-- CAPACITANCE_TEST_END (R529): ESR from the drop of the first 100 µs, C from the voltage drop over `dt` µs; the
results are saved. The spec states no C for a drop of zero, and no interpolation of the OCV table for a pack. -/
def State.testEnd (s : State) (v0 v1 v2 dt : Nat) : State :=
  if !s.flag ST_HU_STATUS ST_HU_STATUS.TEST then s
  else
    let i := s.objNat 0x3020 6
    let open' := decide (s.objNat 0x3020 1 = 1) || decide (v1 ≤ v2)
    let (s, c, eps) := if open' then (s.tick, s.fresh % 2 ^ 32, fix 1 5)
      else (s, i * dt * 65536 / 1000000 / (v1 - v2), fix 1 100 + fix 1 50 * 65536 / (v1 - v2))
    let (s, esr) := if i = 0 then (s.tick, s.fresh % 2 ^ 32) else (s, (v0 - v1) * 65536 / i)
    let s := ((s.keepObj 0x3020 0xC (toBytes 4 c)).keepObj 0x3020 0xD (toBytes 4 eps)).keepObj 0x3020 0xE (toBytes 4 esr)
    let s := (s.setFld ST_HU_STATUS ST_HU_STATUS.TEST 0).setChg 1
    let s := { s with st := { s.st with testPin := false } }
    if s.objNat 0x3020 0xA < esr then s.raise 0x1F4 starterUnit svDegraded else s

/-- R529: a test cut short by Hold-up is discarded. -/
def State.testDiscard (s : State) : State :=
  let s := (s.setFld ST_HU_STATUS ST_HU_STATUS.TEST 0).setChg 0
  { s with st := { s.st with testPin := false } }

/-- R531: whether the store's floor is reached. -/
def State.atFloor (s : State) (v : Nat) : Bool :=
  if s.objNat 0x3020 1 = 0 then decide (v ≤ s.objNat 0x3020 3)
  else decide (s.objNat 0x3020 0x14 ≤ s.objNat 0x3020 0x12)

/-! ### Coolant -/

/-- e^x of x in units of 2^-64, in the same units, by `n` terms of its series. -/
def expSum (x : Nat) : Nat → Nat → Nat → Nat
  | 0, _, _ => 0
  | n + 1, k, t => t + expSum x n (k + 1) (t * x / 2 ^ 64 / (k + 1))

/-- e^(-0.1 s / tau) in units of 2^-32; a tau too short for the difference to show gives zero. -/
def ffDecay (tau : Nat) : Nat :=
  if tau = 0 then 0
  else
    let x := 2 ^ 80 / (10 * tau)
    if 24 * 2 ^ 64 < x then 0 else 2 ^ 96 / expSum x 120 0 (2 ^ 64)

/-- Whether the mode gives the loop of R533 the valve (Table 16-8). -/
def State.valveLoops (s : State) : Bool := decide (mTadpole ≤ s.mode) && decide (s.mode ≤ mTransit)

/-- TJ (R519): the highest valid reading, plus 5 K with fewer than 24 valid sensors (Table 16-9). -/
def tjOf (high : Int) (valid : Nat) : Int := if valid < 24 then high + 5 * 65536 else high

/-- COOLANT_LOOP (R533, R536): the highest base-die reading, how many sensors are valid, whether an inlet or outlet
sensor has failed. -/
def State.coolantLoop (s : State) (high : Int) (valid : Nat) (sensorBad : Bool) : State :=
  if !s.valveLoops then s
  else
    let g := fun sub => (s.objNat 0x3030 sub : Int)
    let tj := tjOf high valid
    let bad := sensorBad || decide (valid < 24)
    let s := if bad && !s.st.coolBad then s.raise 0x1F5 starterUnit svDegraded else s
    let p := g 7 + g 8 * (popCount 8 (s.objNat 0x5010 3) : Int)
    let t := g 6 * p / 65536
    let ff := if s.st.coolFF ≤ t then t else t + (s.st.coolFF - t) * (ffDecay (s.objNat 0x3030 9) : Int) / 4294967296
    let e := tj - toSigned 32 (s.objNat 0x3030 1)
    let u := ff + g 2 * e / 65536 + s.st.coolI
    let top : Int := fix 100 1
    let i := if g 4 < u ∧ u < top then s.st.coolI + g 3 * e / 655360 else s.st.coolI
    let u := max (g 4) (min top u)
    let slew := g 5 / 10
    let last : Int := s.st.valve
    let u := max (last - slew) (min (last + slew) u)
    let v := if s.st.valveOpen then top else u
    { s with st := { s.st with coolI := i, coolFF := ff, valve := v.toNat, coolBad := bad } }.setObj 0x3000 8
      (toBytes 4 (ofInt 32 tj))

/-- VALVE_POSITION_FAULT and LOSS_OF_FLOW (R536): the valve at 100 % until the next start, COOL_VALVE as SEVERE. -/
def State.valveFault (s : State) : State :=
  { s with st := { s.st with valveOpen := true, valve := fix 100 1 } }.raise 0x1F6 starterUnit svSevere

/-- SENSOR_LOSS_TRIP (R536): no base-die sensor valid for 1 s: the valve at 100 %, and PWR_TRIP as FATAL. -/
def State.sensorTrip (s : State) : State :=
  { s with st := { s.st with valve := fix 100 1 } }.raise 0x1F1 starterUnit svFatal

end Sys2Proof.Machine
end

