-- ==== Sys2Proof/Machine/Ls.lean ====
section
/-! DEFINITION. Sys2Proof/Machine/Ls.lean: local stores: accesses with their checks (R328 to R337), wipes and clears
(R338, R339), the march engine (R340 to R343) and the LS blocks (R344). -/
namespace Sys2Proof.Machine

/-- What an access comes to: a value, an error code of Table 10-14, or a request that still waits. -/
inductive Acc (α : Type)
  | ok (a : α)
  | err (code : Nat)
  | hold
  deriving DecidableEq, Repr

def lsAddr (n off : Nat) : Nat := n * 2 ^ 22 + off
def lsWord (n off : Nat) : Nat := n * 2 ^ 19 + off / 8

/-- The secure part of a store in bytes (R336); SIZE above 16 acts as 16. -/
def State.lsSecure (s : State) (n : Nat) : Nat := min 16 (s.fld (LS_SEC n) LS_SEC.SIZE) * 65536

/-- Whether a destructive march run holds one of the banks an access touches (R341). -/
def State.lsMarching (s : State) (n off len : Nat) : Bool :=
  s.marches.any (fun m => m.store == n && !m.preserve
    && (upTo (len / 64 + 2)).any (fun i => decide (off / 64 + i ≤ (off + len - 1) / 64) && bitAt m.banks ((off / 64 + i) % 16)))

/-- Whether a wipe runs on bytes of an access (R338). -/
def State.lsWiping (s : State) (n off len : Nat) : Bool :=
  s.lsWipes.any (fun w => w.store == n && decide (off < w.hi) && decide (w.lo < off + len))

/-- The checks of an access before its data: range, fence, the secure part, march, wipe and clear. -/
def State.lsCheck (s : State) (n : Nat) (world : Bool) (off len : Nat) : Option (Acc Unit) :=
  let st := s.unitState (lsUnit n)
  let release := s.lsWipes.any (fun w => w.store == n && w.size.isSome && decide (off < w.hi) && decide (w.lo < off + len))
  if 0x400000 < off + len then some (.err erDefault)
  else if st = usFenced ∨ st = usLost ∨ (s.st.base = mTadpole ∧ st ≠ usBound) then some (.err erFenced)
  else if !world && (decide (off < s.lsSecure n) || release) then some (.err erDenied)
  else if s.lsMarching n off len then some (.err erDenied)
  else if s.lsWiping n off len || !s.flag (LS_STATUS n) LS_STATUS.READY then some .hold
  else none

/-- R336: a request refused at the secure part raises LS_SEC_DENIED. -/
def State.lsReport (s : State) (n : Nat) (world : Bool) (off : Nat) (a : Acc Unit) : State :=
  if a = .err erDenied ∧ world = false ∧ off < max (s.lsSecure n) (s.lsWipes.foldl (fun h w => if w.store = n then max h w.hi else h) 0)
  then s.raise (0x0B0 + n * 8 + 3) (lsUnit n) svInfo
  else s

/-- The words of an access. -/
def lsWordsOf (n off len : Nat) : List Nat :=
  ((upTo (len / 8 + 2)).map (fun i => lsWord n off + i)).filter (fun w => decide (w ≤ lsWord n (off + len - 1)))

/-- A read of 1 to 64 bytes or more of one store (R329). -/
def State.lsRead (s : State) (n : Nat) (world : Bool) (off len : Nat) : State × Acc (List Byte) :=
  match s.lsCheck n world off len with
  | some (.err c) => (s.lsReport n world off (.err c), .err c)
  | some _ => (s, .hold)
  | none =>
    if (lsWordsOf n off len).any (fun w => s.lsBad.contains w) then
      (s.raise (0x0B0 + n * 8 + 1) (lsUnit n) svSevere, .err erUe)
    else (s, .ok (memRead s.ls (lsAddr n off) len))

/-- A write (R329): one narrower than its word finds a double-bit error there; a whole word stores fresh check bits. -/
def State.lsWrite (s : State) (n : Nat) (world : Bool) (off : Nat) (data : List Byte) : State × Acc Unit :=
  let len := data.length
  match s.lsCheck n world off len with
  | some (.err c) => (s.lsReport n world off (.err c), .err c)
  | some _ => (s, .hold)
  | none =>
    let ws := lsWordsOf n off len
    let whole := fun w => decide (lsAddr n off ≤ w * 8) && decide (w * 8 + 8 ≤ lsAddr n off + len)
    if ws.any (fun w => s.lsBad.contains w && !whole w) then
      (s.raise (0x0B0 + n * 8 + 1) (lsUnit n) svSevere, .err erUe)
    else
      ({ s with ls := memWrite s.ls (lsAddr n off) data, lsBad := s.lsBad.filter (fun w => !(ws.contains w && whole w)) },
       .ok ())

/-! ### Zeroing -/

/-- Bytes of a store set to zero with valid check bits. -/
def State.lsZero (s : State) (n lo hi : Nat) : State :=
  { s with ls := s.ls.filter (fun p => !(decide (lsAddr n lo ≤ p.1) && decide (p.1 < lsAddr n hi))),
           lsBad := s.lsBad.filter (fun w => !(decide (lsAddr n lo ≤ w * 8) && decide (w * 8 < lsAddr n hi))) }

/-- R338, Table 10-4: the whole secure part of a store wiped at once, where the spec has it wiped before anything else
may follow (Hold-up, Autotomy, a ZEROISE response, Wipe). -/
def State.lsWipeNow (s : State) (n : Nat) : State :=
  let s := s.lsZero n 0 (s.lsSecure n)
  let s := { s with lsWipes := s.lsWipes.filter (fun w => w.store != n) }
  (s.setFld (LS_STATUS n) LS_STATUS.SEC_WIPING 0).setFld (LS_SEC n) LS_SEC.WIPE 0

def State.lsWipeAll (s : State) : State := (upTo 9).foldl (fun s n => s.lsWipeNow n) s

/-- A wipe starts (R338). -/
def State.lsWipeStart (s : State) (w : LsWipe) : State :=
  { s with lsWipes := s.lsWipes ++ [w] }.setFld (LS_STATUS w.store) LS_STATUS.SEC_WIPING 1

/-- SECURE_WIPE_DONE (R337, R338): the wipes of a store end; a lowered SIZE takes its new value. -/
def State.lsWipeDone (s : State) (n : Nat) : State :=
  let s := (s.lsWipes.filter (fun w => w.store == n)).foldl (fun s w =>
    let s := s.lsZero n w.lo w.hi
    match w.size with
    | some k => s.setFld (LS_SEC n) LS_SEC.SIZE k
    | none => s) s
  let s := { s with lsWipes := s.lsWipes.filter (fun w => w.store != n) }
  (s.setFld (LS_STATUS n) LS_STATUS.SEC_WIPING 0).setFld (LS_SEC n) LS_SEC.WIPE 0

/-- A clear starts (R339); requests wait until it ends. -/
def State.lsClearStart (s : State) (n : Nat) : State :=
  (s.setFld (LS_STATUS n) LS_STATUS.READY 0).setFld (LS_STATUS n) LS_STATUS.CLEARING 1

/-- LS_CLEAR_DONE (R339): every word zero, READY set. -/
def State.lsClearDone (s : State) (n : Nat) : State :=
  let s := s.lsZero n 0 0x400000
  (s.setFld (LS_STATUS n) LS_STATUS.CLEARING 0).setFld (LS_STATUS n) LS_STATUS.READY 1

/-! ### The march engine -/

/-- R341: whether a destructive run may start: no Ticket in the Oven, no outstanding vector instruction. -/
def State.marchFree (s : State) (n : Nat) : Bool :=
  let o := s.unitOven (lsUnit n)
  !s.flag (QE_OVEN o) QE_OVEN.RDY && decide (s.fld (QE_OVEN o) QE_OVEN.INFLIGHT = 0)
    && (s.seqs.toList.getD n Seq.reset).outs.isEmpty

/-- MARCH_START (R341): a run starts, or START is ignored with REJ. -/
def State.marchGo (s : State) (n : Nat) : State :=
  let c := LS_MARCH_CTL n
  let f := LS_MARCH_STATUS n
  let s := s.setFld c LS_MARCH_CTL.START 0
  let pres := s.flag c LS_MARCH_CTL.PRESERVE
  let bad := s.fld c LS_MARCH_CTL.ALG = 3 ∨ s.fld c LS_MARCH_CTL.BG = 3 ∨ s.fld c LS_MARCH_CTL.BANKS = 0
  if bad ∨ s.marches.any (fun m => m.store == n) ∨ (pres = false ∧ s.marchFree n = false) then
    s.setFld f LS_MARCH_STATUS.REJ 1
  else
    let s := ((s.setFld f LS_MARCH_STATUS.FAIL_BANKS 0).setFld f LS_MARCH_STATUS.FIRST_LINE 0).setFld f
      LS_MARCH_STATUS.FAIL_COUNT 0
    let s := (s.setFld f LS_MARCH_STATUS.BUSY 1).setFld (LS_STATUS n) LS_STATUS.MARCH_BUSY 1
    { s with marches := s.marches ++ [{ store := n, preserve := pres, banks := s.fld c LS_MARCH_CTL.BANKS }] }

/-- The final pass of a destructive run: every word of its banks zero with valid check bits. -/
def State.marchZero (s : State) (m : March) : State :=
  let hit := fun a => decide (a / 2 ^ 22 = m.store) && bitAt m.banks (a / 64 % 16)
  { s with ls := s.ls.filter (fun p => !hit p.1), lsBad := s.lsBad.filter (fun w => !hit (w * 8)) }

/-- MARCH_DONE (R343), or a run that ABORT stopped: the failing lines (offset[21:6]) it found, in the order found. -/
def State.marchEnd (s : State) (n : Nat) (lines : List Nat) (aborted : Bool) : State :=
  match s.marches.find? (fun m => m.store == n) with
  | none => s
  | some m =>
    let f := LS_MARCH_STATUS n
    let lines := lines.filter (fun l => bitAt m.banks (l % 16))
    let s := if m.preserve then s else s.marchZero m
    let s := { s with marches := s.marches.filter (fun x => x.store != n) }
    let s := (s.setFld f LS_MARCH_STATUS.BUSY 0).setFld (LS_STATUS n) LS_STATUS.MARCH_BUSY 0
    let s := (s.setFld f LS_MARCH_STATUS.DONE 1).setFld (LS_MARCH_CTL n) LS_MARCH_CTL.ABORT 0
    let s := if aborted then s.setFld f LS_MARCH_STATUS.ABORTED 1 else s
    match lines with
    | [] => s
    | l :: _ =>
      let s := (s.setFld f LS_MARCH_STATUS.FAIL 1).setFld f LS_MARCH_STATUS.FIRST_LINE l
      let s := s.setFld f LS_MARCH_STATUS.FAIL_COUNT (min 0xFFFF lines.length)
      let s := s.setFld f LS_MARCH_STATUS.FAIL_BANKS
        ((upTo 16).foldl (fun acc b => acc + bit01 (lines.any (fun l => l % 16 == b)) * 2 ^ b) 0)
      s.raise (0x0B0 + n * 8 + 4) (lsUnit n) svDegraded

/-! ### The LS blocks (R344) -/

/-- The sequencer bound with a store has its number (R15). -/
def lsMayWrite (m : Master) (n : Nat) : Bool := decide (m.id = 13) || (decide (m.id = n) && m.world && m.sup)

/-- A write of LS_SEC: SIZE lowered waits for its wipe; raised, it takes effect at once; WIPE starts a wipe. -/
def State.lsSecWrite (s : State) (n v : Nat) : State :=
  let old := s.fld (LS_SEC n) LS_SEC.SIZE
  let s := s.wordWrite (LS_SEC n) v
  let new := s.fld (LS_SEC n) LS_SEC.SIZE
  let s := if min 16 new < min 16 old then
      (s.setFld (LS_SEC n) LS_SEC.SIZE old).lsWipeStart
        { store := n, lo := min 16 new * 65536, hi := min 16 old * 65536, size := some new }
    else s
  if bitAt v 5 then s.lsWipeStart { store := n, lo := 0, hi := s.lsSecure n, size := none } else s

/-- A word of an LS block written. -/
def State.lsWord (s : State) (n a v : Nat) : State :=
  if a = LS_SEC n then s.lsSecWrite n v
  else if a = LS_MARCH_CTL n then
    let s := s.wordWrite a v
    let s := if bitAt v 21 then s.marchGo n else s
    if bitAt v 22 ∧ s.marches.any (fun m => m.store == n) = false then s.setFld a LS_MARCH_CTL.ABORT 0 else s
  else s.wordWrite a v

def State.lsRegWrite (s : State) (m : Master) (a size v : Nat) : State × Option Nat :=
  let n := (a - 0x600000) / 0x10000
  if !lsMayWrite m n then (s, some erDenied)
  else
    let s := s.lsWord n a (v % 2 ^ 32)
    (if size = 8 then s.lsWord n (a + 4) (v / 2 ^ 32 % 2 ^ 32) else s, none)

/-- LS_WCOL reads as zero to the General world and to hosts while its word lies in the secure part (R344). -/
def State.lsView (s : State) (m : Master) (a : Nat) : Nat :=
  let n := (a - 0x600000) / 0x10000
  let hidden := decide (a / 8 = LS_WCOL n / 8) && !m.secSup && !(m.isSeq && m.world)
    && decide (s.fld (LS_WCOL n) LS_WCOL.WORD * 8 < s.lsSecure n)
  if hidden then 0 else s.regNat a 1

end Sys2Proof.Machine
end

