-- ==== Sys2Proof/Machine/Prog.lean ====
section
/-! DEFINITION. Sys2Proof/Machine/Prog.lean: program memory (R244 to R248): the map in force, reads with SECDED, and the
program-entry tables (R303). `State.pm` holds the SRAM of sequencer `n` from n × 256 KiB on. -/
namespace Sys2Proof.Machine

/-- R303: the boot ROM's program-entry tables read as zero. -/
def romByte (off : Nat) : Byte :=
  if (0x500 ≤ off ∧ off < 0x700) ∨ (0xD00 ≤ off ∧ off < 0xF00) then 0 else Config.bootRom off

/-- Table 7-12a: the SRAM offset of a program memory address under the map in force; none in the boot ROM. -/
def State.pmSram (s : State) (n a : Nat) : Option Nat :=
  let remap := s.flag (SEQ_CTL n) SEQ_CTL.REMAP
  if remap = decide (a < 0x40000) then some (a % 0x40000) else none

/-- The byte of a sequencer image at an SRAM offset (Table 15-4): image 0 is A, 1 is B; beyond its length nothing. -/
def imageByte (img o : Nat) : Byte :=
  let b := img * 0x1000000
  let half := fun (i : Nat) => (Config.flash (b + i)).toNat + 256 * (Config.flash (b + i + 1)).toNat
  if o < half 14 * 4096 then Config.flash (b + half 12 * 4096 + o) else 0

/-- What a program SRAM byte holds while nothing has written it: Proofing's zero, or the image loaded since (R248). -/
def pmDefault (imgs : List Nat) (a : Nat) : Byte :=
  match imgs.find? (fun x => x / 2 == a / 0x40000) with
  | some x => imageByte (x % 2) (a % 0x40000)
  | none => 0

/-- R476, Table 15-5: a sequencer image written into a sequencer's program SRAM. -/
def State.pmLoad (s : State) (n img : Nat) : State :=
  { s with pmImg := (n * 2 + img) :: s.pmImg.filter (fun x => x / 2 != n),
           pm := s.pm.filter (fun c => c.1 / 0x40000 != n), pmBad := s.pmBad.filter (fun w => w * 4 / 0x40000 != n) }

/-- A sequencer's program SRAM lost (R260). -/
def State.pmLose (s : State) (n : Nat) : State :=
  { s with pmImg := s.pmImg.filter (fun x => x / 2 != n), pm := s.pm.filter (fun c => c.1 / 0x40000 != n),
           pmBad := s.pmBad.filter (fun w => w * 4 / 0x40000 != n) }

/-- The byte at a program memory address, errors aside. -/
def State.pmByte (s : State) (n a : Nat) : Byte :=
  match s.pmSram n a with
  | some o => mget (pmDefault s.pmImg) s.pm (n * 0x40000 + o)
  | none => romByte (a % 0x8000)

/-- Whether the 32-bit word at an address holds a double-bit error (R247). -/
def State.pmBadAt (s : State) (n a : Nat) : Bool :=
  match s.pmSram n a with
  | some o => s.pmBad.contains ((n * 0x40000 + o) / 4)
  | none => false

/-- A little-endian number of `k` bytes in program memory. -/
def State.pmNat (s : State) (n a : Nat) : Nat → Nat
  | 0 => 0
  | k + 1 => (s.pmByte n a).toNat + 256 * s.pmNat n (a + 1) k

/-- Bytes written to program SRAM; a write to the boot ROM does nothing here (its callers refuse it first). -/
def State.pmWrite (s : State) (n a : Nat) (data : List Byte) : State :=
  match s.pmSram n a with
  | some o =>
    let b := n * 0x40000 + o
    { s with pm := data.zipIdx.foldl (fun m x => mput (pmDefault s.pmImg) m (b + x.2) x.1) s.pm,
             pmBad := s.pmBad.filter (fun w => !(decide (b ≤ w * 4) && decide (w * 4 + 4 ≤ b + data.length))) }
  | none => s

/-- R303: where an entry of a world's program-entry table stands. -/
def entryAddr (world : Bool) (op : Nat) : Nat := (if world then 0xD00 else 0x500) + op % 128 * 4

end Sys2Proof.Machine
end

