-- ==== Sys2Proof/Machine/ElemFloat.lean ====
section
/-! DEFINITION. Sys2Proof/Machine/ElemFloat.lean: the IEEE 754 arithmetic of R78 to R83 on exact values: every
result is the exact one, rounded once to the type of D. -/
namespace Sys2Proof.Machine

/-- A floating-point format: exponent and fraction bits. -/
structure FFmt where
  eb : Nat
  fb : Nat
  deriving DecidableEq, Repr

/-- The format of a type F (R35, R83); other types are never asked. -/
def ETy.fmt : ETy → FFmt
  | .bf16 => ⟨8, 7⟩
  | .f32 => ⟨8, 23⟩
  | _ => ⟨11, 52⟩

def FFmt.bias (f : FFmt) : Nat := 2 ^ (f.eb - 1) - 1
def FFmt.emin (f : FFmt) : Int := 1 - (f.bias : Int)
def FFmt.expMax (f : FFmt) : Nat := 2 ^ f.eb - 1
def FFmt.signBit (f : FFmt) : Nat := 2 ^ (f.eb + f.fb)
def FFmt.quietBit (f : FFmt) : Nat := 2 ^ (f.fb - 1)

/-- A decoded operand: a NaN keeps its bits; a finite value is `m * 2^e` with its sign. -/
inductive FVal
  | nan (bits : Nat) (signalling : Bool)
  | inf (neg : Bool)
  | fin (neg : Bool) (m : Nat) (e : Int)
  deriving DecidableEq, Repr

def fDecode (f : FFmt) (v : Nat) : FVal :=
  let neg := bitAt v (f.eb + f.fb)
  let ex := bitsOf v f.fb f.eb
  let fr := bitsOf v 0 f.fb
  if ex = f.expMax then
    if fr = 0 then .inf neg else .nan v (!bitAt v (f.fb - 1))
  else if ex = 0 then .fin neg fr (f.emin - f.fb)
  else .fin neg (2 ^ f.fb + fr) ((ex : Int) - f.bias - f.fb)

def fSign (f : FFmt) (neg : Bool) : Nat := if neg then f.signBit else 0
def fInf (f : FFmt) (neg : Bool) : Nat := fSign f neg + f.expMax * 2 ^ f.fb
def fZero (f : FFmt) (neg : Bool) : Nat := fSign f neg
def fMax (f : FFmt) (neg : Bool) : Nat := fSign f neg + f.expMax * 2 ^ f.fb - 1

/-- R80: the default NaN, positive and without payload. -/
def fDefNaN (f : FFmt) : Nat := f.expMax * 2 ^ f.fb + f.quietBit

/-- A NaN made quiet. -/
def fQuiet (f : FFmt) (v : Nat) : Nat := if bitAt v (f.fb - 1) then v else v + f.quietBit

/-- Whether a discarded remainder `rem` of `2^sh` rounds the magnitude up (Table 3-15). -/
def roundUp (rm : Nat) (neg odd : Bool) (rem sh : Nat) : Bool :=
  match rm with
  | 0 => decide (2 ^ sh < 2 * rem) || (decide (2 * rem = 2 ^ sh) && odd)
  | 1 => decide (rem ≠ 0) && decide (2 ^ sh ≤ 2 * rem)
  | 2 => false
  | 3 => decide (rem ≠ 0) && !neg
  | _ => decide (rem ≠ 0) && neg

/-- The magnitude `m * 2^e` rounded to a multiple of `2^q`: the multiple, and whether anything was lost. -/
def roundAt (rm : Nat) (neg : Bool) (m : Nat) (e q : Int) : Nat × Bool :=
  if q ≤ e then (m * 2 ^ (e - q).toNat, false)
  else
    let sh := (q - e).toNat
    let k := m / 2 ^ sh
    let rem := m % 2 ^ sh
    ((if roundUp rm neg (k % 2 == 1) rem sh then k + 1 else k), decide (rem ≠ 0))

/-- R85 has no floating-point part; on overflow the rounding mode gives infinity or the largest finite value. -/
def fOverflow (f : FFmt) (rm : Nat) (neg : Bool) : Nat :=
  match rm with
  | 2 => fMax f neg
  | 3 => if neg then fMax f neg else fInf f neg
  | 4 => if neg then fInf f neg else fMax f neg
  | _ => fInf f neg

/-- R79: the exact value `± m * 2^e` rounded once to a format. Tininess is detected after rounding. -/
def fRound (f : FFmt) (rm : Nat) (neg : Bool) (m : Nat) (e : Int) : ERes :=
  if m = 0 then { d := fZero f neg }
  else
    let top : Int := e + bitLen m - 1
    let q := max top f.emin - f.fb
    let (k, inex) := roundAt rm neg m e q
    let (k0, _) := roundAt rm neg m e (top - f.fb)
    let tiny := decide (top < f.emin) &&
      !(decide (top = f.emin - 1) && decide (2 ^ (f.fb + 1) ≤ k0))
    let (k, q) := if 2 ^ (f.fb + 1) ≤ k then (k / 2, q + 1) else (k, q)
    if q + f.fb > (f.bias : Int) then
      { d := fOverflow f rm neg, st := stOF + stNX, fl := flOF + flNX }
    else
      let bits := if k < 2 ^ f.fb then k
        else (q + f.fb + f.bias).toNat * 2 ^ f.fb + (k - 2 ^ f.fb)
      { d := fSign f neg + bits,
        st := (if inex then stNX else 0) + (if inex && tiny then stUF else 0),
        fl := (if inex then flNX else 0) + (if inex && tiny then flUF else 0) }

/-- R80: an invalid operation without a NaN operand. -/
def fInvalid (f : FFmt) : ERes := { d := fDefNaN f, st := stNV, fl := flNV }

/-- R80: the first NaN operand made quiet; any signalling operand sets NV. -/
def fNaNOf (f : FFmt) (ops : List FVal) : Option ERes :=
  let first := ops.findSome? (fun x => match x with | .nan b _ => some b | _ => none)
  let sig := ops.any (fun x => match x with | .nan _ s => s | _ => false)
  first.map (fun b => { d := fQuiet f b, st := if sig then stNV else 0, fl := if sig then flNV else 0 })

/-- The sum of two finite values, exactly, then rounded. An exact zero takes the common sign, or the sign that
the rounding direction gives. -/
def fAddFin (f : FFmt) (rm : Nat) (n1 : Bool) (m1 : Nat) (e1 : Int) (n2 : Bool) (m2 : Nat) (e2 : Int) : ERes :=
  let e := min e1 e2
  let x : Int := (m1 * 2 ^ (e1 - e).toNat : Nat)
  let y : Int := (m2 * 2 ^ (e2 - e).toNat : Nat)
  let z := (if n1 then -x else x) + (if n2 then -y else y)
  if z = 0 then { d := fZero f (if n1 = n2 then n1 else rm == 4) }
  else fRound f rm (z < 0) z.natAbs e

/-- Addition of two decoded values, neither a NaN. -/
def fAddVal (f : FFmt) (rm : Nat) : FVal → FVal → ERes
  | .inf a, .inf b => if a = b then { d := fInf f a } else fInvalid f
  | .inf a, _ => { d := fInf f a }
  | _, .inf b => { d := fInf f b }
  | .fin n1 m1 e1, .fin n2 m2 e2 => fAddFin f rm n1 m1 e1 n2 m2 e2
  | .nan b _, _ => { d := fQuiet f b }
  | _, .nan b _ => { d := fQuiet f b }

def FVal.neg : FVal → FVal
  | .inf s => .inf (!s)
  | .fin s m e => .fin (!s) m e
  | v => v

/-- VADD and VSUB on type F. -/
def fAdd (f : FFmt) (rm : Nat) (sub : Bool) (a b : Nat) : ERes :=
  let x := fDecode f a
  let y := fDecode f b
  match fNaNOf f [x, y] with
  | some r => r
  | none => fAddVal f rm x (if sub then y.neg else y)

/-- The exact product of two values, neither a NaN; none when it is invalid (0 × ∞). -/
def fMulVal : FVal → FVal → Option FVal
  | .inf a, .inf b => some (.inf (a != b))
  | .inf a, .fin n m _ => if m = 0 then none else some (.inf (a != n))
  | .fin n m _, .inf b => if m = 0 then none else some (.inf (n != b))
  | .fin n1 m1 e1, .fin n2 m2 e2 => some (.fin (n1 != n2) (m1 * m2) (e1 + e2))
  | v, _ => some v

def fPack (f : FFmt) (rm : Nat) : FVal → ERes
  | .inf s => { d := fInf f s }
  | .fin s m e => fRound f rm s m e
  | .nan b _ => { d := fQuiet f b }

/-- VMUL on type F. -/
def fMul (f : FFmt) (rm : Nat) (a b : Nat) : ERes :=
  let x := fDecode f a
  let y := fDecode f b
  match fNaNOf f [x, y] with
  | some r => r
  | none => match fMulVal x y with
    | none => fInvalid f
    | some p => fPack f rm p

/-- VFMA, VFMS (C negated) and VFNMA (product negated), with one rounding. -/
def fFma (f : FFmt) (rm : Nat) (negP negC : Bool) (a b c : Nat) : ERes :=
  let x := fDecode f a
  let y := fDecode f b
  let z := fDecode f c
  match fNaNOf f [x, y, z] with
  | some r => r
  | none => match fMulVal x y with
    | none => fInvalid f
    | some p => fAddVal f rm (if negP then p.neg else p) (if negC then z.neg else z)

/-- VDIV on type F. The quotient carries two extra bits and a sticky bit, so that one rounding is exact. -/
def fDiv (f : FFmt) (rm : Nat) (a b : Nat) : ERes :=
  let x := fDecode f a
  let y := fDecode f b
  match fNaNOf f [x, y] with
  | some r => r
  | none => match x, y with
    | .inf _, .inf _ => fInvalid f
    | .inf s, .fin n _ _ => { d := fInf f (s != n) }
    | .fin n _ _, .inf s => { d := fZero f (n != s) }
    | .fin n1 m1 e1, .fin n2 m2 e2 =>
      if m2 = 0 then
        if m1 = 0 then fInvalid f
        else { d := fInf f (n1 != n2), st := stDZ, fl := flDZ }
      else if m1 = 0 then { d := fZero f (n1 != n2) }
      else
        let sh := bitLen m2 + f.fb + 3
        let q := m1 * 2 ^ sh / m2
        let s := if m1 * 2 ^ sh % m2 = 0 then 0 else 1
        fRound f rm (n1 != n2) (2 * q + s) (e1 - e2 - sh - 1)
    | _, _ => fInvalid f

/-- VSQRT. -/
def fSqrt (f : FFmt) (rm : Nat) (a : Nat) : ERes :=
  let x := fDecode f a
  match fNaNOf f [x] with
  | some r => r
  | none => match x with
    | .inf s => if s then fInvalid f else { d := fInf f false }
    | .fin s m e =>
      if m = 0 then { d := fZero f s }
      else if s then fInvalid f
      else
        let base := 2 * f.fb + 6
        let sh := if (e - base) % 2 = 0 then base else base + 1
        let n := m * 2 ^ sh
        let r := Nat.sqrt n
        let t := if r * r = n then 0 else 1
        fRound f rm false (2 * r + t) ((e - sh) / 2 - 1)
    | _ => fInvalid f

/-- The order of two values that are not NaNs; −0 equals +0. -/
def fLt : FVal → FVal → Bool
  | .inf a, .inf b => a && !b
  | .inf a, _ => a
  | _, .inf b => !b
  | .fin n1 m1 e1, .fin n2 m2 e2 =>
    let e := min e1 e2
    let x : Int := (m1 * 2 ^ (e1 - e).toNat : Nat)
    let y : Int := (m2 * 2 ^ (e2 - e).toNat : Nat)
    decide ((if n1 then -x else x) < (if n2 then -y else y))
  | _, _ => false

def FVal.isNeg : FVal → Bool
  | .inf s => s
  | .fin s _ _ => s
  | .nan _ _ => false

/-- R81: minimum and maximum of IEEE 754-2019; a NaN propagates and −0 is less than +0. -/
def fMinMax (f : FFmt) (wantMax : Bool) (a b : Nat) : ERes :=
  let x := fDecode f a
  let y := fDecode f b
  match fNaNOf f [x, y] with
  | some r => r
  | none =>
    let aLess := fLt x y || (!fLt y x && x.isNeg && !y.isNeg)
    let bLess := fLt y x || (!fLt x y && y.isNeg && !x.isNeg)
    if wantMax then { d := if aLess then b else a } else { d := if bLess then b else a }

/-- The truth of a relation REL of VCMP and VDCMP from less-than both ways: 0 EQ, 1 NE, 2 LT, 3 LE, 4 GT, 5 GE. -/
def relHolds (rel : Nat) (lt gt : Bool) : Bool :=
  match rel with
  | 0 => !lt && !gt
  | 1 => lt || gt
  | 2 => lt
  | 3 => !gt
  | 4 => gt
  | 5 => !lt
  | _ => false

/-- R81: VCMP on type F. UN is true exactly when an operand is a NaN; `sig` is MOD[3]. -/
def fCmp (f : FFmt) (rel : Nat) (sig : Bool) (a b : Nat) : ERes :=
  let x := fDecode f a
  let y := fDecode f b
  match fNaNOf f [x, y] with
  | some r =>
    let nv := sig || decide (r.st ≠ 0)
    { d := if rel = 6 then 1 else 0, st := if nv then stNV else 0, fl := if nv then flNV else 0 }
  | none => { d := bit01 (relHolds rel (fLt x y) (fLt y x)) }

/-- R82: floating point to floating point. A NaN keeps its sign and the fraction bits that fit, made quiet. -/
def fToF (g f : FFmt) (rm : Nat) (a : Nat) : ERes :=
  match fDecode g a with
  | .nan b sig =>
    let fr := bitsOf b 0 g.fb
    let fr' := if f.fb ≤ g.fb then fr / 2 ^ (g.fb - f.fb) else fr * 2 ^ (f.fb - g.fb)
    let v := fSign f (bitAt b (g.eb + g.fb)) + f.expMax * 2 ^ f.fb + setBits fr' (f.fb - 1) 1 1
    { d := v, st := if sig then stNV else 0, fl := if sig then flNV else 0 }
  | v => fPack f rm v

/-- R82: floating point to an integer type: rounded, then judged for range. -/
def fToInt (g : FFmt) (t : ETy) (rm : Nat) (a : Nat) : ERes :=
  match fDecode g a with
  | .nan _ _ => { d := 0, st := stNV, fl := flNV }
  | .inf s => { d := ofInt t.width (if s then t.minInt else t.maxInt), st := stNV, fl := flNV }
  | .fin s m e =>
    let (k, inex) := roundAt rm s m e 0
    let z : Int := if s then -(k : Int) else k
    if t.inRange z then { d := ofInt t.width z, st := if inex then stNX else 0, fl := if inex then flNX else 0 }
    else { d := ofInt t.width (if s then t.minInt else t.maxInt), st := stNV, fl := flNV }

/-- R82: an integer to floating point. -/
def intToF (t : ETy) (f : FFmt) (rm : Nat) (a : Nat) : ERes :=
  let z := t.toInt a
  fRound f rm (z < 0) z.natAbs 0

/-- R80: VABS and VNEG on type F act on the sign bit alone. -/
def fAbsBits (f : FFmt) (v : Nat) : Nat := v % f.signBit
def fNegBits (f : FFmt) (v : Nat) : Nat := if bitAt v (f.eb + f.fb) then v % f.signBit else v + f.signBit

end Sys2Proof.Machine
end

