-- ==== Sys2Proof/Machine/ElemDec.lean ====
section
/-! DEFINITION. Sys2Proof/Machine/ElemDec.lean: packed decimal (R36, R37, R84 to R89). -/
namespace Sys2Proof.Machine

/-- Digits of a packed-decimal type (R36). -/
def ETy.digits (t : ETy) : Nat := if t = .pd8 then 15 else 31

/-- The value of the lowest `n` digit nibbles of `v` from nibble `j` on; none when one exceeds 9 (R37). -/
def pdDigits : Nat → Nat → Option Nat
  | 0, _ => some 0
  | n + 1, v =>
    if v % 16 ≤ 9 then (pdDigits n (v / 16)).map (fun r => v % 16 + 10 * r) else none

/-- R37: the value of a packed-decimal element; none when the element is invalid. -/
def pdValue (t : ETy) (v : Nat) : Option Int :=
  match pdDigits t.digits (v / 16) with
  | none => none
  | some m =>
    if v % 16 = 12 ∨ v % 16 = 15 then some m
    else if v % 16 = 13 then some (-(m : Int))
    else none

/-- The nibbles of `n` decimal digits of `m`. -/
def pdNibbles : Nat → Nat → Nat
  | 0, _ => 0
  | n + 1, m => m % 10 + 16 * pdNibbles n (m / 10)

/-- R37: a value of at most `t.digits` digits as an element; zero is always written with sign 0xC. -/
def pdEncode (t : ETy) (neg : Bool) (m : Nat) : Nat :=
  pdNibbles t.digits m * 16 + (if neg && decide (m ≠ 0) then 13 else 12)

/-- R84: the decimal invalid marker. -/
def pdMarker : Nat := 10

/-- R84: an invalid operand. -/
def pdInvalid : ERes := { d := pdMarker, st := stNV, fl := flDINV }

/-- R85: a decimal result fitted to the digits of D. -/
def pdFit (t : ETy) (wrap : Bool) (z : Int) : ERes :=
  if z.natAbs < 10 ^ t.digits then { d := pdEncode t (z < 0) z.natAbs }
  else
    { d := if wrap then pdEncode t (z < 0) (z.natAbs % 10 ^ t.digits) else pdMarker,
      st := stOF, fl := flDOVF }

/-- R86: VDADD and VDSUB: exact, then fitted. -/
def pdAdd (ta tb td : ETy) (wrap sub : Bool) (a b : Nat) : ERes :=
  match pdValue ta a, pdValue tb b with
  | some x, some y => pdFit td wrap (if sub then x - y else x + y)
  | _, _ => pdInvalid

/-- R87: VDCMP. -/
def pdCmp (ta tb : ETy) (rel : Nat) (a b : Nat) : ERes :=
  match pdValue ta a, pdValue tb b with
  | some x, some y => { d := bit01 (relHolds rel (decide (x < y)) (decide (y < x))) }
  | _, _ => { d := 0, st := stNV, fl := flDINV }

/-- VDNEG. -/
def pdNeg (ta td : ETy) (wrap : Bool) (a : Nat) : ERes :=
  match pdValue ta a with
  | some x => pdFit td wrap (-x)
  | none => pdInvalid

/-- R88: VDCVT in its three directions. -/
def pdConvert (ta td : ETy) (wrap : Bool) (a : Nat) : ERes :=
  if ta.isP then
    match pdValue ta a with
    | none => if td.isP then pdInvalid else { d := 0, st := stNV, fl := flDINV }
    | some x =>
      if td.isP then pdFit td wrap x
      else intFit td true x
  else pdFit td wrap (ta.toInt a)

/-- R89: the magnitude of `m / 10^k`, rounded by MOD[2:1]. -/
def pdShiftDown (rnd : Nat) (m k : Nat) : Nat :=
  let p := 10 ^ k
  let q := m / p
  let r := m % p
  let up := match rnd with
    | 0 => false
    | 1 => decide (p ≤ 2 * r) && decide (r ≠ 0)
    | _ => decide (p < 2 * r) || (decide (2 * r = p) && q % 2 == 1)
  if up then q + 1 else q

/-- R89: VDSHIFT by a signed `s`. Shifts of 64 places or more act as 64: no digit of any operand is left. -/
def pdShift (ta td : ETy) (wrap : Bool) (rnd : Nat) (s : Int) (a : Nat) : ERes :=
  match pdValue ta a with
  | none => pdInvalid
  | some x =>
    let k := min s.natAbs 64
    let m := if s < 0 then pdShiftDown rnd x.natAbs k else x.natAbs * 10 ^ k
    pdFit td wrap (if x < 0 then -(m : Int) else m)

/-- R84: VDCHK writes the status of A and sets no sticky flag. -/
def pdCheck (ta : ETy) (a : Nat) : ERes :=
  { d := if (pdValue ta a).isSome then 0 else stNV }

end Sys2Proof.Machine
end

