-- ==== Sys2Proof/Machine/VecOps.lean ====
section
/-! DEFINITION. Sys2Proof/Machine/VecOps.lean: the vector opcode tables (R61, R62, Tables 3-6 to 3-13) and what one
element of each opcode is (R70 to R98). -/
namespace Sys2Proof
open Machine

/-- OPC of a vector opcode (Tables 3-3 and 3-6 to 3-13; Recipes from 0x3E0). -/
def VOpc.opc : VOpc → Nat
  | .vadd => 0x000 | .vsub => 0x001 | .vaddc => 0x002 | .vsubb => 0x003 | .vmin => 0x004 | .vmax => 0x005
  | .vabs => 0x006 | .vneg => 0x007 | .vcmp => 0x008 | .vsel => 0x009 | .vcvt => 0x00A | .vcopy => 0x00B
  | .vfill => 0x00C | .viota => 0x00D
  | .vmul => 0x080 | .vmulh => 0x081 | .vfma => 0x082 | .vfms => 0x083 | .vfnma => 0x084
  | .vdadd => 0x100 | .vdsub => 0x101 | .vdcmp => 0x102 | .vdneg => 0x103 | .vdcvt => 0x104
  | .vdshift => 0x105 | .vdchk => 0x106
  | .vand => 0x180 | .vor => 0x181 | .vxor => 0x182 | .vandn => 0x183 | .vnot => 0x184 | .vshl => 0x185
  | .vshr => 0x186 | .vsra => 0x187 | .vrol => 0x188 | .vpopc => 0x189 | .vclz => 0x18A
  | .vdiv => 0x200 | .vrem => 0x201 | .vsqrt => 0x202
  | .vcprs => 0x240 | .vexpd => 0x241 | .vmstep => 0x242 | .vrsum => 0x248 | .vrmin => 0x249 | .vrmax => 0x24A
  | .vrand => 0x24B | .vror => 0x24C | .vrxor => 0x24D | .vscan => 0x250 | .vcount => 0x251
  | .vaese => 0x2C0 | .vaesd => 0x2C1 | .vghash => 0x2C4 | .vsha256 => 0x2C8 | .vcrc32c => 0x2CC
  | .vaadd => 0x300 | .vamin => 0x301 | .vamax => 0x302 | .vaor => 0x303 | .vaand => 0x304 | .vafadd => 0x308
  | .vsync => 0x3C0 | .vrestart => 0x3C1
  | .recipe k => 0x3E0 + k.val

/-- Every opcode that is not a Recipe, for decoding a Recipe step (R108). -/
def vopcTable : List VOpc :=
  [.vadd, .vsub, .vaddc, .vsubb, .vmin, .vmax, .vabs, .vneg, .vcmp, .vsel, .vcvt, .vcopy, .vfill, .viota,
   .vmul, .vmulh, .vfma, .vfms, .vfnma] ++
  [.vdadd, .vdsub, .vdcmp, .vdneg, .vdcvt, .vdshift, .vdchk] ++
  [.vand, .vor, .vxor, .vandn, .vnot, .vshl, .vshr, .vsra, .vrol, .vpopc, .vclz, .vdiv, .vrem, .vsqrt] ++
  [.vcprs, .vexpd, .vmstep, .vrsum, .vrmin, .vrmax, .vrand, .vror, .vrxor, .vscan, .vcount] ++
  [.vaese, .vaesd, .vghash, .vsha256, .vcrc32c] ++
  [.vaadd, .vamin, .vamax, .vaor, .vaand, .vafadd, .vsync, .vrestart]

/-- The opcode of a code below 0x3E0; none when the code is reserved (R69). -/
def vopcOf (code : Nat) : Option VOpc := vopcTable.find? (fun o => o.opc == code)

/-- FORM codes of Table 3-2. -/
def fmVV : Nat := 0
def fmVS : Nat := 1
def fmVVV : Nat := 2
def fmVVS : Nat := 3
def fmV : Nat := 4
def fmG : Nat := 5
def fmRED : Nat := 6
def fmN : Nat := 7

/-- Function unit classes (Table 3-4), as they are counted for a Chain Group (Table 4-1). -/
inductive VClass
  | add | mul | dec | log | div | prm | cry | atomic | control | recipe
  deriving DecidableEq, Repr

def VOpc.cls : VOpc → VClass
  | .vadd | .vsub | .vaddc | .vsubb | .vmin | .vmax | .vabs | .vneg | .vcmp | .vsel | .vcvt | .vcopy | .vfill
  | .viota => .add
  | .vmul | .vmulh | .vfma | .vfms | .vfnma => .mul
  | .vdadd | .vdsub | .vdcmp | .vdneg | .vdcvt | .vdshift | .vdchk => .dec
  | .vand | .vor | .vxor | .vandn | .vnot | .vshl | .vshr | .vsra | .vrol | .vpopc | .vclz => .log
  | .vdiv | .vrem | .vsqrt => .div
  | .vcprs | .vexpd | .vmstep | .vrsum | .vrmin | .vrmax | .vrand | .vror | .vrxor | .vscan | .vcount => .prm
  | .vaese | .vaesd | .vghash | .vsha256 | .vcrc32c => .cry
  | .vaadd | .vamin | .vamax | .vaor | .vaand | .vafadd => .atomic
  | .vsync | .vrestart => .control
  | .recipe _ => .recipe

/-- Unit instances of a class in one pipe (Table 4-1). Atomics and copies use none (R116). -/
def VClass.units : VClass → Nat
  | .add | .log => 2
  | .atomic | .control => 8
  | _ => 1

/-- The forms each opcode's row lists (Tables 3-6 to 3-13). -/
def VOpc.forms : VOpc → List Nat
  | .vadd | .vsub | .vmin | .vmax | .vcmp | .vmul | .vmulh | .vdadd | .vdsub | .vdcmp => [fmVV, fmVS]
  | .vand | .vor | .vxor | .vandn | .vshl | .vshr | .vsra | .vrol | .vdiv | .vrem | .vaese | .vaesd => [fmVV, fmVS]
  | .vaddc | .vsubb | .vsel | .vghash | .vsha256 => [fmVVV]
  | .vfma | .vfms | .vfnma => [fmVVV, fmVVS]
  | .vmstep | .vcrc32c => [fmVV]
  | .vfill | .viota => [fmG]
  | .vrsum | .vrmin | .vrmax | .vrand | .vror | .vrxor | .vcount => [fmRED]
  | .vsync | .vrestart => [fmN]
  | .recipe _ => [0]
  | _ => [fmV]

/-- What a row's E column allows. -/
inductive ERule
  | never | optional | required
  deriving DecidableEq, Repr

/-- What E carries where it is present. -/
inductive EKind
  | status | second | carry | oldValue
  deriving DecidableEq, Repr

def VOpc.eRule : VOpc → ERule
  | .vaddc | .vsubb | .vmstep | .vsha256 | .vafadd => .required
  | .vadd | .vsub | .vmin | .vmax | .vabs | .vneg | .vcmp | .vcvt | .vmul | .vfma | .vfms | .vfnma => .optional
  | .vdadd | .vdsub | .vdcmp | .vdneg | .vdcvt | .vdshift | .vdiv | .vsqrt | .vscan => .optional
  | .vaadd | .vamin | .vamax => .optional
  | .recipe _ => .optional
  | _ => .never

/-- The kind of E for an operation whose A has type `ta` (VMUL and VDIV differ between integers and F). -/
def VOpc.eKind (o : VOpc) (ta : ETy) : EKind :=
  match o with
  | .vaddc | .vsubb => .carry
  | .vmul | .vdiv => if ta.isF then .status else .second
  | .vmstep | .vsha256 => .second
  | .vafadd => .oldValue
  | _ => .status

/-- MOD values reserved whatever the element types (R61, and the paragraphs after Tables 3-6 to 3-13). -/
def VOpc.modReserved (o : VOpc) (mod : Nat) : Bool :=
  match o with
  | .vaddc | .vsubb | .vsel | .vcopy | .vfill | .viota => decide (mod ≠ 0)
  | .vcmp => mod % 8 == 7
  | .vdadd | .vdsub | .vdneg | .vdcvt => decide (2 ≤ mod)
  | .vdcmp => decide (6 ≤ mod)
  | .vdshift => decide (6 ≤ mod)
  | .vdchk => decide (mod ≠ 0)
  | .vand | .vor | .vxor | .vandn | .vnot | .vshl | .vshr | .vsra | .vrol | .vpopc | .vclz => decide (mod ≠ 0)
  | .vcprs | .vexpd | .vrand | .vror | .vrxor | .vcount => decide (mod ≠ 0)
  | .vaese | .vaesd => decide (2 ≤ mod)
  | .vghash | .vsha256 | .vcrc32c => decide (mod ≠ 0)
  | .vaadd | .vamin | .vamax | .vaor | .vaand | .vafadd => decide (mod ≠ 0)
  | .vsync => decide (mod ≠ 0)
  | .vrestart => decide (2 ≤ mod)
  | .recipe _ => decide (mod ≠ 0)
  | _ => false

/-- Vector operand positions of a FORM, without E (Table 3-2): D 0, A 1, B 2, C 3. -/
def formPositions (form : Nat) : List Nat :=
  if form = fmVV then [0, 1, 2]
  else if form = fmVS then [0, 1]
  else if form = fmVVV then [0, 1, 2, 3]
  else if form = fmVVS then [0, 1, 2]
  else if form = fmV then [0, 1]
  else if form = fmG then [0]
  else if form = fmRED then [1]
  else []

/-- Whether an opcode reads gS when it issues (R62, R64): by its form, or as a parameter. -/
def VOpc.readsG (o : VOpc) (form : Nat) : Bool :=
  form == fmVS || form == fmVVS || form == fmG || form == fmRED ||
  (match o with
   | .vdshift | .vscan | .vcprs => true
   | _ => false)

/-- Whether an opcode writes a scalar result to gS (R65). -/
def VOpc.writesG (o : VOpc) : Bool :=
  match o with
  | .vrsum | .vrmin | .vrmax | .vrand | .vror | .vrxor | .vcount | .vcprs => true
  | _ => false

def VOpc.isAtomic (o : VOpc) : Bool := decide (o.cls = .atomic)

/-- R78: whether a floating-point opcode takes its rounding mode from MOD[2:0]. -/
def VOpc.roundsF (o : VOpc) : Bool :=
  match o with
  | .vadd | .vsub | .vmin | .vmax | .vabs | .vneg | .vcvt | .vmul | .vfma | .vfms | .vfnma | .vdiv | .vsqrt
  | .vrsum | .vrmin | .vrmax | .vmstep => true
  | _ => false

/-- Table 3-5 with the exceptions of the rows: whether the types of D, A, B and C suit the opcode (R70). `td` to
`tc` are the types of the positions present; a position that is absent is given the type of A (of D in form G). -/
def VOpc.typesOk (o : VOpc) (td ta tb tc : ETy) : Bool :=
  let same := decide (td = ta) && decide (tb = ta)
  let same3 := same && decide (tc = ta)
  match o with
  | .vadd | .vsub | .vmin | .vmax => (ta.isIU || ta.isF) && same
  | .vaddc | .vsubb => ta.isIU && same && decide (tc = .bit)
  | .vabs | .vneg => (ta.isI || ta.isF) && decide (td = ta)
  | .vcmp => (ta.isIU || ta.isF || decide (ta = .b128)) && decide (tb = ta) && decide (td = .bit)
  | .vsel => decide (ta ≠ .rsvd) && same && decide (tc = .bit)
  | .vcvt => (ta.isIU || ta.isF) && (td.isIU || td.isF)
  | .vcopy | .vcprs | .vexpd => decide (ta ≠ .rsvd) && decide (td = ta)
  | .vfill => decide (td ≠ .rsvd)
  | .viota => td.isIU
  | .vmul | .vdiv | .vmstep => (ta.isIU || ta.isF) && same
  | .vmulh | .vrem => ta.isIU && same
  | .vfma | .vfms | .vfnma => (ta.isIU || ta.isF) && same3
  | .vdadd | .vdsub => ta.isP && tb.isP && td.isP
  | .vdcmp => ta.isP && tb.isP && decide (td = .bit)
  | .vdneg => ta.isP && td.isP
  | .vdcvt => (ta.isP && (td.isP || td.isIU)) || (td.isP && ta.isIU)
  | .vdshift => ta.isP && decide (td = ta)
  | .vdchk => ta.isP && decide (td = .u8)
  | .vand | .vor | .vxor | .vandn => (ta.isIU || decide (ta = .bit) || decide (ta = .b128)) && same
  | .vnot => (ta.isIU || decide (ta = .bit) || decide (ta = .b128)) && decide (td = ta)
  | .vshl | .vshr | .vsra | .vrol => ta.isIU && same
  | .vpopc | .vclz => ta.isIU && decide (td = ta)
  | .vsqrt => ta.isF && decide (td = ta)
  | .vrsum => ta.isIU || ta.isF || ta.isP
  | .vrmin | .vrmax => ta.isIU || ta.isF
  | .vrand | .vror | .vrxor => ta.isIU || decide (ta = .bit)
  | .vscan => ta.isIU && decide (td = ta)
  | .vcount => decide (ta = .bit)
  | .vaese | .vaesd => decide (ta = .b128) && same
  | .vghash | .vsha256 => decide (ta = .b128) && same3
  | .vcrc32c => decide (ta = .u32) && decide (td = .u32) && decide (tb = .b128)
  | .vaadd => (ta.isW && decide (td = ta)) || (ta.isP && (decide (td = ta) || decide (td = .pd16)))
  | .vamin | .vamax | .vafadd => ta.isW && decide (td = ta)
  | .vaor | .vaand => (decide (ta = .u32) || decide (ta = .u64)) && decide (td = ta)
  | .vsync | .vrestart => true
  | .recipe _ => true

/-- The type E must have: a status stream is U8 (R71), a carry stream BIT, a second result or old value D's type. -/
def VOpc.eTypeOk (o : VOpc) (td ta te : ETy) : Bool :=
  match o.eKind ta with
  | .status => decide (te = .u8)
  | .carry => decide (te = .bit)
  | .second | .oldValue => decide (te = td)

/-- MOD values that only some element types reserve, checked at issue (R61, R78, and VRSUM on type P). -/
def VOpc.modBadForType (o : VOpc) (mod : Nat) (ta td : ETy) : Bool :=
  match o with
  | .vcmp => (mod % 8 == 6 && !ta.isF) || (decide (ta = .b128) && decide (1 < mod % 8))
  | .vrsum => (ta.isF && decide (4 < mod % 8)) || (ta.isP && decide (1 < mod))
  | _ => o.roundsF && (ta.isF || td.isF) && decide (4 < mod % 8)

/-- The inputs of one element: A, B and C (or the scalar in the place R62 gives it) with their types, the type of
D, MOD, the scalar parameter, and the element number. -/
structure EIn where
  mod : Nat
  td : ETy
  ta : ETy
  tb : ETy
  a : Nat := 0
  b : Nat := 0
  c : Nat := 0
  par : Nat := 0
  i : Nat := 0
  deriving DecidableEq, Repr

/-- ADD class (Table 3-6). -/
def elemAdd (o : VOpc) (x : EIn) : ERes :=
  let f := x.ta.fmt
  let rm := modRm x.mod
  let sat := modSat x.mod
  let za := x.ta.toInt x.a
  let zb := x.ta.toInt x.b
  match o with
  | .vadd => if x.ta.isF then fAdd f rm false x.a x.b else intFit x.td sat (za + zb)
  | .vsub => if x.ta.isF then fAdd f rm true x.a x.b else intFit x.td sat (za - zb)
  | .vaddc => intAddC x.ta false x.a x.b x.c
  | .vsubb => intAddC x.ta true x.a x.b x.c
  | .vmin => if x.ta.isF then fMinMax f false x.a x.b else { d := if zb < za then x.b else x.a }
  | .vmax => if x.ta.isF then fMinMax f true x.a x.b else { d := if za < zb then x.b else x.a }
  | .vabs => if x.ta.isF then { d := fAbsBits f x.a } else intFit x.td sat (za.natAbs : Int)
  | .vneg => if x.ta.isF then { d := fNegBits f x.a } else intFit x.td sat (-za)
  | .vcmp =>
    if x.ta.isF then fCmp f (x.mod % 8) (modSat x.mod) x.a x.b
    else { d := bit01 (relHolds (x.mod % 8) (decide (za < zb)) (decide (zb < za))) }
  | .vsel => { d := if x.c % 2 = 1 then x.a else x.b }
  | .vcvt =>
    if x.ta.isF then
      if x.td.isF then fToF f x.td.fmt rm x.a else fToInt f x.td rm x.a
    else if x.td.isF then intToF x.ta x.td.fmt rm x.a
    else intFit x.td sat za
  | .viota =>
    let r := intFit x.td false ((if x.td.isI then toSigned 64 x.par else ((x.par % 2 ^ 64 : Nat) : Int)) + x.i)
    { r with st := 0 }
  | .vfill => { d := x.par % 2 ^ x.td.width }
  | _ => { d := x.a }

/-- MUL class (Table 3-7). -/
def elemMul (o : VOpc) (x : EIn) : ERes :=
  let f := x.ta.fmt
  let rm := modRm x.mod
  let sat := modSat x.mod
  let za := x.ta.toInt x.a
  let zb := x.ta.toInt x.b
  let zc := x.ta.toInt x.c
  match o with
  | .vmul => if x.ta.isF then fMul f rm x.a x.b else intMul x.td sat x.a x.b
  | .vmulh => { d := (intMul x.td sat x.a x.b).e }
  | .vfma => if x.ta.isF then fFma f rm false false x.a x.b x.c else intFit x.td sat (za * zb + zc)
  | .vfms => if x.ta.isF then fFma f rm false true x.a x.b x.c else intFit x.td sat (za * zb - zc)
  | _ => if x.ta.isF then fFma f rm true false x.a x.b x.c else intFit x.td sat (zc - za * zb)

/-- DEC class (Table 3-8). -/
def elemDec (o : VOpc) (x : EIn) : ERes :=
  let wrap := bitAt x.mod 0
  match o with
  | .vdadd => pdAdd x.ta x.tb x.td wrap false x.a x.b
  | .vdsub => pdAdd x.ta x.tb x.td wrap true x.a x.b
  | .vdcmp => pdCmp x.ta x.tb (x.mod % 8) x.a x.b
  | .vdneg => pdNeg x.ta x.td wrap x.a
  | .vdcvt => pdConvert x.ta x.td wrap x.a
  | .vdshift => pdShift x.ta x.td wrap (x.mod / 2 % 4) (toSigned 64 x.par) x.a
  | _ => pdCheck x.ta x.a

/-- LOG class (Table 3-9). -/
def elemLog (o : VOpc) (x : EIn) : ERes :=
  let w := x.ta.width
  let ones := 2 ^ w - 1
  match o with
  | .vand => { d := x.a &&& x.b }
  | .vor => { d := x.a ||| x.b }
  | .vxor => { d := x.a ^^^ x.b }
  | .vandn => { d := x.a &&& (ones - x.b % 2 ^ w) }
  | .vnot => { d := ones - x.a % 2 ^ w }
  | .vshl => { d := shiftLeft w x.a x.b }
  | .vshr => { d := shiftRight w x.a x.b }
  | .vsra => { d := shiftArith w x.a x.b }
  | .vrol => { d := rotLeft w x.a x.b }
  | .vpopc => { d := popCount w x.a }
  | _ => { d := leadZeros w x.a }

/-- DIV class (Table 3-10). -/
def elemDiv (o : VOpc) (x : EIn) : ERes :=
  let f := x.ta.fmt
  match o with
  | .vdiv => if x.ta.isF then fDiv f (modRm x.mod) x.a x.b else intDivide x.ta x.a x.b
  | .vrem => intRem x.ta x.a x.b
  | _ => fSqrt f (modRm x.mod) x.a

/-- VMSTEP (Table 3-11): the minimum to D and the maximum to E; on equality D = A and E = B. -/
def elemMstep (x : EIn) : ERes :=
  if x.ta.isF then
    let lo := fMinMax x.ta.fmt false x.a x.b
    let hi := fMinMax x.ta.fmt true x.a x.b
    let nan := (fNaNOf x.ta.fmt [fDecode x.ta.fmt x.a, fDecode x.ta.fmt x.b]).isSome
    if !nan && hi.d == lo.d then { lo with e := x.b } else { lo with e := hi.d }
  else if x.ta.toInt x.b < x.ta.toInt x.a then { d := x.b, e := x.a }
  else { d := x.a, e := x.b }

/-- CRY class (Table 3-12), without VSHA256, whose B is four elements. -/
def elemCry (o : VOpc) (x : EIn) : ERes :=
  match o with
  | .vaese => { d := aesEncRound (bitAt x.mod 0) x.a x.b }
  | .vaesd => { d := aesDecRound (bitAt x.mod 0) x.a x.b }
  | .vghash => { d := ghash x.a x.b x.c }
  | _ => { d := crc32c x.a (blockBytes x.b) }

/-- One element of any opcode that computes element by element. -/
def elemOp (o : VOpc) (x : EIn) : ERes :=
  match o.cls with
  | .add => elemAdd o x
  | .mul => elemMul o x
  | .dec => elemDec o x
  | .log => elemLog o x
  | .div => elemDiv o x
  | .prm => elemMstep x
  | .cry => elemCry o x
  | _ => { d := x.a }

/-- R90, R91: the combination of two partial results of a reduction, with the flags it raises. -/
def redCombine (o : VOpc) (t : ETy) (mod x y : Nat) : ERes :=
  match o with
  | .vrsum =>
    if t.isF then fAdd t.fmt (modRm mod) false x y
    else if t.isP then pdAdd t t t (bitAt mod 0) false x y
    else intFit t (modSat mod) (t.toInt x + t.toInt y)
  | .vrmin => elemAdd .vmin { mod := mod, td := t, ta := t, tb := t, a := x, b := y }
  | .vrmax => elemAdd .vmax { mod := mod, td := t, ta := t, tb := t, a := x, b := y }
  | .vrand => { d := x &&& y }
  | .vror => { d := x ||| y }
  | .vrxor => { d := x ^^^ y }
  | _ => { d := (x + y) % 2 ^ 64 }

/-- One level of R91: pairs combine, and a pair with one empty lane passes the other. -/
def redPairs (o : VOpc) (t : ETy) (mod : Nat) : List (Option ERes) → List (Option ERes)
  | some x :: some y :: rest =>
    let r := redCombine o t mod x.d y.d
    some { r with st := x.st ||| y.st ||| r.st, fl := x.fl ||| y.fl ||| r.fl } :: redPairs o t mod rest
  | some x :: none :: rest => some x :: redPairs o t mod rest
  | none :: some y :: rest => some y :: redPairs o t mod rest
  | none :: none :: rest => none :: redPairs o t mod rest
  | [x] => [x]
  | [] => []

/-- R91: the partial result of one Slice, five levels over its 32 lanes. -/
def redSlice (o : VOpc) (t : ETy) (mod : Nat) (lanes : List (Option Nat)) : Option ERes :=
  let l0 := lanes.map (fun v => v.map (fun d => { d := d : ERes }))
  let f := redPairs o t mod
  (f (f (f (f (f l0))))).headD none

/-- R90: the initial value that gS gives a reduction on type `t`, as an element; VCOUNT and VCPRS use all of gS. -/
def redInit (o : VOpc) (t : ETy) (g : Nat) : Nat :=
  match o with
  | .vcount | .vcprs => g % 2 ^ 64
  | _ => g % 2 ^ t.width

/-- R90: a reduction's result as the scalar register holds it. -/
def redFinal (o : VOpc) (t : ETy) (v : Nat) : Nat :=
  match o with
  | .vcount | .vcprs => v % 2 ^ 64
  | _ => if t.isI then ofInt 64 (toSigned t.width v) else v % 2 ^ t.width

/-- R99, R100: a bank-side atomic on one location: the new content, whether it was applied, status and flags.
`t` is the type of the location and `ta` that of the operand. -/
def atomicApply (o : VOpc) (t ta : ETy) (old x : Nat) : ERes :=
  match o with
  | .vaadd =>
    if t.isP then
      match pdValue t old, pdValue ta x with
      | some p, some q =>
        if (p + q).natAbs < 10 ^ t.digits then { d := pdEncode t (p + q < 0) (p + q).natAbs }
        else { d := old, st := stOF, fl := flDOVF }
      | _, _ => { d := old, st := stNV, fl := flDINV }
    else intFit t false (t.toInt old + t.toInt x)
  | .vafadd => intFit t false (t.toInt old + t.toInt x)
  | .vamin => { d := if t.toInt x < t.toInt old then x else old }
  | .vamax => { d := if t.toInt old < t.toInt x then x else old }
  | .vaor => { d := old ||| x }
  | .vaand => { d := old &&& x }
  | _ => { d := old }

end Sys2Proof
end

