-- ==== Sys2Proof/Machine/Operands.lean ====
section
/-! DEFINITION. Sys2Proof/Machine/Operands.lean: segments and vector descriptors, the checks of R27, R32 and R233, the
offset of an element (R31), extents and exact streams (R43, R44). -/
namespace Sys2Proof.Machine

/-! ### Segment descriptors (Table 2-1) -/

def segBase (d : SegDesc) : Nat := bitsOf d.toNat 0 48
def segDev (d : SegDesc) : Nat := bitsOf d.toNat 48 12
def segLimit (d : SegDesc) : Nat := bitsOf d.toNat 64 48
def segValid (d : SegDesc) : Bool := bitAt d.toNat 112
def segRd (d : SegDesc) : Bool := bitAt d.toNat 113
def segWr (d : SegDesc) : Bool := bitAt d.toNat 114
def segAtom (d : SegDesc) : Bool := bitAt d.toNat 115
def segUser (d : SegDesc) : Bool := bitAt d.toNat 116
def segSide (d : SegDesc) : Bool := bitAt d.toNat 117
def segRemote (d : SegDesc) : Bool := bitAt d.toNat 118
def segSpace (d : SegDesc) : Nat := bitsOf d.toNat 119 2

/-- The reserved bits of a segment descriptor (R6, Table 2-1). -/
def segReserved (d : SegDesc) : Bool := decide (bitsOf d.toNat 60 4 ≠ 0) || decide (bitsOf d.toNat 121 7 ≠ 0)

/-- R26: the low bits of BASE read as zero, by the space. -/
def segNormal (d : SegDesc) : SegDesc :=
  let k := match segSpace d with
    | 0 => 7
    | 1 => 3
    | 2 => 2
    | _ => 0
  BitVec.ofNat 128 (d.toNat / 2 ^ k * 2 ^ k)

/-- Where a segment's bytes are: a local space, or a device reached over the chain (Table 12-4 codes the store). -/
def segTarget (d : SegDesc) (o : Nat) : Target :=
  if segRemote d then .remote (segDev d) (if segSpace d = 0 then 15 else o)
  else match segSpace d with
    | 0 => .vm
    | 1 => .ls
    | _ => .ctl

/-- The right a stream or access needs (R27). -/
inductive Right
  | rd | wr | atom
  deriving DecidableEq, Repr

def segHas (d : SegDesc) : Right → Bool
  | .rd => segRd d
  | .wr => segWr d
  | .atom => segAtom d

/- Causes of Table 2-9. -/
def vcInvalid : Nat := 1
def vcAccess : Nat := 2
def vcLimit : Nat := 3
def vcDesc : Nat := 4
def vcLength : Nat := 5
def vcBudget : Nat := 6
def vcBus : Nat := 7

/-- R27: the checks of one element, in order; the first that fails gives the cause. A BIT element is checked on the
byte that holds it. -/
def segCheck (d : SegDesc) (r : Right) (sup : Bool) (off : Int) (size : Nat) (isBit : Bool) : Option Nat :=
  if !segValid d then some vcInvalid
  else if decide (1 < segSpace d) || (decide (r = .atom) && decide (segSpace d ≠ 0)) then some vcAccess
  else if !segHas d r then some vcAccess
  else if !(segUser d || sup) then some vcAccess
  else if off < 0 then some vcLimit
  else if isBit then (if off / 8 ≤ segLimit d then none else some vcLimit)
  else if off + size - 1 ≤ segLimit d then none else some vcLimit

/-! ### Vector descriptors (Table 2-2) -/

def vdOffset (d : VecDesc) : Nat := bitsOf d.toNat 0 48
def vdStride (d : VecDesc) : Int := toSigned 48 (bitsOf d.toNat 64 48)
def vdLength (d : VecDesc) : Nat := bitsOf d.toNat 128 32
def vdEty (d : VecDesc) : ETy := etyOf (bitsOf d.toNat 160 4)
def vdAmode (d : VecDesc) : Nat := bitsOf d.toNat 164 2
def vdIscale (d : VecDesc) : Nat := bitsOf d.toNat 166 2
def vdIdx (d : VecDesc) : Nat := bitsOf d.toNat 168 5
def vdSeg (d : VecDesc) : Nat := bitsOf d.toNat 176 6

/-- The reserved bits of a vector descriptor (R6). -/
def vdReserved (d : VecDesc) : Bool :=
  decide (bitsOf d.toNat 48 16 ≠ 0) || decide (bitsOf d.toNat 112 16 ≠ 0) || decide (bitsOf d.toNat 173 3 ≠ 0)
    || decide (bitsOf d.toNat 182 74 ≠ 0)

/-- R31: the offset of element `i`, in bytes, or in bits for BIT; `x` is the index element of an indexed stream. -/
def elemOffset (d : VecDesc) (i : Nat) (x : Int) : Int :=
  let t := vdEty d
  match vdAmode d with
  | 0 => (vdOffset d : Int) + (if t = .bit then i else i * t.size)
  | 1 => (vdOffset d : Int) + i * vdStride d
  | _ =>
    let scale : Int := match vdIscale d with
      | 0 => 1
      | 1 => t.size
      | _ => vdStride d
    (vdOffset d : Int) + x * scale

/-- R33: the alignment an element type needs, in bytes. -/
def ETy.align (t : ETy) : Nat := if t = .bit then 1 else t.size

/-- R33: whether an element at `off` is aligned; Vector Memory segments are Granule-aligned (R26), so the offset
decides, and for other spaces the base is aligned enough to leave the address to decide. -/
def elemAligned (d : VecDesc) (seg : SegDesc) (off : Int) : Bool :=
  vdEty d == .bit || (segBase seg + off.toNat) % (vdEty d).align == 0

/-- The value of an index element: signed for I32 and I64 (R32). -/
def indexValue (t : ETy) (v : Nat) : Int := t.toInt v

/-- R43: the step of a stream that is not indexed. -/
def streamStep (d : VecDesc) : Int := if vdAmode d = 1 then vdStride d else (vdEty d).size

/-- The device a segment lies on: none for the local one. -/
def segPlace (seg : SegDesc) : Nat × Option Nat := (segSpace seg, if segRemote seg then some (segDev seg) else none)

/-- R43: whether two streams are exactly the same stream, over `n` and `m` elements. -/
def sameStream (a : Stream) (n : Nat) (b : Stream) (m : Nat) : Bool :=
  decide (vdAmode a.desc < 2) && decide (vdAmode b.desc < 2) && decide (segPlace a.seg = segPlace b.seg)
    && (let u := if vdEty a.desc = .bit then 8 else 1
        decide (segBase a.seg * u + vdOffset a.desc = segBase b.seg * u + vdOffset b.desc))
    && decide (streamStep a.desc = streamStep b.desc) && decide (vdEty a.desc = vdEty b.desc) && decide (n = m)

/-- R44: the bytes a stream of `n` elements can touch: its place, first and last byte. -/
def streamExtent (st : Stream) (n : Nat) : (Nat × Option Nat) × Int × Int :=
  let d := st.desc
  let b : Int := segBase st.seg
  let t := vdEty d
  if 2 ≤ vdAmode d then (segPlace st.seg, b, b + segLimit st.seg)
  else if t = .bit then
    let lo := vdOffset d / 8
    let hi := (vdOffset d + (n - 1)) / 8
    (segPlace st.seg, b + lo, b + hi)
  else
    let span : Int := (n - 1 : Nat) * streamStep d
    (segPlace st.seg, b + vdOffset d + min 0 span, b + vdOffset d + max 0 span + t.size - 1)

/-- R44: whether two extents overlap; different spaces and different devices never do. -/
def extOverlap (a b : (Nat × Option Nat) × Int × Int) : Bool :=
  decide (a.1 = b.1) && decide (a.2.1 ≤ b.2.2) && decide (b.2.1 ≤ a.2.2)

/-! ### Streams of an instruction -/

/-- Elements a stream supplies or takes: B of VSHA256 has four for each (R97). -/
def streamCount (v : VIns) (k : StreamKey) : Nat :=
  if v.op = .vsha256 ∧ k = .data 2 then 4 * v.n else v.n

/-- The stream of a key, if the instruction has it. -/
def VIns.stream (v : VIns) (k : StreamKey) : Option Stream := v.streams.find? (fun st => st.key == k)

/-- R118, Table 4-1: whether a data position is a destination: D and E, but not A of form RED. -/
def isDstKey : StreamKey → Bool
  | .data p => p == 0 || p == 4
  | _ => false

/-- Whether a stream of this instruction is written by bank-side atomics. -/
def VIns.atomicDst (v : VIns) (k : StreamKey) : Bool := v.op.isAtomic && k == .data 0

/-- The right a stream needs (R27). -/
def VIns.rightOf (v : VIns) (k : StreamKey) : Right :=
  if v.atomicDst k then .atom else if isDstKey k then .wr else .rd

/-- Rank of a stream for faults at one element: data operands in order, then index streams, then the mask (R46). -/
def keyRank : StreamKey → Nat
  | .data p => p
  | .index p => 8 + p
  | .mask => 16

/-- R46: the fault that stands when a second one is found. -/
def worseFault (a : Option VFault) (b : VFault) : Option VFault :=
  let rank := fun (f : VFault) => if f.fromMask then 16 else if f.fromIdx then 8 + f.opnd else f.opnd
  match a with
  | none => some b
  | some f => if b.k < f.k ∨ (b.k = f.k ∧ rank b < rank f) then some b else some f

/-- The fault of element `k` of a stream. -/
def faultOf (st : Stream) (k cause : Nat) (off idx : Int) : VFault :=
  { k := k, cause := cause,
    opnd := (match st.key with | .data p => p | .index p => p | .mask => 0),
    fromIdx := (match st.key with | .index _ => true | _ => false),
    fromMask := decide (st.key = .mask), seg := st.segNo, off := off, idx := idx }

end Sys2Proof.Machine
end

