-- ==== Sys2Proof/Machine/VecMem.lean ====
section
/-! DEFINITION. Sys2Proof/Machine/VecMem.lean: Vector Memory (R148 to R189): the map from addresses to banks, reads and
writes with Poison, scrub, the bank-side atomic units, placement, row repair and bank Regrow, and the VM block. -/
namespace Sys2Proof.Machine

/-! ### From address to bank (R148 to R152) -/

/-- The interleave hash (R152). -/
def vmHash (r st k : Nat) : Nat :=
  if k = 0 then 0
  else
    let c := (0x2A5B + 0x0802 * (k - 1)) % 0x8000
    let x := st * c % 0x8000
    let x := x ^^^ x / 128
    x ^^^ r * 0x0115 * k % 0x8000

def State.vmTad (s : State) : Bool := s.flag VM_STATUS VM_STATUS.TADPOLE_MAP

/-- Bytes of Vector Memory (R148, R151). -/
def State.vmSize (s : State) : Nat := if s.vmTad then 0x400000000 else 0x1800000000

/-- Δ of a stripe under migration (R175). -/
def State.migDelta (s : State) (r st : Nat) : Nat :=
  vmHash r st (s.fld (VM_REGION r) VM_REGION.KEY) ^^^ vmHash r st (s.fld (VM_REGION r) VM_REGION.KEY_NEW)

/-- R174: the key that routes a lane of a stripe of a region. -/
def State.vmKey (s : State) (r st lane : Nat) : Nat :=
  let k := s.fld (VM_REGION r) VM_REGION.KEY
  let k' := s.fld (VM_REGION r) VM_REGION.KEY_NEW
  let b := s.fld (VM_REGION r) VM_REGION.BOUNDARY
  if s.fld (VM_REGION r) VM_REGION.MSTATE ≠ 1 then k
  else if st < b then k'
  else if b < st then k
  else
    let bank := lane ^^^ vmHash r st k
    if s.vm.swapped.contains (min bank (bank ^^^ s.migDelta r st)) then k' else k

/-- Table 5-1, R151: the logical bank and the slot of a Granule. -/
def State.vmLoc (s : State) (g : Nat) : Nat × Nat :=
  let r := g / 2 ^ 23
  let i := g % 2 ^ 23
  if s.vmTad then
    let st := i / 2 ^ 13
    (s.vm.tadTier * 8192 + (i % 2 ^ 13 ^^^ vmHash r st 1 % 8192), r * 1024 + st)
  else
    let st := i / 2 ^ 15
    let lane := i % 2 ^ 15
    (lane ^^^ vmHash r st (s.vmKey r st lane), r * 256 + st)

def State.vmBank (s : State) (g : Nat) : Nat := (s.vmLoc g).1
def State.vmRow (s : State) (g : Nat) : Nat := (s.vmLoc g).2 / 16

/-- The physical bank, as the INDEX of Table 14-2, that serves a logical bank (R150). -/
def State.physBank (s : State) (b : Nat) : Nat := mget (fun b => b / 8192 * 8320 + b % 8192) s.vm.bankMap b

/-- The atomic unit that serves a bank: its own, or the partner that took over (R168). -/
def State.frontOf (s : State) (b : Nat) : Option Nat :=
  let u := b / 16
  if !s.vm.lostUnits.contains u then some u
  else if !s.vm.lostUnits.contains (u ^^^ 1) then some (u ^^^ 1) else none

/-- R181: whether a bank answers. -/
def State.bankOk (s : State) (b : Nat) : Bool := !s.vm.lostBanks.contains b && (s.frontOf b).isSome

/-- The Granules that `len` bytes at `a` touch. -/
def granules (a len : Nat) : List Nat :=
  if len = 0 then [] else (upTo ((a + len - 1) / 128 - a / 128 + 1)).map (fun i => a / 128 + i)

/-- R148, R181, R187: whether an access is served at all. -/
def State.vmOk (s : State) (a len : Nat) : Bool :=
  s.flag VM_STATUS VM_STATUS.READY && decide (a + len ≤ s.vmSize) && (granules a len).all (fun g => s.bankOk (s.vmBank g))

/-! ### Granule classes -/

def State.gcls (s : State) (g : Nat) : GClass := mget (fun _ => .clean) s.vm.cls g
def State.setGcls (s : State) (g : Nat) (c : GClass) : State :=
  { s with vm := { s.vm with cls := mput (fun _ => .clean) s.vm.cls g c } }

/-- The unit ID that an event of a Granule names. -/
def State.vmUnit (s : State) (g : Nat) : Nat := bankUnit (s.physBank (s.vmBank g))

def vmCE : Nat := 0xA0
def vmUE : Nat := 0xA1
def vmPoisonRead : Nat := 0xA2
def vmPoisonMerge : Nat := 0xA3
def vmRowRepair : Nat := 0xA4
def vmRegrow : Nat := 0xA5
def vmBankLost : Nat := 0xA6
def vmSpareLow : Nat := 0xA7
def vmPlaceBound : Nat := 0xA9
def vmTsense : Nat := 0xAA
def vmScrubLate : Nat := 0xAB

/-! ### Bank Regrow (R178 to R182) -/

/-- The row map of a physical bank as 0x8040:02 gives it (Table 5-17), without the bank's number. -/
def State.rowMap (s : State) (p : Nat) : List Byte :=
  (upTo 8).flatMap (fun k =>
    match s.vm.rows.find? (fun r => r.bank == p && r.spare == k) with
    | some r => toBytes 4 (r.row + 2 ^ 11 + bit01 r.fused * 2 ^ 12)
    | none => toBytes 4 0)

/-- The key of the Journal's records of a physical bank's row map (R177, R188) in `Durable.saved`. -/
def rowKey (p : Nat) : Nat := 0x1000000 + p

/-- The row map of a physical bank kept in the Journal, as long as it names a row. -/
def State.rowKeep (s : State) (p : Nat) : State :=
  let v := if s.vm.rows.any (fun r => r.bank == p) then s.rowMap p else []
  if s.jLost then s else { s with nv := { s.nv with saved := mput (fun _ => []) s.nv.saved (rowKey p) v } }

/-- Free spare banks of a tier (R179). -/
def State.freeSpares (s : State) (t : Nat) : List Nat :=
  (upTo 128).filter (fun g => !s.flag (VM_SPARE (t * 128 + g)) VM_SPARE.USED
    && s.unitState (bankUnit (t * 8320 + 8192 + g)) == usIdle)

/-- VM_STATUS.SPARES_FREE as the spares stand. -/
def State.sparesShow (s : State) : State :=
  s.setFld VM_STATUS VM_STATUS.SPARES_FREE ((upTo 4).foldl (fun n t => n + (s.freeSpares t).length) 0)

/-- R181: a bank is lost. -/
def State.bankLose (s : State) (b : Nat) : State :=
  let s := { s with vm := { s.vm with lostBanks := b :: s.vm.lostBanks } }
  let s := s.setFld (VM_SPARE (b / 64)) VM_SPARE.LOST 1
  let s := s.keepObj (0x8020 + b / 8192) (b / 64 % 128 + 1) (toBytes 4 (s.regNat (VM_SPARE (b / 64)) 1))
  (s.ustState (bankUnit (s.physBank b)) usLost).raise vmBankLost (bankUnit (s.physBank b)) svSevere

/-- A bank's Regrow onto the spare of group `g` of its tier starts (R180, Table 5-13). -/
def State.bankRegrowOn (s : State) (b g : Nat) : State :=
  let t := b / 8192
  let own := b / 64 % 128
  let spare := bankUnit (t * 8320 + 8192 + g)
  let s := s.setRegNat (VM_REGROW t) 2 0
  let s := (s.setFld (VM_REGROW t) VM_REGROW.BANK (b % 8192)).setFld (VM_REGROW t) VM_REGROW.SPARE g
  let s := (s.setFlag (VM_REGROW t) VM_REGROW.BORROWED (g != own)).setFld (VM_REGROW t) VM_REGROW.ACTIVE 1
  let s := (s.setFld VM_STATUS (10 + t, 1) 1).ustState spare usRegrow
  (s.raise vmRegrow (bankUnit (s.physBank b)) svDegraded).regrowOpen vmRegrow spare (bankUnit (s.physBank b))

/-- R179: a bank's Regrow starts, waits for the tier's present one, or finds no spare. -/
def State.bankRegrow (s : State) (b : Nat) : State :=
  let t := b / 8192
  let free := s.freeSpares t
  if s.vmTad || s.vm.lostBanks.contains b then s
  else if s.flag (VM_REGROW t) VM_REGROW.ACTIVE then
    if s.fld (VM_REGROW t) VM_REGROW.BANK = b % 8192 ∨ s.vm.bankDue.contains b then s
    else { s with vm := { s.vm with bankDue := s.vm.bankDue ++ [b] } }
  else if free.contains (b / 64 % 128) then s.bankRegrowOn b (b / 64 % 128)
  else match free.head? with
    | none => s.bankLose b
    | some g => s.bankRegrowOn b g

/-- A Regrow asked for by errors (R178): AUTO_REGROW = 0 holds it back for FJ_REQ (Table 5-12). -/
def State.bankTrigger (s : State) (b : Nat) : State :=
  if s.flag VM_REPAIR_CTL VM_REPAIR_CTL.AUTO_REGROW then s.bankRegrow b
  else if s.vm.bankHeld.contains b then s
  else
    let s := { s with vm := { s.vm with bankHeld := b :: s.vm.bankHeld } }
    let u := bankUnit (s.physBank b)
    ({ s with fj := { s.fj with repairs := u :: s.fj.repairs.filter (fun x => x % 2 ^ 20 != u) } }).raise vmRegrow u svDegraded

/-- BANK_REGROW_END (R180): the bank map changes, and the old bank is fenced. -/
def State.bankRegrowEnd (s : State) (t : Nat) : State :=
  let reg := VM_REGROW t
  if !s.flag reg VM_REGROW.ACTIVE then s
  else
    let b := t * 8192 + s.fld reg VM_REGROW.BANK
    let g := s.fld reg VM_REGROW.SPARE
    let borrowed := s.flag reg VM_REGROW.BORROWED
    let old := s.physBank b
    let new := t * 8320 + 8192 + g
    let s := { s with vm := { s.vm with bankMap := mput (fun b => b / 8192 * 8320 + b % 8192) s.vm.bankMap b new,
                                        rows := s.vm.rows.filter (fun r => r.bank != old),
                                        bankHeld := s.vm.bankHeld.filter (fun x => x != b),
                                        rowDue := s.vm.rowDue.filter (fun x => x.1 != b),
                                        rowHeld := s.vm.rowHeld.filter (fun x => x.1 != b) } }
    let s := s.setRegNat (VM_SPARE (t * 128 + g)) 1 (1 + bit01 borrowed * 2 + b % 8192 * 4)
    let s := s.keepObj (0x8020 + t) (g + 1) (toBytes 4 (s.regNat (VM_SPARE (t * 128 + g)) 1))
    let s := (s.setFld reg VM_REGROW.COPY_PTR 24576).setFld reg VM_REGROW.ACTIVE 0
    let s := ((s.setFld VM_STATUS (10 + t, 1) 0).ustFence (bankUnit old) vmRegrow).rowKeep old
    let s := ((s.ustState (bankUnit new) usBound).regrowClose (bankUnit new)).sparesShow
    let s := if (s.freeSpares t).length == 8 then s.raise vmSpareLow (bankUnit new) svInfo else s
    match s.vm.bankDue.find? (fun x => x / 8192 == t) with
    | none => s
    | some x => { s with vm := { s.vm with bankDue := s.vm.bankDue.filter (fun y => y != x) } }.bankRegrow x

/-! ### Row repair (R177) -/

/-- Spare rows of a physical bank in service. -/
def State.rowsUsed (s : State) (p : Nat) : Nat := (s.vm.rows.filter (fun r => r.bank == p)).length

/-- A row repair asked for: without a spare row the bank is regrown (R178). -/
def State.rowTrigger (s : State) (b row : Nat) : State :=
  let k := (b, row)
  if s.vm.rowDue.contains k || s.vm.rowHeld.contains k then s
  else if 8 ≤ s.rowsUsed (s.physBank b) then s.bankTrigger b
  else if s.flag VM_REPAIR_CTL VM_REPAIR_CTL.AUTO_ROW then { s with vm := { s.vm with rowDue := s.vm.rowDue ++ [k] } }
  else
    let u := bankUnit (s.physBank b)
    let s := { s with vm := { s.vm with rowHeld := k :: s.vm.rowHeld } }
    ({ s with fj := { s.fj with repairs := u :: s.fj.repairs.filter (fun x => x % 2 ^ 20 != u) } }).raise vmRowRepair u svDegraded

/-- ROW_REPAIR (R177): a row that is due is served from a spare row from now on. -/
def State.rowRepair (s : State) (b row : Nat) : State :=
  let k := (b, row)
  if !s.vm.rowDue.contains k then s
  else
    let s := { s with vm := { s.vm with rowDue := s.vm.rowDue.filter (fun x => x != k) } }
    let p := s.physBank b
    let busy := s.flag (VM_REGROW (b / 8192)) VM_REGROW.ACTIVE
      && decide (s.fld (VM_REGROW (b / 8192)) VM_REGROW.BANK = b % 8192)
    match (upTo 8).find? (fun i => !s.vm.rows.any (fun r => r.bank == p && r.spare == i)) with
    | none => s.bankTrigger b
    | some i =>
      if busy then s
      else
        let rows := s.vm.rows.filter (fun r => !(r.bank == p && r.row == row))
        let new : RowEntry := { bank := p, spare := i, row := row, fused := false }
        let s := { s with vm := { s.vm with rows := rows ++ [new] } }
        ((s.keepObj 0x8040 2 (toBytes 2 p ++ s.rowMap p)).rowKeep p).raise vmRowRepair (bankUnit p) svDegraded

/-! ### Errors found -/

/-- A corrected Granule (Table 5-2): VM_CE, and its part in row repair and Regrow (R177, R178). -/
def State.foundCE (s : State) (g : Nat) (ra : Bool) : State :=
  let b := s.vmBank g
  let row := s.vmRow g
  let seen := if s.winOpen vmCE then s.vm.ceSeen else []
  let s := s.raise vmCE (s.vmUnit g) svCorrected ra
  if ra then s
  else
    let seen := if seen.contains (b, row, g) then seen else (b, row, g) :: seen
    let s := { s with vm := { s.vm with ceSeen := seen } }
    let here := seen.filter (fun x => x.1 == b)
    let inRow := here.filter (fun x => x.2.1 == row)
    let s := if max 1 (s.fld VM_REPAIR_CTL VM_REPAIR_CTL.ROW_CE) ≤ inRow.length then s.rowTrigger b row else s
    let rows := (here.map (fun x => x.2.1)).eraseDups
    if max 1 (s.fld VM_REPAIR_CTL VM_REPAIR_CTL.BANK_ROWS) ≤ rows.length then s.bankTrigger b else s

/-- VM_UE, and its part in Regrow (R178). -/
def State.foundUE (s : State) (g : Nat) : State :=
  let b := s.vmBank g
  let seen := if s.winOpen vmUE then s.vm.ueSeen else []
  let s := s.raise vmUE (s.vmUnit g) svSevere
  let s := { s with vm := { s.vm with ueSeen := b :: seen } }
  if seen.contains b then s.bankTrigger b else s

/-- The tier of a Granule, and the scrub priority list's entries of it. -/
def State.tierOf (s : State) (g : Nat) : Nat := s.vmBank g / 8192

/-- R157: a Granule entered on its tier's scrub priority list of 64. -/
def State.scrubPut (s : State) (g : Nat) : State :=
  let n := (s.vm.scrubQ.filter (fun x => s.tierOf x == s.tierOf g)).length
  if s.vm.scrubQ.contains g || decide (64 ≤ n) then s else { s with vm := { s.vm with scrubQ := s.vm.scrubQ ++ [g] } }

def State.scrubDrop (s : State) (g : Nat) : State :=
  { s with vm := { s.vm with scrubQ := s.vm.scrubQ.filter (fun x => x != g) } }

/-! ### Accesses -/

/-- R163, R164: an access to a Granule: served from its unit's line if one holds it, else an activation of its row. -/
def State.touch (s : State) (g : Nat) (write : Bool) : State :=
  match s.vm.lines.find? (fun l => l.granule == g) with
  | some l =>
    { s with vm := { s.vm with lines := { l with dirty := l.dirty || write } :: s.vm.lines.filter (fun x => x.granule != g) } }
  | none =>
    let k := s.physBank (s.vmBank g) * 1536 + s.vmRow g
    { s with vm := { s.vm with act := cput s.vm.act k (cget s.vm.act k + 1) } }

/-- How a read is made: run-ahead, for a stream (whose poison is reported when the element commits), or committed. -/
inductive RdKind
  | ahead | stream | full
  deriving DecidableEq, Repr

/-- One Granule read (Table 5-2, R157): whether its data carries a poison mark. -/
def State.readGranule (s : State) (k : RdKind) (g : Nat) : State × Bool :=
  let s := s.touch g false
  let ra := k == .ahead
  match s.gcls g with
  | .clean => (s, false)
  | .corrected => (let s := s.foundCE g ra; if ra then s else s.scrubPut g, false)
  | .poisoned => (if k = .full then s.raise vmPoisonRead (s.vmUnit g) svDegraded else s, true)
  | .uncorrectable => (if ra then s else s.scrubPut g, true)

def State.readGranules (s : State) (k : RdKind) (gs : List Nat) : State × Bool :=
  gs.foldl (fun p g => let r := p.1.readGranule k g; (r.1, p.2 || r.2)) (s, false)

/-- A read of Vector Memory: its data and poison mark, or nothing where the access receives an error response. -/
def State.vmRead (s : State) (k : RdKind) (a len : Nat) : State × Option (List Byte × Bool) :=
  if !s.vmOk a len then (s, none)
  else
    let (s, psn) := s.readGranules k (granules a len)
    (s, some (memRead s.vm.bytes a len, psn))

/-- One Granule written, whole or in part (Table 5-3, R159, R160): whether the writer receives POISON_MERGE. -/
def State.writeGranule (s : State) (g : Nat) (whole psn : Bool) : State × Bool :=
  let s := s.touch g true
  let put := fun (s : State) (c : GClass) => s.setGcls g (if psn then .poisoned else c)
  if whole then (put (s.scrubDrop g) .clean, false)
  else
    match s.gcls g with
    | .clean => (put s .clean, false)
    | .corrected => (put (s.foundCE g false) .clean, false)
    | .uncorrectable => (put (s.foundUE g) .poisoned, true)
    | .poisoned => (put (s.raise vmPoisonMerge (s.vmUnit g) svInfo) .poisoned, true)

def State.writeGranules (s : State) (a len : Nat) (psn : Bool) (gs : List Nat) : State × Bool :=
  gs.foldl (fun p g =>
    let whole := decide (a ≤ g * 128) && decide (g * 128 + 128 ≤ a + len)
    let r := p.1.writeGranule g whole psn
    (r.1, p.2 || r.2)) (s, false)

/-- A write of Vector Memory: whether it met Poison, or nothing where it receives an error response. -/
def State.vmWrite (s : State) (a : Nat) (data : List Byte) (psn : Bool) : State × Option Bool :=
  if !s.vmOk a data.length then (s, none)
  else
    let (s, merge) := s.writeGranules a data.length psn (granules a data.length)
    ({ s with vm := { s.vm with bytes := memWrite s.vm.bytes a data } }, some merge)

/-- A BIT element written (R31, Table 6-2). -/
def State.vmWriteBit (s : State) (a i : Nat) (v psn : Bool) : State × Option Bool :=
  s.vmWrite a [BitVec.ofNat 8 (setBits (memByte s.vm.bytes a).toNat i 1 (bit01 v))] psn

/-- R170, R185: `n` accesses of a region counted. -/
def State.vmCount (s : State) (a n : Nat) : State :=
  let r := a / 2 ^ 30
  let s := { s with vm := { s.vm with placeAcc := cput s.vm.placeAcc r (cget s.vm.placeAcc r + n) } }
  s.countWrap VM_PERF_ACCESS n VM_STATUS VM_STATUS.OVF_ACCESS

/-- Whether Vector Memory's engines run (R189): initialised, and in a mode other than Brumation and Hold-up. -/
def State.vmRuns (s : State) : Bool :=
  s.flag VM_STATUS VM_STATUS.READY && modeRuns s.mode && !s.st.holdup && s.st.wipe.isNone

/-! ### Bank front-ends (R153) -/

/-- BANK_REQUEST (R153, R174): a request queues at its bank, or answers REMAP where its Granule was swapped already. -/
def State.bankRequest (s : State) (a size : Nat) (data : Option (List Byte)) (ra remap : Bool) : State :=
  let g := a / 128
  let err : BankResp := { addr := a, data := [], psn := false, remap := false, err := true }
  let answer := fun (x : BankResp) => { s with vm := { s.vm with bankResp := s.vm.bankResp ++ [x] } }
  if !s.vmOk a size then answer err
  else
    let r := g / 2 ^ 23
    let here := s.fld (VM_REGION r) VM_REGION.MSTATE = 1 ∧ g % 2 ^ 23 / 2 ^ 15 = s.fld (VM_REGION r) VM_REGION.BOUNDARY
      ∧ s.vmKey r (g % 2 ^ 23 / 2 ^ 15) (g % 2 ^ 15) = s.fld (VM_REGION r) VM_REGION.KEY_NEW
    if remap ∧ here then answer { err with remap := true, err := false }
    else
      let q : BankReq := { bank := s.vmBank g, addr := a, size := size, data := data, ra := ra }
      { s with vm := { s.vm with bankQ := s.vm.bankQ ++ [q] } }

/-- BANK_ACCESS (R153): the oldest request queued at a bank is served. -/
def State.bankAccess (s : State) (b : Nat) : State :=
  match s.vm.bankQ.find? (fun q => q.bank == b) with
  | none => s
  | some q =>
    let s := { s with vm := { s.vm with bankQ := s.vm.bankQ.erase q } }
    let answer := fun (s : State) (x : BankResp) => { s with vm := { s.vm with bankResp := s.vm.bankResp ++ [x] } }
    match q.data with
    | none =>
      let (s, r) := s.vmRead (if q.ra then .ahead else .stream) q.addr q.size
      match r with
      | some (d, p) => answer s { addr := q.addr, data := d, psn := p, remap := false, err := false }
      | none => answer s { addr := q.addr, data := [], psn := false, remap := false, err := true }
    | some d =>
      let (s, r) := s.vmWrite q.addr d false
      answer s { addr := q.addr, data := [], psn := r == some true, remap := false, err := r.isNone }

/-! ### Scrub and refresh (R157, R161 to R163) -/

/-- A Granule rewritten by the scrubber: corrected, or turned into Poison. -/
def State.rewrite (s : State) (g : Nat) : State :=
  match s.gcls g with
  | .clean | .poisoned => s
  | .corrected => (s.foundCE g false).setGcls g .clean
  | .uncorrectable => (s.foundUE g).setGcls g .poisoned

/-- SCRUB_REWRITE: the head of a tier's priority list is served. -/
def State.scrubRewrite (s : State) (t : Nat) : State :=
  if !s.vmRuns then s
  else match s.vm.scrubQ.find? (fun g => s.tierOf g == t) with
    | none => s
    | some g => (s.rewrite g).scrubDrop g

/-- The Granule that stands in a slot of a bank: the lanes are tried under both keys of a migrating region. -/
def State.granuleAt (s : State) (b slot : Nat) : Nat :=
  if s.vmTad then
    let r := slot / 1024
    let st := slot % 1024
    r * 2 ^ 23 + st * 2 ^ 13 + (b % 8192 ^^^ vmHash r st 1 % 8192)
  else
    let r := slot / 256
    let st := slot % 256
    let at' := fun k => r * 2 ^ 23 + st * 2 ^ 15 + (b ^^^ vmHash r st k)
    let g := at' (s.fld (VM_REGION r) VM_REGION.KEY)
    if s.vmBank g = b then g else at' (s.fld (VM_REGION r) VM_REGION.KEY_NEW)

/-- PATROL_SCRUB (R161): a tier's next slot is read, and rewritten where needed. A pass goes through the slots of one
bank after another; at its end the regions that found SCRUB_THRESH corrected Granules are scrubbed faster. -/
def State.patrolScrub (s : State) (t : Nat) : State :=
  if !s.vmRuns then s
  else
    let p := cget s.vm.patrol t
    let slots := if s.vmTad then 16384 else 24576
    let b := t * 8192 + p / slots
    let r := p % slots / (slots / (if s.vmTad then 16 else 96))
    let g := s.granuleAt b (p % slots)
    let s := if s.bankOk b then
        let was := s.gcls g
        let s := (s.touch g false).rewrite g
        if was = .corrected then
          { s with vm := { s.vm with found := cput s.vm.found (r * 4 + t) (cget s.vm.found (r * 4 + t) + 1) } }
        else s
      else s
    if p + 1 < 8192 * slots then { s with vm := { s.vm with patrol := cput s.vm.patrol t (p + 1) } }
    else
      let th := s.fld VM_SCRUB_CTL VM_SCRUB_CTL.SCRUB_THRESH
      let fast := ((upTo 96).map (fun r => r * 4 + t)).filter (fun k => decide (th ≤ cget s.vm.found k))
      { s with vm := { s.vm with patrol := cput s.vm.patrol t 0,
                                 found := s.vm.found.filter (fun k => k.1 % 4 != t),
                                 fast := fast ++ s.vm.fast.filter (fun k => k % 4 != t) } }

/-- SCRUB_LATE. -/
def State.scrubLate (s : State) (r : Nat) : State := s.raise vmScrubLate (bankUnit (s.physBank (s.vmBank (r * 2 ^ 23)))) svInfo

/-- ROW_REFRESH (R162, R163): a physical bank's row refreshed; its activations count from zero again. -/
def State.rowRefresh (s : State) (p row : Nat) : State :=
  { s with vm := { s.vm with act := cput s.vm.act (p * 1536 + row) 0 } }

/-- NEIGHBOUR_REFRESH (R163): a row at 16,384 activations has its neighbours refreshed, and counts anew. -/
def State.neighbourRefresh (s : State) (p row : Nat) : State :=
  if cget s.vm.act (p * 1536 + row) < 16384 then s
  else
    let n := bit01 (decide (0 < row)) + bit01 (decide (row < 1535))
    (s.rowRefresh p row).countWrap VM_PERF_NBR n VM_STATUS VM_STATUS.OVF_NBR

/-- TIER_SENSOR_LOSS (R162). -/
def State.tierSensorLoss (s : State) (t : Nat) : State :=
  let s := { s with vm := { s.vm with tsense := t :: s.vm.tsense.filter (fun x => x != t) } }
  (s.setFld VM_STATUS VM_STATUS.TSENSE_FAIL 1).raise vmTsense (bankUnit (t * 8320)) svDegraded

/-! ### Placement (R170 to R176) -/

def State.boundHit (s : State) (r : Nat) : State :=
  (s.setFld (VM_REGION r) VM_REGION.BOUND_HIT 1).raise vmPlaceBound (bankUnit (s.physBank (s.vmBank (r * 2 ^ 23)))) svInfo

def State.keyAllowed (s : State) (r k : Nat) : Bool := bitAt (s.fld (VM_REGION r) VM_REGION.ALLOW) k

/-- A migration queued: software requests stand before trips (R173). -/
def State.migPut (s : State) (j : MigJob) : State :=
  let q := s.vm.migQ
  let q := if j.software then q.filter (fun x => x.software) ++ [j] ++ q.filter (fun x => !x.software) else q ++ [j]
  ({ s with vm := { s.vm with migQ := q } }).setFld (VM_REGION j.region) VM_REGION.MSTATE 2

/-- R171: a region trips. -/
def State.placeTrip (s : State) (r : Nat) : State :=
  let k := s.fld (VM_REGION r) VM_REGION.KEY
  let cand := ((upTo 15).map (fun i => (k + 1 + i) % 16)).find? (fun c => s.keyAllowed r c)
  if s.fld (VM_REGION r) VM_REGION.MSTATE ≠ 0 then s
  else match cand with
    | none => s.boundHit r
    | some c => if s.flag (VM_REGION r) VM_REGION.PIN then s.boundHit r else s.migPut { region := r, key := c, software := false }

/-- PLACE_WINDOW_CLOSE (R170): a region's window is full; `conflicts` of its accesses met a busy bank. -/
def State.placeWindow (s : State) (r conflicts : Nat) : State :=
  let acc := cget s.vm.placeAcc r
  if acc < 2 ^ (12 + min 10 (s.fld VM_PLACE_CTL VM_PLACE_CTL.WINDOW)) then s
  else
    let c := min conflicts acc
    let s := { s with vm := { s.vm with placeAcc := cput s.vm.placeAcc r 0 } }
    let s := s.countWrap VM_PERF_CONFLICT c VM_STATUS VM_STATUS.OVF_CONFLICT
    let st := VM_REGSTAT r
    let hold := s.fld st VM_REGSTAT.HOLD
    if 0 < hold then s.setFld st VM_REGSTAT.HOLD (hold - 1)
    else
      let ratio := min 255 (c * 256 / acc)
      let run := if s.fld VM_PLACE_CTL VM_PLACE_CTL.THRESH ≤ ratio then satInc 7 (s.fld st VM_REGSTAT.RUN) else 0
      let trips := s.flag VM_PLACE_CTL VM_PLACE_CTL.EN && !s.vmTad
        && decide (s.fld VM_PLACE_CTL VM_PLACE_CTL.PERSIST + 1 ≤ run)
        || (s.flag VM_PLACE_CTL VM_PLACE_CTL.EN && !s.vmTad && decide (s.fld VM_PLACE_CTL VM_PLACE_CTL.PERSIST = 7)
          && decide (s.fld st VM_REGSTAT.RUN = 7) && decide (run = 7))
      let s := (s.setFld st VM_REGSTAT.RATIO ratio).setFld st VM_REGSTAT.RUN (if trips then 0 else run)
      if trips then s.placeTrip r else s

/-- R172: REQ written. -/
def State.regionReq (s : State) (r : Nat) : State :=
  let a := VM_REGION r
  let k := s.fld a VM_REGION.REQ_KEY
  let s := s.setFld a VM_REGION.REQ 0
  if s.keyAllowed r k && decide (k ≠ s.fld a VM_REGION.KEY) && decide (s.fld a VM_REGION.MSTATE = 0) then
    s.migPut { region := r, key := k, software := true }
  else s.setFld a VM_REGION.REJ 1

/-- R175: the boundary moves over every stripe whose pairs are all swapped; after stripe 255 the migration ends. -/
def migAdvance : Nat → State → Nat → State
  | 0, s, _ => s
  | n + 1, s, r =>
    let a := VM_REGION r
    let b := s.fld a VM_REGION.BOUNDARY
    if b = 256 then
      let k := s.fld a VM_REGION.KEY_NEW
      let s := (s.setFld a VM_REGION.KEY k).setFld a VM_REGION.MSTATE 0
      let s := (s.setFld (VM_REGSTAT r) VM_REGSTAT.HOLD 16).setFld VM_STATUS VM_STATUS.MIG_ACTIVE 0
      s.keepObj 0x8010 (r + 1) (toBytes 1 k)
    else if s.migDelta r b = 0 ∨ s.vm.swapped.length = 16384 then
      migAdvance n ({ s with vm := { s.vm with swapped := [] } }.setFld a VM_REGION.BOUNDARY (b + 1)) r
    else s

/-- R173: the first queued migration that still may start. -/
def migNext : Nat → State → State
  | 0, s => s
  | n + 1, s =>
    match s.vm.migQ with
    | [] => s
    | j :: js =>
      let s := { s with vm := { s.vm with migQ := js } }
      let a := VM_REGION j.region
      if !j.software && (!s.keyAllowed j.region j.key || s.flag a VM_REGION.PIN) then
        migNext n ((s.setFld a VM_REGION.MSTATE 0).boundHit j.region)
      else
        let s := ((s.setFld a VM_REGION.MSTATE 1).setFld a VM_REGION.KEY_NEW j.key).setFld a VM_REGION.BOUNDARY 0
        let s := (s.setFld VM_STATUS VM_STATUS.MIG_ACTIVE 1).setFld VM_STATUS VM_STATUS.MIG_REGION j.region
        migAdvance 257 { s with vm := { s.vm with swapped := [] } } j.region

/-- MIGRATION_START. -/
def State.migStart (s : State) : State :=
  if !s.vmRuns || s.vmTad || s.flag VM_STATUS VM_STATUS.MIG_ACTIVE then s else migNext (s.vm.migQ.length + 1) s

/-- A Granule as a swap carries it (R176). -/
def State.swapClean (s : State) (g : Nat) : State :=
  let clean := fun (l : UnitLine) => if l.granule = g then { l with dirty := false } else l
  ({ s with vm := { s.vm with lines := s.vm.lines.map clean } }).rewrite g

/-- SWAP_PAIR (R175): the pair of bank `b` in the stripe at the boundary, unless it waits for a copy (R182). -/
def State.swapPair (s : State) (b : Nat) : State :=
  let r := s.fld VM_STATUS VM_STATUS.MIG_REGION
  let st := s.fld (VM_REGION r) VM_REGION.BOUNDARY
  if !s.vmRuns || !s.flag VM_STATUS VM_STATUS.MIG_ACTIVE || decide (st = 256) then s
  else
    let d := s.migDelta r st
    let lo := min b (b ^^^ d)
    let hi := max b (b ^^^ d)
    let waits := [lo, hi].any (fun x => s.flag (VM_REGROW (x / 8192)) VM_REGROW.ACTIVE
      && decide (s.fld (VM_REGROW (x / 8192)) VM_REGROW.BANK = x % 8192)
      && decide (s.fld (VM_REGROW (x / 8192)) VM_REGROW.COPY_PTR = r * 256 + st))
    if d = 0 ∨ s.vm.swapped.contains lo ∨ waits then s
    else
      let s := (s.swapClean (s.granuleAt lo (r * 256 + st))).swapClean (s.granuleAt hi (r * 256 + st))
      migAdvance 257 { s with vm := { s.vm with swapped := lo :: s.vm.swapped } } r

/-! ### Bank-side atomic units (R164 to R169, R99 to R102, R200 to R202) -/

/-- A new value and flags from one atomic on a location's old content. -/
def atomValue (e : AtomEl) (old : Nat) : ERes :=
  let w := 2 ^ (8 * e.size)
  match e.op with
  | .vec o => atomicApply o (etyOf e.ety) (etyOf e.aty) old e.v
  | .add => { d := (old + e.v) % w }
  | .swap => { d := e.v % w }
  | .cas c => { d := if old % w = c % w then e.v % w else old }

/-- One element applied at its location: the acknowledgement carries its status, flags and old value. -/
def State.atomOne (s : State) (e : AtomEl) : State × AtomAck :=
  let ack : AtomAck := { unit := e.unit, src := e.src, st := 0, fl := 0, old := 0, psn := false, merge := false, err := false }
  let g := e.addr / 128
  if !s.vmOk e.addr e.size then (s, { ack with err := true })
  else
    let old := ofBytes (memRead s.vm.bytes e.addr e.size)
    let spoilt : AtomAck := { ack with st := stPSN, old := old, psn := true, merge := true }
    match s.gcls g with
    | .poisoned => (s.touch g true, spoilt)
    | .uncorrectable => (((s.touch g true).foundUE g).setGcls g .poisoned, spoilt)
    | _ =>
      let r := atomValue e old
      let (s, _) := s.vmWrite e.addr (toBytes e.size r.d) e.psn
      (s, { ack with st := r.st ||| (if e.psn then stPSN else 0), fl := r.fl, old := old, psn := e.psn })

/-- Whether two elements have one location, opcode and type (R166). -/
def AtomEl.same (a b : AtomEl) : Bool := a.addr == b.addr && a.size == b.size && a.op == b.op && a.ety == b.ety && a.aty == b.aty

def AtomEl.overlaps (a b : AtomEl) : Bool := decide (a.addr < b.addr + b.size) && decide (b.addr < a.addr + a.size)

/-- R166: the elements that join an operation, in arrival order, and those that stay. -/
def coalesce (e : AtomEl) : Nat → List AtomEl → List AtomEl × List AtomEl
  | 0, l => ([], l)
  | _, [] => ([], [])
  | n + 1, x :: xs =>
    if x.unit = e.unit ∧ x.same e then
      let (a, b) := coalesce e n xs
      (x :: a, b)
    else if x.unit = e.unit ∧ x.overlaps e then ([], x :: xs)
    else
      let (a, b) := coalesce e (n + 1) xs
      (a, x :: b)

/-- R165: as many waiting elements of a unit enter its queue as places are free. -/
def atomFill : Nat → State → Nat → State
  | 0, s, _ => s
  | n + 1, s, u =>
    if 64 ≤ (s.vm.atomQ.filter (fun e => e.unit == u)).length then s
    else match s.vm.atomWait.find? (fun e => e.unit == u) with
      | none => s
      | some e =>
        atomFill n { s with vm := { s.vm with atomQ := s.vm.atomQ ++ [e], atomWait := s.vm.atomWait.erase e } } u

/-- A line of a unit filled (R164): sixteen lines, the least recently used one evicted. -/
def State.lineFill (s : State) (u g : Nat) : State :=
  if s.vm.lines.any (fun l => l.granule == g) then s
  else
    let mine := s.vm.lines.filter (fun l => l.unit == u)
    let keep := s.vm.lines.filter (fun l => l.unit != u) ++ mine.take 15
    let s := s.touch g false
    { s with vm := { s.vm with lines := { unit := u, granule := g, dirty := false } :: keep } }

/-- ATOMIC_OPERATION (R166): a unit starts an operation on the location of its `k`-th queued element, taking the oldest
element for that location and coalescing later ones with it. -/
def State.atomRun (s : State) (u k : Nat) : State :=
  let q := s.vm.atomQ.filter (fun e => e.unit == u)
  match q[k]? with
  | none => s
  | some x =>
    match q.find? (fun e => e.overlaps x) with
    | none => s
    | some e =>
      let (group, rest) := coalesce e 16 s.vm.atomQ
      let s := { s with vm := { s.vm with atomQ := rest } }
      let s := if s.vmOk e.addr e.size then s.lineFill u (e.addr / 128) else s
      let s := group.foldl (fun s x =>
        let (s, a) := s.atomOne x
        { s with vm := { s.vm with atomAcks := s.vm.atomAcks ++ [a] } }) s
      atomFill group.length s u

/-- ATOMIC_QUEUE_ADMIT (R165): an element enters its unit's queue, or the unit records its sender on the wait list. The
result says whether the element has left its sender. -/
def State.atomAdmit (s : State) (e : AtomEl) : State × Bool :=
  if (s.vm.atomQ.filter (fun x => x.unit == e.unit)).length < 64 then
    ({ s with vm := { s.vm with atomQ := s.vm.atomQ ++ [e] } }, true)
  else if s.vm.atomWait.any (fun x => x.unit == e.unit && x.lease == e.lease) then (s, false)
  else ({ s with vm := { s.vm with atomWait := s.vm.atomWait ++ [e] } }, true)

/-- The unit that serves an address. -/
def State.atomUnitOf (s : State) (a : Nat) : Nat := (s.frontOf (s.vmBank (a / 128))).getD (s.vmBank (a / 128) / 16)

/-- LINE_IDLE_WRITEBACK (R164). -/
def State.lineIdle (s : State) (u g : Nat) : State :=
  let clean := fun (l : UnitLine) => if l.unit = u ∧ l.granule = g then { l with dirty := false } else l
  { s with vm := { s.vm with lines := s.vm.lines.map clean } }

/-- R168: a fenced unit's lines are written back, and its queue passes to the partner in arrival order; with the partner
fenced too, the 32 banks are lost. -/
def State.atomUnitFence (s : State) (u : Nat) : State :=
  let s := { s with vm := { s.vm with lostUnits := u :: s.vm.lostUnits.filter (fun x => x != u),
                                      lines := s.vm.lines.filter (fun l => l.unit != u) } }
  if s.vm.lostUnits.contains (u ^^^ 1) then
    let bs := (upTo 16).map (fun i => u * 16 + i) ++ (upTo 16).map (fun i => (u ^^^ 1) * 16 + i)
    (bs.filter (fun b => !s.vm.lostBanks.contains b)).foldl (fun s b => s.bankLose b) s
  else
    let moved := fun (e : AtomEl) => if e.unit = u then { e with unit := u ^^^ 1 } else e
    { s with vm := { s.vm with atomQ := s.vm.atomQ.map moved, atomWait := s.vm.atomWait.map moved } }

/-! ### The VM block (R184) -/

def vmMayWrite (m : Master) (a : Nat) : Bool :=
  m.secSup || (m.isHost && decide (0x501000 ≤ a) && decide (a < 0x501600) && decide (a % 16 < 8))

def State.vmRegWrite (s : State) (m : Master) (a size v : Nat) : State × Option Nat :=
  if !vmMayWrite m a then (s, some erDenied)
  else
    let s := s.typedWrite a size v
    let r := (a - 0x501000) / 16
    if 0x501000 ≤ a ∧ a < 0x501600 ∧ s.flag (VM_REGION r) VM_REGION.REQ then (s.regionReq r, none) else (s, none)

end Sys2Proof.Machine
end

