-- ==== Sys2Proof/Machine/Qe.lean ====
section
/-! DEFINITION. Sys2Proof/Machine/Qe.lean: the Queue Engine (R287 to R327): pools, completions, dispatch, the scheduler,
doorbells, queue commands, re-dispatch, and the QE block with the queue contexts. -/
namespace Sys2Proof.Machine

/- Fault sources of Table 9-19. -/
def qeDbErr : Nat := 0x100
def qeDbIgnored : Nat := 0x101
def qeCtxWrite : Nat := 0x102
def qeTktErr : Nat := 0x105
def qeRedisp : Nat := 0x106
def qeRedispLimit : Nat := 0x107
def qeAffinity : Nat := 0x108
def qePoolExh : Nat := 0x109
def qePoolLow : Nat := 0x10A
def qePoolBadop : Nat := 0x10B
def qeCplErr : Nat := 0x10C

def State.qeRaise (s : State) (k sev : Nat) : State := s.raise k qeUnit sev

/- Queue states (Table 9-2) and QE completion codes (Table 9-5). -/
def qsDisabled : Nat := 0
def qsEnabled : Nat := 1
def qsPaused : Nat := 2
def qsStalled : Nat := 3
def qsResetting : Nat := 4
def cplBadOpcode : Nat := 0x80
def cplPoolEmpty : Nat := 0x81
def cplPoolInvalid : Nat := 0x82
def cplTicketError : Nat := 0x83
def cplThirdFault : Nat := 0x84
def cplUnitLost : Nat := 0x85

/-- A field of a queue's context. -/
def State.qf (s : State) (q : Nat) (f : Fld) : Nat := s.fld (QCTX q) f
def State.setQf (s : State) (q : Nat) (f : Fld) (v : Nat) : State := s.setFld (QCTX q) f v
def State.qState (s : State) (q : Nat) : Nat := s.qf q QCTX.STATE
def State.sqSize (s : State) (q : Nat) : Nat := 2 ^ (s.qf q QCTX.SQ_LOG + 4)
def State.cqSize (s : State) (q : Nat) : Nat := 2 ^ (s.qf q QCTX.CQ_LOG + 4)

/-- `b - a` around a ring. -/
def ringDiff (b a n : Nat) : Nat := (b + n - a % n) % n

/-- Tickets pending in a queue (R296). -/
def State.pendingOf (s : State) (q : Nat) : Nat := ringDiff (s.qf q QCTX.SQ_TAIL) (s.qf q QCTX.SQ_HEAD) (s.sqSize q)

/-- The queues whose context is not all zero, lowest first: every queue that is not as Proofing left it. -/
def State.liveQueues (s : State) : List Nat :=
  ((s.regs.filter (fun p => decide (0x1000000 ≤ p.1) && decide (p.1 < 0x1400000))).map (fun p => (p.1 - 0x1000000) / 64)).eraseDups

/-- The queue's world. -/
def State.qWorld (s : State) (q : Nat) : Bool := s.flag (QCTX q) QCTX.WORLD

/-- The endpoint and function behind a host-memory queue. -/
def State.qFunc (s : State) (q : Nat) : Nat × Nat := s.funcOf (s.qf q QCTX.LOC % 2) q (s.qf q QCTX.FUNC)

/-! ### Tickets (Table 9-3) -/

def Tkt.fld (t : Tkt) (lo len : Nat) : Nat := bitsOf t.data.toNat lo len
def Tkt.opcode (t : Tkt) : Nat := t.fld 0 7
def Tkt.noIrq (t : Tkt) : Bool := bitAt t.data.toNat 8
def Tkt.bufReq (t : Tkt) : Bool := bitAt t.data.toNat 9
def Tkt.bufWait (t : Tkt) : Bool := bitAt t.data.toNat 10
def Tkt.pool (t : Tkt) : Nat := t.fld 16 8
def Tkt.tag (t : Tkt) : Nat := t.fld 32 32

def State.setTkts (s : State) (l : List Tkt) : State := { s with qe := { s.qe with tkts := l } }

/-- A fetch buffer, found by its queue and SEQNO. -/
def Tkt.is (t : Tkt) (q n : Nat) : Bool := t.queue == q && t.seqno == n
def State.putTkt (s : State) (t : Tkt) : State := s.setTkts (s.qe.tkts.map (fun x => if x.is t.queue t.seqno then t else x))
def State.dropTkt (s : State) (t : Tkt) : State := s.setTkts (s.qe.tkts.filter (fun x => !x.is t.queue t.seqno))

/-! ### Buffer pools (R311 to R315) -/

def State.pool (s : State) (p : Nat) : Pool := mget (fun _ => Pool.reset) s.qe.pools p
def State.setPool (s : State) (p : Nat) (x : Pool) : State :=
  { s with qe := { s.qe with pools := mput (fun _ => Pool.reset) s.qe.pools p x } }

def State.poolEn (s : State) (p : Nat) : Bool := s.flag (QE_POOL_CFG p) QE_POOL_CFG.EN
def State.poolInit (s : State) (p : Nat) : Bool := s.flag (QE_POOL_STAT p) QE_POOL_STAT.INIT
def State.poolTotal (s : State) (p : Nat) : Nat := s.fld (QE_POOL_CFG p) QE_POOL_CFG.TOTAL

/-- The address of a pool's buffer. -/
def State.bufAddr (s : State) (p b : Nat) : Nat :=
  s.regNat (QE_POOL_BASE p) 2 + b * 2 ^ (s.fld (QE_POOL_CFG p) QE_POOL_CFG.BSIZE + 7)

/-- Free buffers of a pool. -/
def State.poolFree (s : State) (p : Nat) : Nat := (s.poolTotal p - (s.pool p).next) + (s.pool p).ring.length

/-- R311: the pool's ring area is the Queue Engine's own: what it holds is not specified (R9). -/
def State.poolScribble (s : State) (p : Nat) : State :=
  let a := s.regNat (QE_POOL_RING p) 2
  { s with vm := { s.vm with bytes := memWrite s.vm.bytes a (toBytes (s.poolTotal p * 8) s.fresh) } }.tick

/-- FREE and EXH as the pool stands after a change. -/
def State.poolShow (s : State) (p : Nat) : State :=
  let was := s.fld (QE_POOL_STAT p) QE_POOL_STAT.FREE
  let n := s.poolFree p
  let s := s.setFld (QE_POOL_STAT p) QE_POOL_STAT.FREE n
  let s := if 0 < n then s.setFld (QE_POOL_STAT p) QE_POOL_STAT.EXH 0 else s
  let s := if 0 < n ∧ was = 0 then { s with qe := { s.qe with parked := s.qe.parked.filter (fun x => x.2 != p) } } else s
  if n < was ∧ n = s.fld (QE_POOL_LOW p) QE_POOL_LOW.LOW then s.qeRaise qePoolLow svInfo else s

/-- A buffer put back on its pool's ring. -/
def State.poolReturn (s : State) (p b : Nat) : State :=
  let x := s.pool p
  (((s.setPool p { x with held := x.held.filter (fun h => h.1 != b), ring := x.ring ++ [b] }).poolShow p).poolScribble p)

/-- Every buffer that satisfies a test of its holder returned. -/
def State.poolReturnAll (s : State) (f : Holder → Bool) : State :=
  s.qe.pools.foldl (fun s px => (px.2.held.filter (fun h => f h.2)).foldl (fun s h => s.poolReturn px.1 h.1) s) s

/-- What a request for a buffer comes to. -/
inductive PoolAns
  | ok (b : Nat)
  | empty
  | invalid
  | wait
  deriving DecidableEq, Repr

/-- R312, R313: a request for one buffer of a pool; `no` is the requester's number in the rotation. -/
def State.poolAlloc (s : State) (p : Nat) (h : Holder) (no : Nat) (world : Bool) : State × PoolAns :=
  let x := s.pool p
  let give := fun (x : Pool) (b : Nat) =>
    ((((s.setPool p { x with held := x.held ++ [(b, h)], last := no }).poolShow p).poolScribble p), PoolAns.ok b)
  if !s.poolEn p || (s.flag (QE_POOL_CFG p) QE_POOL_CFG.WORLD && !world) then (s, .invalid)
  else if s.poolInit p then (s, .wait)
  else if x.next < s.poolTotal p then give { x with next := x.next + 1 } x.next
  else match x.ring with
    | b :: r => give { x with ring := r } b
    | [] =>
      if s.flag (QE_POOL_STAT p) QE_POOL_STAT.EXH then (s, .empty)
      else ((s.setFld (QE_POOL_STAT p) QE_POOL_STAT.EXH 1).qeRaise qePoolExh svInfo, .empty)

/-- What a read of QE_ALLOCp returns (R312). -/
def State.allocValue (s : State) (p : Nat) : PoolAns → Nat
  | .ok b => s.bufAddr p b + 1
  | .empty => 2
  | .invalid => 4
  | .wait => 0

/-- R313: the number of a fabric master among the requesters; others are denied. -/
def poolNo (m : Master) : Option Nat :=
  if m.id < 9 then some m.id else if m.id = 11 then some 10 else if m.id = 12 then some 11
  else if m.id = 13 then some 12 else none

/-- The holder that a fabric master is; a host's PF by its port. -/
def masterHolder (m : Master) : Holder :=
  if m.id < 9 then .unit (seqUnit m.id) else if m.id = 13 then .starter else .host ((m.id - 11) * 2) 0

/-- The request that the answer of a QE_ALLOCp read belongs to; a host's names its endpoint. -/
def allocReq (p : Nat) (m : Master) (h : Holder) : FabReq :=
  let e := match h with
    | .host i _ => i % 2
    | _ => 0
  { who := m, vc2 := false, kind := .ctl, unit := Fin.ofNat 9 e, addr := QE_ALLOC p, size := 8, data := none }

/-- R313: the waiting request that comes first in the pool's rotation. -/
def State.poolFirst (s : State) (p : Nat) : Option PoolReq :=
  let last := (s.pool p).last
  ((upTo 13).map (fun i => (last + 1 + i) % 13)).findSome? (fun n =>
    s.qe.poolWait.find? (fun r => r.pool == p && poolNo r.who == some n))

/-- R313: one clock of a pool: waiting requests served in rotation, at most four of them granted. -/
def poolServe : Nat → Nat → State → Nat → State
  | 0, _, s, _ => s
  | _, 0, s, _ => s
  | n + 1, grants + 1, s, p =>
    match s.poolFirst p with
    | none => s
    | some r =>
      let (s', a) := s.poolAlloc p r.holder ((poolNo r.who).getD 9) r.world
      match a with
      | .wait => s
      | _ =>
        let s' := s'.fabAnswer (allocReq p r.who r.holder) 0 (s'.allocValue p a)
        let s' := { s' with qe := { s'.qe with poolWait := s'.qe.poolWait.erase r } }
        poolServe n (match a with | .ok _ => grants | _ => grants + 1) s' p

def State.poolClock (s : State) (p : Nat) : State := poolServe (s.qe.poolWait.length + 1) 4 s p

/-- The world a master's request to a pool carries: the Starter's is Secure. -/
def poolWorld (m : Master) : Bool := m.world && decide (m.id < 9 ∨ m.id = 13)

/-- BUFFER_ALLOC (R312, R313): the reads of QE_ALLOCp that arrive in one clock, with those that wait. -/
def State.bufferAlloc (s : State) (p : Nat) (ms : List Master) : State :=
  let bad := ms.filter (fun m => (poolNo m).isNone)
  let good := ms.filter (fun m => (poolNo m).isSome)
  let reqs := good.map (fun m => ({ pool := p, who := m, holder := masterHolder m, world := poolWorld m } : PoolReq))
  let s := bad.foldl (fun s m => s.fabAnswer (allocReq p m (masterHolder m)) erDenied 0) s
  ({ s with qe := { s.qe with poolWait := s.qe.poolWait ++ reqs } }).poolClock p

/-- The buffer that an address names in a pool. -/
def State.bufAt (s : State) (p a : Nat) : Option Nat :=
  let base := s.regNat (QE_POOL_BASE p) 2
  let size := 2 ^ (s.fld (QE_POOL_CFG p) QE_POOL_CFG.BSIZE + 7)
  if base ≤ a ∧ (a - base) % size = 0 ∧ (a - base) / size < s.poolTotal p then some ((a - base) / size) else none

/-- Who frees a buffer: Secure supervisor level, a sequencer, the Starter, or a host function. -/
def freeAllowed (s : State) (secSup : Bool) (me : Holder) (h : Holder) : Bool :=
  secSup || decide (h = me) ||
  (match h, me with
   | .queue q _, .host i f => decide (s.qf q QCTX.LOC < 2) && decide (s.qFunc q = (i, f))
   | _, _ => false)

/-- BUFFER_FREE (R314): an address written to QE_FREEp. -/
def State.bufferFree (s : State) (p addr : Nat) (secSup : Bool) (me : Holder) : State :=
  match s.bufAt p addr with
  | none => s.qeRaise qePoolBadop svInfo
  | some b =>
    match (s.pool p).held.find? (fun h => h.1 == b) with
    | none => s.qeRaise qePoolBadop svInfo
    | some h => if freeAllowed s secSup me h.2 then s.poolReturn p b else s.qeRaise qePoolBadop svInfo

/-- POOL_ENABLE (R311): INIT starts. -/
def State.poolEnable (s : State) (p : Nat) : State :=
  if !(s.pool p).held.isEmpty then s.qeRaise qePoolBadop svInfo
  else
    let s := (s.setFld (QE_POOL_CFG p) QE_POOL_CFG.EN 1).setFld (QE_POOL_STAT p) QE_POOL_STAT.INIT 1
    s.setFld (QE_POOL_STAT p) QE_POOL_STAT.FREE 0

/-- POOL_INIT_DONE (R311): every buffer free, and the requests that waited are served. -/
def State.poolInitDone (s : State) (p : Nat) : State :=
  if !s.poolInit p then s
  else
    let s := (s.setPool p { Pool.reset with last := (s.pool p).last }).setFld (QE_POOL_STAT p) QE_POOL_STAT.INIT 0
    ((s.poolShow p).poolScribble p).poolClock p

/-- POOL_DISABLE (R311). -/
def State.poolDisable (s : State) (p : Nat) : State :=
  let s := (s.setFld (QE_POOL_CFG p) QE_POOL_CFG.EN 0).setFld (QE_POOL_STAT p) QE_POOL_STAT.INIT 0
  let s := { s with qe := { s.qe with parked := s.qe.parked.filter (fun x => x.2 != p) } }
  s.poolClock p

/-! ### Completions (R293 to R295) -/

/-- QUEUE_RESET_END (R291): a resetting queue with nothing in flight or reserved becomes DISABLED. -/
def State.queueResetEnd (s : State) (q : Nat) : State :=
  if s.qState q = qsResetting ∧ s.qf q QCTX.INFLIGHT = 0 ∧ s.qf q QCTX.RSV = 0 then
    let s := s.setQf q QCTX.STATE qsDisabled
    let s := { s with qe := { s.qe with cpls := s.qe.cpls.filter (fun c => c.1 != q) } }
    if s.flag QE_STATUS QE_STATUS.QCMD_BUSY ∧ s.fld QE_QCMD QE_QCMD.QUEUE = q then
      s.setFld QE_STATUS QE_STATUS.QCMD_BUSY 0
    else s
  else s

/-- An entry written where the queue's completion ring lies. -/
def State.cplSend (s : State) (q index : Nat) (e : BitVec 128) : State :=
  let a := s.qf q QCTX.CQ_BASE + index * 16
  if s.qf q QCTX.LOC = 2 then (s.vmWrite a (toBytes 16 e.toNat) false).1
  else
    let f := s.qFunc q
    s.hostWrite f.1 f.2 a (toBytes 16 e.toNat)

/-- Table 9-4: a completion entry as the queue stands. -/
def State.cplEntry (s : State) (q tag status result : Nat) (redisp : Bool) : BitVec 128 :=
  let lo := toBytes 4 tag ++ toBytes 2 (s.qf q QCTX.SQ_HEAD) ++ toBytes 1 status
    ++ toBytes 1 (bit01 redisp + 128 * s.qf q QCTX.CQ_PHASE)
  BitVec.ofNat 128 (ofBytes (lo ++ toBytes 8 result))

/-- R293 to R295, R308: a completion entry written at CQ_TAIL, with its MSI-X message; its reservation ends. Nothing is
written for a resetting queue (R291) or in Hold-up (R326). -/
def State.cplWrite (s : State) (q tag status result : Nat) (redisp noIrq : Bool) : State :=
  let s := s.setQf q QCTX.RSV (s.qf q QCTX.RSV - 1)
  if s.qState q = qsResetting then s
  else if s.flag QE_STATUS QE_STATUS.HOLD then s
  else
    let i := s.qf q QCTX.CQ_TAIL
    let e := s.cplEntry q tag status result redisp
    let s := s.cplSend q i e
    let s := { s with qe := { s.qe with cpls := s.qe.cpls ++ [(q, i, e)] } }
    let s := if 0x80 ≤ status then s.setQf q QCTX.LASTERR status else s
    let s := if i + 1 < s.cqSize q then s.setQf q QCTX.CQ_TAIL (i + 1)
      else (s.setQf q QCTX.CQ_TAIL 0).setQf q QCTX.CQ_PHASE (1 - s.qf q QCTX.CQ_PHASE)
    let s := s.countWrap QE_PERF_CPL 1 QE_STATUS QE_STATUS.OVF_CPL
    if noIrq || !s.flag (QCTX q) QCTX.MSIX_EN || (s.qf q QCTX.LOC == 2) then s
    else
      let f := s.qFunc q
      s.msix f.1 f.2 (s.qf q QCTX.MSIX)

/-- A Ticket's BUF_REQ buffer returned. -/
def State.tktBufFree (s : State) (t : Tkt) : State :=
  match t.buf with
  | some (p, b) => s.poolReturn p b
  | none => s

/-- A Ticket that the Queue Engine completes itself before dispatch (R304) or after a loss. -/
def State.tktFail (s : State) (t : Tkt) (status : Nat) (tag : Nat) (noIrq : Bool) : State :=
  ((s.tktBufFree t).cplWrite t.queue tag status 0 (decide (0 < t.rcount)) noIrq).dropTkt t

/-! ### Ovens and dispatch (R300 to R304) -/

def State.ovenDepth (s : State) (o : Nat) : Nat :=
  let d := s.fld (QE_OVEN o) QE_OVEN.DEPTH
  if d = 0 then 1 else min 8 d

def State.dozing (s : State) (o : Nat) : Bool := bitAt (s.fld ST_MODE ST_MODE.DOZE_OVENS) o

/-- R300: whether an Oven can take a Ticket of a world, Doze aside. -/
def State.ovenFit (s : State) (o : Nat) (world : Bool) : Bool :=
  (s.seqOf o).isSome && s.flag (QE_OVEN o) QE_OVEN.RDY && decide (s.fld (QE_OVEN o) QE_OVEN.INFLIGHT < s.ovenDepth o)
    && (!world || (match s.lsOf o with | some n => decide (65536 ≤ s.lsSecure n) | none => false))

/-- R301: the Ovens that a class's Tickets may go to, and whether the class's own mask was passed over. -/
def State.classOvens (s : State) (c : Nat) : List Nat × Bool :=
  let own := (upTo 8).filter (fun o => bitAt (s.fld (QE_CLASS c) QE_CLASS.OVENS) o)
  if s.st.base = 3 then (s.boundOvens, false)
  else if own.any (fun o => (s.seqOf o).isSome) then (own, false) else (upTo 8, true)

/-- The Oven of a list with the fewest Tickets in flight, the lowest number first. -/
def State.leastBusy (s : State) (l : List Nat) : Option Nat :=
  l.foldl (fun best o => match best with
    | none => some o
    | some b => if s.fld (QE_OVEN o) QE_OVEN.INFLIGHT < s.fld (QE_OVEN b) QE_OVEN.INFLIGHT then some o else some b) none

/-- R309: BACKLOG, INFLIGHT and DEMAND. -/
def State.backlog (s : State) : Nat :=
  min 65535 ((s.liveQueues.filter (fun q => s.qState q == qsEnabled)).foldl (fun n q => n + s.pendingOf q) 0
    + (s.qe.tkts.filter (fun t => t.at_ == .reading || t.at_ == .waiting)).length)

def Tkt.inSlot (t : Tkt) (o : Nat) : Bool := match t.at_ with
  | .slot x _ => x == o
  | _ => false
def Tkt.dispatched (t : Tkt) : Bool := match t.at_ with
  | .slot _ _ => true
  | _ => false

/-- Whether a Ticket waits for an Oven of its class's mask. -/
def State.awaits (s : State) (o : Nat) (t : Tkt) : Bool :=
  !t.dispatched && (s.classOvens (s.qf t.queue QCTX.CLASS)).1.contains o

/-- FEED_FORWARD (R309): the message sent to the Starter, mirrored at 0x5010. -/
def State.feedForward (s : State) : State :=
  let n := (s.qe.tkts.filter (fun t => t.dispatched)).length
  let d := (upTo 8).foldl (fun d o => d + bit01 (s.qe.tkts.any (fun t => t.inSlot o || s.awaits o t)) * 2 ^ o) 0
  let s := ((s.setObj 0x5010 1 (toBytes 2 s.backlog)).setObj 0x5010 2 (toBytes 1 n)).setObj 0x5010 3 (toBytes 1 d)
  { s with qe := { s.qe with ffAt := s.now } }

/-- R309: the message that a backlog sends on crossing a power of two, at most once in a microsecond. -/
def State.ffCross (s : State) (was : Nat) : State :=
  if bitLen was ≠ bitLen s.backlog ∧ s.qe.ffAt + 1000 ≤ s.now then s.feedForward else s

/-- R18, R300: a wake request for an Oven, with its feed-forward. -/
def State.wakeRequest (s : State) (o : Nat) : State :=
  if s.qe.wakes.contains o || s.qe.waking.contains o then s
  else { s with qe := { s.qe with wakes := s.qe.wakes ++ [o] } }.feedForward

/-- Where a slot of a world lies in a local store (R302). -/
def slotOff (world : Bool) (k : Nat) : Nat := (if world then 0xFC00 else 0x3FFC00) + k * 128

/-- The dispatch record (Table 9-7). -/
def State.dispRecord (s : State) (t : Tkt) (entry : Nat) : Nat :=
  let buf := match t.buf with
    | some (p, b) => s.bufAddr p b
    | none => 0
  t.queue + t.opcode * 2 ^ 16 + t.rcount % 8 * 2 ^ 23 + bit01 (s.qWorld t.queue) * 2 ^ 26 + bitsOf entry 1 1 * 2 ^ 27
    + t.seqno * 2 ^ 32 + bitsOf entry 2 17 * 4 * 2 ^ 64 + buf * 2 ^ 128

/-- R304, steps 3 and 4: a Ticket given to a free slot of an Oven. -/
def State.dispatchTo (s : State) (t : Tkt) (o n l : Nat) : State :=
  let w := s.qWorld t.queue
  let k := ((upTo 8).find? (fun k => !s.qe.tkts.any (fun x => x.at_ == .slot o k))).getD 0
  let ea := entryAddr w t.opcode
  let entry := s.pmNat n ea 4
  if s.pmBadAt n ea then (s.tktFail t cplTicketError t.tag t.noIrq).qeRaise qeTktErr svDegraded
  else if !bitAt entry 0 then s.tktFail t cplBadOpcode t.tag t.noIrq
  else
    let copy := match t.buf with
      | some (p, b) => setBits t.data.toNat 64 64 (s.bufAddr p b)
      | none => t.data.toNat
    let s := (s.lsWrite l true (slotOff w k) (toBytes 64 copy ++ toBytes 64 (s.dispRecord t entry))).1
    let s := s.putTkt { t with at_ := .slot o k, unit := n }
    let s := { s with qe := { s.qe with unread := s.qe.unread ++ [(o, w, k)] } }
    let s := s.setFld (QE_OVEN o) QE_OVEN.INFLIGHT (s.fld (QE_OVEN o) QE_OVEN.INFLIGHT + 1)
    let s := if t.rcount = 0 then s.setQf t.queue QCTX.INFLIGHT (s.qf t.queue QCTX.INFLIGHT + 1) else s
    s.countWrap QE_PERF_DISP 1 QE_STATUS QE_STATUS.OVF_DISP

/-- R22, R326, R490: whether the Queue Engine dispatches in this mode. -/
def State.qeRuns (s : State) : Bool :=
  s.flag QE_STATUS QE_STATUS.READY && s.flag QE_CTL QE_CTL.EN && !s.flag QE_STATUS QE_STATUS.HOLD
    && (decide (s.st.base = 3) || decide (s.st.base = 6)) && !s.st.holdup && s.st.wipe.isNone

/-- R300, R301: a waiting Ticket dispatched if an Oven can take it; else a wake request where every bound Oven that its
class may use dozes. -/
def State.tryDispatch (s : State) (t : Tkt) : State :=
  let w := s.qWorld t.queue
  let c := s.qf t.queue QCTX.CLASS
  let (os, beyond) := s.classOvens c
  let bound := os.filter (fun o => (s.seqOf o).isSome)
  match s.leastBusy (bound.filter (fun o => s.ovenFit o w && !s.dozing o)) with
  | some o =>
    let s := if beyond && !s.qe.affinity.contains c then
        { s with qe := { s.qe with affinity := c :: s.qe.affinity } }.qeRaise qeAffinity svInfo else s
    match s.seqOf o, s.lsOf o with
    | some n, some l => s.dispatchTo t o n l
    | _, _ => s
  | none =>
    if bound.all (fun o => s.dozing o) then
      match bound.find? (fun o => s.dozing o) with
      | some o => s.wakeRequest o
      | none => s
    else s

/-- Waiting Tickets tried in the order of their fetch; within a queue a later one never passes an earlier (R299). -/
def dispatchAll : List Tkt → State → State
  | [], s => s
  | t :: ts, s =>
    let ahead := s.qe.tkts.find? (fun x => x.queue == t.queue && (x.at_ == .reading || x.at_ == .waiting))
    let s := if t.at_ = .waiting ∧ ahead = some t ∧ s.qState t.queue = qsEnabled then s.tryDispatch t else s
    dispatchAll ts s

/-- The Queue Engine's dispatcher, after anything that may let a Ticket go on. -/
def State.qePump (s : State) : State := if s.qeRuns && s.st.quiesce.isNone then dispatchAll s.qe.tkts s else s

/-! ### Fetch (R297, R299) -/

/-- Fetched Tickets of a queue: those that hold a fetch buffer and are not dispatched. -/
def State.fetchedOf (s : State) (q : Nat) : Nat :=
  (s.qe.tkts.filter (fun t => t.queue == q && (t.at_ == .reading || t.at_ == .waiting))).length

/-- R297: whether a queue is eligible for a fetch. -/
def State.eligible (s : State) (q : Nat) : Bool :=
  let c := s.qf q QCTX.CLASS
  let os := (s.classOvens c).1
  s.qState q == qsEnabled && s.qf q QCTX.SQ_HEAD != s.qf q QCTX.SQ_TAIL && !s.qe.parked.any (fun x => x.1 == q)
    && decide (s.qf q QCTX.INFLIGHT + s.fetchedOf q < max 1 (s.qf q QCTX.MAX_INFLIGHT)) && decide (s.fetchedOf q < 16)
    && decide (ringDiff (s.qf q QCTX.CQ_TAIL) (s.qf q QCTX.CQ_HEAD) (s.cqSize q) + s.qf q QCTX.RSV < s.cqSize q - 1)
    && decide (s.qe.tkts.length < 256)
    && decide ((s.qe.tkts.filter (fun t => s.qf t.queue QCTX.CLASS == c)).length < 128)
    && os.any (fun o => (s.ovenFit o (s.qWorld q) && !s.dozing o) || (s.dozing o && (s.seqOf o).isSome))

/-- One fetch of a queue (R299). -/
def State.fetchFrom (s : State) (q : Nat) : State :=
  let i := s.qf q QCTX.SQ_HEAD
  let n := s.qf q QCTX.SEQNO
  let t : Tkt := { queue := q, seqno := n, index := i, at_ := .reading, data := 0, buf := none, rcount := 0,
                   gone := false, unit := 0 }
  let s := s.setQf q QCTX.RSV (s.qf q QCTX.RSV + 1)
  let s := s.setQf q QCTX.SQ_HEAD ((i + 1) % s.sqSize q)
  let s := s.setQf q QCTX.SEQNO ((n + 1) % 2 ^ 32)
  s.setTkts (s.qe.tkts ++ [t])

/-- The first eligible queue of a class after the one last served. -/
def State.classQueue (s : State) (els : List Nat) (c : Nat) : Option Nat :=
  let mine := els.filter (fun q => s.qf q QCTX.CLASS == c)
  match mine.find? (fun q => decide (cget s.qe.lastQueue c ≤ q)) with
  | some q => some q
  | none => mine.head?

/-- R299: the choice at one priority: the classes with an eligible queue, deficits renewed when all are spent. -/
def State.pickAt (s : State) (els : List Nat) (p : Nat) : Option State :=
  let cs := (upTo 16).filter (fun c => s.fld (QE_CLASS c) QE_CLASS.PRIO == p && (s.classQueue els c).isSome)
  if cs.isEmpty then none
  else
    let s := if cs.all (fun c => cget s.qe.deficit c == 0) then
        { s with qe := { s.qe with deficit := cs.foldl (fun d c => cput d c (max 1 (s.fld (QE_CLASS c) QE_CLASS.WEIGHT))) s.qe.deficit } }
      else s
    let last := mget (fun _ => 15) s.qe.lastClass p
    match ((upTo 16).map (fun i => (last + 1 + i) % 16)).find? (fun c => cs.contains c && decide (0 < cget s.qe.deficit c)) with
    | none => none
    | some c =>
      match s.classQueue els c with
      | none => none
      | some q =>
        let s := s.fetchFrom q
        some { s with qe := { s.qe with lastClass := mput (fun _ => 15) s.qe.lastClass p c,
                                        lastQueue := cput s.qe.lastQueue c (q + 1),
                                        deficit := cput s.qe.deficit c (cget s.qe.deficit c - 1) } }

/-- TICKET_FETCH (R299): at most one fetch, of the highest priority that has one. -/
def State.ticketFetch (s : State) : State :=
  if !s.qeRuns || s.st.quiesce.isSome then s
  else
    let els := s.liveQueues.filter (fun q => s.eligible q)
    let was := s.backlog
    match [3, 2, 1, 0].findSome? (fun p => s.pickAt els p) with
    | some s => s.ffCross was
    | none => s

/-! ### Arrival (R304, R305) -/

/-- R305: the copy of a Ticket and of every later one of its queue discarded; SQ_HEAD and SEQNO set back. -/
def State.setBack (s : State) (t : Tkt) : State :=
  let drop := s.qe.tkts.filter (fun x => x.queue == t.queue && (x.at_ == .reading || x.at_ == .waiting)
    && decide ((x.seqno + 2 ^ 32 - t.seqno) % 2 ^ 32 < 2 ^ 31))
  let s := drop.foldl (fun s x =>
    ((s.tktBufFree x).setQf x.queue QCTX.RSV (s.qf x.queue QCTX.RSV - 1)).dropTkt x) s
  (s.setQf t.queue QCTX.SQ_HEAD t.index).setQf t.queue QCTX.SEQNO t.seqno

/-- R304, step 2: BUF_REQ. -/
def State.arriveBuf (s : State) (t : Tkt) : State :=
  if !t.bufReq then s.putTkt { t with at_ := .waiting }
  else
    match s.poolAlloc t.pool (.queue t.queue (some t.seqno)) 9 (s.qWorld t.queue) with
    | (s, .ok b) => s.putTkt { t with at_ := .waiting, buf := some (t.pool, b) }
    | (s, .invalid) => s.tktFail t cplPoolInvalid t.tag t.noIrq
    | (s, .empty) =>
      if t.bufWait then
        let s := s.setBack t
        { s with qe := { s.qe with parked := s.qe.parked ++ [(t.queue, t.pool)] } }
      else s.tktFail t cplPoolEmpty t.tag t.noIrq
    | (s, .wait) =>
      let s := s.setBack t
      { s with qe := { s.qe with parked := s.qe.parked ++ [(t.queue, t.pool)] } }

/-- TICKET_ARRIVAL (R304): the read of a queue's oldest outstanding fetch ends, with its 64 B or without. A ring in Vector
Memory is read there. -/
def State.ticketArrival (s : State) (q : Nat) (data : Option (BitVec 512)) : State :=
  match s.qe.tkts.find? (fun t => t.queue == q && t.at_ == .reading) with
  | none => s
  | some t =>
    let (s, got) : State × Option (BitVec 512) :=
      if s.qf q QCTX.LOC = 2 then
        match s.vmRead .full (s.qf q QCTX.SQ_BASE + t.index * 64) 64 with
        | (s, some (d, false)) => (s, some (BitVec.ofNat 512 (ofBytes d)))
        | (s, _) => (s, none)
      else (s, data)
    match got with
    | none => ((s.tktFail t cplTicketError 0 false).qeRaise qeTktErr svDegraded).qePump
    | some d => (s.arriveBuf { t with data := d }).qePump

/-! ### Dispatch reads and posts (R307, R308) -/

/-- R307: what QE_DISP_Wo holds: its oldest dispatch not yet read. -/
def State.dispHead (s : State) (o : Nat) (w : Bool) : Option (Nat × Bool × Nat) :=
  s.qe.unread.find? (fun d => d.1 == o && d.2.1 == w)

def State.dispValue (s : State) (o : Nat) (w : Bool) : Nat :=
  match s.dispHead o w with
  | some d => 1 + d.2.2 * 2
  | none => 0

/-- DISPATCH_READ (R307, R614): the read removes what it returns. -/
def State.dispRead (s : State) (o : Nat) (w : Bool) : State :=
  match s.dispHead o w with
  | some d => { s with qe := { s.qe with unread := s.qe.unread.erase d } }
  | none => s

/-- The QUEUE_WORK line of a world at an Oven (R307). -/
def State.queueWork (s : State) (o : Nat) (w : Bool) : Bool :=
  (s.dispHead o w).isSome && s.flag (QE_OVEN o) (if w then QE_OVEN.IE_S else QE_OVEN.IE_G)

/-- A dispatched Ticket leaves its slot: its fetch buffer is freed, and both INFLIGHT counts fall. -/
def State.slotFree (s : State) (t : Tkt) (o k : Nat) : State :=
  let s := s.dropTkt t
  let s := { s with qe := { s.qe with unread := s.qe.unread.filter (fun d => !(d.1 == o && d.2.2 == k && d.2.1 == s.qWorld t.queue)) } }
  let s := s.setFld (QE_OVEN o) QE_OVEN.INFLIGHT (s.fld (QE_OVEN o) QE_OVEN.INFLIGHT - 1)
  let s := s.setFld (QE_OVEN o) (QE_OVEN.ABANDON.1 + k, 1) 0
  s.setQf t.queue QCTX.INFLIGHT (s.qf t.queue QCTX.INFLIGHT - 1)

/-- A buffer that HAND passes to the Ticket's queue: the Ticket's own, or one that the sequencer holds. -/
def State.handTarget (s : State) (t : Tkt) (n result : Nat) : Option (Nat × Nat) :=
  s.qe.pools.findSome? (fun px =>
    match s.bufAt px.1 result with
    | none => none
    | some b => if px.2.held.contains (b, .unit (seqUnit n)) || t.buf == some (px.1, b) then some (px.1, b) else none)

def State.handTo (s : State) (p b q : Nat) : State :=
  let x := s.pool p
  s.setPool p { x with held := x.held.map (fun h => if h.1 = b then (b, .queue q none) else h) }

/-- COMPLETION_POST (R308): a write of QE_CPL_POST_Wo. -/
def State.completionPost (s : State) (o : Nat) (w : Bool) (v : Nat) : State :=
  let k := v % 8
  match s.qe.tkts.find? (fun t => t.at_ == .slot o k && s.qWorld t.queue == w) with
  | none => s.qeRaise qeCplErr svInfo
  | some t =>
    let res := s.regNat (if w then QE_CPL_RES_S o else QE_CPL_RES_G o) 2
    if s.qState t.queue = qsResetting then
      let s := (s.tktBufFree t).setQf t.queue QCTX.RSV (s.qf t.queue QCTX.RSV - 1)
      ((s.slotFree t o k).queueResetEnd t.queue).qePump
    else
      let hand := if bitAt v 3 then s.handTarget t t.unit res else none
      let s := if bitAt v 3 && hand.isNone then s.qeRaise qePoolBadop svInfo else s
      let s := match hand with
        | some (p, b) => s.handTo p b t.queue
        | none => s
      let s := s.cplWrite t.queue t.tag (bitsOf v 4 7) res (decide (0 < t.rcount)) t.noIrq
      let s := if hand = t.buf ∧ hand.isSome = true then s else s.tktBufFree t
      (s.slotFree t o k).qePump

/-! ### Doze (R310, R491, R19) -/

/-- ST_MODE.DOZE_OVENS, QE_OVENo.DOZE and QE_STATUS.AWAKE of an Oven. -/
def State.setDoze (s : State) (o : Nat) (b : Bool) : State :=
  let s := s.setFlag ST_MODE (ST_MODE.DOZE_OVENS.1 + o, 1) b
  let s := s.setFlag (QE_OVEN o) QE_OVEN.DOZE b
  (s.setFlag QE_STATUS (QE_STATUS.AWAKE.1 + o, 1) (!b)).rename

/-- DOZE_HINT: the hint, where the Oven has no Ticket and none waits for it, and the Starter's acceptance of it. -/
def State.dozeHint (s : State) (o : Nat) : State :=
  let idle := s.qe.tkts.all (fun t => !t.inSlot o && !s.awaits o t)
  match s.seqOf o with
  | none => s
  | some n =>
    if s.fld QE_CTL QE_CTL.DOZE_IDLE ≠ 0 ∧ idle = true ∧ s.objNat 0x2000 8 ≠ 0
        ∧ (s.seqs.toList.getD n Seq.reset).outs.isEmpty = true ∧ (s.st.base = 3 ∨ s.st.base = 6)
        ∧ s.qe.waking.contains o = false then s.setDoze o true
    else s

/-- OVEN_WAKE (R18, R19, R491): the Starter receives a wake request for a dozing Oven. -/
def State.ovenWake (s : State) (o : Nat) : State :=
  let s := { s with qe := { s.qe with wakes := s.qe.wakes.filter (fun x => x != o) } }
  if s.dozing o && !s.qe.waking.contains o then { s with qe := { s.qe with waking := s.qe.waking ++ [o] } } else s

/-- OVEN_WAKE_DONE (R19): the Oven reaches Run and accepts a dispatch. -/
def State.ovenWakeDone (s : State) (o : Nat) : State :=
  if s.qe.waking.contains o then
    ({ s with qe := { s.qe with waking := s.qe.waking.filter (fun x => x != o) } }.setDoze o false).qePump
  else s

/-! ### Doorbells (R296) -/

/-- Where a doorbell comes from: a function's BAR2 write, a control-space write, or a chain request that R402 admits. -/
inductive DbFrom
  | host (i f : Nat)
  | ctl (m : Master)
  | chain
  deriving DecidableEq, Repr

/-- R296, R425: whether a source may ring a queue's doorbell. -/
def State.dbAccepts (s : State) (q : Nat) : DbFrom → Bool
  | .host i f =>
    decide (s.qf q QCTX.LOC < 2) && s.reaches i f q
      && ((decide (i / 2 = s.qf q QCTX.LOC) && decide (s.qFunc q = (i, f)))
        || (s.flag (QCTX q) QCTX.FAILOVER && decide (i = (1 - s.qf q QCTX.LOC) * 2) && decide (f = 0)))
  | .ctl m => decide (s.qf q QCTX.LOC = 2) && m.isSeq && m.sup && (m.world == s.qWorld q)
  | .chain => decide (s.qf q QCTX.LOC = 2)

/-- R296: whether an accepted doorbell is an error; `tail` and `head` are the halves it covers. -/
def State.dbError (s : State) (q : Nat) (tail head : Option Nat) : Bool :=
  let n := s.sqSize q
  let c := s.cqSize q
  (match tail with
   | some t => decide (n ≤ t) || decide (n - 1 < ringDiff t (s.qf q QCTX.SQ_TAIL) n + s.pendingOf q)
   | none => false) ||
  (match head with
   | some h => decide (c ≤ h) || decide (ringDiff (s.qf q QCTX.CQ_TAIL) (s.qf q QCTX.CQ_HEAD) c < ringDiff h (s.qf q QCTX.CQ_HEAD) c)
   | none => false)

/-- R295: the entries that a new CQ_HEAD shows consumed. -/
def State.consume (s : State) (q head : Nat) : State :=
  let old := s.qf q QCTX.CQ_HEAD
  let n := ringDiff head old (s.cqSize q)
  let gone := fun (c : Nat × Nat × BitVec 128) => c.1 == q && decide (ringDiff c.2.1 old (s.cqSize q) < n)
  { s with qe := { s.qe with cpls := s.qe.cpls.filter (fun c => !gone c) } }.setQf q QCTX.CQ_HEAD head

/-- DOORBELL (R296, Table 9-2): the halves of a doorbell write that it covers. -/
def State.doorbell (s : State) (q : Nat) (from_ : DbFrom) (tail head : Option Nat) : State :=
  if !s.flag QE_STATUS QE_STATUS.READY || s.st.wipe.isSome then s
  else if !s.dbAccepts q from_ || !(s.qState q == qsEnabled || s.qState q == qsPaused) then s.qeRaise qeDbIgnored svInfo
  else if s.dbError q tail head then (s.setQf q QCTX.STATE qsStalled).qeRaise qeDbErr svInfo
  else
    let was := s.backlog
    let s := match head with
      | some h => s.consume q h
      | none => s
    let s := match tail with
      | some t => s.setQf q QCTX.SQ_TAIL t
      | none => s
    let s := if s.st.base = 4 ∨ s.st.quiesce = some 4 ∨ s.st.quiesce = some 20 then { s with st := { s.st with wake := true } } else s
    let os := ((s.classOvens (s.qf q QCTX.CLASS)).1).filter (fun o => (s.seqOf o).isSome)
    let s := if s.qeRuns && s.qf q QCTX.SQ_HEAD != s.qf q QCTX.SQ_TAIL && os.all (fun o => s.dozing o) then
        match os.head? with
        | some o => s.wakeRequest o
        | none => s
      else s
    s.ffCross was

def State.dbValue (s : State) (q : Nat) : Nat := s.qf q QCTX.SQ_HEAD + s.qf q QCTX.CQ_TAIL * 2 ^ 32

/-! ### Queue commands (R290, R291, R322) -/

/-- R291: a queue enters RESETTING. -/
def State.queueResetting (s : State) (q : Nat) : State :=
  let s := s.setQf q QCTX.STATE qsResetting
  let s := { s with qe := { s.qe with parked := s.qe.parked.filter (fun x => x.1 != q),
                                      moved := s.qe.moved.filter (fun x => x.1 != q) } }
  let mine := s.qe.tkts.filter (fun t => t.queue == q)
  let s := mine.foldl (fun s t =>
    match t.at_ with
    | .slot o k => (s.setFld (QE_OVEN o) (QE_OVEN.ABANDON.1 + k, 1) 1).putTkt { t with buf := none, gone := true }
    | .lost =>
      ((s.setQf q QCTX.RSV (s.qf q QCTX.RSV - 1)).setQf q QCTX.INFLIGHT (s.qf q QCTX.INFLIGHT - 1)).dropTkt t
    | _ => (s.setQf q QCTX.RSV (s.qf q QCTX.RSV - 1)).dropTkt t) s
  s.poolReturnAll (fun h => match h with
    | .queue x _ => x == q
    | _ => false)

/-- A queue reset by the device (R291, R434): LASTERR reads 0xFF. -/
def State.queueDevReset (s : State) (q : Nat) : State :=
  if s.qState q = qsDisabled ∨ s.qState q = qsResetting then s
  else ((s.queueResetting q).setQf q QCTX.LASTERR 0xFF).queueResetEnd q

/-- R290, R322: a QE_QCMD command carried out. -/
def State.qcmd (s : State) (q cmd : Nat) : State :=
  let st := s.qState q
  let rej := s.setFld QE_STATUS QE_STATUS.QCMD_REJ 1
  if cmd = 1 then
    if st ≠ qsDisabled ∨ 13 ≤ s.qf q QCTX.SQ_LOG ∨ 13 ≤ s.qf q QCTX.CQ_LOG ∨ s.qf q QCTX.LOC = 3 then rej
    else
      let s := ((s.setQf q QCTX.SQ_HEAD 0).setQf q QCTX.SQ_TAIL 0).setQf q QCTX.CQ_HEAD 0
      let s := ((s.setQf q QCTX.CQ_TAIL 0).setQf q QCTX.SEQNO 0).setQf q QCTX.CQ_PHASE 1
      s.setQf q QCTX.STATE qsEnabled
  else if cmd = 2 then (if st = qsEnabled then s.setQf q QCTX.STATE qsPaused else rej)
  else if cmd = 3 then (if st = qsPaused then (s.setQf q QCTX.STATE qsEnabled).qePump else rej)
  else if cmd = 4 then
    if st = qsEnabled ∨ st = qsPaused ∨ st = qsStalled then
      ((s.setFld QE_STATUS QE_STATUS.QCMD_BUSY 1).queueResetting q).queueResetEnd q
    else rej
  else rej

/-- A write of QE_QCMD. -/
def State.qcmdWrite (s : State) (v : Nat) : State :=
  if s.flag QE_STATUS QE_STATUS.QCMD_BUSY then s.setFld QE_STATUS QE_STATUS.QCMD_REJ 1
  else (s.wordWrite QE_QCMD v).qcmd (v % 65536) (bitsOf v 16 3)

/-! ### Contexts (R288, R289, R425) -/

/-- The RW bits of one word of a context. -/
def ctxRw (w : Nat) : Nat := match regFind (QCTX 0 + 4 * w) with
  | some (r, _, _, k) => (r.mask k).rw
  | none => 0

/-- QUEUE_CONTEXT_WRITE (R289): a 4 B word of a context written; `host` is the function that writes, if one does. Of a
queue that is not DISABLED the RW bits stay. -/
def State.ctxWord (s : State) (q w v : Nat) (host : Option (Nat × Nat)) : State :=
  let a := QCTX q + 4 * w
  let rw := ctxRw w
  if s.qState q ≠ qsDisabled then
    if w = 10 then s.wordWrite a (bitsIn v 1 ||| bitsIn (s.reg a).toNat rw) else s
  else
    match host with
    | none => s.wordWrite a v
    | some (i, f) =>
      if w = 6 then
        let old := (s.reg a).toNat
        -- bits [208] WORLD, [210:209] LOC, [211] FAILOVER, [220:212] FUNC are bits 16 to 28 of this word
        if f ≠ 0 then s.wordWrite a (setBits v 16 13 (bitsOf old 16 13))
        else
          let func := bitsOf v 20 9
          let t := s.funcOf (i / 2) q func
          if func ≠ 0 ∧ s.reaches t.1 t.2 q = false then s.qeRaise qeCtxWrite svInfo else s.wordWrite a v
      else s.wordWrite a v

/-- R289: the words of one write to a context; QE_CTX_WRITE is raised once for a write that covers an RW field of a queue
that is not DISABLED. -/
def State.ctxWords (s : State) (q w : Nat) (vs : List Nat) (host : Option (Nat × Nat)) : State :=
  let refused := decide (s.qState q ≠ qsDisabled) && vs.zipIdx.any (fun x => ctxRw (w + x.2) != 0)
  let s := vs.zipIdx.foldl (fun s x => s.ctxWord q (w + x.2) x.1 host) s
  if refused then s.qeRaise qeCtxWrite svInfo else s

/-- R425: whether a master may write a context; a host's PF by the endpoint `ep` that its request came through. -/
def ctxMayWrite (s : State) (m : Master) (ep : Option Nat) (q : Nat) : Bool :=
  m.secSup || (m.isHost && s.reaches (ep.getD ((m.id - 11) * 2)) 0 q)

def State.ctxWrite (s : State) (m : Master) (a size v : Nat) (host : Option (Nat × Nat)) : State × Option Nat :=
  let q := (a - 0x1000000) / 64
  let ok := match host with
    | some (i, f) => s.reaches i f q
    | none => ctxMayWrite s m none q
  if !ok then (s, some erDenied)
  else if !s.flag QE_STATUS QE_STATUS.READY then (s, none)
  else
    (s.ctxWords q (a % 64 / 4) (v % 2 ^ 32 :: (if size = 8 then [v / 2 ^ 32 % 2 ^ 32] else [])) host, none)

/-! ### The QE block (R306, R321) -/

/-- R321: Secure supervisor level, the Starter and host PFs. -/
def qePriv (m : Master) : Bool := m.secSup || m.isHost

/-- Whether a master is a supervisor level of Oven `o`'s sequencer. -/
def State.ovenSup (s : State) (m : Master) (o : Nat) : Bool := m.isSeq && m.sup && (s.seqOf o == some m.id)

/-- R306: who may use a per-Oven register at offset `k` of its group. -/
def State.ovenRegOk (s : State) (m : Master) (o k : Nat) : Bool :=
  let secure := k / 8 = 1 ∨ k / 8 = 3 ∨ k = 0x24
  s.ovenSup m o && (!decide secure || m.world)

/-- A write of QE_OVENo (R306, Table 9-18). -/
def State.ovenWrite (s : State) (m : Master) (o v : Nat) : State :=
  let a := QE_OVEN o
  if m.id = 13 || m.world then (s.wordWrite a v).qePump
  else s.setFlag a QE_OVEN.IE_G (bitAt v 8)

/-- A write of a pool's configuration words (R311): `k` is the offset in the pool's group. -/
def State.poolWord (s : State) (p k v : Nat) : State :=
  let a := QE_POOL_BASE p + k
  let free := !s.poolEn p && (s.pool p).held.isEmpty
  if k = 0x10 then
    let cur := (s.reg a).toNat
    let en := bitAt v 0
    let same := decide (bitsOf v 1 30 = bitsOf cur 1 30)
    let s := if same then s else if free then s.wordWrite a (setBits v 0 1 0) else s.qeRaise qePoolBadop svInfo
    if en && !s.poolEn p then s.poolEnable p
    else if !en && s.poolEn p then s.poolDisable p
    else s
  else if k < 0x10 then
    if s.reg a = BitVec.ofNat 32 v then s else if free then s.wordWrite a v else s.qeRaise qePoolBadop svInfo
  else s.wordWrite a v

/-- One 32-bit word of the QE block written; wider registers that act as one are handled by `qeWrite`. -/
def State.qeWord (s : State) (m : Master) (ep : Option Nat) (a v : Nat) : State × Option Nat :=
  let k := a - 0x800000
  if k = 8 then
    if !qePriv m then (s, some erDenied)
    else if m.isHost && !ctxMayWrite s m ep (v % 65536) then (s, some erDenied)
    else (s.qcmdWrite v, none)
  else if 0x200 ≤ k ∧ k < 0x400 then
    let o := (k - 0x200) / 0x40
    let j := k % 0x40
    if j = 0x28 then
      if m.id = 13 || s.ovenSup m o then (s.ovenWrite m o v, none) else (s, some erDenied)
    else if !s.ovenRegOk m o j then (s, some erDenied)
    else if j = 0x20 ∨ j = 0x24 then (s.completionPost o (decide (j = 0x24)) v, none)
    else (s.wordWrite a v, none)
  else if 0x1000 ≤ k ∧ k < 0x3000 then
    if qePriv m then (s.poolWord ((k - 0x1000) / 32) (k % 32) v, none) else (s, some erDenied)
  else if k < 0x200 then
    if qePriv m then
      let s := s.wordWrite a v
      (if k < 8 ∨ 0x100 ≤ k then s.qePump else s, none)
    else (s, some erDenied)
  else (s, none)

/-- A write to the QE block of 4 or 8 bytes (R296, R314, R321, R325); a host function's own identity where it is one. -/
def State.qeWrite (s : State) (m : Master) (ep : Option Nat) (a size v : Nat) : State × Option Nat :=
  let k := a - 0x800000
  if !s.flag QE_STATUS QE_STATUS.READY then (s, none)
  else if 0x80000 ≤ k then
    let q := (k - 0x80000) / 8
    let lo := decide (k % 8 = 0)
    let tail := if lo then some (v % 65536) else none
    let head := if size = 8 then some (bitsOf v 32 16) else if lo then none else some (v % 65536)
    (s.doorbell q (.ctl m) tail head, none)
  else if 0x6000 ≤ k ∧ k < 0x6800 then
    if size = 8 then (s.bufferFree ((k - 0x6000) / 8) v m.secSup (masterHolder m), none) else (s, none)
  else
    match s.qeWord m ep a (v % 2 ^ 32) with
    | (s, some e) => (s, some e)
    | (s, none) => if size = 8 then s.qeWord m ep (a + 4) (v / 2 ^ 32 % 2 ^ 32) else (s, none)

/-- A read of the QE block (R296, R306, R307, R312): its effect and value. -/
def State.qeRead (s : State) (m : Master) (a size : Nat) : State × Acc Nat :=
  let k := a - 0x800000
  let part := fun (v : Nat) => bitsOf v (8 * (a % 8)) (8 * size)
  if 0x80000 ≤ k then (s, .ok (part (s.dbValue ((k - 0x80000) / 8))))
  else if 0x4000 ≤ k ∧ k < 0x4800 then
    let p := (k - 0x4000) / 8
    match poolNo m with
    | none => (s, .err erDenied)
    | some n =>
      match s.poolAlloc p (masterHolder m) n (poolWorld m) with
      | (s, .wait) => (s, .hold)
      | (s', a) => (s', .ok (part (s'.allocValue p a)))
  else if 0x6000 ≤ k ∧ k < 0x6800 then (s, .ok 0)
  else if 0x200 ≤ k ∧ k < 0x400 ∧ k % 0x40 < 0x28 then
    let o := (k - 0x200) / 0x40
    let j := k % 0x40
    if !s.ovenRegOk m o j then (s, .err erDenied)
    else if j < 0x10 then
      let w := decide (8 ≤ j)
      (s.dispRead o w, .ok (part (s.dispValue o w)))
    else if j < 0x20 then (s, .ok (s.regNat a (size / 4)))
    else (s, .ok 0)
  else (s, .ok (s.regNat a (size / 4)))

/-! ### Loss of a unit (R316, R318) and modes (R326) -/

/-- R316, R470: a sequencer is fenced: its Oven takes no Ticket, its Tickets wait for re-dispatch, its buffers return. -/
def State.qeFence (s : State) (n o : Nat) : State :=
  let s := s.setFld (QE_OVEN o) QE_OVEN.RDY 0
  let s := s.setTkts (s.qe.tkts.map (fun t => if t.dispatched && t.unit == n then { t with at_ := .lost } else t))
  let s := { s with qe := { s.qe with unread := s.qe.unread.filter (fun d => d.1 != o) } }
  let s := (s.setFld (QE_OVEN o) QE_OVEN.INFLIGHT 0).setFld (QE_OVEN o) QE_OVEN.ABANDON 0
  let lost := s.qe.tkts.filter (fun t => t.at_ == .lost && t.unit == n && s.qState t.queue == qsResetting)
  let s := lost.foldl (fun s t =>
    (((s.setQf t.queue QCTX.RSV (s.qf t.queue QCTX.RSV - 1)).setQf t.queue QCTX.INFLIGHT
      (s.qf t.queue QCTX.INFLIGHT - 1)).dropTkt t).queueResetEnd t.queue) s
  s.poolReturnAll (fun h => decide (h = .unit (seqUnit n)))

/-- TICKET_REDISPATCH (R316): the Tickets of lost sequencers whose Autotomy has ended. -/
def State.redispatch (s : State) : State :=
  let busy := fun (t : Tkt) => s.fj.reactions.any (fun r => r.covers (seqUnit t.unit))
  let ts := s.qe.tkts.filter (fun t => t.at_ == .lost && !busy t)
  let s := ts.foldl (fun s t =>
    if max 1 (s.fld QE_CTL QE_CTL.REDISP_MAX) < t.rcount + 1 then
      let s := s.setQf t.queue QCTX.INFLIGHT (s.qf t.queue QCTX.INFLIGHT - 1)
      (s.tktFail t cplUnitLost t.tag t.noIrq).qeRaise qeRedispLimit svSevere
    else
      let s := s.putTkt { t with at_ := .waiting, rcount := t.rcount + 1 }
      (s.countSat (QCTX t.queue) QCTX.REDISP QCTX.REDISP_SAT).qeRaise qeRedisp svDegraded) s
  s.qePump

/-- R318: a third-fault reset of the sequencer of Oven `o`. -/
def State.qeThirdFault (s : State) (n o : Nat) : State :=
  let ts := s.qe.tkts.filter (fun t => t.dispatched && t.unit == n)
  let s := ts.foldl (fun s t =>
    match t.at_ with
    | .slot x k =>
      let s := if s.qState t.queue = qsResetting then s.setQf t.queue QCTX.RSV (s.qf t.queue QCTX.RSV - 1)
        else (s.tktBufFree t).cplWrite t.queue t.tag cplThirdFault 0 (decide (0 < t.rcount)) t.noIrq
      (s.slotFree t x k).queueResetEnd t.queue
    | _ => s) s
  s.setFld (QE_OVEN o) QE_OVEN.RDY 0

/-- R325: the context store initialised: every queue DISABLED, every pool disabled, READY set. -/
def State.qeReady (s : State) : State :=
  let regs := s.regs.filter (fun p => !((decide (0x1000000 ≤ p.1) && decide (p.1 < 0x1400000))
    || (decide (0x801000 ≤ p.1) && decide (p.1 < 0x803000))))
  let s := { s with regs := regs, qe := { QueueEng.reset with lastClass := s.qe.lastClass } }
  let s := s.setFld QE_STATUS QE_STATUS.READY 1
  s.setFld QE_STATUS QE_STATUS.AWAKE (255 - s.fld ST_MODE ST_MODE.DOZE_OVENS % 256)

/-- R326: entry to Hold-up or Wipe. -/
def State.qeHold (s : State) : State := s.setFld QE_STATUS QE_STATUS.HOLD 1

/-- R324: the context that 0x5050:02 returns, as the selected queue's world allows. -/
def State.queueCtxObj (s : State) : List Byte :=
  let q := s.objNat 0x5050 1
  let full := toBytes 64 (s.regNat (QCTX q) 16)
  let shown := if s.qWorld q then (upTo 64).map (fun i => if i = 25 then BitVec.ofNat 8 (s.qState q * 2) else 0) else full
  toBytes 2 q ++ shown

end Sys2Proof.Machine
end

