-- ==== Sys2Proof/Machine/Timers.lean ====
section
/-! DEFINITION. Sys2Proof/Machine/Timers.lean: the time base (R573 to R578) and the general timers (R579 to R589). -/
namespace Sys2Proof.Machine

def tmrSource : Nat := 0x1F7
def State.tmrEvent (s : State) : State := s.raise tmrSource starterUnit svInfo

def State.timer (s : State) (n : Fin 16) : Timer := s.st.timers[n]
def State.setTimer (s : State) (n : Fin 16) (t : Timer) : State :=
  { s with st := { s.st with timers := s.st.timers.set n t } }

/-! ### The time base -/

/-- R577, R574: the time base set to a value; a backward one raises TMR_EVENT. -/
def State.tbWrite (s : State) (v : Nat) : State :=
  let back := decide (v < s.st.tb)
  let s := { s with st := { s.st with tb := v % 2 ^ 64 } }.setFld TMR_STATUS TMR_STATUS.TB_VALID 1
  if back then s.tmrEvent else s

/-- One tick of the time clock: 1 ns and the steering's fraction of it (R573, R576), in units of 10^-9 ns. -/
def State.tbTick (s : State) : State :=
  let z := s.st.tbFrac + toSigned 32 (s.regNat TB_ADJ 1)
  let (add, z) := if z ≥ 1000000000 then (2, z - 1000000000) else if z ≤ -1000000000 then (0, z + 1000000000) else (1, z)
  { s with st := { s.st with tb := (s.st.tb + add) % 2 ^ 64, tbFrac := z } }

/-- R576: a new offset to the upstream device, `period` µs after the last, while steering runs. -/
def State.tbSteer (s : State) (o : Int) (period : Nat) : State :=
  if !s.flag TB_CTL TB_CTL.STEER_EN then s
  else
    let step := s.fld TB_CTL TB_CTL.STEP_NS
    let maxp : Int := 1000 * (max 1 (s.fld TB_CTL TB_CTL.MAX_PPM) : Nat)
    let offs := (decide (o.natAbs ≤ 100) :: s.st.offs).take 8
    let s := { s with st := { s.st with offs := offs } }
    let s := s.setFlag TMR_STATUS TMR_STATUS.SYNC (decide (offs.length = 8) && offs.all id)
    let s := s.condClear tmrSource
    if step < o.natAbs ∧ (0 < o ∨ s.flag TB_CTL TB_CTL.ALLOW_BACK = true) then
      let s := { s with st := { s.st with tb := ofInt 64 (s.st.tb + o), tbFrac := 0 } }
      ((((s.setRegNat TB_ADJ 1 0).setFld TMR_STATUS TMR_STATUS.STEPPED 1).setFld TMR_STATUS TMR_STATUS.TB_VALID 1)).tmrEvent
    else
      let rate := (o * 1000000).tdiv (8 * period)
      s.setRegNat TB_ADJ 1 (ofInt 32 (max (-maxp) (min maxp rate)))

/-- SYNC_LOST (R576): no measurement for eight exchange periods while steering runs. -/
def State.syncLost (s : State) : State :=
  if s.flag TB_CTL TB_CTL.STEER_EN && s.flag CH_TIMING CH_TIMING.EN && !s.flag CH_TIMING CH_TIMING.SOURCE then
    ({ s with st := { s.st with offs := [] } }.setFld TMR_STATUS TMR_STATUS.SYNC 0).condSet tmrSource starterUnit svDegraded
  else s

/-- R578: a rising edge of TMR_INi captures the time base; a capture while one is held is dropped. -/
def State.tbCapture (s : State) (i : Nat) : State :=
  if s.fld TB_CTL TB_CTL.TBCAP_SRC ≠ i + 1 then s
  else if s.flag TMR_STATUS TMR_STATUS.TBCAP_VALID then s.setFld TMR_STATUS TMR_STATUS.TBCAP_OVR 1
  else (s.setRegNat TB_CAP 2 s.st.tb).setFld TMR_STATUS TMR_STATUS.TBCAP_VALID 1

/-! ### Timers -/

def tmrDir (s : State) (n : Nat) : Nat := s.fld (TMR_CTL n) TMR_CTL.DIR % 3
/-- TOP; zero acts as 1 (R580). -/
def tmrTop (s : State) (n : Nat) : Nat := max 1 (s.regNat (TMR_TOP n) 1)

/-- R586: the count enters the capture queue, or the capture is dropped. -/
def State.tmrCapture (s : State) (n : Fin 16) : State :=
  let t := s.timer n
  if t.caps.length < 4 then
    let s := s.setTimer n { t with caps := t.caps ++ [(s.reg (TMR_COUNT n), t.gapNext)], gapNext := false }
    s.setFld (TMR_STAT n) TMR_STAT.QCOUNT (t.caps.length + 1)
  else
    let first := !s.flag (TMR_STAT n) TMR_STAT.OVR
    let s := (s.setTimer n { t with gapNext := true }).setFld (TMR_STAT n) TMR_STAT.OVR 1
    let s := s.countSat (TMR_STAT n) TMR_STAT.DROPS TMR_STAT.DSAT
    if first then s.tmrEvent else s

/-- CAPTURE_READ (R586): the oldest entry as TMR_CAPn shows it, and the queue without it. -/
def State.capRead (s : State) (n : Fin 16) : State × Nat :=
  let t := s.timer n
  match t.caps with
  | [] => (s, 0)
  | (v, g) :: rest =>
    let s := s.setTimer n { t with caps := rest }
    (s.setFld (TMR_STAT n) TMR_STAT.QCOUNT rest.length, v.toNat + 2 ^ 32 + bit01 g * 2 ^ 33)

/-- Table 18-1: the count, DOWN, and the flags OVF (4) and PEAK (8) that one tick gives from count `c`. -/
def tmrMove (dir top c : Nat) (down : Bool) : Nat × Bool × Nat :=
  let up := if c = top then (0, 4) else let d := (c + 1) % 2 ^ 32; (d, if d = 0 then 4 else 0)
  match dir with
  | 0 => (up.1, down, up.2)
  | 1 => if c = 0 then (top, down, 4) else (c - 1, down, 0)
  | _ =>
    let falling := (down && decide (c ≠ 0)) || (!down && decide (c = top))
    if falling then
      if c - 1 = 0 then (0, false, 4) else (c - 1, true, 0)
    else
      let d := (c + 1) % 2 ^ 32
      if d = top then (d, true, 8) else (d, false, 0)

/-- Table 18-2: the actions of a flag of a timer: its code and its target. -/
def tmrAct (s : State) (n e : Nat) : Nat × Bool :=
  (bitsOf (s.regNat (TMR_ACT n) 1) (6 * e) 3, bitAt (s.regNat (TMR_ACT n) 1) (6 * e + 3))

/-- One tick with the events it raises, and the action codes they put on the timer itself (R584). -/
def State.tmrTickOnce (s : State) (n : Fin 16) : State × List Nat :=
  let st := TMR_STAT n
  let (c, dn, ev) := tmrMove (tmrDir s n) (tmrTop s n) (s.regNat (TMR_COUNT n) 1) (s.flag st TMR_STAT.DOWN)
  let s := (s.setRegNat (TMR_COUNT n) 1 c).setFlag st TMR_STAT.DOWN dn
  let ev := ev + bit01 (decide (c = s.regNat (TMR_CMP0 n) 1)) + 2 * bit01 (decide (c = s.regNat (TMR_CMP1 n) 1))
  let s := s.setFld st TMR_STAT.FLAGS (s.fld st TMR_STAT.FLAGS ||| ev)
  let es := (upTo 4).filter (fun e => bitAt ev e)
  let wakes := es.any (fun e => bitAt (s.regNat (TMR_ACT n) 1) (6 * e + 5))
  let s := if wakes && decide (s.st.base = mBrum) then { s with st := { s.st with wake := true } } else s
  let link : Fin 16 := ⟨s.fld (TMR_ACT n) TMR_ACT.LINK % 16, by omega⟩
  let out := (es.filter (fun e => (tmrAct s n e).2)).map (fun e => { target := link, code := (tmrAct s n e).1 : LinkAct })
  let out := out.filter (fun a => decide (a.code ≠ 0) && decide (a.code ≠ 7))
  ({ s with st := { s.st with links := s.st.links ++ out } },
   (es.filter (fun e => !(tmrAct s n e).2)).map (fun e => (tmrAct s n e).1))

/-- R585: the actions that reach one timer in a clock, in the order capture, stop, reload, start, tick, toggle. A tick
raises events whose own actions on the timer itself follow; `fuel` bounds them. -/
def State.tmrActions : Nat → State → Fin 16 → List Nat → State
  | 0, s, _, _ => s
  | fuel + 1, s, n, acts =>
    if acts.isEmpty then s
    else
      let ctl := TMR_CTL n
      let s := if acts.contains 5 then s.tmrCapture n else s
      let s := if acts.contains 1 then s.setFld ctl TMR_CTL.EN 0 else s
      let s := if acts.contains 3 then
          (s.setRegNat (TMR_COUNT n) 1 (if tmrDir s n = 1 then tmrTop s n else 0)).setFld (TMR_STAT n) TMR_STAT.DOWN 0
        else s
      let s := if acts.contains 2 then s.setFld ctl TMR_CTL.EN 1 else s
      let (s, more) := if acts.contains 4 && s.flag ctl TMR_CTL.EN then s.tmrTickOnce n else (s, [])
      let s := if (acts.filter (fun a => a == 6)).length % 2 = 1 then
          s.setFlag (TMR_STAT n) TMR_STAT.OUT (!s.flag (TMR_STAT n) TMR_STAT.OUT) else s
      State.tmrActions fuel s n more

/-- R580, R584: a tick of a running timer, with its events and their actions. -/
def State.tmrTick (s : State) (n : Fin 16) : State :=
  if s.flag (TMR_CTL n) TMR_CTL.EN then
    let (s, acts) := s.tmrTickOnce n
    s.tmrActions 4 n acts
  else s

/-- R579: a source event reaches the prescaler, which ticks the timer when its accumulator comes to P. -/
def State.tmrSourceEvent (s : State) (n : Fin 16) : State :=
  if !s.flag (TMR_CTL n) TMR_CTL.EN then s
  else
    let p := max 256 (s.fld (TMR_PSC n) (0, 24))
    let t := s.timer n
    let acc := t.acc + 256
    if acc < p then s.setTimer n { t with acc := acc }
    else (s.setTimer n { t with acc := acc - p }).tmrTick n

/-- An edge of TMR_INi: a source event for SRC 3 on a rising edge, and a capture where CAPSRC selects it (R586). -/
def State.tmrEdge (s : State) (i : Nat) (rising : Bool) : State :=
  (List.finRange 16).foldl (fun s (n : Fin 16) =>
    let ctl := TMR_CTL n
    if s.fld ctl TMR_CTL.INSEL = i then
      let cs := s.fld ctl TMR_CTL.CAPSRC
      let s := if cs = 3 ∨ (cs = 1 ∧ rising = true) ∨ (cs = 2 ∧ rising = false) then s.tmrCapture n else s
      if s.fld ctl TMR_CTL.SRC = 3 && rising then s.tmrSourceEvent n else s
    else s) s

/-- One 1 ns tick for every timer whose source has an event in it: SRC 0 each tick, SRC 1 every 20 ns, SRC 2 at the
edges of a 32.768 kHz clock. -/
def State.tmrClock (s : State) : State :=
  let xtal := decide ((s.now + 1) * 32768 / 1000000000 ≠ s.now * 32768 / 1000000000)
  (List.finRange 16).foldl (fun s (n : Fin 16) =>
    match s.fld (TMR_CTL n) TMR_CTL.SRC with
    | 0 => s.tmrSourceEvent n
    | 1 => if (s.now + 1) % 20 = 0 then s.tmrSourceEvent n else s
    | 2 => if xtal then s.tmrSourceEvent n else s
    | _ => s) s

/-- LINK_ACTION (R584): the actions on their way to a timer reach it. -/
def State.linkAct (s : State) (n : Fin 16) : State :=
  let acts := (s.st.links.filter (fun a => a.target == n)).map (fun a => a.code)
  let s := { s with st := { s.st with links := s.st.links.filter (fun a => a.target != n) } }
  s.tmrActions 4 n acts

/-! ### Writes as they are applied (R582, R583) -/

/-- COMPARE_WRITE (R582): CMPk takes V, and CMPPASTk tells that V is at or behind the count, or above TOP. -/
def State.cmpWrite (s : State) (n : Fin 16) (k : Bool) (v : Nat) : State :=
  let c := s.regNat (TMR_COUNT n) 1
  let down := decide (tmrDir s n = 1) || (decide (tmrDir s n = 2) && s.flag (TMR_STAT n) TMR_STAT.DOWN)
  let past := (if down then decide (c ≤ v) else decide (v ≤ c)) || decide (tmrTop s n < v)
  let s := s.setRegNat (if k then TMR_CMP1 n else TMR_CMP0 n) 1 v
  if past then s.setFld (TMR_STAT n) (if k then TMR_STAT.CMPPAST1 else TMR_STAT.CMPPAST0) 1 else s

/-- COUNT_WRITE (R583). -/
def State.countWrite (s : State) (n : Fin 16) (v : Nat) : State := s.setRegNat (TMR_COUNT n) 1 v

/-- PRESCALE_WRITE (R579): the prescaler set and its accumulator cleared. -/
def State.pscWrite (s : State) (n : Fin 16) (v : Nat) : State :=
  let s := s.wordWrite (TMR_PSC n) v
  s.setTimer n { s.timer n with acc := 0 }

/-- A word of the TMR block written as R583 applies it. `m` decides what General supervisor level may not write. -/
def State.tmrWord (s : State) (m : Master) (a v : Nat) : State :=
  if a < 0xE00100 then
    if a = TB_SET then s.tbWrite (s.st.tb / 2 ^ 32 * 2 ^ 32 + v)
    else if a = TB_SET + 4 then s.tbWrite (v * 2 ^ 32 + s.st.tb % 2 ^ 32)
    else s.wordWrite a v
  else
    let n : Fin 16 := ⟨(a - 0xE00100) / 0x40 % 16, by omega⟩
    match (a - 0xE00100) % 0x40 with
    | 0x00 =>
      let w := s.fld (TMR_CTL n) TMR_CTL.WORLD
      let s := s.wordWrite a v
      if m.secSup then s else s.setFld (TMR_CTL n) TMR_CTL.WORLD w
    | 0x04 => s.pscWrite n v
    | 0x0C => s.countWrite n v
    | 0x10 => s.cmpWrite n false v
    | 0x14 => s.cmpWrite n true v
    | _ => s.wordWrite a v

/-- A posted write of the TMR block applied; TB_SET written whole is one write. -/
def State.tmrApply (s : State) (m : Master) (a size v : Nat) : State :=
  if a = TB_SET ∧ size = 8 then s.tbWrite v
  else
    let s := s.tmrWord m a (v % 2 ^ 32)
    if size = 8 then s.tmrWord m (a + 4) (v / 2 ^ 32 % 2 ^ 32) else s

/-- R588: the timer group an address lies in. -/
def tmrGroup (a : Nat) : Option Nat :=
  if 0xE00100 ≤ a ∧ a < 0xE00500 then some ((a - 0xE00100) / 0x40) else none

/-- R588: whether a master may write an address of the TMR block. -/
def State.tmrMayWrite (s : State) (m : Master) (a : Nat) : Bool :=
  m.secSup || (m.isSeq && m.sup && (match tmrGroup a with
    | some n => !s.flag (TMR_CTL n) TMR_CTL.WORLD
    | none => false))

/-- A word of the TMR block read, without the effect of RC registers. -/
def State.tmrView (s : State) (m : Master) (a : Nat) : Nat :=
  let hidden := match tmrGroup a with
    | some n => s.flag (TMR_CTL n) TMR_CTL.WORLD && (m.isHost || (m.isSeq && !m.world) || decide (m.id = 15))
    | none => false
  if hidden then 0
  else if a = TB_NOW then s.st.tb % 2 ^ 32
  else if a = TB_NOW + 4 then s.st.tb / 2 ^ 32
  else if a = TB_SET ∨ a = TB_SET + 4 then 0
  else if a = TMR_STATUS then
    setBits (s.regNat a 1) 0 1 (bit01 (s.st.posted.any (fun p => p.master == m.id && decide (0xE00000 ≤ p.addr))))
  else if (a - 0xE00100) % 0x40 = 0x20 ∧ (tmrGroup a).isSome then
    match (s.timer ⟨(a - 0xE00100) / 0x40 % 16, by omega⟩).caps with
    | [] => 0
    | (v, _) :: _ => v.toNat
  else if (a - 0xE00100) % 0x40 = 0x24 ∧ (tmrGroup a).isSome then
    match (s.timer ⟨(a - 0xE00100) / 0x40 % 16, by omega⟩).caps with
    | [] => 0
    | (_, g) :: _ => 1 + 2 * bit01 g
  else s.regNat a 1

/-- R614: the effect of a read of TB_CAP or TMR_CAPn, which the Starter's own reads do not have. -/
def State.tmrReadEffect (s : State) (m : Master) (a : Nat) : State :=
  if m.id = 13 then s
  else if a = TB_CAP then s.setFld TMR_STATUS TMR_STATUS.TBCAP_VALID 0
  else match tmrGroup a with
    | some n =>
      if (a - 0xE00100) % 0x40 = 0x20 && !(s.flag (TMR_CTL n) TMR_CTL.WORLD && (m.isHost || (m.isSeq && !m.world) || decide (m.id = 15)))
      then (s.capRead ⟨n % 16, by omega⟩).1 else s
    | none => s

/-- R587: whether a timer raises the TIMER line of a world on an Oven. -/
def State.tmrLine (s : State) (o : Nat) (w : Bool) : Bool :=
  (upTo 16).any (fun n => s.flag (TMR_CTL n) TMR_CTL.WORLD == w && bitAt (s.fld (TMR_CTL n) TMR_CTL.OVENS) o
    && (upTo 4).any (fun e => bitAt (s.fld (TMR_STAT n) TMR_STAT.FLAGS) e && bitAt (s.regNat (TMR_ACT n) 1) (6 * e + 4)))

/-- R589: Wipe stops every timer and returns its registers to reset values; the time base runs on. -/
def State.tmrWipe (s : State) : State :=
  { s with regs := s.regs.filter (fun p => !(decide (0xE00100 ≤ p.1) && decide (p.1 < 0xE00500))),
           st := { s.st with timers := Vector.replicate 16 Timer.reset, links := [] } }

end Sys2Proof.Machine
end

