-- ==== Sys2Proof/Machine/Chain.lean ====
section
/-! DEFINITION. Sys2Proof/Machine/Chain.lean: the chain ports and the Adenik Link (R381 to R421): lanes, flits and their
replay, messages, routing, remote requests with their tags, Transit, the time exchange, and the CH blocks. -/
namespace Sys2Proof.Machine

/-- Fault source `k` of Table 12-23 at port `p`. -/
def chSrc (p k : Nat) : Nat := 0x120 + p * 16 + k
def ckReplay : Nat := 0
def ckLaneSpare : Nat := 1
def ckHalf : Nat := 2
def ckLinkDown : Nat := 3
def ckPartition : Nat := 4
def ckTransitLong : Nat := 5
def ckRspTimeout : Nat := 6
def ckTtl : Nat := 7
def ckDenied : Nat := 8
def ckDbErr : Nat := 9
def ckWiring : Nat := 10
def ckProto : Nat := 11

def State.chRaise (s : State) (p k : Nat) : State := s.raise (chSrc p k) (portUnit p) (srcSev (chSrc p k))

/- Message types (Table 12-5). -/
def mtRD : Nat := 1
def mtWR : Nat := 2
def mtATOM : Nat := 3
def mtDB : Nat := 4
def mtRDRSP : Nat := 8
def mtWRACK : Nat := 9
def mtATOMRSP : Nat := 10
def mtERRRSP : Nat := 11
def mtWAKING : Nat := 12
def mtMARK : Nat := 16
def mtNBR : Nat := 32
def mtTIME : Nat := 33
def mtLINKDOWN : Nat := 34
def mtRECONCILE : Nat := 35
def mtMGMT : Nat := 36

/- ERRRSP codes (Table 12-6). -/
def xrDefault : Nat := 1
def xrDenied : Nat := 2
def xrUe : Nat := 3
def xrFenced : Nat := 4
def xrTtl : Nat := 5
def xrUnreachable : Nat := 6
def xrUnknown : Nat := 7

end Sys2Proof.Machine

namespace Sys2Proof

/-! ### Messages (Table 12-4) -/

def ChMsg.f (m : ChMsg) (lo len : Nat) : Nat := Machine.bitsOf m.hdr.toNat lo len
def ChMsg.set (m : ChMsg) (lo len v : Nat) : ChMsg := { m with hdr := BitVec.ofNat 128 (Machine.setBits m.hdr.toNat lo len v) }
def ChMsg.ty (m : ChMsg) : Nat := m.f 0 6
def ChMsg.vc (m : ChMsg) : Nat := m.f 6 2
def ChMsg.cls (m : ChMsg) : Nat := m.f 8 1
def ChMsg.turned (m : ChMsg) : Bool := Machine.bitAt m.hdr.toNat 9
def ChMsg.poison (m : ChMsg) : Bool := Machine.bitAt m.hdr.toNat 10
def ChMsg.dst (m : ChMsg) : Nat := m.f 12 12
def ChMsg.src (m : ChMsg) : Nat := m.f 24 12
def ChMsg.tag (m : ChMsg) : Nat := m.f 36 12
def ChMsg.ttl (m : ChMsg) : Nat := m.f 48 4
def ChMsg.sub (m : ChMsg) : Nat := m.f 52 4
def ChMsg.ety (m : ChMsg) : Nat := m.f 56 4
def ChMsg.store (m : ChMsg) : Nat := m.f 60 4
def ChMsg.bytes (m : ChMsg) : Nat := m.f 64 8 + 1
def ChMsg.addr (m : ChMsg) : Nat := m.f 72 48
def ChMsg.stat (m : ChMsg) : Nat := m.f 120 8
/-- The buffer, of the six that credits count, that a message takes. -/
def ChMsg.buffer (m : ChMsg) : Nat := m.vc * 2 + m.cls
def ChMsg.isReq (m : ChMsg) : Bool := decide (1 ≤ m.ty) && decide (m.ty ≤ 4)

/-- Data slots that a header announces (Table 12-5). -/
def ChMsg.dataSlots (m : ChMsg) : Nat :=
  if m.ty = 2 ∨ m.ty = 8 then (m.bytes + 15) / 16
  else if m.ty = 0x24 then min 4 ((m.bytes + 15) / 16)
  else if m.ty = 3 ∨ m.ty = 10 ∨ (0x20 ≤ m.ty ∧ m.ty ≤ 0x23) then 1
  else 0

/-- The message as slots. -/
def ChMsg.slots (m : ChMsg) : List (BitVec 128) :=
  m.hdr :: (Machine.upTo m.dataSlots).map (fun i => BitVec.ofNat 128 (Machine.ofBytes ((m.data.drop (16 * i)).take 16)))

/-- A message read from its slots. -/
def ChMsg.ofSlots : List (BitVec 128) → ChMsg
  | [] => { hdr := 0, data := [] }
  | h :: l => { hdr := h, data := l.flatMap (fun x => Machine.toBytes 16 x.toNat) }

/-- The low `n` bits of the first data slot from bit `lo` on. -/
def ChMsg.d (m : ChMsg) (lo n : Nat) : Nat := Machine.bitsOf (Machine.ofBytes (m.data.take 16)) lo n

/-- R391, R392: a known type in its VC, with well-formed fields. -/
def ChMsg.ok (m : ChMsg) : Bool :=
  let vcOk := if m.ty ≤ 4 ∧ 0 < m.ty then decide (m.vc = 0) else if 8 ≤ m.ty ∧ m.ty ≤ 12 then decide (m.vc = 1)
    else if m.ty = 0x10 then decide (m.vc ≤ 1) else if 0x20 ≤ m.ty ∧ m.ty ≤ 0x24 then decide (m.vc = 2) else false
  let acc := decide (1 ≤ m.ty) && decide (m.ty ≤ 3)
  let storeOk := decide (m.store ≤ 8) || decide (m.store = 15)
  let inGranule := decide (m.store ≠ 15) || decide (m.addr % 128 + m.bytes ≤ 128)
  let size := decide (m.data.length = 16 * m.dataSlots)
  vcOk && decide (m.f 11 1 = 0) && size && (!m.isReq || decide (m.stat = 0))
    && (!acc || (storeOk && inGranule && decide (m.bytes ≤ 128)))
    && (decide (m.ty ≠ 3) || (decide (m.sub ≤ 5) && decide (m.store = 15)))
    && (decide (m.ty ≠ 0x24) || decide (m.bytes ≤ 64))

/-- A message from its header fields. -/
def ChMsg.make (ty vc dst src tag sub ety store bytes addr stat : Nat) (poison : Bool) (data : List Byte) : ChMsg :=
  let h := ty + vc * 2 ^ 6 + Machine.bit01 poison * 2 ^ 10 + dst % 4096 * 2 ^ 12 + src % 4096 * 2 ^ 24 + tag % 4096 * 2 ^ 36
    + sub % 16 * 2 ^ 52 + ety % 16 * 2 ^ 56 + store % 16 * 2 ^ 60 + (bytes - 1) % 256 * 2 ^ 64 + addr % 2 ^ 48 * 2 ^ 72
    + stat % 256 * 2 ^ 120
  let m : ChMsg := { hdr := BitVec.ofNat 128 h, data := [] }
  { m with data := data ++ List.replicate (16 * m.dataSlots - data.length) 0 }

end Sys2Proof

namespace Sys2Proof.Machine

/-! ### Ports and lanes (R381 to R386) -/

def State.chPort (s : State) (p : Nat) : ChPort := s.ch.ports.toList.getD p ChPort.reset
def State.setChPort (s : State) (p : Nat) (x : ChPort) : State :=
  { s with ch := { s.ch with ports := s.ch.ports.setIfInBounds p x } }

def lsDown : Nat := 0
def lsTraining : Nat := 1
def lsUp : Nat := 2
def lsHalf : Nat := 3
def lsFenced : Nat := 4

def State.lstate (s : State) (p : Nat) : Nat := s.fld (CH_STATUS p) CH_STATUS.LSTATE
def State.setLstate (s : State) (p v : Nat) : State := s.setFld (CH_STATUS p) CH_STATUS.LSTATE v
def State.chUp (s : State) (p : Nat) : Bool := s.lstate p == lsUp || s.lstate p == lsHalf

/-- A port that may carry traffic beyond hop-local messages (R399). -/
def State.chUsable (s : State) (p : Nat) : Bool := s.chUp p && !s.flag (CH_STATUS p) CH_STATUS.WIRING

def State.chId (s : State) : Nat := s.fld CH_ID CH_ID.ID
def State.chValid (s : State) : Bool := s.flag CH_ID CH_ID.VALID

/-- Table 12-11: the modes in which the ports carry VC0 and VC1 traffic. -/
def State.chTraffic (s : State) : Bool := (s.st.base == 4 || s.st.base == 6) && s.st.wipe.isNone

/-- The modes in which a port may train. -/
def State.chPowered (s : State) : Bool := (s.st.base == 2 || s.st.base == 4 || s.st.base == 6) && s.st.wipe.isNone
  && !s.flag ST_BOOT ST_BOOT.TADPOLE

/-- R383: a port trains, keeping its replay buffer and sequence numbers. -/
def State.chRetrain (s : State) (p : Nat) : State :=
  if s.chUp p || s.lstate p == lsTraining then
    (s.setLstate p lsTraining).setChPort p { s.chPort p with train := .again }
  else s

/-! ### Routing (R396, R408) -/

def State.ringN (s : State) : Nat := s.fld CH_RING CH_RING.SIZE + 1
def State.ringPos (s : State) : Nat := s.fld CH_RING CH_RING.POS

/-- The ring port of a direction. -/
def State.ringPort (s : State) (west : Bool) : Option Nat :=
  if !s.flag CH_RING CH_RING.EN then none
  else (upTo 8).find? (fun p => s.fld (CH_CTL p) CH_CTL.ROLE == (if west then 2 else 1))

/-- The direction a port lies in, for a ring port. -/
def State.ringDir (s : State) (p : Nat) : Option Bool :=
  if s.ringPort false = some p then some false else if s.ringPort true = some p then some true else none

/-- R408: whether link `f` lies on the way from position `p` to position `y` in a direction. -/
def lies (n p y f : Nat) (west : Bool) : Bool :=
  if west then decide ((p + 2 * n - f - 1) % n < (p + n - y) % n) else decide ((f + n - p) % n < (y + n - p) % n)

/-- Failed links that are valid. -/
def State.failed (s : State) : List Nat :=
  (if s.flag CH_RING CH_RING.FAIL_A_V then [s.fld CH_RING CH_RING.FAIL_A] else [])
    ++ (if s.flag CH_RING CH_RING.FAIL_B_V then [s.fld CH_RING CH_RING.FAIL_B] else [])

/-- The direction a new message to a ring position takes. -/
def State.ringWay (s : State) (d : Nat) : Bool :=
  let y := s.fld (CH_ROUTE d) CH_ROUTE.POS
  let w := s.flag (CH_ROUTE d) CH_ROUTE.DIR
  let bad := fun w => s.failed.any (fun f => lies s.ringN s.ringPos y f w)
  if bad w && !bad (!w) then !w else w

/-- Where a message goes. -/
inductive ChRoute
  | here
  | port (p : Nat)
  | turn (p : Option Nat)
  | none
  deriving DecidableEq, Repr

/-- Whether a destination is reached around the ring from here. -/
def State.onRing (s : State) (d : Nat) : Bool :=
  s.flag (CH_ROUTE d) CH_ROUTE.RING && s.flag CH_RING CH_RING.EN && decide (s.fld (CH_ROUTE d) CH_ROUTE.POS ≠ s.ringPos)

/-- R396: the route of a message that came from a port (8: injected here). -/
def State.chRoute (s : State) (m : ChMsg) (src : Nat) : ChRoute :=
  let d := m.dst
  if d = s.chId then .here
  else if !s.flag (CH_ROUTE d) CH_ROUTE.VALID then .none
  else if !s.onRing d then
    (if s.chUsable (s.fld (CH_ROUTE d) CH_ROUTE.PORT) then .port (s.fld (CH_ROUTE d) CH_ROUTE.PORT) else .none)
  else
    let w := match s.ringDir src with
      | some from_ => !from_
      | none => s.ringWay d
    match s.ringPort w with
    | none => .none
    | some p => if s.chUsable p then .port p else .turn (some p)

/-- A message put into a port's egress. -/
def State.chEnqueue (s : State) (p : Nat) (m : ChMsg) : State :=
  let m := if s.flag (CH_CTL p) CH_CTL.DATELINE then m.set 8 1 1 else m
  let x := s.chPort p
  s.setChPort p { x with queue := x.queue ++ [m] }

def State.chInbox (s : State) (src : Nat) (m : ChMsg) : State := { s with ch := { s.ch with inbox := s.ch.inbox ++ [(src, m)] } }

/-- TTL at injection (R397). -/
def State.chTtl (s : State) : Nat := max 1 (s.fld CH_CFG CH_CFG.TTL)

/-- The answer ERRRSP to a request (R393). -/
def State.errAnswer (s : State) (m : ChMsg) (code : Nat) : ChMsg :=
  (ChMsg.make mtERRRSP 1 m.src s.chId m.tag code 0 0 1 0 0 false []).set 48 4 s.chTtl

/-! ### Transit (R408 to R414) -/

/-- R411: the direction a message took before the change that Transit makes, when the change affects it and the MARK of
its VC and direction is still out. -/
def State.heldDir (s : State) (m : ChMsg) : Option Bool :=
  let d := m.dst
  if !s.flag CH_RING CH_RING.TRANSIT || !s.onRing d || decide (2 ≤ m.vc) then none
  else
    let w := s.flag (CH_ROUTE d) CH_ROUTE.DIR
    let f := s.fld CH_RING CH_RING.FAIL_A
    let hit := lies s.ringN s.ringPos (s.fld (CH_ROUTE d) CH_ROUTE.POS) f w
    let old := if s.flag CH_RING CH_RING.FAIL_A_V then w else !w
    if hit && s.ch.marks.contains (m.vc, old) then some old else none

/-- A message on its way from this device (R396, R409, R411): taken here, sent, held, turned, or without a route. The
fuel covers the answer that a request without a route receives. -/
def chPut : Nat → State → ChMsg → Nat → State
  | 0, s, _, _ => s
  | n + 1, s, m, src =>
    let noPath := fun (s : State) => if m.isReq then chPut n s (s.errAnswer m xrUnreachable) 8 else s
    match s.chRoute m src with
    | .here => s.chInbox src m
    | .none => noPath s
    | .port p =>
      match (if (s.ringDir src).isSome then none else s.heldDir m) with
      | some w => { s with ch := { s.ch with held := s.ch.held ++ [{ msg := m, west := w }] } }
      | none => s.chEnqueue p m
    | .turn p =>
      if s.ch.dead = p ∧ s.ch.recDone = false then { s with ch := { s.ch with deadQ := s.ch.deadQ ++ [m] } }
      else if m.turned then noPath s
      else
        let back := match p with
          | some x => s.ringPort (decide (s.ringPort false = some x))
          | none => none
        match back with
        | some b => if s.chUsable b then s.chEnqueue b (m.set 9 1 1) else noPath s
        | none => noPath s

def State.chSend (s : State) (m : ChMsg) (src : Nat) : State := chPut 3 s m src

/-- A message injected by this device. -/
def State.chInject (s : State) (m : ChMsg) : State := s.chSend ((m.set 24 12 s.chId).set 48 4 s.chTtl) 8

/-- A request answered with an error code; responses and other messages are lost. -/
def State.chFail (s : State) (m : ChMsg) (code : Nat) : State := if m.isReq then s.chSend (s.errAnswer m code) 8 else s

/-- R411: Transit ends once every MARK has returned and, at an end, reconciliation has finished. -/
def State.transitSettle (s : State) : State :=
  if s.flag CH_RING CH_RING.TRANSIT && s.ch.marks.isEmpty && (s.ch.dead.isNone || s.ch.recDone) then
    let s := (s.setFld CH_RING CH_RING.TRANSIT 0).setFld CH_RING CH_RING.RESTORE 0
    let held := s.ch.held
    let s := { s with ch := { s.ch with held := [] } }
    (held.foldl (fun s h => s.chSend h.msg 8) s).overlay ST_MODE.TRANSIT false
  else s

/-- A MARK returns (R411): the messages held behind it leave by their new route. -/
def State.markBack (s : State) (vc : Nat) (west : Bool) : State :=
  if !s.ch.marks.contains (vc, west) then s
  else
    let mine := fun (h : ChHeld) => h.msg.vc == vc && h.west == west
    let out := s.ch.held.filter mine
    let s := { s with ch := { s.ch with marks := s.ch.marks.erase (vc, west), held := s.ch.held.filter (fun h => !mine h) } }
    (out.foldl (fun s h => s.chSend h.msg 8) s).transitSettle

def State.mkMark (s : State) (vc : Nat) : ChMsg :=
  (ChMsg.make mtMARK vc s.chId s.chId 0 0 0 0 1 0 0 false []).set 48 4 s.chTtl

/-- The four MARKs of a device that enters Transit. A MARK for a dead port waits there to be turned. -/
def State.sendMarks (s : State) : State :=
  let out := [(0, false), (0, true), (1, false), (1, true)]
  let s := { s with ch := { s.ch with marks := out } }
  out.foldl (fun s m =>
    match s.ringPort m.2 with
    | none => s.markBack m.1 m.2
    | some p =>
      if s.chUp p then s.chEnqueue p (s.mkMark m.1)
      else if s.ch.dead = some p ∧ s.ch.recDone = false then
        { s with ch := { s.ch with deadQ := s.ch.deadQ ++ [s.mkMark m.1] } }
      else s.markBack m.1 m.2) s

/-- TRANSIT_ENTRY (R411). -/
def State.transitIn (s : State) : State :=
  let s := s.setFld CH_RING CH_RING.TRANSIT 1
  let s := if s.st.base = 6 then s.overlay ST_MODE.TRANSIT true else s
  s.sendMarks

/-- R408, R412: a failed ring link becomes known. `p` is the port that reports. -/
def State.ringFail (s : State) (f p : Nat) : State :=
  let a := s.flag CH_RING CH_RING.FAIL_A_V
  if a && decide (s.fld CH_RING CH_RING.FAIL_A = f) then s
  else if a || s.flag CH_RING CH_RING.TRANSIT then
    if s.flag CH_RING CH_RING.FAIL_B_V then s
    else ((s.setFld CH_RING CH_RING.FAIL_B f).setFld CH_RING CH_RING.FAIL_B_V 1).chRaise p ckPartition
  else ((s.setFld CH_RING CH_RING.FAIL_A f).setFld CH_RING CH_RING.FAIL_A_V 1).transitIn

/-- A flood: out of every UP port except the one it came by (Table 12-5). -/
def State.chFlood (s : State) (m : ChMsg) (src : Nat) : State :=
  (upTo 8).foldl (fun s p => if p ≠ src ∧ s.chUsable p = true then s.chEnqueue p m else s) s

/-- LINKDOWN flooded by this device: the link's ring position, or a restore (R408, R413). -/
def State.floodOwn (s : State) (f : Nat) (restore : Bool) : State :=
  let t := s.ch.floodTag
  let data := toBytes 16 (f % 16 + bit01 restore * 16)
  let m := (ChMsg.make mtLINKDOWN 2 4095 s.chId t 0 0 0 1 0 0 false data).set 48 4 s.chTtl
  let s := { s with ch := { s.ch with floodTag := (t + 1) % 4096, seen := s.ch.seen ++ [(s.chId, t)] } }
  s.chFlood m 8

/-- R413: routes revert through Transit. -/
def State.restoreIn (s : State) : State :=
  if s.flag CH_RING CH_RING.TRANSIT then s
  else
    let s := (s.setFld CH_RING CH_RING.FAIL_A_V 0).setFld CH_RING CH_RING.FAIL_B_V 0
    let s := { s with ch := { s.ch with dead := none, recDone := true } }
    (s.setFld CH_RING CH_RING.RESTORE 1).transitIn

/-- Messages of a port that its partner has not wholly received: those that end in flits after `n`, and the one being
sent (R410). -/
def ChPort.unreceived (x : ChPort) (n : Nat) : List ChMsg :=
  let rest := if x.replay.any (fun f => f.seq == n) then (x.replay.dropWhile (fun f => f.seq != n)).drop 1 else x.replay
  rest.flatMap (fun f => f.ends) ++ x.sending.toList

/-- A message of a dead port turned (R409); a MARK of this device has returned. -/
def State.turnOut (s : State) (p : Nat) (m : ChMsg) : State :=
  if m.ty = mtMARK ∧ m.src = s.chId then s.markBack m.vc (decide (s.ringPort true = some p))
  else if m.turned then s.chFail m xrUnreachable
  else
    match s.ringPort (decide (s.ringPort false = some p)) with
    | some b => if s.chUsable b then s.chEnqueue b (m.set 9 1 1) else s.chFail m xrUnreachable
    | none => s.chFail m xrUnreachable

/-- The queues of a dead port turned: what `first` resends, what waited to leave by it, then what arrived for it. -/
def State.turnAll (s : State) (p : Nat) (first : List ChMsg) : State :=
  let x := s.chPort p
  let q := x.queue
  let d := s.ch.deadQ
  let s := s.setChPort p { x with replay := [], queue := [], sending := none, left := [] }
  let s := { s with ch := { s.ch with deadQ := [], recDone := true } }
  ((first ++ q ++ d).foldl (fun s m => s.turnOut p m) s).transitSettle

/-- A link goes down (R386, R394, R407, R408): its credits are released; in a ring its end enters Transit, elsewhere the
configuration partitions. -/
def State.linkLost (s : State) (p state : Nat) : State :=
  if !(s.chUp p || s.lstate p == lsTraining) then s.setLstate p state
  else
    let starting := (s.chPort p).train == .start
    let s := s.setLstate p state
    let s := s.setFld (CH_CTL p) CH_CTL.RETRAIN 0
    let x := s.chPort p
    let x := { x with part := [], credit := ChPort.reset.credit, owed := ChPort.reset.owed, train := .none, nakRun := 0,
                      nakDue := false, swapReq := none }
    let s := s.setChPort p x
    if starting || !s.chTraffic then s.setChPort p ChPort.reset
    else
      let gone := x.replay.flatMap (fun f => f.ends) ++ x.sending.toList
      match s.ringDir p with
      | none =>
        let s := s.setChPort p ChPort.reset
        let s := gone.foldl (fun s m => s.chFail m xrUnknown) s
        (x.queue.foldl (fun s m => s.chFail m xrUnreachable) s).chRaise p ckPartition
      | some west =>
        let f := if west then (s.ringPos + s.ringN - 1) % s.ringN else s.ringPos
        let other := s.ch.dead.isSome && decide (s.ch.dead ≠ some p)
        let s := s.chRaise p ckLinkDown
        if other then
          let s := s.setChPort p ChPort.reset
          let s := gone.foldl (fun s m => s.chFail m xrUnknown) s
          (x.queue.foldl (fun s m => s.chFail m xrUnreachable) s).ringFail f p
        else
          let s := { s with ch := { s.ch with dead := some p, recDone := false } }
          let s := s.floodOwn f false
          let peer := s.fld (CH_STATUS p) CH_STATUS.PEER_ID
          let rec_ := (ChMsg.make mtRECONCILE 2 peer s.chId 0 0 0 0 1 0 0 false (toBytes 16 x.rxSeq)).set 48 4 s.chTtl
          let s := s.ringFail f p
          match s.ringPort (!west) with
          | some b => if s.chUsable b then s.chEnqueue b rec_ else s
          | none => s

/-! ### Lanes (R384, R385) -/

/-- A lane of a port fenced in the Unit State Table and shown in LANE_FAIL. -/
def State.laneGone (s : State) (p n : Nat) : State :=
  let s := s.setFld (CH_LANE p) (12 + n, 1) 1
  s.ustFence (laneUnit p n) (chSrc p ckLaneSpare)

/-- R384: a logical lane moved to the spare, which is a Regrow of its class (Table 14-14). -/
def State.laneRetire (s : State) (p l : Nat) (ask : Bool) : State :=
  let s := s.regrowOpen (chSrc p ckLaneSpare) (laneUnit p 8) (laneUnit p l)
  let s := (s.setFld (CH_STATUS p) CH_STATUS.SPARE_USED 1).setFld (CH_STATUS p) CH_STATUS.SPARE_OF l
  let s := ((s.laneGone p l).ustState (laneUnit p 8) usBound).regrowClose (laneUnit p 8)
  let s := if ask then s.setChPort p { s.chPort p with swapReq := some l } else s
  s.raise (chSrc p ckLaneSpare) (laneUnit p l) svDegraded

/-- Whether the spare lane is free. -/
def State.spareFree (s : State) (p : Nat) : Bool :=
  !s.flag (CH_STATUS p) CH_STATUS.SPARE_USED && !s.flag (CH_LANE p) (12 + 8, 1)

/-- The physical lane under a logical one. -/
def State.physLane (s : State) (p l : Nat) : Nat :=
  if s.flag (CH_STATUS p) CH_STATUS.SPARE_USED && decide (s.fld (CH_STATUS p) CH_STATUS.SPARE_OF = l) then 8 else l

/-- R385: a logical lane fails with no spare for it: half width, or the link goes down. -/
def State.laneHalf (s : State) (p l : Nat) : State :=
  let s := s.laneGone p (s.physLane p l)
  let x := s.chPort p
  let s := s.setChPort p { x with failed := l :: x.failed }
  let x := s.chPort p
  if x.failed.any (fun i => decide (i < 4)) && x.failed.any (fun i => decide (4 ≤ i)) then s.linkLost p lsDown
  else
    let s := s.setFlag (CH_STATUS p) CH_STATUS.HALF_HI (decide (l < 4))
    (s.chRetrain p).chRaise p ckHalf

/-- A logical lane fails. -/
def State.laneFail (s : State) (p l : Nat) : State :=
  if !s.chUp p || (s.chPort p).failed.contains l then s
  else if s.spareFree p then s.laneRetire p l true
  else s.laneHalf p l

/-- LANE_LOSS: a physical lane loses signal or lock. -/
def State.laneLoss (s : State) (p n : Nat) : State :=
  if n = 8 then
    if s.flag (CH_STATUS p) CH_STATUS.SPARE_USED then s.laneFail p (s.fld (CH_STATUS p) CH_STATUS.SPARE_OF)
    else if s.chUp p && !s.flag (CH_LANE p) (12 + 8, 1) then s.laneGone p 8 else s
  else if s.flag (CH_LANE p) (12 + n, 1) then s
  else s.laneFail p n

/-- A counter moved on by `k`, saturating (R621). -/
def State.countSatBy (s : State) (a : Nat) (f sat : Fld) (k : Nat) : State :=
  let v := s.fld a f + k
  if 2 ^ f.2 - 1 ≤ v then (s.setFld a f (2 ^ f.2 - 1)).setFld a sat 1 else s.setFld a f v

/-- LANE_ERROR_WINDOW (R384): the errored symbols of each logical lane in 1 ms, and what the FEC decoder counted. -/
def State.laneWindow (s : State) (p : Nat) (errs : List Nat) (ce ue : Nat) : State :=
  if !s.chUp p then s
  else
    let s := if 0 < ce then s.countSatBy (CH_ERRS p) CH_ERRS.FEC_CE CH_ERRS.CE_SAT ce else s
    let s := if 0 < ue then s.countSatBy (CH_ERRS p) CH_ERRS.FEC_UE CH_ERRS.UE_SAT ue else s
    let th := 2 ^ s.fld (CH_LANE p) CH_LANE.SPARE_EXP
    (upTo 8).foldl (fun s l => if th < errs.getD l 0 then s.laneFail p l else s) s

/-! ### Link up and training (R383, R395) -/

/-- NBR (R395, R399): the ID with its validity, the port's role and the ring position. -/
def State.nbrMsg (s : State) (p : Nat) : ChMsg :=
  let v := s.chId + bit01 s.chValid * 2 ^ 12 + s.fld (CH_CTL p) CH_CTL.ROLE * 2 ^ 13 + s.ringPos * 2 ^ 15
  ChMsg.make mtNBR 2 4095 s.chId 0 0 0 0 1 0 0 false (toBytes 16 v)

/-- A link comes up afresh: its buffers start empty, and NBR is sent. -/
def State.linkUp (s : State) (p : Nat) : State :=
  let s := s.setChPort p { ChPort.reset with failed := (s.chPort p).failed }
  let s := s.setLstate p (if (s.chPort p).failed.isEmpty then lsUp else lsHalf)
  let s := if s.ch.dead = some p ∧ s.ch.recDone = true then { s with ch := { s.ch with dead := none } } else s
  s.chEnqueue p (s.nbrMsg p)

/-- LINK_TRAIN and REPAIRED_LINK_UP: training ends, with the partner's signal or without it (R383, R417, R413). -/
def State.linkTrain (s : State) (p : Nat) (signal : Bool) : State :=
  if !s.flag (CH_CTL p) CH_CTL.EN || s.lstate p == lsFenced || !s.chPowered || s.chUp p then s
  else
    let again := s.lstate p == lsTraining && (s.chPort p).train == .again
    let s := s.setFld (CH_CTL p) CH_CTL.RETRAIN 0
    if again then
      if signal then
        let x := s.chPort p
        (s.setChPort p { x with train := .none, nakRun := 0 }).setLstate p (if x.failed.isEmpty then lsUp else lsHalf)
      else s.linkLost p lsDown
    else if signal then s.linkUp p
    else (s.setLstate p lsDown).setChPort p { s.chPort p with train := .none }

/-- RETRAIN_TIMEOUT (R386). -/
def State.retrainTimeout (s : State) (p : Nat) : State := if s.lstate p = lsTraining then s.linkLost p lsDown else s

/-- LINK_DOWN (R386): lost signal takes the link down at once; eight NAKs of one flit make it retrain first. -/
def State.linkDown (s : State) (p : Nat) (lost : Bool) : State := if lost then s.linkLost p lsDown else s.chRetrain p

/-- FLIT_ACK_TIMEOUT (R386). -/
def State.ackTimeout (s : State) (p : Nat) : State :=
  if s.chUp p && !(s.chPort p).replay.isEmpty then s.chRetrain p else s

/-- NBR_PERIOD (R395). -/
def State.nbrPeriod (s : State) : State :=
  (upTo 8).foldl (fun s p => if s.chUp p then s.chEnqueue p (s.nbrMsg p) else s) s

/-! ### Requests of this device and their tags (R400, R402, R404) -/

/-- The port a new request leaves by, for its tag's fault source. -/
def State.chExit (s : State) (d : Nat) : Nat :=
  if s.onRing d then (s.ringPort (s.ringWay d)).getD 0 else s.fld (CH_ROUTE d) CH_ROUTE.PORT

/-- A VC0 request sent: without a free tag it waits (none). An ID that is not in force answers UNREACHABLE (R395). -/
def State.chRequest (s : State) (who : ChReq) (m : ChMsg) : Option State :=
  match (upTo 4096).find? (fun t => !s.ch.tags.any (fun x => x.tag == t)) with
  | none => none
  | some t =>
    let m := m.set 36 12 t
    let t : ChTag := { tag := t, who := who, port := s.chExit m.dst, waking := false }
    let s : State := { s with ch := { s.ch with tags := s.ch.tags ++ [t] } }
    some (if s.chValid && s.chTraffic then s.chInject m else s.chInbox 8 (s.errAnswer (m.set 24 12 s.chId) xrUnreachable))

/-- DOORBELL_SEND (R402): CH_DBSEND. -/
def State.dbSend (s : State) (v : Nat) : State :=
  let addr := bitsOf v 12 16 + bitsOf v 28 1 * 2 ^ 16 + bitsOf v 32 16 * 2 ^ 32
  match s.chRequest .bell (ChMsg.make mtDB 0 (bitsOf v 0 12) s.chId 0 0 0 0 1 addr 0 false []) with
  | some s => s
  | none => s.chRaise 0 ckDbErr

/-! ### Requests for this device (R400 to R403) -/

/-- A response on its way to a request's sender. -/
def State.chRespond (s : State) (m : ChMsg) (ty bytes stat : Nat) (poison : Bool) (data : List Byte) : State :=
  s.chInject (ChMsg.make ty 1 m.src s.chId m.tag 0 0 0 bytes 0 stat poison data)

/-- R401: whether a window admits a request. -/
def State.winAdmits (s : State) (w : Nat) (m : ChMsg) : Bool :=
  let a := CH_WIN w
  s.flag a CH_WIN.VALID && decide (s.fld a CH_WIN.SRC_LO ≤ m.src) && decide (m.src ≤ s.fld a CH_WIN.SRC_HI)
    && decide (s.fld a CH_WIN.STORE = m.store) && decide (s.fld a CH_WIN.BASE ≤ m.addr)
    && decide (m.addr + m.bytes - 1 ≤ s.fld a CH_WIN.LIMIT)
    && (if m.ty = mtRD then s.flag a CH_WIN.RD else if m.ty = mtWR then s.flag a CH_WIN.WR else s.flag a CH_WIN.ATOM)

/-- A chain error code from a fabric or store error (Table 10-14). -/
def chCode (e : Nat) : Nat := if e = erTimeout then xrFenced else e

/-- R181, R187: the error that Vector Memory gives an access it does not serve. -/
def State.vmErr (s : State) (a len : Nat) : Nat :=
  if !s.flag VM_STATUS VM_STATUS.READY || decide (s.vmSize < a + len) then erDefault else erFenced

/-- R369, Table 11-5: words of a store written with check bits that decode as a double-bit error. -/
def State.lsSpoil (s : State) (n off len : Nat) : State := { s with lsBad := (s.lsBad ++ lsWordsOf n off len).eraseDups }

/-- Table 12-4: the operation of an ATOM's SUB. -/
def atomSub (n : Nat) : VOpc :=
  match n with
  | 0 => .vaadd
  | 1 => .vamin
  | 2 => .vamax
  | 3 => .vaor
  | 4 => .vaand
  | _ => .vafadd

/-- Requests held until later: for a wake (R403), for a store that wipes, or for a place in an atomic queue. -/
def State.chHold (s : State) (src : Nat) (m : ChMsg) : State := { s with ch := { s.ch with wakeQ := s.ch.wakeQ ++ [(src, m)] } }

/-- R392, R393: an admitted RD, WR or ATOM performed. -/
def State.chPerform (s : State) (src : Nat) (m : ChMsg) : State :=
  if m.store = 15 then
    if !s.vmOk m.addr m.bytes then s.chFail m (chCode (s.vmErr m.addr m.bytes))
    else if m.ty = mtRD then
      match s.vmRead .full m.addr m.bytes with
      | (s, some (d, p)) => s.chRespond m mtRDRSP m.bytes 0 p d
      | (s, none) => s.chFail m xrFenced
    else if m.ty = mtWR then
      match s.vmWrite m.addr (m.data.take m.bytes) m.poison with
      | (s, some merge) => s.chRespond m mtWRACK 1 (bit01 merge) false []
      | (s, none) => s.chFail m xrFenced
    else
      let t := etyOf m.ety
      let e : AtomEl := { unit := s.atomUnitOf m.addr, addr := m.addr, size := t.size, op := .vec (atomSub m.sub), ety := m.ety,
                          aty := m.ety, v := ofBytes (m.data.take t.size), psn := m.poison, src := .chain (Fin.ofNat 8 src) m.src m.tag,
                          lease := 64 + src, world := false }
      match s.atomAdmit e with
      | (s, true) => s
      | (s, false) => s.chHold src m
  else if m.ty = mtRD then
    match s.lsRead m.store false m.addr m.bytes with
    | (s, .ok d) => s.chRespond m mtRDRSP m.bytes 0 false d
    | (s, .err c) => s.chFail m (chCode c)
    | (s, .hold) => s.chHold src m
  else
    match s.lsWrite m.store false m.addr (m.data.take m.bytes) with
    | (s, .ok _) =>
      let s := if m.poison then s.lsSpoil m.store m.addr m.bytes else s
      s.chRespond m mtWRACK 1 0 false []
    | (s, .err c) => s.chFail m (chCode c)
    | (s, .hold) => s.chHold src m

/-- R402: an incoming doorbell. -/
def State.chBell (s : State) (m : ChMsg) : State :=
  let q := m.addr % 65536
  if s.flag CH_CFG CH_CFG.DB_EN && decide (s.qf q QCTX.LOC = 2) && !s.qWorld q then
    let v := bitsOf m.addr 32 16
    let s := if bitAt m.addr 16 then s.doorbell q .chain none (some v) else s.doorbell q .chain (some v) none
    s.chRespond m mtWRACK 1 0 false []
  else s.chFail m xrDenied

/-- RD, WR, ATOM and DB for this device (R401 to R403, Table 12-11). -/
def State.chServe (s : State) (src : Nat) (m : ChMsg) : State :=
  if s.st.holdup || s.st.wipe.isSome then s.chFail m xrFenced
  else if s.st.base = 4 then
    let s := { s with st := { s.st with wake := true } }
    (s.chRespond m mtWAKING 1 0 false []).chHold src m
  else if m.ty = mtDB then s.chBell m
  else if (upTo 8).any (fun w => s.winAdmits w m) then s.chPerform src m
  else (s.chRaise (min 7 src) ckDenied).chFail m xrDenied

/-- The requests held that may be served now, tried again in order. -/
def State.chHeldServe (s : State) : State :=
  if s.ch.wakeQ.isEmpty || decide (s.st.base = 4) then s
  else
    let q := s.ch.wakeQ
    q.foldl (fun s x => s.chServe x.1 x.2) { s with ch := { s.ch with wakeQ := [] } }

/-- The acknowledgement of a chain atomic returns to its sender (R392, R393). -/
def State.chAtomAck (s : State) (src tag : Nat) (a : AtomAck) : State :=
  let req := (ChMsg.make mtATOM 0 s.chId src tag 0 0 15 1 0 0 false [])
  if a.err then s.chFail req xrFenced
  else s.chRespond req mtATOMRSP 1 a.st a.psn (toBytes 16 a.old)

/-! ### Hop-local messages and time (R395, R399, R416) -/

/-- R399: whether a neighbour's role and position fit this port. -/
def State.wiringOk (s : State) (p role pos : Nat) : Bool :=
  let mine := s.fld (CH_CTL p) CH_CTL.ROLE
  if mine = 0 then decide (role = 0)
  else decide (mine + role = 3)
    && (decide (pos = (s.ringPos + 1) % s.ringN) || decide (pos = (s.ringPos + s.ringN - 1) % s.ringN))

/-- NBR received. -/
def State.nbrTake (s : State) (p : Nat) (m : ChMsg) : State :=
  let s := if bitAt (m.d 0 13) 12 then
      (s.setFld (CH_STATUS p) CH_STATUS.PEER_ID (m.d 0 12)).setFld (CH_STATUS p) CH_STATUS.PEER_VALID 1
    else s.setFld (CH_STATUS p) CH_STATUS.PEER_VALID 0
  if s.wiringOk p (m.d 13 2) (m.d 15 4) then s.setFld (CH_STATUS p) CH_STATUS.WIRING 0
  else if s.flag (CH_STATUS p) CH_STATUS.WIRING then s
  else (s.setFld (CH_STATUS p) CH_STATUS.WIRING 1).chRaise p ckWiring

/-- R416: an offset and a delay from the four timestamps; the time base steers by it (R576). -/
def State.timeMeasure (s : State) (t1 t2 t3 t4 : Int) : State :=
  let delay := ((t4 - t1) - (t3 - t2)).tdiv 2
  let off := ((t2 - t1) - (t4 - t3)).tdiv 2
  let s := (s.setRegNat CH_TDELAY 1 (ofInt 24 delay)).setRegNat CH_TOFFSET 2 (ofInt 64 off)
  (s.setFld CH_TIMING CH_TIMING.VALID 1).tbSteer off (2 ^ s.fld CH_TIMING CH_TIMING.PERIOD)

/-- R416: whether this device measures. -/
def State.timeRuns (s : State) : Bool :=
  s.flag CH_TIMING CH_TIMING.EN && !s.flag CH_TIMING CH_TIMING.SOURCE && s.chUp (s.fld CH_TIMING CH_TIMING.UPPORT)

/-- TIME received: a request (SUB 0) is stamped and returned; an answer (SUB 1) brings t2 and t3. -/
def State.timeTake (s : State) (p : Nat) (m : ChMsg) : State :=
  if m.sub = 0 then
    let t := s.st.tb
    s.chEnqueue p (ChMsg.make mtTIME 2 4095 s.chId 0 1 0 0 1 0 0 false (toBytes 8 t ++ toBytes 8 t))
  else
    match s.ch.t1 with
    | some t1 =>
      if p = s.fld CH_TIMING CH_TIMING.UPPORT ∧ s.timeRuns = true then
        { s with ch := { s.ch with t1 := none } }.timeMeasure t1 (m.d 0 64) (m.d 64 64) s.st.tb
      else s
    | none => s

/-- TIME_EXCHANGE (R416): the exchange is made, with the partner's t2 and t3 and the time since t1; or, without its
answer yet, TIME is sent. -/
def State.timeExchange (s : State) (answer : Option (Nat × Nat × Nat)) : State :=
  if !s.timeRuns then s
  else match answer with
    | some (t2, t3, flight) => s.timeMeasure ((s.st.tb : Int) - flight) t2 t3 s.st.tb
    | none =>
      let t := s.st.tb
      let m := ChMsg.make mtTIME 2 4095 s.chId 0 0 0 0 1 0 0 false (toBytes 16 t)
      { s with ch := { s.ch with t1 := some t } }.chEnqueue (s.fld CH_TIMING CH_TIMING.UPPORT) m

/-! ### A message arrives (R391, R396, R397) -/

/-- LINKDOWN received: passed on once; a ring device takes part (R408, R413). -/
def State.linkdownTake (s : State) (p : Nat) (m : ChMsg) : State :=
  if s.ch.seen.contains (m.src, m.tag) then s
  else
    let s := { s with ch := { s.ch with seen := s.ch.seen ++ [(m.src, m.tag)] } }
    let s := s.chFlood m p
    if !s.flag CH_RING CH_RING.EN then s
    else if bitAt (m.d 0 5) 4 then s.restoreIn
    else s.ringFail (m.d 0 4) ((s.ringPort false).getD p)

/-- RECONCILE for this device (R410): what its partner has not wholly received is resent, turned. -/
def State.reconcileTake (s : State) (m : ChMsg) : State :=
  match s.ch.dead with
  | none => s
  | some p => if s.ch.recDone then s else s.turnAll p ((s.chPort p).unreceived (m.d 0 12))

/-- A MARK passes or returns. -/
def State.markTake (s : State) (p : Nat) (m : ChMsg) : State :=
  match s.ringDir p with
  | none => s
  | some west =>
    if m.src = s.chId then s.markBack m.vc (if m.turned then west else !west)
    else match s.ringPort (!west) with
      | none => s
      | some b =>
        if s.chUsable b then s.chEnqueue b m
        else if s.ch.dead = some b ∧ s.ch.recDone = false then { s with ch := { s.ch with deadQ := s.ch.deadQ ++ [m] } }
        else if m.turned then s
        else s.chEnqueue p (m.set 9 1 1)

/-- A message that a port delivers. What is for this device and not handled here goes to its inbox. -/
def State.chArrive (s : State) (p : Nat) (m : ChMsg) : State :=
  if m.ty = 0 then s
  else if !m.ok then s.chRaise p ckProto
  else if m.ty = mtNBR then s.nbrTake p m
  else if m.ty = mtTIME then s.timeTake p m
  else if s.flag (CH_STATUS p) CH_STATUS.WIRING || !s.chValid then s
  else if decide (m.vc ≤ 1) && !s.chTraffic then s
  else if m.ty = mtLINKDOWN then s.linkdownTake p m
  else if m.ty = mtMARK then s.markTake p m
  else if m.dst = s.chId then (if m.ty = mtRECONCILE then s.reconcileTake m else s.chInbox p m)
  else if m.ttl = 0 then (s.chRaise p ckTtl).chFail m xrTtl
  else s.chSend (m.set 48 4 (m.ttl - 1)) p

/-! ### Flits (R387, R388, R394) -/

/-- R394: the next message that may leave: VC2 before VC1 before VC0, in arrival order within a VC, with its credits. -/
def ChPort.pick (x : ChPort) : Option ChMsg :=
  [2, 1, 0].findSome? (fun vc =>
    match x.queue.find? (fun m => m.vc == vc) with
    | some m => if m.dataSlots + 1 ≤ x.credit.getD m.buffer 0 then some m else none
    | none => none)

/-- Slots taken for a flit: at most `n`, with the messages that end among them. -/
def ChPort.fill : Nat → ChPort → List (BitVec 128) × List ChMsg × ChPort
  | 0, x => ([], [], x)
  | n + 1, x =>
    match x.left, x.sending with
    | a :: l, some m =>
      let ends := l.isEmpty
      let x := { x with left := l, sending := if ends then none else some m }
      let (sl, es, x) := x.fill n
      (a :: sl, if ends then m :: es else es, x)
    | _, _ =>
      match x.pick with
      | none => ([], [], x)
      | some m =>
        let l := m.slots.drop 1
        let x := { x with queue := x.queue.erase m, left := l, sending := if l.isEmpty then none else some m,
                          credit := setAt x.credit m.buffer (x.credit.getD m.buffer 0 - (m.dataSlots + 1)) }
        let (sl, es, x) := x.fill n
        (m.hdr :: sl, if l.isEmpty then m :: es else es, x)

/-- A flit sent again, or first sent, with the link header as it stands. -/
def State.flitOut (s : State) (p seq : Nat) (slots : List (BitVec 128)) : State :=
  let x := s.chPort p
  let b := (upTo 6).find? (fun b => decide (0 < x.owed.getD b 0))
  let c := match b with
    | some b => min 4095 (x.owed.getD b 0)
    | none => 0
  let f : ChFlit := { port := p, seq := seq, ack := x.rxSeq, nak := x.nakDue, cvc := b.getD 0, credits := c, swap := x.swapReq,
                      slots := slots }
  let owed := match b with
    | some b => setAt x.owed b (x.owed.getD b 0 - c)
    | none => x.owed
  let s := s.setChPort p { x with owed := owed, nakDue := false, swapReq := none }
  let s := { s with ch := { s.ch with out := s.ch.out ++ [f] } }
  s.countWrap (CH_PERF_TX p) 1 (CH_STATUS p) CH_STATUS.OVF_TX

/-- The next flit of a port's stream: the slots that may leave, filled up with NOPs. With 512 flits unacknowledged no new
one is sent. -/
def State.flitSend (s : State) (p : Nat) : State :=
  let x := s.chPort p
  if !s.chUp p || decide (512 ≤ x.replay.length) then s
  else
    let (sl, es, y) := x.fill 15
    let slots := sl ++ List.replicate (15 - sl.length) 0
    let y := { y with txSeq := (x.txSeq + 1) % 4096,
                      replay := y.replay ++ [{ seq := x.txSeq, slots := slots, ends := es }] }
    (s.setChPort p y).flitOut p x.txSeq slots

/-- R388: the partner's NAK: every flit after its ACK is sent again; the eighth NAK of one flit makes the port retrain. -/
def State.flitNak (s : State) (p ack : Nat) : State :=
  let x := s.chPort p
  let run := if x.nakOf = ack ∧ 0 < x.nakRun then x.nakRun + 1 else 1
  let s := s.setChPort p { x with nakOf := ack, nakRun := run }
  if x.replay.isEmpty then s
  else
    let s := x.replay.foldl (fun s f => s.flitOut p f.seq f.slots) s
    let s := (s.countSatBy (CH_ERRS p) CH_ERRS.REPLAY CH_ERRS.RP_SAT 1).chRaise p ckReplay
    if run == 8 then s.chRetrain p else s

/-- The link header of an intact flit: its acknowledgement, credits, NAK and swap request. -/
def State.flitHeader (s : State) (p : Nat) (f : FlitIn) : State :=
  let x := s.chPort p
  let rest := if x.replay.any (fun r => r.seq == f.ack.toNat) then (x.replay.dropWhile (fun r => r.seq != f.ack.toNat)).drop 1
    else x.replay
  let b := f.cvc.toNat
  let credit := if b < 6 then setAt x.credit b (x.credit.getD b 0 + f.credits.toNat) else x.credit
  let s := s.setChPort p { x with replay := rest, credit := credit }
  let s := match f.swap with
    | some l => if s.spareFree p then s.laneRetire p l.val false else s
    | none => s
  if f.nak then s.flitNak p f.ack.toNat else s

/-- A slot received: it completes a message or waits for the rest of one. -/
def State.slotTake (s : State) (p : Nat) (slot : BitVec 128) : State :=
  let x := s.chPort p
  let part := x.part ++ [slot]
  let m := ChMsg.ofSlots part
  let n := m.dataSlots + 1
  if part.length < n then s.setChPort p { x with part := part }
  else
    let b := m.buffer
    let owed := if m.ty = 0 then x.owed else setAt x.owed b (x.owed.getD b 0 + n)
    (s.setChPort p { x with part := [], owed := owed }).chArrive p m

/-- FLIT_RECEIVE (R388): accepted in order, or discarded and NAKed. The port's own stream moves on by a flit. -/
def State.flitReceive (s : State) (p : Nat) (f : FlitIn) : State :=
  if !s.chUp p then s
  else
    let s := if f.intact then s.flitHeader p f else s
    let x := s.chPort p
    let s := if f.intact && decide (f.seq.toNat = (x.rxSeq + 1) % 4096) then
        let s := s.setChPort p { x with rxSeq := f.seq.toNat }
        let s := s.countWrap (CH_PERF_RX p) 1 (CH_STATUS p) CH_STATUS.OVF_RX
        f.slots.foldl (fun s sl => s.slotTake p sl) s
      else s.setChPort p { x with nakDue := true }
    s.flitSend p

/-! ### Timeouts and modes -/

/-- TRANSIT_TIMEOUT (R410, R412). -/
def State.transitTimeout (s : State) : State :=
  if !s.flag CH_RING CH_RING.TRANSIT then s
  else
    let s := { s with ch := { s.ch with marks := [] } }
    let s := match s.ch.dead with
      | some p =>
        if s.ch.recDone then s
        else
          let gone := (s.chPort p).unreceived 4096
          let s : State := gone.foldl (fun (s : State) m => s.chFail m xrUnknown) s
          s.turnAll p []
      | none => s
    s.transitSettle.chRaise ((s.ringPort false).getD 0) ckTransitLong

/-- A port fenced (R417). -/
def State.chFence (s : State) (p : Nat) : State := s.linkLost p lsFenced

/-- Hold-up (R417): every ring link is flooded as a planned failure. -/
def State.chHoldup (s : State) : State :=
  [false, true].foldl (fun s west =>
    match s.ringPort west with
    | some p => if s.chUp p then s.floodOwn (if west then (s.ringPos + s.ringN - 1) % s.ringN else s.ringPos) false else s
    | none => s) s

/-- Every port down (Tables 12-11 and 15-1). -/
def State.chOff (s : State) : State :=
  { (upTo 8).foldl (fun s p => s.setLstate p lsDown) s with ch := ChainState.reset }

/-- RING_RESTORE (R413). -/
def State.ringRestore (s : State) : State :=
  if s.flag CH_RING CH_RING.TRANSIT then s.setFld CH_RING CH_RING.RESTORE 0
  else ((s.setFld CH_RING CH_RING.RESTORE 0).floodOwn 0 true).restoreIn

/-! ### The CH blocks (R418) -/

/-- The device-wide registers are held once, in CH0's block. -/
def chCanon (a : Nat) : Nat :=
  let off := (a - 0xA00000) % 0x10000
  if 0x1000 ≤ off then 0xA00000 + off else a

/-- A word of a CH block written, and what the write starts. -/
def State.chWord (s : State) (a v : Nat) : State :=
  let p := (a - 0xA00000) / 0x10000
  if a = CH_CTL p then
    let was := s.flag a CH_CTL.EN
    let s := s.wordWrite a v
    if was && !s.flag a CH_CTL.EN then s.linkLost p lsDown
    else
      let s := if !was && s.flag a CH_CTL.EN && s.lstate p == lsDown && s.chPowered then
          (s.setLstate p lsTraining).setChPort p { s.chPort p with train := .start }
        else s
      if !bitAt v 4 then s
      else if s.chUp p then s.chRetrain p
      else if s.flag a CH_CTL.EN && s.lstate p == lsDown && s.chPowered then
        (s.setLstate p lsTraining).setChPort p { s.chPort p with train := .start }
      else if s.lstate p = lsTraining then s else s.setFld a CH_CTL.RETRAIN 0
  else if a = CH_LANE p then
    let s := s.wordWrite a v
    if !bitAt v 4 then s
    else
      let l := s.fld a CH_LANE.FORCE_LANE
      let s := s.setFld a CH_LANE.FORCE 0
      if decide (l < 8) && s.chUp p && s.spareFree p then s.laneRetire p l true else s
  else if a = CH_RING then
    let s := s.wordWrite a v
    if bitAt v 20 then s.ringRestore else s
  else if CH_WIN 0 ≤ a ∧ a < CH_WIN 8 ∧ a % 16 = 0 then s.wordWrite a (v / 128 * 128)
  else s.wordWrite a v

/-- A write to a CH block, its address canonical. -/
def State.chRegWrite (s : State) (m : Master) (a size v : Nat) : State × Option Nat :=
  if CH_DBSEND ≤ a ∧ a < CH_DBSEND + 8 then
    if m.anySup then (s.dbSend v, none) else (s, some erDenied)
  else if !m.secSup then (s, some erDenied)
  else
    let s := s.chWord a (v % 2 ^ 32)
    (if size = 8 then s.chWord (a + 4) (v / 2 ^ 32 % 2 ^ 32) else s, none)

end Sys2Proof.Machine
end

