-- ==== Sys2Proof/Machine/Bm.lean ====
section
/-! DEFINITION. Sys2Proof/Machine/Bm.lean: the Block Mover (R356 to R380): channels and their commands, descriptors,
elements, the check value, the halt on a bus error, and the BM block. -/
namespace Sys2Proof.Machine

/- Fault sources of Table 11-16. -/
def bmBusErr : Nat := 0x110
def bmHaltAutoSrc : Nat := 0x111
def bmDescErr : Nat := 0x112
def bmChkMismatch : Nat := 0x113
def bmPoisonSrc : Nat := 0x114
def bmPowerAbortSrc : Nat := 0x115

def State.bmRaise (s : State) (k sev : Nat) : State := s.raise k bmUnit sev

/- Channel states (Table 11-14) and STATUS codes (Table 11-4). -/
def bsIdle : Nat := 0
def bsRunning : Nat := 1
def bsStopped : Nat := 2
def bsHalted : Nat := 3
def bsParked : Nat := 4
def bcOk : Nat := 0
def bcMismatch : Nat := 1
def bcAborted : Nat := 2
def bcPower : Nat := 3
def bcFenced : Nat := 4
def bcDescErr : Nat := 5

/- Error codes and sides of BM_ERR (Tables 11-6 and 11-11). -/
def beHost : Nat := 6
def beRemote : Nat := 7
def sdRead : Nat := 0
def sdWrite : Nat := 1
def sdDesc : Nat := 2

def State.bmChan (s : State) (c : Nat) : BmChan := s.bm.toList.getD c BmChan.reset
def State.setBmChan (s : State) (c : Nat) (x : BmChan) : State := { s with bm := s.bm.setIfInBounds c x }

def State.bmState (s : State) (c : Nat) : Nat := s.fld (BM_CHST c) BM_CHST.STATE
def State.setBmState (s : State) (c v : Nat) : State := s.setFld (BM_CHST c) BM_CHST.STATE v
def State.bmWorld (s : State) (c : Nat) : Bool := s.flag (BM_CFG c) BM_CFG.WORLD
def State.bmRej (s : State) (c : Nat) : State := s.setFld (BM_CHST c) BM_CHST.REJ 1

/-- Whether channels issue accesses: tested, not halted, held or fenced, and in a mode that runs (R370, R376, R377). -/
def State.bmRuns (s : State) : Bool :=
  s.flag BM_STATUS BM_STATUS.READY && !s.flag BM_STATUS BM_STATUS.HALTED && !s.flag BM_STATUS BM_STATUS.HOLD
    && !s.flag BM_STATUS BM_STATUS.FENCED && modeRuns s.mode

/-! ### Descriptors (Tables 11-1 and 11-2) -/

def BmChan.f (x : BmChan) (lo len : Nat) : Nat := bitsOf x.desc.toNat lo len
def BmChan.step (x : BmChan) (lo len : Nat) : Int := toSigned len (x.f lo len)
def BmChan.ctl (x : BmChan) (lo len : Nat) : Nat := x.f (352 + lo) len
def BmChan.sspace (x : BmChan) : Nat := x.ctl 0 2
def BmChan.dspace (x : BmChan) : Nat := x.ctl 2 2
def BmChan.esize (x : BmChan) : Nat := 2 ^ x.ctl 4 3
def BmChan.op (x : BmChan) : Nat := x.ctl 7 2
def BmChan.chk (x : BmChan) : Bool := decide (x.ctl 9 1 = 1)
def BmChan.next (x : BmChan) : Nat := x.f 384 64
def BmChan.cnt0 (x : BmChan) : Nat := x.f 288 32
def BmChan.cnt1 (x : BmChan) : Nat := x.f 320 16
def BmChan.cnt2 (x : BmChan) : Nat := x.f 336 16

/-- The part of an address that the steps add to, by space (Table 11-3). -/
def bmBase (space a : Nat) : Nat := if space = 2 then a else bitsOf a 0 48

/-- R361: an element's source and destination address. -/
def BmChan.srcAddr (x : BmChan) (i2 i1 i0 : Nat) : Int :=
  bmBase x.sspace (x.f 0 64) + i2 * x.step 160 32 + i1 * x.step 128 32 + i0 * x.step 256 16
def BmChan.dstAddr (x : BmChan) (i2 i1 i0 : Nat) : Int :=
  bmBase x.dspace (x.f 64 64) + i2 * x.step 224 32 + i1 * x.step 192 32 + i0 * x.step 272 16

/-- Whether an address has a must-be-zero bit set or names no store (Table 11-3, R363). -/
def bmAddrBad (space a : Nat) : Bool :=
  if space = 0 then decide (bitsOf a 48 16 ≠ 0)
  else if space = 1 then decide (bitsOf a 52 12 ≠ 0) || decide (8 < bitsOf a 48 4)
  else if space = 3 then decide (bitsOf a 60 4 ≠ 0)
  else false

/-- A BM_DESCc or NEXT value that Table 11-3 does not allow. -/
def bmLinkBad (a : Nat) : Bool :=
  decide (bitsOf a 1 5 ≠ 0) || decide (bitsOf a 52 12 ≠ 0)
    || (if bitAt a 0 then decide (8 < bitsOf a 48 4) else decide (bitsOf a 48 4 ≠ 0))

/-- R363: whether a descriptor fails at its fetch. -/
def BmChan.bad (x : BmChan) : Bool :=
  decide (x.op = 3) || decide (x.ctl 15 17 ≠ 0) || (decide (x.op ≠ 1) && bmAddrBad x.sspace (x.f 0 64))
    || (decide (x.op ≠ 2) && bmAddrBad x.dspace (x.f 64 64)) || (decide (x.ctl 12 1 = 1) && bmLinkBad x.next)

/-- The lowest and highest byte that a loop nest touches. -/
def bmExtent (base s2 s1 s0 : Int) (n2 n1 n0 size : Nat) : Int × Int :=
  let span := fun (s : Int) (n : Nat) => s * ((n - 1 : Nat) : Int)
  let lo := base + min 0 (span s2 n2) + min 0 (span s1 n1) + min 0 (span s0 n0)
  let hi := base + max 0 (span s2 n2) + max 0 (span s1 n1) + max 0 (span s0 n0)
  (lo, hi + size)

/-- R362: whether a copy's source and destination extents overlap, which is an unchecked error. -/
def BmChan.overlap (x : BmChan) : Bool :=
  let same := match x.sspace with
    | 1 => decide (x.f 48 4 = x.f 112 4)
    | 3 => decide (x.f 48 12 = x.f 112 12)
    | _ => true
  let a := bmExtent (x.srcAddr 0 0 0) (x.step 160 32) (x.step 128 32) (x.step 256 16) x.cnt2 x.cnt1 x.cnt0 x.esize
  let b := bmExtent (x.dstAddr 0 0 0) (x.step 224 32) (x.step 192 32) (x.step 272 16) x.cnt2 x.cnt1 x.cnt0 x.esize
  decide (x.op = 0) && decide (x.sspace = x.dspace) && same && decide (a.1 < b.2) && decide (b.1 < a.2)

/-! ### The halt (R370 to R372) -/

/-- BM_HALT (R370): a channel receives an error response. The first one halts the Block Mover. -/
def State.bmError (s : State) (c code side addr : Nat) : State :=
  let s := s.setFld (BM_CHST c) BM_CHST.ERRED 1
  let s := if side = sdDesc then s.setBmChan c { s.bmChan c with descErr := true } else s
  if s.flag BM_STATUS BM_STATUS.HALTED then (s.setBmState c bsHalted).setFld BM_ERR BM_ERR.MULTI 1
  else
    let s := s.setFld BM_STATUS BM_STATUS.HALTED 1
    let s := s.setRegNat BM_ERR 1 (c % 32 + code % 8 * 2 ^ 5 + side % 4 * 2 ^ 8 + 2 ^ 10)
    let s := s.setRegNat BM_ERR_ADDR 2 addr
    let s := s.setBmState c bsHalted
    let s := (upTo 32).foldl (fun s k => if s.bmState k = bsRunning then s.setBmState k bsHalted else s) s
    s.bmRaise bmBusErr (if code = erDefault ∨ code = erDenied then svInfo else svDegraded)

/-- R372: the halt ends; the channels that did not err resume. -/
def State.bmRelease (s : State) : State :=
  let s := s.setFld BM_CTL BM_CTL.RELEASE 0
  if !s.flag BM_STATUS BM_STATUS.HALTED then s
  else
    let s := s.setFld BM_STATUS BM_STATUS.HALTED 0
    (upTo 32).foldl (fun s c =>
      if s.bmState c = bsHalted ∧ s.flag (BM_CHST c) BM_CHST.ERRED = false then s.setBmState c bsRunning else s) s

/-- BM_HALT_AUTO (R372). -/
def State.bmHaltAuto (s : State) : State :=
  if s.flag BM_STATUS BM_STATUS.HALTED then s.bmRelease.bmRaise bmHaltAutoSrc svInfo else s

/-! ### The descriptor in memory -/

/-- A descriptor's address (Table 11-3): its store, none for Vector Memory, and the address of its first byte. -/
def bmPlace (a : Nat) : Option Nat × Nat := (if bitAt a 0 then some (bitsOf a 48 4) else none, bitsOf a 6 42 * 64)

/-- Bytes of a descriptor read. -/
def State.bmLoad (s : State) (c : Nat) : State × Acc (List Byte) :=
  let (st, a) := bmPlace (s.regNat (BM_DESC c) 2)
  match st with
  | some n => s.lsRead n (s.bmWorld c) a 64
  | none =>
    let s := s.vmCount a 1
    match s.vmRead .full a 64 with
    | (s, some (d, _)) => (s, .ok d)
    | (s, none) => (s, .err (s.vmErr a 64))

/-- Bytes written into the descriptor from byte `off` on. -/
def State.bmStore (s : State) (c off : Nat) (data : List Byte) : State × Acc Unit :=
  let (st, a) := bmPlace (s.regNat (BM_DESC c) 2)
  match st with
  | some n => s.lsWrite n (s.bmWorld c) (a + off) data
  | none =>
    match (s.vmCount a 1).vmWrite (a + off) data false with
    | (s, some _) => (s, .ok ())
    | (s, none) => (s, .err (s.vmErr a 64))

/-- The STATUS word (Table 11-4) of a code. -/
def BmStatus (x : BmChan) (code : Nat) : Nat := 1 + code * 2 + bit01 x.spoison * 16 + bit01 x.pmerge * 32

/-- STATUS written with a code and no check value, and LAST. -/
def State.bmStatusWrite (s : State) (c code : Nat) : State × Acc Unit :=
  let (s, r) := s.bmStore c 60 (toBytes 4 (BmStatus (s.bmChan c) code))
  (s.setFld (BM_CHST c) BM_CHST.LAST code, r)

/-- A channel stopped with BM_DESCc as given. -/
def State.bmStop (s : State) (c state : Nat) (desc : Nat) : State :=
  let s := (s.setBmState c state).setRegNat (BM_DESC c) 2 desc
  let s := s.setFld (BM_CHST c) BM_CHST.PAUSE_PEND 0
  s.setBmChan c { s.bmChan c with phase := .idle, asked := false, got := [], gotPsn := false, writes := [], descErr := false }

/-- BM_DESCRIPTOR_FETCH (R359, R363, R364). -/
def State.bmFetch (s : State) (c : Nat) : State :=
  if !s.bmRuns || s.bmState c != bsRunning || (s.bmChan c).phase != .fetch then s
  else
    match s.bmLoad c with
    | (_, .hold) => s
    | (s, .err e) => s.bmError c e sdDesc (s.regNat (BM_DESC c) 2)
    | (s, .ok d) =>
      let x : BmChan := { BmChan.reset with desc := BitVec.ofNat 512 (ofBytes d), phase := .move }
      let s := (s.setBmChan c x).setRegNat (BM_POS c) 2 0
      if x.bad then
        match s.bmStatusWrite c bcDescErr with
        | (s, .ok _) => (s.bmStop c bsStopped (s.regNat (BM_DESC c) 2)).bmRaise bmDescErr svInfo
        | (s, .err e) => s.bmError c e sdDesc (s.regNat (BM_DESC c) 2)
        | (s, .hold) => s.setBmChan c { x with phase := .fetch }
      else
        let s := if x.chk && decide (x.ctl 10 1 = 0) then s.setRegNat (BM_CHK c) 1 0xFFFFFFFF else s
        if x.cnt0 = 0 ∨ x.cnt1 = 0 ∨ x.cnt2 = 0 then s.setBmChan c { x with phase := .finish } else s

/-! ### Elements (R361 to R364, R369) -/

/-- The endpoint and function of a channel's host accesses (R356, R424). -/
def State.bmFunc (s : State) (c : Nat) : Nat × Nat :=
  let h := s.fld (BM_CFG c) BM_CFG.HPORT
  let v := s.fld (BM_CFG c) BM_CFG.FUNC
  if v = 0 then (h * 2, 0) else s.funcOf h 0 v

/-- Whether a channel's host accesses are carried out (R370, R434). -/
def State.bmHostOk (s : State) (c : Nat) : Bool :=
  let f := s.bmFunc c
  s.epUp f.1 && (s.hostEp f.1).bme.contains f.2

/-- The length of the first request of a remote access: it lies within one Granule (R392). -/
def piece (a len : Nat) : Nat := min len (128 - a % 128)

/-- An element's source data with its poison mark: there, an error, or still to come. -/
def State.bmRead (s : State) (c : Nat) (host : Option (List Byte)) (i2 i1 i0 : Nat) : State × Acc (List Byte × Bool) :=
  let x := s.bmChan c
  let n := x.esize
  if x.op = 1 then (s, .ok ((upTo n).map (fun j => BitVec.ofNat 8 (x.f (8 * (j % 8)) 8)), false))
  else
    let a := x.srcAddr i2 i1 i0
    if a < 0 then (s, .err erDefault)
    else
      let a := a.toNat
      match x.sspace with
      | 0 =>
        let s := s.vmCount a 1
        (match s.vmRead .full a n with
        | (s, some d) => (s, .ok d)
        | (s, none) => (s, .err (s.vmErr a n)))
      | 1 =>
        (match s.lsRead (x.f 48 4) (s.bmWorld c) a n with
        | (s, .ok d) => (s, .ok (d, false))
        | (s, .err e) => (s, .err e)
        | (s, .hold) => (s, .hold))
      | 2 =>
        if 2 ^ 64 < a + n ∨ s.bmHostOk c = false then (s, .err beHost)
        else match host with
          | none => (s, .err beHost)
          | some d => if d.length = n then (s, .ok (d, false)) else (s, .hold)
      | _ =>
        if 2 ^ 48 < a + n then (s, .err erDefault)
        else if n ≤ x.got.length then
          (s.setBmChan c { x with got := [], gotPsn := false, asked := false }, .ok (x.got.take n, x.gotPsn))
        else if x.asked then (s, .hold)
        else
          let p := a + x.got.length
          let m := ChMsg.make mtRD 0 (x.f 48 12) 0 0 0 0 15 (piece p (n - x.got.length)) p 0 false []
          match s.chRequest (.bmRead c) m with
          | some s => (s.setBmChan c { s.bmChan c with asked := true }, .hold)
          | none => (s, .hold)

/-- The pieces of a remote write, sent one after another. -/
def State.bmSend (s : State) (c elem crc dev a : Nat) (data : List Byte) (psn : Bool) : Option State :=
  let k := piece a data.length
  let one := fun (s : State) (a : Nat) (d : List Byte) =>
    (s.chRequest (.bmWrite c elem) (ChMsg.make mtWR 0 dev 0 0 0 0 15 d.length a 0 psn d)).map (fun s =>
      s.setBmChan c { s.bmChan c with writes := (s.bmChan c).writes ++ [(elem, crc)] })
  match one s a (data.take k) with
  | none => none
  | some s => if k < data.length then one s (a + k) (data.drop k) else some s

/-- An element written: whether it met Poison, an error, or nothing yet. -/
def State.bmWrite (s : State) (c elem crc i2 i1 i0 : Nat) (data : List Byte) (psn : Bool) : State × Acc Bool :=
  let x := s.bmChan c
  let a := x.dstAddr i2 i1 i0
  if a < 0 then (s, .err erDefault)
  else
    let a := a.toNat
    match x.dspace with
    | 0 =>
      (match (s.vmCount a 1).vmWrite a data psn with
      | (s, some merge) => (s, .ok merge)
      | (s, none) => (s, .err (s.vmErr a data.length)))
    | 1 =>
      (match s.lsWrite (x.f 112 4) (s.bmWorld c) a data with
      | (s, .ok _) => (if psn then s.lsSpoil (x.f 112 4) a data.length else s, .ok false)
      | (s, .err e) => (s, .err e)
      | (s, .hold) => (s, .hold))
    | 2 =>
      if 2 ^ 64 < a + data.length ∨ s.bmHostOk c = false then (s, .err beHost)
      else (s.hostWrite (s.bmFunc c).1 (s.bmFunc c).2 a data psn, .ok false)
    | _ =>
      if 2 ^ 48 < a + data.length then (s, .err erDefault)
      else if 8 ≤ x.writes.length then (s, .hold)
      else match s.bmSend c elem crc (x.f 112 12) a data psn with
        | some s => (s, .ok false)
        | none => (s, .hold)

/-- SPOISON or PMERGE set: CHST.POISON, and BM_POISON once for the descriptor (R369). -/
def State.bmPoison (s : State) (c : Nat) (src merge : Bool) : State :=
  let x := s.bmChan c
  let first := !x.spoison && !x.pmerge
  let s := s.setBmChan c { x with spoison := x.spoison || src, pmerge := x.pmerge || merge }
  if (src || merge) && first then (s.setFld (BM_CHST c) BM_CHST.POISON 1).bmRaise bmPoisonSrc svDegraded else s

/-- The address of an element as BM_ERR_ADDR gives it (Table 11-3). -/
def bmErrAddr (space high : Nat) (a : Int) : Nat :=
  if space = 2 then ofInt 64 a else ofInt 48 a + (if space = 0 then 0 else high * 2 ^ 48)

/-- Element indices after one element. -/
def bmAdvance (x : BmChan) (i2 i1 i0 : Nat) : Nat × Nat × Nat :=
  if i0 + 1 < x.cnt0 then (i2, i1, i0 + 1)
  else if i1 + 1 < x.cnt1 then (i2, i1 + 1, 0)
  else (i2 + 1, 0, 0)

/-- BM_ELEMENT (R361 to R364, R369): one element moved, filled or checked. `host` is the completion of a host read. -/
def State.bmElement (s : State) (c : Nat) (host : Option (List Byte)) : State :=
  let x := s.bmChan c
  if !s.bmRuns || s.bmState c != bsRunning || x.phase != .move then s
  else
    let i0 := s.fld (BM_POS c) BM_POS.I0
    let i1 := s.fld (BM_POS c) BM_POS.I1
    let i2 := s.fld (BM_POS c) BM_POS.I2
    let e := (i2 * x.cnt1 + i1) * x.cnt0 + i0
    match s.bmRead c host i2 i1 i0 with
    | (t, .hold) => if x.sspace = 3 then t else s
    | (t, .err k) => t.bmError c k sdRead (bmErrAddr x.sspace (x.f 48 16) (x.srcAddr i2 i1 i0))
    | (t, .ok (d, psn)) =>
      let (t, d) := if x.overlap then (t.tick, toBytes x.esize t.fresh) else (t, d)
      let crc := t.regNat (BM_CHK c) 1
      let moved := if x.op = 2 then (t, Acc.ok false) else t.bmWrite c e crc i2 i1 i0 d psn
      match moved with
      | (_, .hold) => s
      | (t, .err k) => t.bmError c k sdWrite (bmErrAddr x.dspace (x.f 112 16) (x.dstAddr i2 i1 i0))
      | (t, .ok merge) =>
        let t := if x.chk then t.setRegNat (BM_CHK c) 1 (crc32c crc (d.map BitVec.toNat)) else t
        let t := t.bmPoison c psn merge
        let t := if x.op = 2 then t else t.countWrap BM_PERF_BYTES x.esize BM_STATUS BM_STATUS.OVF_BYTES
        let (j2, j1, j0) := bmAdvance x i2 i1 i0
        let t := t.setRegNat (BM_POS c) 2 (j0 + j1 * 2 ^ 32 + j2 % 65536 * 2 ^ 48)
        if j2 = x.cnt2 then t.setBmChan c { t.bmChan c with phase := .finish } else t

/-! ### The end of a descriptor (R365 to R367) -/

/-- The channel goes on or stops after its write-back (R367, R376). -/
def State.bmNext (s : State) (c code : Nat) : State :=
  let x := s.bmChan c
  let pause := decide (x.ctl 14 1 = 1) || s.flag (BM_CHST c) BM_CHST.PAUSE_PEND
  if code ≠ bcOk then s.bmStop c bsStopped x.next
  else if x.ctl 12 1 = 0 then s.bmStop c bsIdle (s.regNat (BM_DESC c) 2)
  else if pause then s.bmStop c bsStopped x.next
  else
    let s := s.bmStop c (if s.st.quiesce.isSome then bsParked else bsRunning) x.next
    s.setBmChan c { s.bmChan c with phase := .fetch }

/-- BM_DESCRIPTOR_END (R366). -/
def State.bmEnd (s : State) (c : Nat) : State :=
  let x := s.bmChan c
  if !s.bmRuns || s.bmState c != bsRunning || x.phase != .finish || !x.writes.isEmpty then s
  else
    let v := s.regNat (BM_CHK c) 1 ^^^ 0xFFFFFFFF
    let code := if x.chk && decide (x.ctl 11 1 = 1) && decide (v ≠ x.f 448 32) then bcMismatch else bcOk
    let st := toBytes 4 (BmStatus x code)
    match (if x.chk then s.bmStore c 56 (toBytes 4 v ++ st) else s.bmStore c 60 st) with
    | (_, .hold) => s
    | (s, .err e) => s.bmError c e sdDesc (s.regNat (BM_DESC c) 2)
    | (s, .ok _) =>
      let s := s.setFld (BM_CHST c) BM_CHST.LAST code
      let s := if code = bcMismatch then s.bmRaise bmChkMismatch svInfo else s
      let s := if x.ctl 13 1 = 1 ∧ s.flag (BM_CFG c) BM_CFG.MSIX_EN = true then
          s.msix (s.bmFunc c).1 (s.bmFunc c).2 (s.fld (BM_CFG c) BM_CFG.MSIX_VEC) else s
      s.bmNext c code

/-- A channel ended by the device with a code and no check value (R372, R375, R377). -/
def State.bmKill (s : State) (c code : Nat) : State :=
  let s := if (s.bmChan c).descErr then s else (s.bmStatusWrite c code).1
  (s.bmStop c bsStopped (s.regNat (BM_DESC c) 2)).setFld (BM_CHST c) BM_CHST.ERRED 0

/-- BM_POWER_ABORT (R375): a vote held for 1 ms against a power-down that is requested. -/
def State.bmPowerAbort (s : State) (c : Nat) : State :=
  if s.st.quiesce.isSome && (s.bmState c == bsRunning || s.bmState c == bsHalted) then
    (s.bmKill c bcPower).bmRaise bmPowerAbortSrc svInfo
  else s

/-- R376: parked channels fetch NEXT when the device is back in Run. -/
def State.bmUnpark (s : State) : State :=
  (upTo 32).foldl (fun s c => if s.bmState c = bsParked then s.setBmState c bsRunning else s) s

/-- R377: the Block Mover fenced. -/
def State.bmFence (s : State) : State :=
  let s := s.setFld BM_STATUS BM_STATUS.FENCED 1
  (upTo 32).foldl (fun s c =>
    if s.bmState c = bsRunning ∨ s.bmState c = bsHalted ∨ s.bmState c = bsParked then s.bmKill c bcFenced else s) s

/-- R377: Hold-up stops every channel. -/
def State.bmHold (s : State) : State := s.setFld BM_STATUS BM_STATUS.HOLD 1

/-! ### Answers to remote accesses -/

/-- Data of a remote read. -/
def State.bmGot (s : State) (c : Nat) (data : List Byte) (psn : Bool) : State :=
  let x := s.bmChan c
  s.setBmChan c { x with asked := false, got := x.got ++ data, gotPsn := x.gotPsn || psn }

/-- A remote write performed, or refused: then the position and the check register are those of its element (R371). -/
def State.bmAcked (s : State) (c elem : Nat) (merge : Bool) (err : Bool) : State :=
  let x := s.bmChan c
  match x.writes.find? (fun w => w.1 == elem) with
  | none => s
  | some w =>
    let s := (s.setBmChan c { x with writes := x.writes.erase w }).bmPoison c false merge
    if !err then s
    else
      let i0 := elem % x.cnt0
      let i1 := elem / x.cnt0 % x.cnt1
      let i2 := elem / (x.cnt0 * x.cnt1)
      let s := s.setRegNat (BM_POS c) 2 (i0 + i1 * 2 ^ 32 + i2 * 2 ^ 48)
      let s := if x.chk then s.setRegNat (BM_CHK c) 1 w.2 else s
      let s := s.setBmChan c { s.bmChan c with phase := .move }
      s.bmError c beRemote sdWrite (bmErrAddr 3 (x.f 112 16) (x.dstAddr i2 i1 i0))

/-- A remote read refused. -/
def State.bmReadErr (s : State) (c : Nat) : State :=
  let x := s.bmChan c
  let s := s.setBmChan c { x with asked := false, got := [], gotPsn := false }
  let a := x.srcAddr (s.fld (BM_POS c) BM_POS.I2) (s.fld (BM_POS c) BM_POS.I1) (s.fld (BM_POS c) BM_POS.I0)
  s.bmError c beRemote sdRead (bmErrAddr 3 (x.f 48 16) a)

/-! ### The BM block (R357, R378) -/

/-- R357: the masters of a channel. -/
def State.bmMaster (s : State) (m : Master) (c : Nat) : Bool :=
  decide (m.id = 13) || (m.isSeq && m.sup && (m.world == s.bmWorld c)) || (m.isHost && !s.bmWorld c)

/-- BM_CMDc written (Table 11-13): one command, valid in the channel's state, else REJ. -/
def State.bmCmd (s : State) (c v : Nat) : State :=
  let st := s.bmState c
  let halted := s.flag BM_STATUS BM_STATUS.HALTED
  let erred := s.flag (BM_CHST c) BM_CHST.ERRED
  if !s.flag BM_STATUS BM_STATUS.READY || s.flag BM_STATUS BM_STATUS.FENCED || s.flag BM_STATUS BM_STATUS.HOLD
      || (decide (s.st.base = 3) && decide (8 ≤ c)) then s.bmRej c
  else if v = 1 then
    if !halted && (st == bsIdle || st == bsStopped) then
      (s.setBmState c bsRunning).setBmChan c { BmChan.reset with phase := .fetch }
    else s.bmRej c
  else if v = 2 then
    if st = bsRunning ∨ st = bsHalted ∨ st = bsParked then s.setFld (BM_CHST c) BM_CHST.PAUSE_PEND 1 else s.bmRej c
  else if v = 4 then
    if !halted && st == bsHalted && erred then
      let s := (s.setBmState c bsRunning).setFld (BM_CHST c) BM_CHST.ERRED 0
      s.setBmChan c { s.bmChan c with descErr := false, asked := false, got := [], gotPsn := false }
    else s.bmRej c
  else if v = 8 then
    if st == bsHalted && erred then s.bmKill c bcAborted else s.bmRej c
  else s.bmRej c

/-- BM_CFGc written: WORLD by Secure supervisor level and the Starter, the other fields by the channel's masters. -/
def State.bmCfgWrite (s : State) (m : Master) (c v : Nat) : State :=
  let old := s.regNat (BM_CFG c) 1
  let rest := if s.bmMaster m c then v else old
  let new := if m.secSup then setBits rest 0 1 v else setBits rest 0 1 old
  if s.bmState c = bsIdle ∨ s.bmState c = bsStopped then s.wordWrite (BM_CFG c) new else s.bmRej c

/-- A word of the BM block written, or the error it is refused with. -/
def State.bmWord (s : State) (m : Master) (a v : Nat) : State × Option Nat :=
  if a = BM_CTL then
    if !m.secSup then (s, some erDenied)
    else
      let s := s.wordWrite a v
      (if bitAt v 0 then s.bmRelease else s, none)
  else if a < 0x901000 then
    if m.anySup || m.isHost then (s.wordWrite a v, none) else (s, some erDenied)
  else
    let c := (a - 0x901000) / 64
    if a = BM_CFG c then
      if s.bmMaster m c || m.secSup then (s.bmCfgWrite m c v, none) else (s, some erDenied)
    else if !s.bmMaster m c then (s, some erDenied)
    else if a = BM_CMD c then (s.bmCmd c v, none)
    else if a = BM_DESC c ∨ a = BM_DESC c + 4 then
      (if s.bmState c = bsIdle ∨ s.bmState c = bsStopped then s.wordWrite a v else s.bmRej c, none)
    else (s.wordWrite a v, none)

def State.bmRegWrite (s : State) (m : Master) (a size v : Nat) : State × Option Nat :=
  match s.bmWord m a (v % 2 ^ 32) with
  | (s, some e) => (s, some e)
  | (s, none) => if size = 8 then s.bmWord m (a + 4) (v / 2 ^ 32 % 2 ^ 32) else (s, none)

/-- R378: a Secure channel's group reads as zero to the General world and the host ports. -/
def State.bmView (s : State) (m : Master) (a : Nat) : Nat :=
  let hidden := decide (0x901000 ≤ a) && decide (a < 0x901800) && s.bmWorld ((a - 0x901000) / 64)
    && !(m.isSeq && m.world) && !decide (m.id = 13)
  if hidden then 0 else s.regNat a 1

end Sys2Proof.Machine
end

