-- ==== Sys2Proof/Machine/Host.lean ====
section
/-! DEFINITION. Sys2Proof/Machine/Host.lean: host-side events (R434, R435), the mailbox (R432, R433), link up (R437), MSI-X
unmasking (R431) and the HP blocks (R438). -/
namespace Sys2Proof.Machine

/- MB_HCTL (Table 13-12). -/
def MB_HCTL.BUSY : Fld := (1, 1)
def MB_HCTL.DONE : Fld := (2, 1)
def MB_HCTL.DEST : Fld := (3, 1)
def MB_HCTL.LEN : Fld := (5, 9)
def MB_HCTL.RLEN : Fld := (14, 9)

def State.mbFld (s : State) (i : Nat) (f : Fld) : Nat := bitsOf (s.hostEp i).hctl.toNat f.1 f.2
def State.setMbFld (s : State) (i : Nat) (f : Fld) (v : Nat) : State :=
  let e := s.hostEp i
  s.setHostEp i { e with hctl := BitVec.ofNat 32 (setBits e.hctl.toNat f.1 f.2 v) }
def State.mbBusy (s : State) (i : Nat) : Bool := s.mbFld i MB_HCTL.BUSY == 1

/-- The mailbox buffers of an endpoint. -/
def mbReq (i : Nat) : Nat := HP_MB_REQ (i / 2) (i % 2)
def mbRsp (i : Nat) : Nat := HP_MB_RSP (i / 2) (i % 2)

/-- Bytes read from and written to registers. -/
def State.regBytes (s : State) (a n : Nat) : List Byte :=
  (upTo n).map (fun i => BitVec.ofNat 8 ((s.reg ((a + i) / 4 * 4)).toNat / 2 ^ (8 * ((a + i) % 4))))
def State.setRegByte (s : State) (a : Nat) (b : Byte) : State :=
  let w := a / 4 * 4
  s.setReg w (BitVec.ofNat 32 (setBits (s.reg w).toNat (8 * (a % 4)) 8 b.toNat))
def State.setRegBytes (s : State) (a : Nat) : List Byte → State
  | [] => s
  | b :: bs => (s.setRegByte a b).setRegBytes (a + 1) bs

/-! ### Mailbox (R432, R433) -/

/-- ABORT: BUSY and PEND clear, and a later answer is discarded. -/
def State.mbAbort (s : State) (i : Nat) : State := (s.setMbFld i MB_HCTL.BUSY 0).setFld (hpMbctl i) HP_MBCTL.PEND 0

/-- An answer of `n` bytes in the response buffer: RLEN, DONE, BUSY, then the message. -/
def State.mbDone (s : State) (i n : Nat) : State :=
  if !s.mbBusy i then s
  else
    let s := ((s.setMbFld i MB_HCTL.RLEN n).setMbFld i MB_HCTL.DONE 1).setMbFld i MB_HCTL.BUSY 0
    s.msix i 0 (s.fld (hpCtl i) HP_CTL.MB_VEC)

/-- The Starter's answer to a mailbox request. -/
def State.mbAnswer (s : State) (i : Nat) (data : List Byte) : State :=
  if s.mbBusy i then (s.setRegBytes (mbRsp i) (data.take 256)).mbDone i (min 256 data.length) else s

/-- R433: firmware's ANSWER. -/
def State.mbFirmAnswer (s : State) (i : Nat) : State :=
  if s.flag (hpMbctl i) HP_MBCTL.PEND then
    (s.setFld (hpMbctl i) HP_MBCTL.PEND 0).mbDone i (s.fld (hpMbctl i) HP_MBCTL.RLEN)
  else s

/-- The HOST_MAILBOX line of an Oven and world (R433). -/
def State.mbLine (s : State) (o : Nat) (w : Bool) : Bool :=
  (upTo 4).any (fun i => s.flag (hpMbctl i) HP_MBCTL.PEND && s.flag (hpMbctl i) HP_MBCTL.IE
    && decide (s.fld (hpMbctl i) HP_MBCTL.OVEN = o) && (s.flag (hpMbctl i) HP_MBCTL.WORLD == w))

/-! ### Function resets (Table 13-5) -/

/-- The queues of an endpoint's function, or of every function. -/
def State.hostQueues (s : State) (i : Nat) (f : Option Nat) : List Nat :=
  s.liveQueues.filter (fun q => decide (s.qf q QCTX.LOC < 2) && decide ((s.qFunc q).1 = i)
    && (match f with
      | some v => decide ((s.qFunc q).2 = v)
      | none => true))

/-- Pool buffers that an endpoint's function holds, or any of them, return (R315). -/
def State.hostBuffers (s : State) (i : Nat) (f : Option Nat) : State :=
  s.poolReturnAll (fun h => match h, f with
    | .host x v, some u => decide (x = i ∧ v = u)
    | .host x _, none => decide (x = i)
    | _, _ => false)

/-- A function's configuration state at its reset values. -/
def HostEp.clearFunc (e : HostEp) (v : Nat) : HostEp :=
  { e with bme := e.bme.filter (fun x => x != v), msixOn := e.msixOn.filter (fun x => x != v),
           fmask := e.fmask.filter (fun x => x != v), table := e.table.filter (fun x => x.1 / 32768 != v),
           pend := e.pend.filter (fun x => x.1 != v) }

/-- An endpoint's configuration state at its reset values. -/
def HostEp.clearAll (e : HostEp) : HostEp := { e with bme := [], msixOn := [], fmask := [], table := [], pend := [] }

/-- HP_STATUS as the configuration state stands after a reset of the PF. -/
def State.hostCfgReset (s : State) (i : Nat) : State :=
  let s := s.setHostEp i (s.hostEp i).clearAll
  ((s.setFld (hpStatus i) HP_STATUS.NUMVF 0).setFld (hpStatus i) HP_STATUS.VFE 0).setFld (hpStatus i) HP_STATUS.BME 0

/-- VF_FLR. -/
def State.vfFlr (s : State) (i v : Nat) : State :=
  let s := (s.hostQueues i (some v)).foldl (fun s q => s.queueDevReset q) s
  let s := s.hostBuffers i (some v)
  s.setHostEp i ((s.hostEp i).clearFunc v)

/-- PF_FLR: every function of the endpoint. -/
def State.pfFlr (s : State) (i : Nat) : State :=
  let s := (s.hostQueues i none).foldl (fun s q => s.queueDevReset q) s
  (s.hostBuffers i none).hostCfgReset i

/-- VF_ENABLE_CLEAR: every VF. -/
def State.vfEnableClear (s : State) (i : Nat) : State :=
  let vs := (upTo (s.fld (hpStatus i) HP_STATUS.NUMVF)).map (· + 1)
  (vs.foldl (fun s v => s.vfFlr i v) s).setFld (hpStatus i) HP_STATUS.VFE 0

/-- BUS_MASTER_ENABLE_CLEAR. -/
def State.bmeClear (s : State) (i f : Nat) : State :=
  let e := s.hostEp i
  let s := s.setHostEp i { e with bme := e.bme.filter (fun x => x != f) }
  if f = 0 then s.setFld (hpStatus i) HP_STATUS.BME 0 else s

/-! ### Link loss (R434, R435) -/

/-- QUEUE_FAILOVER (R435): a queue moves to endpoint a of the other port. -/
def State.queueMove (s : State) (i q : Nat) : State :=
  let h := 1 - i / 2
  let first := (s.qe.tkts.filter (fun t => t.queue == q && t.at_ == .reading)).head?
  let s := match first with
    | some t => s.setBack t
    | none => s
  let s := ((s.setQf q QCTX.LOC h).setQf q QCTX.FUNC 0).setQf q QCTX.MSIX (s.fld (HP_CTL h 0) HP_CTL.FAILVEC)
  let s := { s with qe := { s.qe with moved := (q, h * 2) :: s.qe.moved.filter (fun x => x.1 != q) } }
  let mine := s.qe.cpls.filter (fun c => c.1 == q)
  mine.foldl (fun s c => s.hostWrite (h * 2) 0 (s.qf q QCTX.CQ_BASE + c.2.1 * 16) (toBytes 16 c.2.2.toNat)) s

/-- Whether a queue of a lost endpoint moves. -/
def State.mayMove (s : State) (i q : Nat) : Bool :=
  let j := (1 - i / 2) * 2
  s.flag (QCTX q) QCTX.FAILOVER && s.flag (hpCtl j) HP_CTL.FAILOVER_EN && s.epUp j

/-- The queues of a lost endpoint move, in ascending number, or stall (Table 9-2). -/
def State.hostLoss (s : State) (i : Nat) : State :=
  let live := (s.hostQueues i none).filter (fun q => s.qState q != qsDisabled)
  let move := live.filter (fun q => s.mayMove i q)
  let stall := live.filter (fun q => !s.mayMove i q && (s.qState q == qsEnabled || s.qState q == qsPaused))
  let s := stall.foldl (fun s q => s.setQf q QCTX.STATE qsStalled) s
  let s := move.foldl (fun s q => s.queueMove i q) s
  let s := if move.isEmpty then s
    else (s.setFld (hpStatus i) HP_STATUS.MOVED 1).raise (hpFailover i) (hostUnit i) svDegraded
  let s := (s.hostBuffers i none).hostCfgReset i
  let s := if s.mbBusy i then s.mbAbort i else s
  s.setHostEp i { s.hostEp i with hctl := 0 }

/-- HOST_LINK_DOWN and PERST: the endpoint goes DOWN. -/
def State.hostLinkDown (s : State) (i : Nat) : State :=
  if s.fld (hpStatus i) HP_STATUS.LSTATE = 0 then s
  else
    let s := s.setFld (hpStatus i) HP_STATUS.LSTATE 0
    let s := ((s.setFld (hpStatus i) HP_STATUS.WIDTH 0).setFld (hpStatus i) HP_STATUS.RATE 0).setFld (hpStatus i) HP_STATUS.FLIT 0
    (s.raise (hpLinkDown i) (hostUnit i) svDegraded).hostLoss i

/-- HOT_RESET: the configuration returns to reset values and the queues move or stall; the link stays. -/
def State.hotReset (s : State) (i : Nat) : State := if s.epUp i then s.hostLoss i else s

/-! ### Link up, unmasking (R437, R431) -/

/-- TotalVFs of an endpoint (R424, Table 13-7). -/
def State.totalVfs (s : State) (i : Nat) : Nat :=
  if s.st.base = 3 then 0 else if i % 2 = 0 then s.vfSplit (i / 2) else 256 - s.vfSplit (i / 2)

/-- The widest link code of an endpoint (R422, R423, Table 13-7). -/
def State.maxWidth (s : State) (i : Nat) : Nat := if s.st.base = 3 then 1 else if s.bifurOf (i / 2) then 2 else 3

/-- Table 13-7: the endpoints that may train in this mode. -/
def State.hostMayTrain (s : State) (i : Nat) : Bool :=
  s.flag (hpCtl i) HP_CTL.EN && s.epExists i && s.unitState (hostUnit i) == usBound
    && (s.st.base == 6 || s.st.base == 4 || (s.st.base == 3 && decide (i = 0))) && !s.st.holdup && s.st.wipe.isNone

/-- HOST_LINK_UP: the endpoint enters UP with what the host set up. -/
def State.hostLinkUp (s : State) (i : Nat) (c : HostCfg) : State :=
  if !s.hostMayTrain i || s.epUp i then s
  else
    let vfs := min c.numVf.val (s.totalVfs i)
    let fs := fun (l : List (Fin 257)) => ((l.map (fun x => x.val)).filter (fun x => decide (x ≤ vfs))).eraseDups
    let e := (s.hostEp i).clearAll
    let s := s.setHostEp i { e with bme := fs c.bme, msixOn := fs c.msix, fmask := fs c.fmask }
    let st := hpStatus i
    let s := (s.setFld st HP_STATUS.LSTATE 2).setFld st HP_STATUS.WIDTH (min c.width.val (s.maxWidth i))
    let s := (s.setFld st HP_STATUS.RATE c.rate.val).setFlag st HP_STATUS.FLIT c.flit
    let s := (s.setFld st HP_STATUS.NUMVF vfs).setFlag st HP_STATUS.VFE (c.vfe && decide (0 < vfs))
    s.setFlag st HP_STATUS.BME ((fs c.bme).contains 0)

/-- Pending vectors of a function that are no longer masked are sent. -/
def State.msixSend (s : State) (i f : Nat) : State :=
  let e := s.hostEp i
  if e.fmask.contains f || !e.msixOn.contains f then s
  else
    let go := e.pend.filter (fun x => x.1 == f && decide (e.tabNat f (x.2 * 16 + 12) 1 % 2 = 0))
    let s := s.setHostEp i { e with pend := e.pend.filter (fun x => !go.contains x) }
    go.foldl (fun s x => s.msix i f x.2) s

/-- MSIX_UNMASK: a vector's mask bit cleared, or the Function Mask of a function. -/
def State.msixUnmask (s : State) (i f : Nat) (vec : Option Nat) : State :=
  let e := s.hostEp i
  let e := match vec with
    | some v => e.setTab f (v * 16 + 12) (e.tab f (v * 16 + 12) &&& 0xFE)
    | none => { e with fmask := e.fmask.filter (fun x => x != f) }
  (s.setHostEp i e).msixSend i f

/-! ### Brumation and Hold-up (Table 13-7) -/

/-- L1 in Brumation and UP again in Run. -/
def State.hostL1 (s : State) (l1 : Bool) : State :=
  (upTo 4).foldl (fun s i => if s.epUp i then s.setFld (hpStatus i) HP_STATUS.LSTATE (if l1 then 3 else 2) else s) s

/-! ### The HP blocks (R438) -/

/-- The endpoint an HP address belongs to. -/
def hpEpOf (a : Nat) : Nat := (a - 0xB00000) / 0x10000 * 2 + (a - 0xB00000) % 0x10000 / 0x4000

/-- The VF that an address of HP_VFCFG configures, port-wide. -/
def hpVfOf (a : Nat) : Nat := ((a - 0xB00000) % 0x10000 - 0x1000) / 16
def hpIsVfcfg (a : Nat) : Bool :=
  decide (0x1010 ≤ (a - 0xB00000) % 0x10000) && decide ((a - 0xB00000) % 0x10000 < 0x2010)

/-- Whether a PF may write a VF's configuration now: its own VF, while that is disabled. -/
def State.vfcfgOpen (s : State) (i a : Nat) : Bool :=
  let h := (a - 0xB00000) / 0x10000
  let v := hpVfOf a
  let split := s.vfSplit h
  let own := if i % 2 = 0 then decide (v ≤ split) else decide (split < v)
  let local_ := if i % 2 = 0 then v else v - split
  let on := s.flag (hpStatus i) HP_STATUS.VFE && decide (local_ ≤ s.fld (hpStatus i) HP_STATUS.NUMVF)
  decide (i / 2 = h) && own && !on

/-- Whether a master is the firmware of a mailbox (R433). -/
def State.mbFirm (s : State) (m : Master) (i : Nat) : Bool :=
  m.isSeq && m.sup && (m.world == s.flag (hpMbctl i) HP_MBCTL.WORLD) && (s.seqOf (s.fld (hpMbctl i) HP_MBCTL.OVEN) == some m.id)

/-- HP_MBCTL written; ANSWER acts and clears. -/
def State.mbctlWrite (s : State) (i v : Nat) : State :=
  let s := (s.wordWrite (hpMbctl i) v).setFld (hpMbctl i) HP_MBCTL.ANSWER 0
  if bitAt v 2 then s.mbFirmAnswer i else s

/-- A word of HP_CTL: endpoint b's BIFUR and VFSPLIT ignore writes. -/
def State.hpCtlWord (s : State) (i a v : Nat) : State :=
  if i % 2 = 0 then s.wordWrite a v
  else if a = hpCtl i then s.wordWrite a (setBits v 1 1 0)
  else s.wordWrite a (setBits v 3 9 0)

def State.hpWord (s : State) (a v : Nat) : State :=
  let i := hpEpOf a
  if a = hpMbctl i then s.mbctlWrite i v
  else if a = hpCtl i ∨ a = hpCtl i + 4 then s.hpCtlWord i a v
  else s.wordWrite a v

/-- A write to an HP block; `ep` is the endpoint that a host's request came through. -/
def State.hpRegWrite (s : State) (m : Master) (ep : Option Nat) (a size v : Nat) : State × Option Nat :=
  let i := hpEpOf a
  let go := fun (s : State) =>
    let s := s.hpWord a (v % 2 ^ 32)
    if size = 8 then s.hpWord (a + 4) (v / 2 ^ 32 % 2 ^ 32) else s
  if m.secSup then (go s, none)
  else if m.isHost && hpIsVfcfg a then
    let j := ep.getD ((m.id - 11) * 2)
    if s.vfcfgOpen j a then (go s, none)
    else (s.raise (hpCfgIgnored j) (hostUnit j) svInfo, some erDenied)
  else if s.mbFirm m i && (decide (mbRsp i ≤ a) && decide (a + size ≤ mbRsp i + 256)) then (go s, none)
  else if s.mbFirm m i && decide (a = hpMbctl i) && decide (size = 4) then
    let old := s.regNat (hpMbctl i) 1
    (s.mbctlWrite i (setBits (v % 2 ^ 32) 12 4 (bitsOf old 12 4)), none)
  else (s, some erDenied)

end Sys2Proof.Machine
end

