-- ==== Sys2Proof/Machine/VecIssue.lean ====
section
/-! DEFINITION. Sys2Proof/Machine/VecIssue.lean: what a V syllable must be (R61, R110), the streams an instruction copies at
issue and their checks (R30 to R32, R43 to R45, R63 to R66), and Chain Groups (R117). -/
namespace Sys2Proof

/-- The number of the vd that serves an operand position. -/
def VSyl.vd (v : VSyl) (p : Nat) : Fin 32 :=
  match p with
  | 0 => v.d
  | 1 => v.a
  | 2 => v.b
  | 3 => v.c
  | _ => v.e

end Sys2Proof

namespace Sys2Proof.Machine

/-! ### Recipes (R106 to R111) -/

/-- One step of a Recipe (Table 3-19). -/
structure RStep where
  op : Option VOpc
  mod : Nat
  form : Nat
  sa : Nat
  sb : Nat
  sc : Nat
  sd : Nat
  se : Bool
  deriving DecidableEq, Repr

/-- The steps of an entry (Table 3-18). -/
def recipeSteps (e : Nat) : List RStep :=
  (upTo (bitsOf e 1 2 + 1)).map (fun i =>
    let w := bitsOf e (32 + 48 * i) 48
    { op := if bitsOf w 0 10 < 0x300 then vopcOf (bitsOf w 0 10) else none, mod := bitsOf w 10 4, form := bitsOf w 14 3,
      sa := bitsOf w 17 3, sb := bitsOf w 20 3, sc := bitsOf w 23 3, sd := bitsOf w 26 2, se := bitAt w 28 })

/-- The source codes that a step's form uses. -/
def RStep.uses (r : RStep) : List Nat :=
  if r.form = fmVV ∨ r.form = fmVVS then [r.sa, r.sb]
  else if r.form = fmVVV then [r.sa, r.sb, r.sc]
  else if r.form = fmVS ∨ r.form = fmV then [r.sa]
  else []

/-- Whether a step reads gS: by its form, or as its opcode's parameter. -/
def RStep.readsG (r : RStep) : Bool :=
  match r.op with
  | some o => o.readsG r.form
  | none => false

/-- R110: the cases of RECIPE_FAULT that a step gives. -/
def RStep.bad (r : RStep) (first een : Bool) : Bool :=
  match r.op with
  | none => true
  | some o =>
    !o.forms.contains r.form || decide (fmG < r.form)
      || (first && ([r.sa, r.sb, r.sc].any (fun c => c == 5 || c == 6)))
      || [r.sa, r.sb, r.sc].contains 7 || decide (r.sd = 3)
      || (decide (r.form = fmVS) && decide (r.sb ≠ 0)) || (decide (r.form = fmVVS) && decide (r.sc ≠ 0))
      || (match o.eRule with
          | .required => !r.se
          | .never => r.se
          | .optional => false)
      || ((r.se || decide (r.sd = 2)) && !een)

/-- R110: whether issuing a Recipe entry takes RECIPE_FAULT. -/
def recipeBad (e : Nat) (een : Bool) : Bool :=
  let ss := recipeSteps e
  !bitAt e 0 || ss.zipIdx.any (fun p => p.1.bad (p.2 == 0) een) || !ss.any (fun r => r.sd != 0 || r.se)

/-- Whether a Recipe reads the stream of D before a step writes it. -/
def recipeReadsD (e : Nat) : Bool :=
  ((recipeSteps e).foldl (fun (p : Bool × Bool) r => (p.1 || (!p.2 && r.uses.contains 1), p.2 || r.sd == 1)) (false, false)).1

/-! ### The V syllable (R60 to R66) -/

/-- R60: the V syllable as its 64-bit word. -/
def vsylWord (o : VOpc) (v : VSyl) : Nat :=
  v.form.toNat + v.b.val * 2 ^ 3 + v.a.val * 2 ^ 8 + v.d.val * 2 ^ 13 + o.opc * 2 ^ 18 + 7 * 2 ^ 28 + bit01 v.b31 * 2 ^ 31
    + v.r34.toNat * 2 ^ 32 + v.mod.toNat * 2 ^ 35 + v.gs.val * 2 ^ 39 + bit01 v.een * 2 ^ 45 + bit01 v.mneg * 2 ^ 46
    + bit01 v.men * 2 ^ 47 + v.m.val * 2 ^ 48 + v.e.val * 2 ^ 53 + v.c.val * 2 ^ 58 + bit01 v.stop * 2 ^ 63

/-- R61, R68, R110: whether a V syllable is illegal. -/
def vecIllegal (o : VOpc) (v : VSyl) : Bool :=
  v.b31 || decide (v.r34 ≠ 0) || !o.forms.contains v.form.toNat || o.modReserved v.mod.toNat || (v.mneg && !v.men)
    || (match o.eRule with
        | .required => !v.een
        | .never => v.een
        | .optional => false)

/-- The data operand positions present (R62, R110), in order. -/
def vecPositions (o : VOpc) (v : VSyl) (entry : Nat) : List Nat :=
  let e := if v.een then [4] else []
  match o with
  | .recipe _ =>
    let used := (recipeSteps entry).flatMap RStep.uses
    0 :: ([1, 2, 3].filter (fun p => used.contains (p + 1))) ++ e
  | _ => formPositions v.form.toNat ++ e

/-- Whether an instruction reads gS at issue. -/
def vecReadsG (o : VOpc) (v : VSyl) (entry : Nat) : Bool :=
  match o with
  | .recipe _ => (recipeSteps entry).any RStep.readsG
  | _ => o.readsG v.form.toNat

/-- The element type of the descriptor at a position, and `d` where the position is absent. -/
def VIns.ty (v : VIns) (p : Nat) (d : ETy) : ETy :=
  match v.streams.find? (fun st => st.key == .data p) with
  | some st => vdEty st.desc
  | none => d

/-- The types of D, A, B and C, absent ones as A (in form G as D). -/
def VIns.types (v : VIns) : ETy × ETy × ETy × ETy :=
  let ta := v.ty 1 (v.ty 0 .u64)
  (v.ty 0 ta, ta, v.ty 2 ta, v.ty 3 ta)

/-- The types of a Recipe step's D, A, B and C and of its second result; `prev` holds those of the step before. -/
def RStep.types (r : RStep) (v : VIns) (prev : ETy × ETy) : ETy × ETy × ETy × ETy × ETy :=
  let (td, tA, tB, tC) := v.types
  let src := fun (c : Nat) (d : ETy) => match c with
    | 1 => td
    | 2 => tA
    | 3 => tB
    | 4 => tC
    | 5 => prev.1
    | 6 => prev.2
    | _ => d
  let ta := if r.form = fmG then td else src r.sa tA
  let tb := src r.sb ta
  let tc := src r.sc ta
  let nat := match r.op with
    | some .vcmp | some .vdcmp => ETy.bit
    | some .vdchk => ETy.u8
    | _ => ta
  let t := if r.sd = 1 then td else if r.sd = 2 then v.ty 4 td else nat
  let te := match r.op with
    | some o => (match o.eKind ta with
      | .status => ETy.u8
      | .carry => ETy.bit
      | _ => t)
    | none => ETy.u8
  (t, ta, tb, tc, te)

/-- The steps of a Recipe with their types. -/
def VIns.steps (v : VIns) : List (RStep × ETy × ETy × ETy × ETy × ETy) :=
  ((recipeSteps v.recipe).foldl (fun (p : List (RStep × ETy × ETy × ETy × ETy × ETy) × ETy × ETy) r =>
    let t := r.types v p.2
    (p.1 ++ [(r, t)], t.1, t.2.2.2.2)) ([], ETy.u8, ETy.u8)).1

/-- The type of the scalar gS (R64): that of A in forms VS, VVS and RED, of D in form G; a parameter is 64 bits wide. -/
def scalarTy (o : VOpc) (form : Nat) (td ta : ETy) : ETy :=
  if form = fmVS ∨ form = fmVVS then ta
  else if form = fmG then td
  else if form = fmRED then (if o = .vcount then .u64 else ta)
  else .u64

/-- Whether gS is a register pair (R64). -/
def VIns.pair (v : VIns) : Bool :=
  let wide := fun (t : ETy) => decide (t.size = 16)
  match v.op with
  | .recipe _ => v.steps.any (fun r => match r.1.op with
    | some o => r.1.readsG && wide (scalarTy o r.1.form r.2.1 r.2.2.1)
    | none => false)
  | o => vecReadsG o v.syl 0 && (let (td, ta, _, _) := v.types; wide (scalarTy o v.syl.form.toNat td ta))

/-- R65: the registers that an instruction leaves pending until it completes. -/
def VIns.pends (v : VIns) : List (Fin 64) := if v.op.writesG then (if v.pair then [v.syl.gs, pairOf v.syl.gs] else [v.syl.gs]) else []

/-- R222: the registers a V syllable names as destinations; a 16 B result is known by the descriptor of A. -/
def vecDests (o : VOpc) (v : VSyl) (vd : Vector VecDesc 32) : List (Fin 64) :=
  if o.writesG then
    if v.form.toNat = fmRED ∧ (vdEty vd[v.a]).size = 16 then [v.gs, pairOf v.gs] else [v.gs]
  else []

/-! ### Streams at issue (R30, R52, R63) -/

/-- The descriptor and segment of a stream, as they stand. -/
def mkStream (vd : Vector VecDesc 32) (sg : Vector SegDesc 64) (key : StreamKey) (i : Fin 32) : Stream :=
  let d := vd[i]
  let n := vdSeg d
  { key := key, desc := d, segNo := n, seg := sg[Fin.ofNat 64 n] }

/-- R52: the streams of an instruction, data operands first, then index streams, then the mask; a Recipe that reads D has
one more, which is no operand of its own. -/
def mkStreams (o : VOpc) (v : VSyl) (entry : Nat) (vd : Vector VecDesc 32) (sg : Vector SegDesc 64) : List Stream :=
  let data := (vecPositions o v entry).map (fun p => (p, mkStream vd sg (.data p) (v.vd p)))
  let idx := data.filterMap (fun x =>
    if vdAmode x.2.desc = 2 then some (mkStream vd sg (.index x.1) (Fin.ofNat 32 (vdIdx x.2.desc))) else none)
  let rd := match o with
    | .recipe _ => if recipeReadsD entry then [mkStream vd sg (.data 5) v.d] else []
    | _ => []
  data.map (fun x => x.2) ++ idx ++ (if v.men then [mkStream vd sg .mask v.m] else []) ++ rd

/-- R52: the descriptor copies that the record shows. -/
def VIns.snaps (v : VIns) : List Stream := (v.streams.filter (fun st => st.key != .data 5)).take 8

def isStore (k : StreamKey) : Bool := isDstKey k
def VIns.loads (v : VIns) : List Stream := v.streams.filter (fun st => !isStore st.key)
def VIns.stores (v : VIns) : List Stream := v.streams.filter (fun st => isStore st.key)

/-- R43: whether a destination meets a source in a way that is not the same stream exactly. -/
def VIns.clash (v : VIns) : Bool :=
  v.stores.any (fun d => v.loads.any (fun x =>
    extOverlap (streamExtent d (streamCount v d.key)) (streamExtent x (streamCount v x.key))
      && !sameStream d (streamCount v d.key) x (streamCount v x.key)))

/-- A step of a Recipe whose MOD is reserved, or whose form wants a source that its code leaves out: R110 names no fault
for it, and no result. -/
def recipeLoose (e : Nat) : Bool :=
  (recipeSteps e).any (fun r => r.uses.contains 0 || (match r.op with | some o => o.modReserved r.mod | none => false))

/-! ### Checks at issue (R32, R64, R70, R97, Table 2-4) -/

/-- Table 2-4, first four rows. -/
def streamBad (st : Stream) : Bool :=
  let d := st.desc
  let t := vdEty d
  t == .rsvd || decide (vdAmode d = 3) || decide (vdIscale d = 3) || (t == .bit && decide (vdAmode d ≠ 0))
    || (match st.key with
        | .index _ => decide (vdAmode d = 2) || !t.isW
        | .mask => t != .bit
        | .data _ => false)

/-- The element types and access modes of an opcode (R70), its E (R71) and the pair rule (R64), for all but a Recipe. -/
def VIns.typeBad (v : VIns) : Bool :=
  let (td, ta, tb, tc) := v.types
  let am := fun p => match v.stream (.data p) with
    | some st => vdAmode st.desc
    | none => 0
  !v.op.typesOk td ta tb tc || v.op.modBadForType v.syl.mod.toNat ta td
    || (v.syl.een && !v.op.eTypeOk td ta (v.ty 4 .u8))
    || (v.op == .vcprs && decide (am 0 ≠ 0)) || (v.op == .vexpd && decide (am 1 ≠ 0)) || (v.op == .vsha256 && decide (am 2 = 2))

/-- R110, R111: the same for a Recipe, step by step, with ATYPES for A. -/
def VIns.recipeTypeBad (v : VIns) : Bool :=
  let tA := v.ty 1 .rsvd
  ((v.stream (.data 1)).isSome && !bitAt (bitsOf v.recipe 8 16) tA.code)
    || v.steps.any (fun x =>
      let (r, td, ta, tb, tc, te) := x
      match r.op with
      | none => true
      | some o => !o.typesOk td ta tb tc || o.modBadForType r.mod ta td || (r.se && decide (v.ty 4 te ≠ te)))

/-- A fault at element 0 whose stream the spec does not single out: what the record says of the stream is free. -/
def State.looseFault (s : State) (cause : Nat) : State × VFault :=
  (s.tick, { k := 0, cause := cause, opnd := s.fresh % 5, fromIdx := false, fromMask := false,
             seg := s.fresh / 8 % 64, off := (s.fresh / 512 : Nat), idx := 0 })

/-- A fault at element 0 of one stream; the offset of an indexed element is not known yet, and free. -/
def State.descFault (s : State) (st : Stream) (cause : Nat) : State × VFault :=
  if vdAmode st.desc < 2 then (s, faultOf st 0 cause (vdOffset st.desc) 0)
  else (s.tick, faultOf st 0 cause (s.fresh : Nat) 0)

/-- R32: the checks made at issue, in the order of Table 2-4. -/
def State.issueFault (s : State) (v : VIns) : State × Option VFault :=
  let some' := fun (p : State × VFault) => (p.1, some p.2)
  let bad := match v.op with
    | .recipe _ => v.recipeTypeBad
    | _ => v.typeBad
  match v.snaps.find? streamBad with
  | some st => some' (s.descFault st vcDesc)
  | none =>
    if bad || (v.pair && decide (v.syl.gs.val % 2 = 1)) then some' (s.looseFault vcDesc)
    else
      match v.streams.find? (fun st => match st.key with
        | .data p => p != 5 && vdLength st.desc != streamCount v st.key
        | _ => false) with
      | some st => some' (s.descFault st vcLength)
      | none =>
        if 3 < v.loads.length ∨ 2 < v.stores.length then some' (s.looseFault vcBudget) else (s, none)

/-! ### Hazards and Chain Groups (R45, R116, R117) -/

/-- Whether a member's destination may be chained from, and a source chained into: not an atomic's (R117), not the packed
stream of VCPRS or VEXPD, whose lanes are not its elements', nor the blocks of VSHA256. -/
def chains (a : VIns) (da : Stream) (b : VIns) (sb : Stream) : Bool :=
  isStore da.key && !isStore sb.key && !a.op.isAtomic && !(a.op == .vcprs && da.key == .data 0)
    && !(b.op == .vexpd && sb.key == .data 1) && !(b.op == .vsha256 && sb.key == .data 2)
    && sameStream da a.n sb b.n && (decide (a.n ≤ 1) || decide (streamStep da.desc ≠ 0))
    && !(segRemote da.seg && a.syl.men)

/-- R45: whether `j` must wait for the earlier `i`; `same` says that they are in one Chain Group. -/
def hazard (i j : VIns) (same : Bool) : Bool :=
  i.streams.any (fun a => j.streams.any (fun b =>
    let ad := isStore a.key
    let bd := isStore b.key
    (ad || bd) && extOverlap (streamExtent a (streamCount i a.key)) (streamExtent b (streamCount j b.key))
      && !(same && chains i a j b) && !(i.atomicDst a.key && j.atomicDst b.key)))

/-- The member and destination a source is chained from: the last earlier member that writes exactly that stream. -/
def chainSrc (ms : List VIns) (v : VIns) (key : StreamKey) : Option (Nat × Nat) :=
  match v.stream key with
  | none => none
  | some st =>
    (((ms.takeWhile (fun m => m.id != v.id)).flatMap (fun m => m.stores.filterMap (fun d =>
      if chains m d v st then some (m.id, (match d.key with | .data p => p | _ => 0)) else none))).getLast?)

/-- R116: the unit classes an instruction takes an instance of. -/
def VIns.units (v : VIns) (chained : Bool) : List VClass :=
  match v.op with
  | .vcopy => if chained then [.add] else []
  | .vrsum => if (v.ty 1 .u64).isP then [.prm, .dec] else [.prm]
  | o => if o.cls = .atomic ∨ o.cls = .control ∨ o.cls = .recipe then [] else [o.cls]

def VIns.chained (v : VIns) (ms : List VIns) : Bool := v.streams.any (fun st => (chainSrc ms v st.key).isSome)

/-- Load streams that take an engine: those that are not chained. -/
def VIns.engines (v : VIns) (ms : List VIns) : Nat := (v.loads.filter (fun st => (chainSrc ms v st.key).isNone)).length

def Seq.group (q : Seq) (g : Nat) : List VIns := q.outs.filter (fun v => v.grp == g)

/-- The pipes of the Oven that sequencer `n` serves. -/
def State.pipesOfSeq (s : State) (n : Fin 9) : List Nat := s.pipesOf (s.ovenOf n)

/-- R117: whether an instruction joins the members `ms` of the open group. -/
def State.joins (s : State) (n : Fin 9) (ms : List VIns) (v : VIns) : Bool :=
  let all := ms ++ [v]
  let used := all.flatMap (fun m => m.units (m.chained all))
  match ms with
  | [] => false
  | f :: _ =>
    decide (ms.length < 4) && !ms.any (fun m => m.op.cls == .recipe || m.op.isAtomic || decide (0 < m.done) || m.fault.isSome)
      && v.op.cls != .recipe && v.chained all && used.all (fun c => decide (used.count c ≤ c.units))
      && decide (all.foldl (fun k m => k + m.engines all) 0 ≤ 3)
      && decide (all.foldl (fun k m => k + m.stores.length) 0 ≤ 2)
      && v.world == f.world && v.sup == f.sup && v.ct == f.ct
      && !ms.any (fun m => hazard m v true)
      && !(s.pipesOfSeq n).any (fun p => s.flag (PIPE_CTL p) PIPE_CTL.CHAIN_DIS)

/-! ### Issue -/

/-- R64: gS as an instruction reads it. -/
def scalarOf (a : Arch) (g : Fin 64) (pair : Bool) : Nat :=
  (a.reg g).toNat + (if pair then (a.reg (pairOf g)).toNat * 2 ^ 64 else 0)

/-- R90, R91: what a reduction, a running sum or a count starts from. -/
def VIns.start (v : VIns) : Nat :=
  match v.op with
  | .recipe _ =>
    (upTo 4).foldl (fun acc i => acc + (v.scal % 2 ^ 64) * 2 ^ (64 * i)) 0
  | o => redInit o (v.types.2.1) v.scal

/-- The Recipe that an opcode executes, none for the others. -/
def State.recipeOf (s : State) (n : Fin 9) (o : VOpc) : Nat :=
  match o with
  | .recipe k => s.regNat (SEQ_RECIPE n.val k.val) 8
  | _ => 0

/-- The streams that a V syllable copies at its issue (R30). -/
def State.issueStreams (s : State) (n : Fin 9) (a : Arch) (o : VOpc) (y : VSyl) : List Stream :=
  mkStreams o y (s.recipeOf n o) a.vd (a.ctx a.world).sg

/-- The element count of an instruction: LENGTH of its first operand (R31). -/
def issueLength (l : List Stream) : Nat :=
  match l with
  | st :: _ => vdLength st.desc
  | [] => 0

/-- A V syllable as the instruction that it issues, before its checks; `spec` names the records it lies under. -/
def State.newVIns (s : State) (n : Fin 9) (a : Arch) (o : VOpc) (y : VSyl) (spec : Nat) : VIns :=
  let streams := s.issueStreams n a o y
  let id := (s.seq n).nextId
  let entry := s.recipeOf n o
  let v : VIns := { id := id, op := o, syl := y, world := a.world, sup := a.sup, ct := a.ct, streams := streams, scal := 0,
                    n := issueLength streams, grp := id, spec := spec, wait := [], done := 0, bufs := [], fault := none,
                    sends := [], unacked := [], acc := 0, accPsn := false, accFl := 0, count := 0, part := [], replays := 0,
                    recipe := entry, unpred := false, ord := id }
  { v with scal := if vecReadsG o y entry then scalarOf a y.gs v.pair else 0 }

/-- Whether a Recipe's steps leave its result open; never of another opcode. -/
def VIns.loose (v : VIns) : Bool :=
  match v.op with
  | .recipe _ => recipeLoose v.recipe
  | _ => false

/-- R30, R41, R45, R117: a V syllable issued by sequencer `n`, under the records up to `spec`. -/
def State.vecIssue (s : State) (n : Fin 9) (a : Arch) (o : VOpc) (y : VSyl) (spec : Nat) : State :=
  let q := s.seq n
  let v := s.newVIns n a o y spec
  let id := q.nextId
  if v.n = 0 then s.setSeq n { q with openGrp := none, nextId := id + 1 }
  else
    let (s, f) := s.issueFault v
    let v := { v with acc := v.start, fault := f, unpred := f.isNone && (v.clash || v.loose) }
    let ms := match q.openGrp with
      | some g => q.group g
      | none => []
    let join := f.isNone && s.joins n ms v
    let g := match ms with
      | m :: _ => if join then m.grp else id
      | [] => id
    let v := { v with grp := g }
    let waits := if f.isSome then [] else (q.outs.filter (fun i => hazard i v (i.grp == g))).map (fun i => i.id)
    s.setSeq n { q with outs := q.outs ++ [{ v with wait := waits }], openGrp := some g, nextId := id + 1 }

end Sys2Proof.Machine
end

