-- ==== Sys2Proof/Machine/VecEval.lean ====
section
/-! DEFINITION. Sys2Proof/Machine/VecEval.lean: what the members of a Chain Group make of one Slice: their operands from the
load buffers or from earlier members (R42, R115), the lanes that are active (R39, R40, R66), and each lane's results. -/
namespace Sys2Proof.Machine

/-! ### One lane -/

/-- The operands of one lane: A, B, C, the value of D a Recipe reads, the four blocks of VSHA256, and the mark. -/
structure LaneIn where
  a : Nat := 0
  b : Nat := 0
  c : Nat := 0
  dOld : Nat := 0
  blk : List Nat := []
  psn : Bool := false
  deriving DecidableEq, Repr

/-- The results of one lane: D and E where there are any, the status element, the flags, and the running sum. -/
structure LaneOut where
  d : Option Nat := none
  e : Option Nat := none
  st : Nat := 0
  fl : Nat := 0
  acc : Nat := 0
  deriving DecidableEq, Repr

/-- What a Recipe carries from step to step: D and E as written, the previous step's results, status, flags and sums. -/
structure RecipeRun where
  d : Option Nat := none
  e : Option Nat := none
  prev : Nat := 0
  prev2 : Nat := 0
  fl : Nat := 0
  acc : Nat := 0
  deriving DecidableEq, Repr

/-- A step of a Recipe on one lane (R108, R110, R111). VSCAN keeps a sum of its own in 64 bits of `acc`. -/
def recipeStep (v : VIns) (i : Nat) (x : LaneIn) (k : Nat) (t : RStep × ETy × ETy × ETy × ETy × ETy) (r : RecipeRun) : RecipeRun :=
  let (st, td, ta, tb, _, te) := t
  match st.op with
  | none => r
  | some o =>
    let src := fun (c : Nat) => match c with
      | 1 => r.d.getD x.dOld
      | 2 => x.a
      | 3 => x.b
      | 4 => x.c
      | 5 => r.prev
      | 6 => r.prev2
      | _ => 0
    let sc := v.scal % 2 ^ (8 * (scalarTy o st.form td ta).size)
    let inp : EIn := { mod := st.mod, td := td, ta := ta, tb := if st.form = fmVS then ta else tb, a := src st.sa,
                       b := if st.form = fmVS then sc else src st.sb, c := if st.form = fmVVS then sc else src st.sc,
                       par := sc, i := i }
    let sum := bitsOf r.acc (64 * k) 64
    let res := match o with
      | .vscan => redCombine .vrsum ta st.mod sum inp.a
      | .vcprs | .vexpd => { d := inp.a }
      | _ => elemOp o inp
    let e2 := match o.eKind ta with
      | .status => res.st ||| (if x.psn then stPSN else 0)
      | _ => res.e
    { d := if st.sd = 1 then some res.d else r.d,
      e := if st.se then some (e2 % 2 ^ te.width) else if st.sd = 2 then some res.d else r.e,
      prev := res.d, prev2 := e2, fl := r.fl ||| res.fl,
      acc := if o = .vscan then setBits r.acc (64 * k) 64 res.d else r.acc }

/-- Element `i` of an instruction: its results from its operands; `acc` is the running sum of VSCAN. -/
def VIns.lane (v : VIns) (i acc : Nat) (x : LaneIn) : LaneOut :=
  let (td, ta, tb, _) := v.types
  let form := v.syl.form.toNat
  let mod := v.syl.mod.toNat
  let sc := v.scal % 2 ^ (8 * (scalarTy v.op form td ta).size)
  let psn := if x.psn then stPSN else 0
  let withE := fun (r : ERes) => match v.op.eKind ta with
    | .status => r.st ||| psn
    | _ => r.e
  match v.op with
  | .recipe _ =>
    let r := v.steps.zipIdx.foldl (fun r t => recipeStep v i x t.2 t.1 r) { acc := acc }
    { d := r.d, e := r.e, fl := r.fl, acc := r.acc }
  | .vscan =>
    let r := redCombine .vrsum ta mod acc x.a
    { d := some r.d, e := some (r.st ||| psn), st := r.st, fl := r.fl, acc := r.d }
  | .vcprs | .vexpd | .vcopy => { d := some x.a, acc := acc }
  | .vsha256 => (let r := sha256 x.a x.c x.blk; { d := some r.1, e := some r.2, acc := acc })
  | .vdchk =>
    let r := elemDec .vdchk { mod := mod, td := td, ta := ta, tb := tb, a := x.a }
    { d := some (r.d ||| psn), fl := 0, acc := acc }
  | o =>
    if o.isAtomic then { d := some x.a, acc := acc }
    else if form = fmRED then { d := some x.a, acc := acc }
    else
      let inp : EIn := { mod := mod, td := td, ta := ta, tb := if form = fmVS then ta else tb, a := x.a,
                         b := if form = fmVS then sc else x.b, c := if form = fmVVS then sc else x.c, par := sc, i := i }
      let r := elemOp o inp
      { d := some r.d, e := some (withE r), st := r.st, fl := r.fl, acc := acc }

/-! ### Addresses -/

/-- The lanes of a Slice, as element numbers. -/
def sliceElems (slice : Nat) : List Nat := (upTo 32).map (fun j => slice * 32 + j)

/-- A lane of a list, if it holds an element. -/
def laneAt (l : List (Option LElem)) (j : Nat) : Option LElem := (l[j]?).getD none

/-- The offset and index value of element `i` of a stream whose index stream has `x` in this lane. -/
def Stream.off (st : Stream) (i : Nat) (x : Int) : Int := elemOffset st.desc i x

/-- The address of the first byte of the element at an offset: of the byte that holds a bit. -/
def Stream.at (st : Stream) (off : Int) : Nat :=
  segBase st.seg + (if vdEty st.desc = .bit then off.toNat / 8 else off.toNat)

/-- The local store number that serves the Oven of sequencer `n`. -/
def State.lsOfSeq (s : State) (n : Fin 9) : Nat := (s.lsOf (s.ovenOf n)).getD 8

/-- Where a stream's bytes are; a remote local store has the issuing Oven's number (R400). -/
def State.tgtOf (s : State) (n : Fin 9) (st : Stream) : Target := segTarget st.seg (s.ovenOf n)

/-- The bits of an element among the bytes that hold it. -/
def elemBits (t : ETy) (off : Int) (bs : List Byte) : Nat :=
  if t = .bit then bitsOf (ofBytes bs) (off.toNat % 8) 1 else ofBytes bs

/-- R57: whether the Granules of some bytes hold Poison or what cannot be corrected. -/
def State.vmPsn (s : State) (a len : Nat) : Bool :=
  (granules a len).any (fun g => s.gcls g == .poisoned || s.gcls g == .uncorrectable)

/-- The element as memory holds it now, for a lane that a chained producer leaves unwritten. -/
def State.peek (s : State) (n : Fin 9) (st : Stream) (off : Int) : LElem :=
  let t := vdEty st.desc
  let a := st.at off
  match s.tgtOf n st with
  | .vm => { v := elemBits t off (memRead s.vm.bytes a t.size), psn := s.vmPsn a t.size }
  | .ls => { v := elemBits t off (memRead s.ls (lsAddr (s.lsOfSeq n) a) t.size), psn := false }
  | _ => { v := s.fresh % 2 ^ t.width, psn := false }

/-! ### One Slice of a group -/

/-- What a member makes of a Slice: the values of D and E by lane, the flags of the lanes that commit, whether one carries
a mark, and the instruction with its partial result moved on. -/
structure SliceOut where
  vid : Nat
  d : List (Option LElem)
  e : List (Option LElem)
  fl : Nat
  psn : Bool
  next : VIns
  deriving DecidableEq, Repr

/-- The lanes of a stream that have arrived. -/
def VIns.bufOf (v : VIns) (key : StreamKey) (slice : Nat) : List (Option LElem) :=
  match v.bufs.find? (fun b => b.key == key && b.slice == slice) with
  | some b => b.lanes
  | none => []

/-- The lanes of a source: chained from an earlier member, where it wrote them, and from memory where it did not; or from
the load buffer. -/
def State.srcLanes (s : State) (n : Fin 9) (ms : List VIns) (outs : List SliceOut) (v : VIns) (key : StreamKey) (slice : Nat) :
    List (Option LElem) :=
  match chainSrc ms v key with
  | none => v.bufOf key slice
  | some (m, p) =>
    match outs.find? (fun o => o.vid == m), v.stream key with
    | some o, some st =>
      let ls := if p = 0 then o.d else o.e
      (sliceElems slice).map (fun i =>
        match laneAt ls (i % 32) with
        | some x => some x
        | none => if i < v.n then some (s.peek n st (st.off i 0)) else none)
    | _, _ => []

/-- R66: whether a lane is active; none while its mask bit is not there. -/
def VIns.act (v : VIns) (mask : List (Option LElem)) (j : Nat) : Option Bool :=
  if v.syl.men then (laneAt mask j).map (fun x => (x.v % 2 == 1) != v.syl.mneg) else some true

/-- The operands of a lane, once all of them are there. -/
def VIns.laneIn (v : VIns) (get : StreamKey → List (Option LElem)) (j : Nat) : Option LaneIn :=
  let need := v.loads.filter (fun st => match st.key with | .data p => !(p == 2 && v.op == .vsha256) | _ => true)
  if need.any (fun st => (laneAt (get st.key) j).isNone) then none
  else
    let val := fun k => (laneAt (get k) j).getD { v := 0, psn := false }
    let blk := if v.op = .vsha256 then (upTo 4).map (fun i => laneAt (get (.data 2)) (4 * j + i)) else []
    if blk.any Option.isNone then none
    else
      some { a := (val (.data 1)).v, b := (val (.data 2)).v, c := (val (.data 3)).v, dOld := (val (.data 5)).v,
             blk := blk.map (fun x => (x.map LElem.v).getD 0),
             psn := need.any (fun st => (val st.key).psn) || blk.any (fun x => (x.map LElem.psn).getD false) }

/-- What `sliceMember` threads from lane to lane. -/
structure LaneRun where
  s : State
  d : List (Option LElem) := []
  e : List (Option LElem) := []
  fl : Nat := 0
  psn : Bool := false
  acc : Nat := 0
  count : Nat := 0
  ok : Bool := true

/-- One lane of a member: outside `lo` to `hi`, or inactive, it gives nothing. An unchecked error leaves every value it
would write free (R28, R43). -/
def VIns.laneRun (v : VIns) (get : StreamKey → List (Option LElem)) (lo hi : Nat) (r : LaneRun) (i : Nat) : LaneRun :=
  let j := i % 32
  let skip : LaneRun := { r with d := r.d ++ [none], e := r.e ++ [none] }
  if i < lo ∨ hi ≤ i then skip
  else
    match v.act (get .mask) j with
    | none => { skip with ok := false }
    | some false =>
      if v.loads.any (fun st => (match st.key with | .index _ => true | _ => false) && (laneAt (get st.key) j).isNone)
      then { skip with ok := false } else skip
    | some true =>
      match v.laneIn get j with
      | none => { skip with ok := false }
      | some x =>
        let o := v.lane i r.acc x
        let free := v.unpred
        let put := fun (w : Option Nat) (z : Nat) => w.map (fun y => { v := if free then z else y, psn := x.psn : LElem })
        { r with s := if free then r.s.tick else r.s, d := r.d ++ [put o.d r.s.fresh], e := r.e ++ [put o.e r.s.fresh],
                 fl := r.fl ||| o.fl, psn := r.psn || x.psn, acc := o.acc, count := r.count + 1 }

/-- R91, R93: a reduction takes the lanes of a Slice: it folds them once the Slice is whole. -/
def VIns.fold (v : VIns) (slice hi : Nat) (lanes : List (Option LElem)) (psn : Bool) : VIns :=
  let ta := v.types.2.1
  let mod := v.syl.mod.toNat
  let all := (upTo 32).map (fun j => match laneAt v.part j with | some x => some x | none => laneAt lanes j)
  if hi < min v.n (slice * 32 + 32) then { v with part := all, accPsn := v.accPsn || psn }
  else
    match redSlice v.op ta mod (all.map (fun x => x.map LElem.v)) with
    | none => { v with part := [], accPsn := v.accPsn || psn }
    | some p =>
      let r := redCombine v.op ta mod v.acc p.d
      { v with acc := r.d, accFl := v.accFl ||| p.fl ||| r.fl, part := [], accPsn := v.accPsn || psn }

/-- A member's part of a Slice, elements `lo` to `hi - 1`; none while an operand is missing. -/
def State.sliceMember (s : State) (n : Fin 9) (ms : List VIns) (outs : List SliceOut) (v : VIns) (slice lo hi : Nat) :
    Option (State × SliceOut) :=
  let get := fun k => s.srcLanes n ms outs v k slice
  let r := (sliceElems slice).foldl (v.laneRun get lo hi) { s := s, acc := v.acc }
  if !r.ok then none
  else
    let red := v.syl.form.toNat == fmRED
    let w := if red then (let w := v.fold slice hi r.d r.psn; { w with count := v.count + r.count })
      else { v with acc := r.acc, count := v.count + r.count, accPsn := v.accPsn || (v.op == .vcprs && r.psn) }
    some (r.s, { vid := v.id, d := if red then [] else r.d, e := if v.syl.een then r.e else [],
                 fl := if v.op.isAtomic then 0 else r.fl, psn := r.psn, next := w })

/-- The members of a group in order, each taking what those before it made. -/
def State.sliceGroup (s : State) (n : Fin 9) (ms : List VIns) (slice lo hi : Nat) : List VIns → List SliceOut →
    Option (State × List SliceOut)
  | [], outs => some (s, outs)
  | v :: vs, outs =>
    match s.sliceMember n ms outs v slice lo hi with
    | none => none
    | some (s', o) => State.sliceGroup s' n ms slice lo hi vs (outs ++ [o])

end Sys2Proof.Machine
end

