-- ==== Sys2Proof/Machine/Vector.lean ====
section
/-! DEFINITION. Sys2Proof/Machine/Vector.lean: the events of vector instructions: stream data arrives (R114, R121, R400), a
Slice commits or is replayed (R124 to R132), committed entries drain (R127), atomics are sent and acknowledged (R99), an
instruction completes (R45, R65), faults enter the record (R46 to R56). -/
namespace Sys2Proof.Machine

/-! ### Small parts -/

/-- R49, R128: whether an instruction still lies beyond an open branch or access shadow. -/
def Seq.isSpec (q : Seq) (v : VIns) : Bool := decide (v.spec ≠ 0) && q.spec.any (fun r => decide (r.id ≤ v.spec))

/-- R46: the element at which a group stops. -/
def stopOf (ms : List VIns) : Option Nat :=
  ms.foldl (fun a v => match v.fault, a with
    | none, a => a
    | some f, none => some f.k
    | some f, some k => some (Nat.min k f.k)) none

/-- An instruction of a sequencer, outstanding or stopped in its record. -/
def Seq.vins (q : Seq) (id : Nat) : Option VIns := (q.outs ++ q.vrec.entries).find? (fun v => v.id == id)

/-- An instruction replaced, wherever it stands. -/
def Seq.setVins (q : Seq) (v : VIns) : Seq :=
  let put := fun (w : VIns) => if w.id = v.id then v else w
  { q with outs := q.outs.map put, vrec := { q.vrec with entries := q.vrec.entries.map put } }

/-- Bits of SEQ_VFLAGS set for a world (R73). -/
def State.vflags (s : State) (n : Nat) (w : Bool) (fl : Nat) : State :=
  let f := if w then SEQ_VFLAGS.S else SEQ_VFLAGS.G
  s.setFld (SEQ_VFLAGS n) f (s.fld (SEQ_VFLAGS n) f ||| fl % 256)

/-- POISON or POISON_MERGE of a world set in SEQ_VSTAT (R57). -/
def State.vpoison (s : State) (n : Nat) (w merge : Bool) : State := s.setFld (SEQ_VSTAT n) (2 * bit01 w + bit01 merge, 1) 1

/-- A performance counter of a pipe moved on; a wrap raises PERF_OVF where OVF_IE is set (R142, R144). -/
def State.pipeCount (s : State) (p reg k : Nat) (ovf : Fld) : State :=
  let wraps := decide (2 ^ 64 ≤ s.regNat reg 2 + k)
  let s := s.countWrap reg k (PIPE_STATUS p) ovf
  if wraps && s.flag (PIPE_CTL p) PIPE_CTL.OVF_IE then s.raise (0x50 + 4 * p + 2) (pipeUnit p) svInfo else s

/-- The pipe that a Slice commits in (R115, R133, R134): none while a spare that takes its side is on the way. -/
def State.slicePipe (s : State) (o slice : Nat) : Option Nat :=
  let bound := s.pipesOf o
  let paired := bound.any (fun p => s.unitPaired (pipeUnit p))
  let side := slice % 2 == 1 && !paired
  let coming := (upTo 18).any (fun p => s.unitState (pipeUnit p) == usRegrow && s.unitOven (pipeUnit p) == o
    && s.unitSide (pipeUnit p) == side)
  if coming then none else s.pipeOf o slice

/-- How many Slices ahead of the Horizon an engine holds (R121). -/
def State.sliceDepth (s : State) (o : Nat) (st : Stream) : Nat :=
  (if (vdEty st.desc).size = 16 then 32 else 64) * max 1 (s.pipesOf o).length

/-! ### Draining (R127, R159, R160, R400) -/

/-- The bytes an entry writes, by address, later elements over earlier ones; a BIT element keeps its byte's other bits. -/
def gather (old : Nat → Byte) (ws : List EWrite) : List (Nat × Option Byte) :=
  ws.foldl (fun m w => match w with
    | .bytes a d _ => d.zipIdx.foldl (fun m x => mput (fun _ => none) m (a + x.2) (some x.1)) m
    | .bit a i v _ =>
      let b := (mget (fun _ => none) m a).getD (old a)
      mput (fun _ => none) m a (some (BitVec.ofNat 8 (setBits b.toNat i 1 (bit01 v))))) []

/-- Runs of bytes with rising addresses, none across a Granule. -/
def runs : List (Nat × Option Byte) → List (Nat × List Byte)
  | [] => []
  | (a, b) :: m =>
    match runs m with
    | (c, d) :: rest => if c = a + 1 ∧ c % 128 ≠ 0 then (a, b.getD 0 :: d) :: rest else (a, [b.getD 0]) :: (c, d) :: rest
    | [] => [(a, [b.getD 0])]

/-- Whether a write that carries a mark touches bytes `a` to `a + len - 1`'s Granules (R160). -/
def marked (ws : List EWrite) (a len : Nat) : Bool :=
  ws.any (fun w => match w with
    | .bytes x d p => p && (granules x d.length).any (fun g => (granules a len).contains g)
    | .bit x _ _ p => p && (granules a len).contains (x / 128))

/-- The Granule-sized blocks of its space that an entry touches. -/
def StoreEntry.blocks (e : StoreEntry) : List Nat :=
  e.writes.flatMap (fun w => match w with
    | .bytes a d _ => granules a d.length
    | .bit a _ _ _ => [a / 128])

def StoreEntry.meets (e : StoreEntry) (t : Target) (gs : List Nat) : Bool := e.tgt == t && e.blocks.any (fun g => gs.contains g)

/-- R46, R219: an error that comes after commit is recorded at the element where its instruction stands. -/
def State.lateVec (s : State) (n : Fin 9) (vid pos : Nat) : State :=
  let q := s.seq n
  match q.outs.find? (fun v => v.id == vid) with
  | none => s
  | some v =>
    let segNo := match v.stream (.data pos) with
      | some st => st.segNo
      | none => 0
    let f : VFault := { k := v.done, cause := vcBus, opnd := pos, fromIdx := false, fromMask := false, seg := segNo,
                        off := (s.fresh : Nat), idx := 0 }
    s.tick.setSeq n (q.setVins { v with fault := worseFault v.fault f })

/-- An entry removed from its store engine. -/
def Seq.dropEntry (q : Seq) (e : StoreEntry) : Seq := { q with cbuf := q.cbuf.erase e }

/-- One run written to Vector Memory for a world: POISON_MERGE, or an error of its instruction. -/
def State.drainRun (s : State) (n : Fin 9) (e : StoreEntry) (bad : Bool) (r : Nat × List Byte) : State :=
  match s.vmWrite r.1 r.2 (bad || marked e.writes r.1 r.2.length) with
  | (s, some merge) => if merge then s.vpoison n.val e.world true else s
  | (s, none) => s.lateVec n e.vid e.pos

/-- One run written to the Oven's local store; a mark is written as check bits that decode as a double-bit error. -/
def State.drainLs (s : State) (n : Fin 9) (e : StoreEntry) (bad : Bool) (r : Nat × List Byte) : State :=
  let ls := s.lsOfSeq n
  match s.lsWrite ls e.world r.1 r.2 with
  | (s, .ok _) =>
    if bad || e.writes.any (fun w => match w with
        | .bytes x d p => p && decide (x < r.1 + r.2.length) && decide (r.1 < x + d.length)
        | .bit x _ _ p => p && decide (r.1 ≤ x) && decide (x < r.1 + r.2.length))
    then s.lsSpoil ls r.1 r.2.length else s
  | (s, _) => s.lateVec n e.vid e.pos

/-- Free request tags of the device (R404). -/
def State.freeTags (s : State) : Nat := 4096 - s.ch.tags.length

/-- A WR of a remote entry; a byte of a remote BIT stream carries free values beside its own bits. -/
def State.drainSend (s : State) (n : Fin 9) (e : StoreEntry) (dev store : Nat) (r : Nat × List Byte) : State :=
  let m := ChMsg.make mtWR 0 dev s.chId 0 0 0 store r.2.length r.1 0 (marked e.writes r.1 r.2.length) r.2
  (s.chRequest (.drain n e.vid e.pos e.slice) m).getD s

/-- STORE_ENTRY_DRAIN of one entry; `bad` says that its buffer holds a double-bit error (R131). -/
def State.drainEntry (s : State) (n : Fin 9) (e : StoreEntry) (bad : Bool) : State :=
  let q := s.seq n
  if !e.missing.isEmpty || e.sent.isSome then s
  else
    match e.tgt with
    | .vm =>
      (runs (gather (fun a => memByte s.vm.bytes a) e.writes)).foldl (fun s r => s.drainRun n e bad r) (s.setSeq n (q.dropEntry e))
    | .ls =>
      let ls := s.lsOfSeq n
      let rs := runs (gather (fun a => memByte s.ls (lsAddr ls a)) e.writes)
      if rs.any (fun r => s.lsCheck ls e.world r.1 r.2.length == some .hold) then s
      else rs.foldl (fun s r => s.drainLs n e bad r) (s.setSeq n (q.dropEntry e))
    | .remote dev store =>
      let fresh := BitVec.ofNat 8 s.fresh
      let rs := runs (gather (fun _ => fresh) e.writes)
      if s.freeTags < rs.length then s
      else
        let put := fun (x : StoreEntry) => if x = e then { x with sent := some rs.length } else x
        rs.foldl (fun s r => s.drainSend n e dev store r) (s.tick.setSeq n { q with cbuf := q.cbuf.map put })
    | _ => s.setSeq n (q.dropEntry e)

/-- STORE_ENTRY_DRAIN: the `k`-th entry, unless an earlier one touches the same bytes' Granules and must go first. -/
def State.storeDrain (s : State) (n : Fin 9) (k : Nat) (bad : Bool) : State :=
  let q := s.seq n
  match q.cbuf[k]? with
  | none => s
  | some e => if (q.cbuf.take k).any (fun x => x.meets e.tgt e.blocks) then s else s.drainEntry n e bad

/-- Every drainable entry of a sequencer, oldest first. -/
def State.drainAll (s : State) (n : Fin 9) : State :=
  (s.seq n).cbuf.foldl (fun s e => s.drainEntry n e false) s

/-- The acknowledgement of one WR of a remote entry. -/
def State.drainAcked (s : State) (n : Fin 9) (vid pos slice : Nat) (merge err : Bool) : State :=
  let q := s.seq n
  match q.cbuf.find? (fun e => e.vid == vid && e.pos == pos && e.slice == slice && e.sent.isSome) with
  | none => s
  | some e =>
    let s := if merge then s.vpoison n.val e.world true else s
    let left := e.sent.getD 1 - 1
    let q := s.seq n
    let put := fun (x : StoreEntry) => if x = e then { x with sent := some left } else x
    let s := s.setSeq n (if left = 0 then q.dropEntry e else { q with cbuf := q.cbuf.map put })
    if err then s.lateVec n vid pos else s

/-! ### STREAM_DATA_ARRIVAL -/

/-- An element an engine fetches: its place in the buffer, its element number, its offset and index value. -/
structure LaneReq where
  slot : Nat
  k : Nat
  off : Int
  idx : Int
  deriving DecidableEq, Repr

/-- R92: the element of A that VEXPD places in position `i`, counted from the Horizon. -/
def VIns.packedAt (v : VIns) (act : Nat → Option Bool) (i : Nat) : Option Nat :=
  if !v.syl.men then some i
  else ((upTo (i - v.done)).foldl (fun (c : Option Nat) j => match c, act (v.done + j) with
    | some c, some b => some (c + bit01 b)
    | _, _ => none) (some v.count))

/-- The requests of a stream for the elements `lo` to `hi - 1`; none while a mask bit or an index is missing. -/
def VIns.reqs (v : VIns) (st : Stream) (get : StreamKey → Nat → Option LElem) (lo hi : Nat) : Option (List LaneReq) :=
  let act := fun i => if v.syl.men then (get .mask i).map (fun x => (x.v % 2 == 1) != v.syl.mneg) else some true
  let elems := (upTo (hi - lo)).map (fun j => lo + j)
  let one := fun (slot k i : Nat) =>
    match st.key with
    | .data p =>
      if vdAmode st.desc = 2 then
        let ik := StreamKey.index (if p = 5 then 0 else p)
        match get ik i, v.stream ik with
        | some x, some ist => (let z := indexValue (vdEty ist.desc) x.v; some { slot := slot, k := k, off := st.off i z, idx := z : LaneReq })
        | _, _ => none
      else some { slot := slot, k := k, off := st.off i 0, idx := 0 : LaneReq }
    | _ => some { slot := slot, k := k, off := st.off i 0, idx := 0 : LaneReq }
  let of := fun (i : Nat) => match st.key with
    | .data p =>
      match act i with
      | none => none
      | some false => some []
      | some true =>
        if p = 2 ∧ v.op = .vsha256 then some ((upTo 4).filterMap (fun b => one (4 * (i % 32) + b) i (4 * i + b)))
        else if p = 1 ∧ v.op = .vexpd then ((v.packedAt act i).bind (one (i % 32) i)).map (fun x => [x])
        else (one (i % 32) i i).map (fun x => [x])
    | _ => (one (i % 32) i i).map (fun x => [x])
  elems.foldl (fun acc i => match acc, of i with
    | some l, some x => some (l ++ x)
    | _, _ => none) (some [])

/-- R27, R46: the first request that fails a check, as a fault. -/
def VIns.checkReqs (v : VIns) (st : Stream) (rs : List LaneReq) : Option VFault :=
  rs.findSome? (fun r =>
    (segCheck st.seg (v.rightOf st.key) v.sup r.off (vdEty st.desc).size (vdEty st.desc == .bit)).map (fun c =>
      let f := faultOf st r.k c r.off r.idx
      { f with opnd := f.opnd % 5 }))

/-- The requests that come before a fault. -/
def before (rs : List LaneReq) (f : Option VFault) : List LaneReq :=
  match f with
  | none => rs
  | some f => rs.takeWhile (fun r => decide (r.k < f.k))

/-- What a fetch gives: the lanes that came, an error response, or nothing where the request must wait. -/
structure Fetched where
  s : State
  lanes : List (Nat × LElem)
  fault : Option VFault
  wait : Bool

/-- R33: an element that is not aligned arrives with a value nothing constrains. -/
def State.elemIn (s : State) (st : Stream) (off : Int) (bs : List Byte) : State × Nat :=
  if elemAligned st.desc st.seg off then (s, elemBits (vdEty st.desc) off bs)
  else (s.tick, s.fresh % 2 ^ (vdEty st.desc).width)

def busFault (st : Stream) (r : LaneReq) : VFault := (let f := faultOf st r.k vcBus r.off r.idx; { f with opnd := f.opnd % 5 })

/-- Elements read from Vector Memory, each Granule once. -/
def State.fetchVm (s : State) (st : Stream) (kind : RdKind) (rs : List LaneReq) : Fetched :=
  let size := (vdEty st.desc).size
  let good := rs.takeWhile (fun r => s.vmOk (st.at r.off) size)
  let gs := (good.flatMap (fun r => granules (st.at r.off) size)).eraseDups
  let fault := (rs[good.length]?).map (busFault st)
  let (s, _) := s.readGranules kind gs
  good.foldl (fun (x : Fetched) r =>
    let a := st.at r.off
    let p := x.s.vmPsn a size
    let (s', v) := x.s.elemIn st r.off (memRead x.s.vm.bytes a size)
    { x with s := s', lanes := x.lanes ++ [(r.slot, { v := v, psn := p })] })
    { s := s, lanes := [], fault := fault, wait := false }

/-- Elements read from the Oven's local store. -/
def State.fetchLs (s : State) (n : Fin 9) (world : Bool) (st : Stream) (rs : List LaneReq) : Fetched :=
  rs.foldl (fun (x : Fetched) r =>
    if x.wait || x.fault.isSome then x
    else
      match x.s.lsRead (s.lsOfSeq n) world (st.at r.off) (vdEty st.desc).size with
      | (s', .ok bs) => (let (s'', v) := s'.elemIn st r.off bs; { x with s := s'', lanes := x.lanes ++ [(r.slot, { v := v, psn := false })] })
      | (s', .err _) => { x with s := s', fault := some (busFault st r) }
      | (_, .hold) => { x with wait := true }) { s := s, lanes := [], fault := none, wait := false }

/-- R400: the reads of a remote stream: unit-stride elements of one Granule share a request, others have one each. -/
def remoteRuns (st : Stream) (rs : List LaneReq) : List (List LaneReq) :=
  if vdAmode st.desc ≠ 0 then rs.map (fun r => [r])
  else
    rs.foldr (fun r acc => match acc with
      | (x :: xs) :: rest => if st.at x.off / 128 = st.at r.off / 128 then (r :: x :: xs) :: rest else [r] :: (x :: xs) :: rest
      | rest => [r] :: rest) []

/-- The RDs of a remote stream sent (R209, R400). -/
def State.fetchRemote (s : State) (n : Fin 9) (vid slice dev store : Nat) (st : Stream) (rs : List LaneReq) : Fetched :=
  let groups := remoteRuns st rs
  if s.freeTags < groups.length then { s := s, lanes := [], fault := none, wait := true }
  else
    let s := groups.foldl (fun s g =>
      match g, g.getLast? with
      | a :: _, some b =>
        let lo := st.at a.off
        let len := st.at b.off + (vdEty st.desc).size - lo
        let m := ChMsg.make mtRD 0 dev s.chId 0 0 0 store len lo 0 false []
        (s.chRequest (.stream n vid st.key slice (g.map LaneReq.slot)) m).getD s
      | _, _ => s) s
    { s := s, lanes := [], fault := none, wait := false }

/-- The lanes of a buffer with some of them filled. -/
def fillLanes (size : Nat) (old : List (Option LElem)) (new : List (Nat × LElem)) : List (Option LElem) :=
  (upTo size).map (fun j => match new.find? (fun x => x.1 == j) with
    | some x => some x.2
    | none => laneAt old j)

def VIns.bufSize (v : VIns) (key : StreamKey) : Nat := if v.op = .vsha256 ∧ key = .data 2 then 128 else 32

/-- A buffer of an instruction replaced, or made. -/
def VIns.setBuf (v : VIns) (key : StreamKey) (slice : Nat) (lanes : List (Option LElem)) : VIns :=
  { v with bufs := v.bufs.filter (fun b => !(b.key == key && b.slice == slice)) ++ [{ key := key, slice := slice, lanes := lanes }] }

/-- Masks and indexes of a Slice as they are known: from a buffer, or chained in the Slice that commits next. -/
def State.knownLane (s : State) (n : Fin 9) (ms : List VIns) (v : VIns) (key : StreamKey) (i : Nat) : Option LElem :=
  let slice := i / 32
  match chainSrc ms v key with
  | none => laneAt (v.bufOf key slice) (i % 32)
  | some _ =>
    if slice ≠ v.done / 32 then none
    else
      let earlier := ms.takeWhile (fun m => m.id != v.id)
      let lane := fun (hi : Nat) => match s.sliceGroup n ms slice v.done hi earlier [] with
        | none => none
        | some (_, outs) => laneAt (s.srcLanes n ms outs v key slice) (i % 32)
      let hi := min v.n (slice * 32 + 32)
      match stopOf ms with
      | none => lane hi
      | some k => (lane (min hi (k + 1))).orElse (fun _ => if i < k then lane (min hi k) else none)

/-- Whether what a load stream brings of a Slice is all there: its buffer, with no lane asked of another device and due. -/
def State.arrived (s : State) (n : Fin 9) (v : VIns) (key : StreamKey) (slice : Nat) : Bool :=
  v.bufs.any (fun b => b.key == key && b.slice == slice) &&
    !s.ch.tags.any (fun t => match t.who with
      | .stream n' vid key' slice' _ => n' == n && vid == v.id && key' == key && slice' == slice
      | _ => false)

/-- Whether a mask bit or an index of an element never comes, since its own stream stopped there (R46). -/
def State.lostLane (s : State) (n : Fin 9) (ms : List VIns) (v : VIns) (key : StreamKey) (i : Nat) : Bool :=
  (s.knownLane n ms v key i).isNone && (match chainSrc ms v key with
    | none => s.arrived n v key (i / 32)
    | some _ => (ms.takeWhile (fun m => m.id != v.id)).all (fun m =>
        m.loads.all (fun st => (chainSrc ms m st.key).isSome || s.arrived n m st.key (i / 32))))

/-- The requests of a Slice up to where the group stops; the element of the stop is left out when its mask bit or its
index never comes. -/
def State.sliceReqs (s : State) (n : Fin 9) (ms : List VIns) (v : VIns) (st : Stream) (lo hi : Nat) : Option (List LaneReq) :=
  let get := fun k i => s.knownLane n ms v k i
  match v.reqs st get lo hi, st.key with
  | some rs, _ => some rs
  | none, .data p =>
    let ik := StreamKey.index (if p = 5 then 0 else p)
    if stopOf ms == some (hi - 1) && ((v.syl.men && s.lostLane n ms v .mask (hi - 1))
        || (vdAmode st.desc == 2 && s.lostLane n ms v ik (hi - 1))) then v.reqs st get lo (hi - 1) else none
  | none, _ => none

/-- Whether an engine may fetch a Slice of a stream now (R45, R115, R121, R214, R215). -/
def State.mayFetch (s : State) (n : Fin 9) (ms : List VIns) (v : VIns) (st : Stream) (slice : Nat) : Bool :=
  let q := s.seq n
  let o := s.ovenOf n
  !isStore st.key && (chainSrc ms v st.key).isNone && v.wait.isEmpty && decide (v.done / 32 ≤ slice)
    && decide (slice < v.done / 32 + s.sliceDepth o st) && !v.bufs.any (fun b => b.key == st.key && b.slice == slice)
    && (s.slicePipe o slice).isSome
    && (!(segSide st.seg || segRemote st.seg) || !q.isSpec v)
    && (!segSide st.seg || (upTo (slice - v.done / 32)).all (fun j =>
          v.bufs.any (fun b => b.key == st.key && b.slice == v.done / 32 + j)))
    && (!segRemote st.seg || s.mode != mTransit)

/-- The cause of a fault that the descriptors themselves give. -/
def VFault.atIssue (f : VFault) : Bool := decide (vcDesc ≤ f.cause) && decide (f.cause ≤ vcBudget)

/-- STREAM_DATA_ARRIVAL: a Slice of a load stream comes into its engine's buffer. -/
def State.streamArrive (s : State) (n : Fin 9) (id : Nat) (key : StreamKey) (slice : Nat) : State :=
  let q := s.seq n
  match q.outs.find? (fun v => v.id == id) with
  | none => s
  | some v =>
    let ms := q.group v.grp
    let lo := max v.done (slice * 32)
    let top := match stopOf ms with
      | some k => k + 1
      | none => v.n
    let hi := min (min v.n (slice * 32 + 32)) top
    match v.stream key with
    | none => s
    | some st =>
      if !s.mayFetch n ms v st slice || decide (hi ≤ lo) || ms.any (fun m => match m.fault with | some f => f.atIssue | none => false) then s
      else
        match s.sliceReqs n ms v st lo hi with
        | none => s
        | some rs =>
          let f := v.checkReqs st rs
          let rs := before rs f
          let tgt := s.tgtOf n st
          let s1 := if q.cbuf.any (fun e => e.meets tgt (rs.flatMap (fun r => granules (st.at r.off) (vdEty st.desc).size)))
            then s.drainAll n else s
          let x := match tgt with
            | .vm => s1.fetchVm st (if q.isSpec v then .ahead else .stream) rs
            | .ls => s1.fetchLs n v.world st rs
            | .remote dev store => s1.fetchRemote n v.id slice dev store st rs
            | _ => { s := s1, lanes := [], fault := none, wait := false }
          if x.wait then s1
          else
            let q := x.s.seq n
            match q.outs.find? (fun w => w.id == id) with
            | none => x.s
            | some w =>
              let w := w.setBuf key slice (fillLanes (w.bufSize key) [] x.lanes)
              let w := match x.fault with
                | some e => { w with fault := worseFault w.fault e }
                | none => w
              let w := match f with
                | some e => { w with fault := worseFault w.fault e }
                | none => w
              x.s.setSeq n (q.setVins w)

/-- A RDRSP fills the lanes it was asked for; an error is a fault at the first of them (R393). -/
def State.streamAnswer (s : State) (n : Fin 9) (id : Nat) (key : StreamKey) (slice : Nat) (slots : List Nat)
    (ans : Option (List Byte × Bool)) : State :=
  let q := s.seq n
  match q.outs.find? (fun v => v.id == id) with
  | none => s
  | some v =>
    match v.stream key, v.bufs.any (fun b => b.key == key && b.slice == slice) with
    | some st, true =>
      let ms := q.group v.grp
      let lo := max v.done (slice * 32)
      match v.reqs st (fun k i => s.knownLane n ms v k i) lo (min v.n (slice * 32 + 32)) with
      | none => s
      | some rs =>
        let rs := rs.filter (fun r => slots.contains r.slot)
        match rs, ans with
        | [], _ => s
        | r :: _, none => s.setSeq n (q.setVins { v with fault := worseFault v.fault (busFault st r) })
        | r :: _, some (data, psn) =>
          let base := st.at r.off
          let x := rs.foldl (fun (x : State × List (Nat × LElem)) r =>
            let (s', z) := x.1.elemIn st r.off ((data.drop (st.at r.off - base)).take (vdEty st.desc).size)
            (s', x.2 ++ [(r.slot, { v := z, psn := psn })])) (s, [])
          x.1.setSeq n (q.setVins (v.setBuf key slice (fillLanes (v.bufSize key) (v.bufOf key slice) x.2)))
    | _, _ => s

/-! ### SLICE_COMMIT -/

/-- R92: the element of D that lane `i` writes: VCPRS packs, and nothing else does. -/
def VIns.dstElem (v : VIns) (d : List (Option LElem)) (pos i lo : Nat) : Nat :=
  if v.op = .vcprs ∧ pos = 0 then
    v.count + ((upTo (i - lo)).filter (fun j => (laneAt d ((lo + j) % 32)).isSome)).length
  else i

/-- The places that a destination writes in a Slice: element, offset, index value. -/
def State.dstReqs (s : State) (n : Fin 9) (ms : List VIns) (outs : List SliceOut) (v : VIns) (o : SliceOut) (st : Stream)
    (pos lo hi : Nat) : List LaneReq :=
  let lanes := if pos = 0 then o.d else if v.op.isAtomic then o.d else o.e
  ((upTo (hi - lo)).map (fun j => lo + j)).filterMap (fun i =>
    if (laneAt lanes (i % 32)).isNone then none
    else
      let x := if vdAmode st.desc = 2 then
          match laneAt (s.srcLanes n ms outs v (.index pos) (i / 32)) (i % 32), v.stream (.index pos) with
          | some x, some ist => indexValue (vdEty ist.desc) x.v
          | _, _ => 0
        else 0
      some { slot := i % 32, k := i, off := st.off (v.dstElem o.d pos i lo) x, idx := x })

/-- R46, R219: whether the target of a destination answers with an error. -/
def State.dstBus (s : State) (n : Fin 9) (v : VIns) (st : Stream) (r : LaneReq) : Bool :=
  let size := (vdEty st.desc).size
  match s.tgtOf n st with
  | .vm => !s.vmOk (st.at r.off) size
  | .ls =>
    match s.lsCheck (s.lsOfSeq n) v.world (st.at r.off) size with
    | some (.err _) => true
    | _ => false
  | _ => false

/-- The position of a destination stream. -/
def dstPos (st : Stream) : Nat := match st.key with
  | .data p => p
  | _ => 0

/-- The first failing element of a member in a Slice, over its destinations and its chained sources. -/
def State.sliceFaults (s : State) (n : Fin 9) (ms : List VIns) (outs : List SliceOut) (v : VIns) (o : SliceOut) (slice lo hi : Nat) :
    Option VFault :=
  let dst := v.stores.map (fun st =>
    let rs := s.dstReqs n ms outs v o st (dstPos st) lo hi
    match v.checkReqs st rs with
    | some f => some f
    | none => (rs.find? (s.dstBus n v st)).map (busFault st))
  let src := (v.loads.filter (fun st => (chainSrc ms v st.key).isSome)).map (fun st =>
    match v.reqs st (fun k i => laneAt (s.srcLanes n ms outs v k slice) (i % 32)) lo hi with
    | none => none
    | some rs => v.checkReqs st rs)
  (dst ++ src).foldl (fun a f => match f with
    | some f => worseFault a f
    | none => a) none

/-- One element's write: whole bytes or a bit; one that is not aligned writes free bytes (R33). -/
def State.elemOut (s : State) (st : Stream) (r : LaneReq) (x : LElem) : State × EWrite :=
  let t := vdEty st.desc
  if t = .bit then (s, .bit (st.at r.off) (r.off.toNat % 8) (x.v % 2 == 1) x.psn)
  else if elemAligned st.desc st.seg r.off then (s, .bytes (st.at r.off) (toBytes t.size x.v) x.psn)
  else (s.tick, .bytes (st.at r.off) (toBytes t.size s.fresh) x.psn)

/-- The entry of a destination for a Slice (R122, R126). -/
def State.mkEntry (s : State) (n : Fin 9) (v : VIns) (st : Stream) (slice p : Nat) (rs : List LaneReq) (lanes : List (Option LElem))
    (unfilled : Bool) : State × List StoreEntry :=
  if rs.isEmpty then (s, [])
  else
    let (s, ws) := rs.foldl (fun (x : State × List EWrite) r =>
      let (s', w) := x.1.elemOut st r ((laneAt lanes r.slot).getD { v := 0, psn := false })
      (s', x.2 ++ [w])) (s, [])
    let es := rs.map (fun r => r.k)
    (s, [{ vid := v.id, pos := dstPos st, slice := slice, side := s.unitSide (pipeUnit p), world := v.world, tgt := s.tgtOf n st,
           writes := ws, elems := es, missing := if unfilled then es else [], sent := none }])

/-- R170: the accesses of the Slice that count for placement, one for each Granule. -/
def State.countAccess (s : State) (n : Fin 9) (st : Stream) (rs : List LaneReq) : State :=
  if s.tgtOf n st = .vm then
    ((rs.flatMap (fun r => granules (st.at r.off) (vdEty st.desc).size)).eraseDups).foldl (fun s g => s.vmCount (g * 128) 1) s
  else s

/-- Table 5-2: committed reads that met Poison. -/
def State.poisonReads (s : State) (n : Fin 9) (v : VIns) (st : Stream) (slice : Nat) (rs : List LaneReq) : State :=
  if s.tgtOf n st = .vm then
    let hit := rs.filter (fun r => ((laneAt (v.bufOf st.key slice) r.slot).map LElem.psn).getD false)
    let gs := ((hit.flatMap (fun r => granules (st.at r.off) (vdEty st.desc).size)).eraseDups).filter (fun g => s.gcls g == .poisoned)
    gs.foldl (fun s g => s.raise vmPoisonRead (s.vmUnit g) svDegraded) s
  else s

/-- R126: a member's part of a Slice commits: its entries, its atomics, its flags and marks. -/
def State.commitMember (s : State) (n : Fin 9) (ms : List VIns) (outs : List SliceOut) (slice p lo hi : Nat) (v : VIns) (o : SliceOut) :
    State :=
  let s := v.loads.foldl (fun s st =>
    if (chainSrc ms v st.key).isSome then s
    else match v.reqs st (fun k i => laneAt (s.srcLanes n ms outs v k slice) (i % 32)) lo hi with
      | none => s
      | some rs => (s.poisonReads n v st slice rs).countAccess n st rs) s
  let (s, es, sends) := v.stores.foldl (fun (x : State × List StoreEntry × List AtomSend) st =>
    let pos := dstPos st
    let rs := x.1.dstReqs n ms outs v o st pos lo hi
    let s := x.1.countAccess n st rs
    if v.atomicDst st.key then
      let tgt := s.tgtOf n st
      let mk := fun (r : LaneReq) =>
        let e := (laneAt o.d r.slot).getD { v := 0, psn := false }
        { elem := r.k, tgt := tgt, addr := st.at r.off, v := e.v, psn := e.psn : AtomSend }
      (s, x.2.1, x.2.2 ++ rs.map mk)
    else
      let (s, e) := s.mkEntry n v st slice p rs (if pos = 0 then o.d else if v.op.isAtomic then o.d else o.e) v.op.isAtomic
      (s, x.2.1 ++ e, x.2.2)) (s, [], [])
  let s := s.vflags n.val v.world o.fl
  let s := if o.psn then s.vpoison n.val v.world false else s
  let q := s.seq n
  let keep := fun (b : Buf) => !(b.slice == slice && decide (min v.n (slice * 32 + 32) ≤ hi))
  let w := { o.next with done := hi, bufs := v.bufs.filter keep, sends := v.sends ++ sends,
                         unacked := v.unacked ++ sends.map (fun x => x.elem), replays := 0 }
  s.setSeq n { q.setVins w with cbuf := q.cbuf ++ es }

/-- A fence of a pipe by its own checks (R132, R138). -/
def State.pipeFence (s : State) (p k : Nat) : State := s.autotomy (0x50 + 4 * p + k) (pipeUnit p) 2 svDegraded

/-- R131, R132: a failed check on the Slice: counted and raised, and beyond the limit the pipe is fenced. -/
def State.sliceFail (s : State) (n : Fin 9) (v : VIns) (p : Nat) : State :=
  let q := s.seq n
  let spec := q.isSpec v
  let limit := max 1 (s.fld (PIPE_CTL p) PIPE_CTL.REPLAY_LIMIT)
  if spec && decide (limit < v.replays) then s
  else
    let s := s.setSeq n (q.setVins { v with replays := v.replays + 1 })
    let s := (s.countSat (PIPE_REPLAY p) PIPE_REPLAY.COUNT PIPE_REPLAY.SAT).raise (0x50 + 4 * p) (pipeUnit p) svCorrected spec
    if !spec && decide (limit ≤ v.replays) then s.pipeFence p 0 else s

/-- R131, R214: a double-bit error in a stream buffer: fetched again, but for a SIDE_EFFECT stream, which takes marks. -/
def State.operandBad (s : State) (n : Fin 9) (v : VIns) (key : StreamKey) (slice : Nat) : State :=
  let q := s.seq n
  match v.stream key with
  | none => s
  | some st =>
    let w := if segSide st.seg then
        v.setBuf key slice ((v.bufOf key slice).map (fun x => x.map (fun e => { e with psn := true })))
      else { v with bufs := v.bufs.filter (fun b => !(b.key == key && b.slice == slice)) }
    s.setSeq n (q.setVins w)

/-- The Slice of a group commits up to `hi`, or the faults found in it are noted. -/
def State.commitUpTo (s : State) (n : Fin 9) (ms : List VIns) (slice p lo hi : Nat) : State :=
  match s.sliceGroup n ms slice lo hi ms [] with
  | none => s
  | some (_, outs) =>
    let found := ms.zip outs |>.map (fun x => (x.1, s.sliceFaults n ms outs x.1 x.2 slice lo hi))
    let q := s.seq n
    let q := found.foldl (fun (q : Seq) x => match x.2 with
      | some f => q.setVins { x.1 with fault := worseFault x.1.fault f }
      | none => q) q
    let s := s.setSeq n q
    let ids := ms.map (fun m => m.id)
    let ms := q.outs.filter (fun v => ids.contains v.id)
    let hi := match stopOf ms with
      | some k => min hi k
      | none => hi
    if hi ≤ lo then s
    else
      match s.sliceGroup n ms slice lo hi ms [] with
      | none => s
      | some (s, outs) =>
        let s := (ms.zip outs).foldl (fun s x => s.commitMember n ms outs slice p lo hi x.1 x.2) s
        let wide := ms.any (fun m => m.streams.any (fun st => decide ((vdEty st.desc).size = 16)))
        let k := if wide && decide (slice * 32 + 16 < hi) && decide (lo < slice * 32 + 16) then 2 else 1
        let pipes := if s.unitPaired (pipeUnit p) then s.pipesOfSeq n else [p]
        pipes.foldl (fun s p => s.pipeCount p (PIPE_PERF_COMMIT p) k PIPE_STATUS.OVF_COMMIT) s

/-- R138: both pipes of a Paired Run fenced. -/
def State.pairFence (s : State) (n : Fin 9) : State := (s.pipesOfSeq n).foldl (fun s p => s.pipeFence p 1) s

/-- PAIR_MISMATCH of the primary pipe (R138). -/
def State.pairMiss (s : State) (p : Nat) : State := s.raise (0x50 + 4 * p + 1) (pipeUnit p) svSevere

/-- SLICE_COMMIT: the next Slice of an instruction's group meets the Commit Horizon. -/
def State.sliceCommit (s : State) (n : Fin 9) (id : Nat) (check : SliceCheck) : State :=
  let q := s.seq n
  match q.outs.find? (fun v => v.id == id) with
  | none => s
  | some v =>
    let ms := q.group v.grp
    let slice := v.done / 32
    let lo := v.done
    let top := match stopOf ms with
      | some k => k
      | none => v.n
    let hi := min (min v.n (slice * 32 + 32)) top
    match s.slicePipe (s.ovenOf n) slice with
    | none => s
    | some p =>
      let paired := s.unitPaired (pipeUnit p)
      if decide (hi ≤ lo) || ms.any (fun m => !m.wait.isEmpty) then s
      else
        match check with
        | .failed => s.sliceFail n v p
        | .operand key =>
          let s := s.operandBad n v key slice
          match (s.seq n).outs.find? (fun w => w.id == id) with
          | some w => s.sliceFail n w p
          | none => s
        | c =>
          if ms.any q.isSpec then s
          else match c with
            | .pairAgain => if paired then (s.pairMiss p).commitUpTo n ms slice p lo hi else s
            | .pairVote side =>
              if !paired then s
              else
                let s := (s.pairMiss p).pairMiss p
                if !(upTo 18).any (fun x => s.unitState (pipeUnit x) == usIdle) then s.pairFence n
                else
                  let s := s.commitUpTo n ms slice p lo hi
                  match (s.pipesOfSeq n).find? (fun x => s.unitSide (pipeUnit x) == side) with
                  | some x => s.pipeFence x 1
                  | none => s
            | .pairLost => if paired then ((s.pairMiss p).pairMiss p).pairFence n else s
            | _ => s.commitUpTo n ms slice p lo hi

/-! ### Atomics (R99, R102, R165) -/

/-- A decimal operand as its location's type holds it: widening keeps every nibble's place. -/
def State.atomSend (s : State) (n : Fin 9) (v : VIns) (x : AtomSend) : Option State :=
  let (td, ta, _, _) := v.types
  match x.tgt with
  | .remote dev _ =>
    let m := ChMsg.make mtATOM 0 dev s.chId 0 (match v.op with
      | .vamin => 1
      | .vamax => 2
      | .vaor => 3
      | .vaand => 4
      | .vafadd => 5
      | _ => 0) td.code 15 td.size x.addr 0 x.psn (toBytes td.size x.v)
    s.chRequest (.elem n v.id x.elem) m
  | _ =>
    let e : AtomEl := { unit := s.atomUnitOf x.addr, addr := x.addr, size := td.size, op := .vec v.op, ety := td.code,
                        aty := ta.code, v := x.v, psn := x.psn, src := .vec n v.id x.elem,
                        lease := (s.slicePipe (s.ovenOf n) (x.elem / 32)).getD 0, world := v.world }
    match s.atomAdmit e with
    | (s, true) => some s
    | _ => none

/-- ATOMIC_QUEUE_ADMIT: an instruction's oldest unsent element goes to its unit. -/
def State.atomQueue (s : State) (n : Fin 9) (id : Nat) : State :=
  match (s.seq n).vins id with
  | none => s
  | some v =>
    match v.sends with
    | [] => s
    | x :: rest =>
      match s.atomSend n v x with
      | none => s
      | some s => s.setSeq n ((s.seq n).setVins { v with sends := rest })

/-- R168: a mismatch of a unit's datapaths, and a second one on the same operation. -/
def State.atomCheck (s : State) (u k misses : Nat) : State :=
  if (s.vm.atomQ.filter (fun e => e.unit == u)).length ≤ k then s
  else if misses = 0 then s.atomRun u k
  else
    let s := s.raise 0xA8 (atomUnit u) svCorrected
    if misses = 1 then s.atomRun u k
    else (s.raise 0xA8 (atomUnit u) svDegraded).autotomy 0xA8 (atomUnit u) 1 svDegraded

/-- The element of E that an acknowledgement fills (R99). -/
def State.fillE (s : State) (n : Fin 9) (v : VIns) (elem val : Nat) (psn : Bool) : State :=
  let q := s.seq n
  let te := v.ty 4 .u8
  let put := fun (e : StoreEntry) =>
    if e.vid = v.id ∧ e.pos = 4 ∧ e.missing.contains elem then
      let i := e.elems.idxOf elem
      let w := match e.writes[i]? with
        | some (.bytes a _ _) => EWrite.bytes a (toBytes te.size val) psn
        | some (.bit a b _ _) => EWrite.bit a b (val % 2 == 1) psn
        | none => EWrite.bytes 0 [] psn
      { e with writes := setAt e.writes i w, missing := e.missing.erase elem }
    else e
  s.setSeq n { q with cbuf := q.cbuf.map put }

/-- R73, R99, R102: an acknowledgement of a vector instruction's element. -/
def State.vecAck (s : State) (n : Fin 9) (id elem : Nat) (a : AtomAck) : State :=
  match (s.seq n).vins id with
  | none => s
  | some v =>
    if !v.unacked.contains elem then s
    else
      let s := s.setSeq n ((s.seq n).setVins { v with unacked := v.unacked.erase elem })
      let s := if a.err then s.lateVec n id 0 else s.vflags n.val v.world a.fl
      let s := if a.merge then s.vpoison n.val v.world true else s
      let psn := a.psn && decide (v.op = .vafadd)
      if v.syl.een then s.fillE n v elem (if v.op = .vafadd then a.old else a.st) psn else s

/-- A remote element's answer as an acknowledgement (R392): OF and NV of its status set the flags of its type. -/
def remoteAck (v : VIns) (elem : Nat) (n : Fin 9) (st old : Nat) (psn err : Bool) : AtomAck :=
  let p := v.types.1.isP
  let fl := (if st &&& stOF ≠ 0 then (if p then flDOVF else flIOVF) else 0) ||| (if st &&& stNV ≠ 0 then flDINV else 0)
  let sent := v.sends.any (fun x => x.elem == elem && x.psn)
  { unit := 0, src := .vec n v.id elem, st := st, fl := fl, old := old, psn := psn, merge := (st &&& stPSN != 0) && !sent, err := err }

/-! ### VECTOR_COMPLETE (R45, R65, R74, R90) -/

/-- The scalar result of an instruction: a poisoned one is zero, and gS is unchanged where no element was active (R90). -/
def VIns.result (v : VIns) : Nat :=
  if v.accPsn then 0
  else if v.op = .vcprs then (v.scal + v.count) % 2 ^ 64
  else if v.count = 0 then v.scal
  else redFinal v.op v.types.2.1 v.acc

def Arch.setResult (a : Arch) (v : VIns) : Arch :=
  if v.op.writesG then
    let a := if v.pair then a.setReg (pairOf v.syl.gs) (BitVec.ofNat 64 (v.result / 2 ^ 64)) else a
    a.setReg v.syl.gs (BitVec.ofNat 64 v.result)
  else a

/-- A result reaches the registers, and the copies that open branches and shadows would restore. -/
def Seq.setResult (q : Seq) (v : VIns) : Seq :=
  let kind := fun (k : SpecKind) => match k with
    | .branch b d t after p => SpecKind.branch b d t (after.setResult v) p
    | k => k
  { q with arch := q.arch.setResult v, spec := q.spec.map (fun r => { r with ckpt := r.ckpt.setResult v, kind := kind r.kind }) }

/-- Instructions that no longer wait for those of `ids`. -/
def Seq.release (q : Seq) (ids : List Nat) : Seq :=
  let go := fun (v : VIns) => { v with wait := v.wait.filter (fun i => !ids.contains i) }
  { q with outs := q.outs.map go, vrec := { q.vrec with entries := q.vrec.entries.map go } }

/-- R45, R99: whether every element is committed and acknowledged, and E of an atomic is written. -/
def Seq.complete (q : Seq) (v : VIns) : Bool :=
  decide (v.n ≤ v.done) && v.fault.isNone && v.sends.isEmpty && v.unacked.isEmpty && !q.isSpec v
    && !(v.op.isAtomic && q.cbuf.any (fun e => e.vid == v.id))

/-- VECTOR_COMPLETE. -/
def State.vecComplete (s : State) (n : Fin 9) (id : Nat) : State :=
  let q := s.seq n
  match q.outs.find? (fun v => v.id == id) with
  | none => s
  | some v =>
    if !q.complete v then s
    else
      let s := if v.op.writesG then
          let s := s.vflags n.val v.world v.accFl
          if v.accPsn then s.vpoison n.val v.world false else s
        else s
      let q := s.seq n
      s.setSeq n (({ q with outs := q.outs.filter (fun w => w.id != id) }.release [id]).setResult v)

/-! ### The vector fault record (R46 to R56) -/

/-- Whether an engine still owes the element `k` of a load stream, so that a fault there might yet be found. -/
def State.owes (s : State) (n : Fin 9) (ms : List VIns) (v : VIns) (k : Nat) (f : VFault) : Bool :=
  !f.atIssue && v.loads.any (fun st => (chainSrc ms v st.key).isNone && !s.arrived n v st.key (k / 32))

/-- R46: a destination that fails at the element where another stream stopped the instruction takes its place. -/
def State.dstFaultAt (s : State) (n : Fin 9) (ms : List VIns) (v : VIns) (f : VFault) : VFault :=
  if f.atIssue || f.cause == vcBus || f.fromMask || decide (v.n ≤ f.k) then f
  else
    let act := if v.syl.men then (s.knownLane n ms v .mask f.k).map (fun x => (x.v % 2 == 1) != v.syl.mneg) else some true
    if act ≠ some true ∨ v.op = .vcprs then f
    else
      v.stores.foldl (fun (f : VFault) st =>
        let p := dstPos st
        let x := if vdAmode st.desc = 2 then
            match s.knownLane n ms v (.index p) f.k, v.stream (.index p) with
            | some x, some ist => some (indexValue (vdEty ist.desc) x.v)
            | _, _ => none
          else some 0
        match x with
        | none => f
        | some z => (worseFault (v.checkReqs st [{ slot := f.k % 32, k := f.k, off := st.off f.k z, idx := z }]) f).getD f) f

/-- The group whose stop is due for the record: the first in issue order whose elements below the stop have committed. -/
def State.stopDue (s : State) (n : Fin 9) : Option (List VIns × Nat) :=
  let q := s.seq n
  q.outs.findSome? (fun v => match v.fault with
    | none => none
    | some _ =>
      let ms := q.group v.grp
      match stopOf ms with
      | none => none
      | some k =>
        if ms.all (fun m => decide (m.done = k) && m.wait.isEmpty && !q.isSpec m
            && (match m.fault with
                | some f => decide (k < f.k) || !s.owes n ms m k f
                | none => true))
        then some (ms, k) else none)

/-- Instructions of `l` held by R45 behind one of `ids`, or behind one that is so held; those that still lie beyond a
branch stay where they are (R49). -/
def heldBehind (spec : VIns → Bool) : List VIns → List Nat → List Nat
  | [], ids => ids
  | v :: vs, ids => heldBehind spec vs (if !spec v && v.wait.any (fun i => ids.contains i) then v.id :: ids else ids)

/-- An insertion by order of issue. -/
def insertOrd (v : VIns) : List VIns → List VIns
  | [] => [v]
  | w :: ws => if v.ord < w.ord then v :: w :: ws else w :: insertOrd v ws

/-- The record with stopped instructions added (R47, R51): its first fields describe the earliest-issued faulting one. -/
def VRec.add (r : VRec) (vs : List VIns) : VRec :=
  let es := vs.foldl (fun es v => insertOrd v es) r.entries
  match es.zipIdx.find? (fun x => x.1.fault.isSome) with
  | none => { r with entries := es }
  | some (v, i) => { r with entries := es, first := v.fault, fent := i, world := v.world, sup := v.sup }

/-- An instruction as its entry holds it: what it fetched is discarded, and a fault beyond the stop is no fault of it. -/
def VIns.stopped (v : VIns) (k : Nat) : VIns :=
  { v with bufs := [], replays := 0, wait := [], fault := match v.fault with
      | some f => if f.k ≤ k then some f else none
      | none => none }

/-- VECTOR_FAULT_RECORD: a group that has stopped, with what is held behind it, enters the record; one issued under R56
is discarded, and DOUBLE_FAULT is due. -/
def State.vecRecord (s : State) (n : Fin 9) : State :=
  let q := s.seq n
  match s.stopDue n with
  | none =>
    let ids := (heldBehind q.isSpec q.outs (q.vrec.entries.map (fun v => v.id))).filter (fun i =>
      q.outs.any (fun v => v.id == i))
    if ids.isEmpty then s
    else
      let vs := (q.outs.filter (fun v => ids.contains v.id)).map (fun v => v.stopped 0)
      s.setSeq n { q with outs := q.outs.filter (fun v => !ids.contains v.id), vrec := q.vrec.add vs }
  | some (ms, k) =>
    let gids := ms.map (fun m => m.id)
    if q.vrec.valid && !q.vrec.pending && ms.all (fun m => decide (q.vrec.mark ≤ m.ord)) then
      let q := ({ q with outs := q.outs.filter (fun v => !gids.contains v.id), openGrp := none }.release gids)
      s.setSeq n { q with vrec := { q.vrec with again := true } }
    else
      let ms := ms.map (fun m => match m.fault with
        | some f => { m with fault := some (s.dstFaultAt n ms m f) }
        | none => m)
      let held := (heldBehind q.isSpec q.outs gids).filter (fun i => !gids.contains i)
      let hs := (q.outs.filter (fun v => held.contains v.id)).map (fun v => v.stopped 0)
      let r := q.vrec.add (ms.map (fun m => m.stopped k) ++ hs)
      s.setSeq n { q with outs := q.outs.filter (fun v => !gids.contains v.id && !held.contains v.id), openGrp := none,
                          vrec := { r with valid := true, pending := q.vrec.pending || !q.vrec.valid } }

/-! ### VSYNC and VRESTART (R54, R55, R93, R198) -/

/-- R198: whether all that VSYNC waits for is done: outstanding instructions, and the committed elements of stopped ones. -/
def Seq.vecQuiet (q : Seq) : Bool :=
  q.outs.isEmpty && q.cbuf.isEmpty && q.vrec.entries.all (fun v => v.sends.isEmpty && v.unacked.isEmpty)

/-- R93: the packed position of VCPRS and VEXPD, found by reading the mask below RESUME again. -/
def State.recount (s : State) (n : Fin 9) (v : VIns) : Nat :=
  match v.stream .mask with
  | some st =>
    if (v.op = .vcprs ∨ v.op = .vexpd) ∧ segRemote st.seg = false then
      ((upTo v.done).filter (fun i => ((s.peek n st (st.off i 0)).v % 2 == 1) != v.syl.mneg)).length
    else v.count
  | none => v.count

/-- VRESTART 0 on one entry: its segments are read again, and it is compared under R45 with what is outstanding. -/
def State.resume (s : State) (n : Fin 9) (v : VIns) : State :=
  let q := s.seq n
  let sg := (q.arch.ctx v.world).sg
  let again := fun (st : Stream) => { st with seg := sg[Fin.ofNat 64 st.segNo] }
  let keep := match v.fault with
    | some f => if f.atIssue then some f else none
    | none => none
  let v := { v with streams := v.streams.map again, fault := keep, spec := 0, replays := 0, count := s.recount n v,
                    ord := q.nextId }
  let v := { v with unpred := keep.isNone && (v.clash || (match v.op with | .recipe _ => recipeLoose v.recipe | _ => false)) }
  let waits := if keep.isSome then [] else (q.outs.filter (fun i => hazard i v (i.grp == v.grp))).map (fun i => i.id)
  s.setSeq n { q with outs := q.outs ++ [{ v with wait := waits }], nextId := q.nextId + 1 }

/-- VRESTART (R55): 0 resumes every entry in order, 1 discards them. -/
def State.vecRestart (s : State) (n : Fin 9) (discard : Bool) : State :=
  let q := s.seq n
  if !q.vrec.valid then s
  else
    let es := q.vrec.entries
    let s := s.setSeq n { q with vrec := VRec.reset, openGrp := none }
    if discard then s.setSeq n ((s.seq n).release (es.map (fun v => v.id)))
    else es.foldl (fun s v => s.resume n v) (s.drainAll n)

/-- Whether VRESTART may execute: eight instructions at most are outstanding after it, and the atomics of the entries that
have committed are acknowledged. -/
def Seq.mayRestart (q : Seq) (discard : Bool) : Bool :=
  (discard || decide (q.outs.length + q.vrec.entries.length ≤ 8))
    && q.vrec.entries.all (fun v => v.sends.isEmpty && v.unacked.isEmpty)

/-! ### Cancellation and resolution (R49, R128) -/

/-- R128: the instructions issued under record `r` or a later one are cancelled, and their Slices counted. -/
def State.vecCancel (s : State) (n : Fin 9) (r : Nat) : State :=
  let q := s.seq n
  let gone := q.outs.filter (fun v => decide (v.spec ≠ 0) && decide (r ≤ v.spec))
  let ids := gone.map (fun v => v.id)
  let slices := (gone.flatMap (fun v => v.bufs.map (fun b => (v.id, b.slice)))).eraseDups
  let o := s.ovenOf n
  let s := slices.foldl (fun s x => match s.pipeOf o x.2 with
    | some p => s.pipeCount p (PIPE_PERF_RA p) 1 PIPE_STATUS.OVF_RA
    | none => s) s
  let q := s.seq n
  let open' := match q.openGrp with
    | some g => if ids.contains g then none else some g
    | none => none
  s.setSeq n ({ q with outs := q.outs.filter (fun v => !ids.contains v.id), openGrp := open' }.release ids)

/-- A record resolved in its favour: replays of Slices that were speculative count from zero again (R132). -/
def Seq.vecResolve (q : Seq) (r : Nat) : Seq :=
  { q with outs := q.outs.map (fun v => if v.spec = r then { v with replays := 0 } else v) }

/-! ### Pipes (R133, R58, R141) -/

/-- R133, R134: what a fenced pipe held of its Oven's uncommitted Slices is discarded. -/
def State.pipeDrop (s : State) (n : Fin 9) (p : Nat) : State :=
  let q := s.seq n
  let side := s.unitSide (pipeUnit p)
  let one := (s.pipesOfSeq n).length ≤ 1
  let keep := fun (b : Buf) => !(one || (b.slice % 2 == 1) == side || s.unitPaired (pipeUnit p))
  s.setSeq n { q with outs := q.outs.map (fun v => { v with bufs := v.bufs.filter keep, replays := 0 }) }

/-- R135: the committed entries of a fenced pipe are drained; those that cannot be are left to their acknowledgements. -/
def State.pipeDrain (s : State) (n : Fin 9) (side : Bool) : State :=
  (s.seq n).cbuf.foldl (fun s e => if e.side == side then s.drainEntry n e false else s) s

/-- The sequencer that serves an Oven. -/
def State.seqOfOven (s : State) (o : Nat) : Option (Fin 9) := (s.seqOf o).map (Fin.ofNat 9)

/-- R141: PIPE_STATUS with the members of the group in the pipe and the commit buffer entries in use. -/
def State.pipeView (s : State) (p : Nat) : Nat :=
  let v := (s.reg (PIPE_STATUS p)).toNat
  let u := pipeUnit p
  let st := s.unitState u
  let code := if st = usBound then 1 else if st = usFenced ∨ st = usLost then 2 else if st = usRegrow then 3 else 0
  let v := setBits (setBits (setBits (setBits v 0 2 code) 2 3 (s.unitOven u)) 5 1 (bit01 (s.unitSide u))) 6 1 (bit01 (s.unitPaired u))
  match s.seqOfOven (s.unitOven u) with
  | none => v
  | some n =>
    if st ≠ usBound then v
    else
      let q := s.seq n
      let g := match q.outs with
        | w :: _ => (q.group w.grp).length
        | [] => 0
      let c := (q.cbuf.filter (fun e => e.side == s.unitSide u)).length
      setBits (setBits v 7 3 (min 4 g)) 10 8 (min 128 c)

/-- R50 to R53: the registers of the vector fault record, as a master reads the word at an address. -/
def State.vfrView (s : State) (m : Master) (a : Nat) : Nat :=
  let n : Fin 9 := Fin.ofNat 9 ((a - 0x100000) / 0x10000)
  let off := a % 0x10000
  let r := (s.seq n).vrec
  if r.world && !(m.world && !m.isHost) then 0
  else
    let f := r.first.getD { k := 0, cause := 0, opnd := 0, fromIdx := false, fromMask := false, seg := 0, off := 0, idx := 0 }
    let part := fun (v w : Nat) => bitsOf v (32 * w) 32
    if !r.valid then 0
    else if off = 0x800 then
      bit01 r.valid + bit01 r.pending * 2 + f.cause * 4 + f.opnd % 8 * 2 ^ 7 + bit01 f.fromIdx * 2 ^ 10 + bit01 f.fromMask * 2 ^ 11
        + r.fent % 8 * 2 ^ 12 + r.entries.length % 16 * 2 ^ 15 + f.seg % 64 * 2 ^ 19 + bit01 r.world * 2 ^ 25 + bit01 r.sup * 2 ^ 26
    else if off = 0x804 then f.k % 2 ^ 32
    else if 0x808 ≤ off ∧ off < 0x810 then part (ofInt 64 f.off) ((off - 0x808) / 4)
    else if 0x810 ≤ off ∧ off < 0x818 then part (ofInt 64 f.idx) ((off - 0x810) / 4)
    else if 0x900 ≤ off ∧ off < 0x980 then
      let e := (off - 0x900) / 16
      match r.entries[e]? with
      | none => 0
      | some v =>
        let chained := match r.entries[e + 1]? with
          | some w => w.grp == v.grp
          | none => false
        part (vsylWord v.op v.syl + v.done * 2 ^ 64 + bit01 v.fault.isSome * 2 ^ 96 + bit01 chained * 2 ^ 97
          + (2 ^ v.snaps.length - 1) * 2 ^ 98) (off % 16 / 4)
    else if 0xC00 ≤ off ∧ off < 0x1400 then
      match r.entries[(off - 0xC00) / 0x100]? with
      | none => 0
      | some v =>
        match v.snaps[off % 0x100 / 0x20]? with
        | some st => part st.desc.toNat (off % 0x20 / 4)
        | none => 0
    else 0

end Sys2Proof.Machine
end

