-- ==== Sys2Proof/Machine/SeqAlu.lean ====
section
/-! DEFINITION. Sys2Proof/Machine/SeqAlu.lean: the scalar operations of a sequencer on its registers: the A and B slots (R227
to R229), vector descriptor fields (R236), special registers (R225, R226), branch conditions and the return stack (R237 to
R243), and the shape of the M operations (R232). -/
namespace Sys2Proof.Machine

/-! ### A and B slots (Table 7-5) -/

/-- The low 32 bits sign-extended (R227). -/
def sext32 (v : Word) : Word := (v.truncate 32).signExtend 64

/-- Leading zeros of a `w`-bit value. -/
def clz (w : Nat) (v : Nat) : Nat := w - bitLen (v % 2 ^ w)

/-- R229: quotient and remainder, truncated toward zero; the divisor is not zero. -/
def divSigned (w : Nat) (a b : Nat) : Nat × Nat :=
  let x := toSigned w a
  let y := toSigned w b
  (ofInt w (x.tdiv y), ofInt w (x.tmod y))

end Sys2Proof.Machine

namespace Sys2Proof
open Machine

/-- An operation on `w`-bit operands, as a `w`-bit result. -/
def AluOp.val (op : AluOp) (w : Nat) (a b : Nat) : Nat :=
  let m := 2 ^ w
  let x := a % m
  let y := b % m
  let sh := b % w
  let sx := toSigned w a
  let sy := toSigned w b
  match op with
  | .add => (x + y) % m
  | .sub => (x + (m - y)) % m
  | .and => x &&& y
  | .or => x ||| y
  | .xor => x ^^^ y
  | .andn => x &&& (m - 1 - y)
  | .shl => x * 2 ^ sh % m
  | .shr => x / 2 ^ sh
  | .sra => ofInt w (sx / ((2 ^ sh : Nat) : Int))
  | .rol => x * 2 ^ sh % m + x / 2 ^ (w - sh) % m
  | .min => if sx ≤ sy then x else y
  | .max => if sy ≤ sx then x else y
  | .minu => Nat.min x y
  | .maxu => Nat.max x y
  | .slt => bit01 (decide (sx < sy))
  | .sltu => bit01 (decide (x < y))
  | .ceq => bit01 (decide (x = y))
  | .clz => Machine.clz w x
  | .popc => popCount w x
  | .mul => x * y % m
  | .mulhs => ofInt w (sx * sy / ((m : Nat) : Int))
  | .mulhu => x * y / m
  | .divs => (divSigned w a b).1
  | .divu => x / y
  | .rems => (divSigned w a b).2
  | .remu => x % y

/-- R227: an operation of form R on 64 bits, or on 32 with the result sign-extended. -/
def AluOp.run (op : AluOp) (w32 : Bool) (a b : Word) : Word :=
  if w32 then sext32 (BitVec.ofNat 64 (op.val 32 a.toNat b.toNat)) else BitVec.ofNat 64 (op.val 64 a.toNat b.toNat)

/-- A divide, and whether it is the iterative kind of R230. -/
def AluOp.isDiv (op : AluOp) : Bool := op == .divs || op == .divu || op == .rems || op == .remu

/-- Table 7-5: operations that only a B syllable may hold. -/
def AluOp.bOnly (op : AluOp) : Bool := op.isDiv || op == .mul || op == .mulhs || op == .mulhu

/-- Form I (Table 7-5). -/
def AluImmOp.run (op : AluImmOp) (a : Word) (imm : BitVec 10) : Word :=
  let i := imm.signExtend 64
  let sh : Word := BitVec.ofNat 64 (imm.toNat % 64)
  match op with
  | .addi => a + i
  | .andi => a &&& i
  | .ori => a ||| i
  | .xori => a ^^^ i
  | .shli => AluOp.run .shl false a sh
  | .shri => AluOp.run .shr false a sh
  | .srai => AluOp.run .sra false a sh
  | .slti => AluOp.run .slt false a i
  | .ceqi => AluOp.run .ceq false a i

end Sys2Proof

namespace Sys2Proof.Machine

/-- MOVKq: one quarter of gD replaced. -/
def movk (old : Word) (q : Fin 4) (imm : BitVec 16) : Word := BitVec.ofNat 64 (setBits old.toNat (16 * q.val) 16 imm.toNat)

/-! ### Vector descriptor fields (Table 7-8) -/

/-- VDSET: the field that IMM5 names, from gA. -/
def vdSet (d : VecDesc) (imm : Nat) (g : Word) : VecDesc :=
  let v := d.toNat
  BitVec.ofNat 256 (match imm with
    | 0 => setBits v 0 48 g.toNat
    | 1 => setBits v 64 48 g.toNat
    | 2 => setBits v 128 32 g.toNat
    | 3 => setBits v 160 22 g.toNat
    | _ => setBits v 0 48 (vdOffset d + g.toNat))

/-- VDGET: the field as gD receives it. -/
def vdGet (d : VecDesc) (imm : Nat) : Word :=
  match imm with
  | 0 => BitVec.ofNat 64 (vdOffset d)
  | 1 => BitVec.ofNat 64 (ofInt 64 (vdStride d))
  | 2 => BitVec.ofNat 64 (vdLength d)
  | _ => BitVec.ofNat 64 (bitsOf d.toNat 160 22)

/-! ### Special registers (Table 7-3) -/

/-- How a special register may be reached: at every level, at supervisor level, at Secure supervisor level. -/
inductive SrKind
  | any | sup | secure | reserved
  deriving DecidableEq, Repr

def srKind (k : Nat) : SrKind :=
  if k = 0 then .any
  else if k ≤ 4 then .sup
  else if k ≤ 7 then .secure
  else if k = 8 then .sup
  else if k ≤ 11 then .any
  else if 16 ≤ k ∧ k < 32 then .sup
  else .reserved

/-- R226: whether MTS of a number is illegal: reserved, or read-only. -/
def srNoWrite (k : Nat) : Bool := srKind k == .reserved || decide (9 ≤ k ∧ k ≤ 11)

/-- R226: PRIVILEGE of MFS and MTS. -/
def srDenied (a : Arch) (k : Nat) (write : Bool) : Bool :=
  match srKind k with
  | .any => false
  | .sup => !a.sup
  | .secure => !(a.sup && a.world)
  | .reserved => write && false

/-- RSCTL as MFS reads it. -/
def rsctl (c : WorldCtx) : Nat := c.rsTop.toNat + c.rsDepth * 16

/-- MFS: a special register as it stands. -/
def State.mfs (s : State) (n : Fin 9) (a : Arch) (k : Nat) : Word :=
  let c := a.ctx a.world
  match k with
  | 0 => a.ssr.zeroExtend 64
  | 1 => c.era
  | 2 => c.esr.zeroExtend 64
  | 3 => c.ecause.zeroExtend 64
  | 4 => c.eaddr
  | 5 => a.dra
  | 6 => a.dsr.zeroExtend 64
  | 7 => a.dcause.zeroExtend 64
  | 8 => BitVec.ofNat 64 (rsctl c)
  | 9 => BitVec.ofNat 64 ((s.seq n).cycle / 1000)
  | 10 => BitVec.ofNat 64 s.st.tb
  | 11 => BitVec.ofNat 64 (n.val + s.ovenOf n * 16)
  | k => if 16 ≤ k ∧ k < 32 then BitVec.ofNat 64 ((c.rse[Fin.ofNat 16 (k - 16)]).toNat * 4) else 0

/-- R225: SSR by MTS. -/
def Arch.writeSsr (a : Arch) (v : Word) : Arch :=
  let mask := if a.sup then 0xFF2C else 0x28
  { a with ssr := ssrWith a.ssr mask v.toNat }

/-- Table 8-3, R6: a cause register; with a reserved bit written non-zero, those bits are free. -/
def causeWord (free : Nat) (v : Word) : W32 :=
  if bitsOf v.toNat 5 11 = 0 then v.truncate 32 else BitVec.ofNat 32 (setBits v.toNat 5 11 free)

/-- MTS: a special register written; `free` fills what R6 leaves open. -/
def Arch.mts (a : Arch) (k free : Nat) (v : Word) : Arch :=
  let w := a.world
  let c := a.ctx w
  match k with
  | 0 => a.writeSsr v
  | 1 => a.setCtx w { c with era := v }
  | 2 => a.setCtx w { c with esr := v.truncate 32 }
  | 3 => a.setCtx w { c with ecause := causeWord free v }
  | 4 => a.setCtx w { c with eaddr := v }
  | 5 => { a with dra := v }
  | 6 => { a with dsr := v.truncate 32 }
  | 7 => { a with dcause := causeWord free v }
  | 8 => a.setCtx w { c with rsTop := BitVec.ofNat 4 v.toNat, rsDepth := Nat.min 16 (bitsOf v.toNat 4 5) }
  | k => if 16 ≤ k ∧ k < 32 then
      a.setCtx w { c with rse := c.rse.set (Fin.ofNat 16 (k - 16)) (BitVec.ofNat 17 (bitsOf v.toNat 2 17)) }
    else a

/-! ### Branches and the return stack (R237 to R243) -/

end Sys2Proof.Machine

namespace Sys2Proof
open Machine

/-- Table 7-10: whether gA relates to zero as the branch asks. -/
def BrCond.holds (c : BrCond) (v : Word) : Bool :=
  let z := v.toInt
  match c with
  | .eq => z == 0
  | .ne => z != 0
  | .lt => decide (z < 0)
  | .ge => decide (0 ≤ z)
  | .le => decide (z ≤ 0)
  | .gt => decide (0 < z)

end Sys2Proof

namespace Sys2Proof.Machine

/-- A direct target: the branch Loaf's address plus DISP × 4, modulo 0x8_0000. -/
def directTarget (pc : BitVec 19) (disp : Int) : BitVec 19 := BitVec.ofInt 19 ((pc.toNat : Int) + disp * 4)

/-- An indirect target: bits [18:2] of a register. -/
def indirectTarget (v : Word) : BitVec 19 := BitVec.ofNat 19 (bitsOf v.toNat 2 17 * 4)

/-- Table 7-11: a push. -/
def WorldCtx.push (c : WorldCtx) (addr : BitVec 19) : WorldCtx :=
  let t := c.rsTop + 1
  { c with rsTop := t, rsDepth := Nat.min 16 (c.rsDepth + 1), rse := c.rse.set t.toFin (BitVec.ofNat 17 (addr.toNat / 4)) }

/-- Table 7-11: the address that a pop returns, and the stack after it. -/
def WorldCtx.top (c : WorldCtx) : BitVec 19 := BitVec.ofNat 19 ((c.rse[c.rsTop.toFin]).toNat * 4)
def WorldCtx.pop (c : WorldCtx) : WorldCtx := { c with rsTop := c.rsTop - 1, rsDepth := c.rsDepth - 1 }

/-! ### M operations (Table 7-7) -/

end Sys2Proof.Machine

namespace Sys2Proof
open Machine

/-- The bytes that an M operation moves (Table 7-7). -/
def MemOp.size : MemOp → Nat
  | .lb | .lbu | .sb => 1
  | .lh | .lhu | .sh => 2
  | .lw | .lwu | .sw | .aaddW | .aswpW => 4
  | .ld | .sd | .aaddD | .aswpD | .acasD => 8
  | .sgld | .sgst => 16
  | .vdld | .vdst => 32

def MemOp.isAtomic : MemOp → Bool
  | .aaddW | .aaddD | .aswpW | .aswpD | .acasD => true
  | _ => false

def MemOp.isStore : MemOp → Bool
  | .sb | .sh | .sw | .sd | .sgst | .vdst => true
  | _ => false

/-- R233: the opcodes that may reach control space. -/
def MemOp.ctlOk : MemOp → Bool
  | .lw | .lwu | .ld | .sw | .sd => true
  | _ => false

/-- Loads that write gD. -/
def MemOp.loadsG (op : MemOp) : Bool := !op.isStore && op != .sgld && op != .vdld

/-- A loaded or old value as gD receives it. -/
def MemOp.extend (op : MemOp) (v : Nat) : Word :=
  match op with
  | .lb => BitVec.ofNat 64 (ofInt 64 (toSigned 8 v))
  | .lh => BitVec.ofNat 64 (ofInt 64 (toSigned 16 v))
  | .lw | .aaddW | .aswpW => BitVec.ofNat 64 (ofInt 64 (toSigned 32 v))
  | .lbu => BitVec.ofNat 64 (v % 2 ^ 8)
  | .lhu => BitVec.ofNat 64 (v % 2 ^ 16)
  | .lwu => BitVec.ofNat 64 (v % 2 ^ 32)
  | _ => BitVec.ofNat 64 v

end Sys2Proof

namespace Sys2Proof.Machine

/-- R232: the offset of a memory form, computed exactly. -/
def memOffset (op : MemOp) (g : Word) (imm : BitVec 5) : Int := (g.toNat : Int) + imm.toInt * op.size

/-- R33, R235, R236: whether an offset is aligned for an operation. -/
def memAligned (op : MemOp) (seg : SegDesc) (off : Int) : Bool := (segBase seg + off.toNat) % op.size == 0

/- Causes of Table 8-2. -/
def exDouble : Nat := 1
def exIllegal : Nat := 2
def exPrivilege : Nat := 3
def exSegLimit : Nat := 4
def exSegAccess : Nat := 5
def exProgEcc : Nat := 6
def exRsOver : Nat := 7
def exRsUnder : Nat := 8
def exSyscall : Nat := 9
def exGate : Nat := 10
def exDivZero : Nat := 11
def exVector : Nat := 12
def exLate : Nat := 13
def exBreak : Nat := 14
def exRecipe : Nat := 15
def exTimer : Nat := 16
def exQueue : Nat := 17
def exFault : Nat := 18
def exNotify : Nat := 19
def exMailbox : Nat := 20

/-- R233, R27: the check of a scalar access: the cause that it gives. -/
def scalarCheck (op : MemOp) (d : SegDesc) (sup : Bool) (off : Int) : Option Nat :=
  let sp := segSpace d
  let right := if op.isAtomic then segAtom d else if op.isStore then segWr d else segRd d
  if !segValid d then some exSegAccess
  else if sp = 3 ∨ (sp = 2 ∧ !op.ctlOk) ∨ (op.isAtomic ∧ sp ≠ 0) then some exSegAccess
  else if !right then some exSegAccess
  else if !(segUser d || sup) then some exSegAccess
  else if sp = 2 ∧ segRemote d then some exSegAccess
  else if sp = 2 ∧ (segBase d + off.toNat) % op.size ≠ 0 ∧ 0 ≤ off then some exSegAccess
  else if off < 0 ∨ (segLimit d : Int) < off + op.size - 1 then some exSegLimit
  else none

end Sys2Proof.Machine
end

