-- ==== Sys2Proof/Machine/SeqExc.lean ====
section
/-! DEFINITION. Sys2Proof/Machine/SeqExc.lean: taking an exception (R266 to R272), double faults and third-fault resets
(R279, R280), returning (R273), gates (R276 to R278), and interrupts (R281 to R284). -/
namespace Sys2Proof.Machine

/-- An exception that is due (Table 8-2): its cause, its sub-code and the value for EADDR. -/
structure Exc where
  code : Nat
  sub : Nat
  eaddr : Nat
  deriving DecidableEq, Repr

def exc (code : Nat) (sub : Nat := 0) (eaddr : Nat := 0) : Exc := ⟨code, sub, eaddr⟩

/-! ### Third-fault reset (R280) -/

/-- R280, R58, R218: the committed Slices of a sequencer reach memory as far as they can now; atomic elements that no
unit's queue holds yet are discarded. -/
def State.seqDiscard (s : State) (n : Fin 9) : State :=
  let s := s.drainAll n
  let mine := fun (e : AtomEl) => match e.src with
    | .vec m _ _ => m == n
    | .scalar m _ => m == n
    | _ => false
  { s with vm := { s.vm with atomWait := s.vm.atomWait.filter (fun e => !mine e) } }

/-- The registers of a SEQn block at their reset values. -/
def State.seqRegsReset (s : State) (n : Fin 9) : State :=
  let lo := 0x100000 + n.val * 0x10000
  { s with regs := s.regs.filter (fun p => !(decide (lo ≤ p.1) && decide (p.1 < lo + 0x10000))) }

def seqSrc (n : Fin 9) (k : Nat) : Nat := 0x20 + 4 * n.val + k

/-- R280: a third-fault reset. -/
def State.thirdFault (s : State) (n : Fin 9) : State :=
  let s := s.seqDiscard n
  let q := s.seq n
  let a := { Arch.reset with dra := q.arch.dra, dsr := q.arch.dsr, dcause := q.arch.dcause,
                             sec := { WorldCtx.reset with ecause := 0x10000 } }
  let s := s.setSeq n { Seq.reset with arch := a, cbuf := q.cbuf.filter (fun e => e.missing.isEmpty), nextId := q.nextId }
  let s := (s.seqRegsReset n).raise (seqSrc n 3) (seqUnit n.val) svSevere
  s.qeThirdFault n.val (s.ovenOf n)

/-! ### Entry (R269) -/

/-- The base of a world's vector table, and of its gate table (R265). -/
def vectorBase (w : Bool) : Nat := if w then 0x800 else 0
def gateBase (w : Bool) : Nat := if w then 0xC00 else 0x400

/-- A fault of R48 or R56 that waits for its delivery. -/
def Seq.vecPending (q : Seq) : Bool := q.vrec.pending || q.vrec.again

/-- R269: whether an event is taken as a double fault. -/
def Seq.doubles (q : Seq) (e : Exc) (int : Bool) : Bool := (q.arch.eip && !int) || (e.code == exVector && q.vrec.again)

/-- What an entry discards: the Loafs fetched and not executed, and what they had begun. -/
def Seq.flush (q : Seq) : Seq :=
  { q with asm := [], waiting := [], delayOf := none, div := none, tail := none, gateEntered := false }

/-- The registers as R269 leaves them: of a double fault, or in world `w`. -/
def Arch.enterDouble (a : Arch) (cause : Nat) (ret : BitVec 19) : Arch :=
  { a with dra := ret.zeroExtend 64, dsr := a.ssr, dcause := BitVec.ofNat 32 cause, dfault := true,
           ssr := ssrWith a.ssr 0x17 0x13, pc := 0x820 }

def Arch.enter (a : Arch) (w : Bool) (e : Exc) (ret : BitVec 19) : Arch :=
  let c := { a.ctx w with era := ret.zeroExtend 64, esr := a.ssr, ecause := BitVec.ofNat 32 (e.code + e.sub * 65536),
                          eaddr := BitVec.ofNat 64 e.eaddr }
  let a' := a.setCtx w c
  { a' with ssr := ssrWith a.ssr 0x17 (0x12 + bit01 w), pc := BitVec.ofNat 19 (vectorBase w + e.code * 32) }

/-- A delivered vector fault is no longer pending (R48); what is issued after it is issued under R56. -/
def Seq.delivered (q : Seq) (e : Exc) : Seq :=
  if e.code = exVector then { q with vrec := { q.vrec with pending := false, again := false, mark := q.nextId } } else q

/-- R269, its waits apart: an event is taken; `int` says that it is an interrupt, `w` the world it enters, and `ret` the
address that ERA receives. -/
def State.take (s : State) (n : Fin 9) (e : Exc) (int w : Bool) (ret : BitVec 19) : State :=
  let q := s.seq n
  if q.arch.dfault && !int then s.thirdFault n
  else if q.doubles e int then
    (s.setSeq n ((q.delivered e).flush |> fun q => { q with arch := q.arch.enterDouble (e.code + e.sub * 65536) ret })).raise
      (seqSrc n 2) (seqUnit n.val) svInfo
  else s.setSeq n ((q.delivered e).flush |> fun q => { q with arch := q.arch.enter w e ret })

/-- R270: vector work has completed or stopped, and the store buffer has drained. -/
def Seq.quiet (q : Seq) : Bool := q.outs.isEmpty && q.sb.isEmpty

/-- R269, R270: an event taken, or none while a change of world waits; a vector fault pending at the change is taken
first, in the running world. -/
def State.deliver (s : State) (n : Fin 9) (e : Exc) (int w : Bool) (ret : BitVec 19) : Option State :=
  let q := s.seq n
  let a := q.arch
  let dest := q.doubles e int || w
  if a.dfault && !int || dest == a.world then some (s.take n e int w ret)
  else if !q.quiet then none
  else if q.vecPending && e.code != exVector then some (s.take n (exc exVector) false a.world ret)
  else some (s.take n e int w ret)

/-! ### Interrupts (R281 to R284) and late errors (R272) -/

/-- Whether the line of a cause is raised for a world of a sequencer. -/
def State.line (s : State) (n : Fin 9) (w : Bool) (c : Nat) : Bool :=
  let o := s.ovenOf n
  if c = exFault then bitAt (s.regNat FJ_NOTICE 1) (n.val + 16 * bit01 w)
  else if c = exTimer then s.tmrLine o w
  else if c = exQueue then s.queueWork o w
  else if c = exMailbox then s.mbLine o w
  else s.notifyLine o w

/-- Table 8-8: the raised line of a world that comes first. -/
def State.firstLine (s : State) (n : Fin 9) (w : Bool) : Option Nat :=
  [exFault, exTimer, exQueue, exMailbox, exNotify].find? (fun c => s.line n w c)

/-- R282, R283: the line that is taken at a boundary, with its world. -/
def State.eligibleLine (s : State) (n : Fin 9) : Option (Nat × Bool) :=
  let q := s.seq n
  let a := q.arch
  let open' := a.ie && !a.eip
  if a.dfault || q.delayOf.isSome || q.gateEntered then none
  else
    match if open' || !a.world then s.firstLine n true else none with
    | some c => some (c, true)
    | none => if open' && !a.world then (s.firstLine n false).map (fun c => (c, false)) else none

/-- What stands at a Loaf boundary before the Loaf's own causes (R268, steps 1 and 2): nothing, an event that waits, or one
that was taken. -/
inductive Boundary
  | clear
  | wait
  | taken (s : State)

def Seq.late (q : Seq) (w : Bool) : Option LateErr := if w then q.lateSec else q.lateGen
def Seq.setLate (q : Seq) (w : Bool) (e : Option LateErr) : Seq := if w then { q with lateSec := e } else { q with lateGen := e }

/-- R268: whether the sequencer stands at a boundary at which every earlier Loaf has retired. -/
def Seq.atBoundary (q : Seq) : Bool := q.spec.isEmpty && q.delayOf.isNone && q.tail.isNone

/-- R268, steps 1 and 2. A divide is abandoned by an interrupt alone (R231). -/
def State.boundary (s : State) (n : Fin 9) : Boundary :=
  let q := s.seq n
  let a := q.arch
  let of := fun (x : Option State) => match x with
    | some s => Boundary.taken s
    | none => Boundary.wait
  if !q.atBoundary then .clear
  else
    match if q.div.isSome then none else q.late a.world with
    | some e =>
      of ((s.setSeq n (q.setLate a.world none)).deliver n (exc exLate (e.seg.val + 64 * bit01 e.multi) e.off) false a.world a.pc)
    | none =>
      match s.eligibleLine n with
      | some (c, w) => of (s.deliver n (exc c) true w a.pc)
      | none => .clear

/-- INTERRUPT_ENTRY and LATE_BUS_ERROR: an event of steps 1 and 2 is taken where one is due. -/
def State.boundaryTake (s : State) (n : Fin 9) (late : Bool) : State :=
  let q := s.seq n
  if !s.seqRuns n || (q.late q.arch.world).isSome != late then s
  else
    match s.boundary n with
    | .taken s => s
    | _ => s

/-- R272: a store's error response. -/
def Seq.lateError (q : Seq) (w : Bool) (seg : Fin 64) (off : Nat) : Seq :=
  match q.late w with
  | none => q.setLate w (some { seg := seg, off := off, multi := false })
  | some e => q.setLate w (some { e with multi := true })

/-! ### Return and gates -/

/-- R273: RFE, with the registers that stood before its Loaf in `pre`; SSR's reserved bits stay zero. -/
def Arch.rfe (a pre : Arch) : Arch :=
  let c := pre.ctx pre.world
  let ssr := if pre.dfault then pre.dsr else c.esr
  { a with ssr := ssr &&& 0xFF3F, pc := indirectTarget (if pre.dfault then pre.dra else c.era), dfault := false }

/-- The world that RFE returns to. -/
def Arch.rfeWorld (a : Arch) : Bool := (if a.dfault then a.dsr else (a.ctx a.world).esr).getLsbD 0

/-- R246: whether a program memory address counts as Secure. -/
def State.pmSecure (s : State) (n : Fin 9) (a : Nat) : Bool :=
  match s.pmSram n.val a with
  | none => true
  | some o => bitAt (s.regNat (SEQ_PM_SECMAP0 n.val) 4) (o / 2048)

/-- A gate descriptor as program memory holds it (R276). -/
def State.gateDesc (s : State) (n : Fin 9) (w : Bool) (k : Nat) : BitVec 128 :=
  BitVec.ofNat 128 (s.pmNat n.val (gateBase w + k * 16) 16)

/-- The first word of a gate descriptor that holds a double-bit error. -/
def State.gateBad (s : State) (n : Fin 9) (w : Bool) (k : Nat) : Option Nat :=
  ((upTo 4).map (fun i => gateBase w + k * 16 + 4 * i)).find? (fun a => s.pmBadAt n.val a)

def gateBit (d : BitVec 128) (i : Nat) : Bool := d.getLsbD i
def gateReserved (d : BitVec 128) : Bool :=
  let v := d.toNat
  bitAt v 7 || decide (bitsOf v 25 7 ≠ 0) || decide (bitsOf v 122 6 ≠ 0)

/-- R277: argument check `i` of a descriptor on the caller's registers; a failure answers the offset. -/
def gateCheck (a : Arch) (d : BitVec 128) (i : Nat) : Option Nat :=
  let b := 80 + 21 * i
  let r := fun (o : Nat) => (a.reg (Fin.ofNat 64 (bitsOf d.toNat (b + o) 6))).toNat
  let off := r 3
  let len := r 9
  let sn := r 15
  let seg := a.seg a.world (Fin.ofNat 64 sn)
  if !gateBit d b then none
  else if sn < 64 ∧ segValid seg ∧ segSpace seg ≤ 1 ∧ (gateBit d (b + 1) → segRd seg) ∧ (gateBit d (b + 2) → segWr seg)
      ∧ (segUser seg ∨ a.sup) ∧ (len = 0 ∨ off + len - 1 ≤ segLimit seg) then none
  else some off

/-- Whether gate `k` enters the Secure world from the General (R276). -/
def State.gateCross (s : State) (n : Fin 9) (w : Bool) (k : Nat) : Bool := !w && gateBit (s.gateDesc n w k) 2

/-- The descriptor that supplies a gate's fields. -/
def State.gateFields (s : State) (n : Fin 9) (w : Bool) (k : Nat) : BitVec 128 :=
  s.gateDesc n (w || s.gateCross n w k) k

/-- Table 8-6, check 1: an uncorrectable error in a descriptor that is read. -/
def State.gateEcc (s : State) (n : Fin 9) (w : Bool) (k : Nat) : Option Nat :=
  match s.gateBad n w k with
  | some a => some a
  | none => if s.gateCross n w k then s.gateBad n true k else none

/-- Table 8-6, checks 2 to 5: the reason and offset of a GATE_FAULT. -/
def State.gateFault (s : State) (n : Fin 9) (a : Arch) (k : Nat) : Option Exc :=
  let w := a.world
  let d := s.gateDesc n w k
  let f := s.gateFields n w k
  let fail := fun (r off : Nat) => some (exc exGate (k + r * 16) off)
  if !gateBit d 0 then fail 1 0
  else if gateReserved d then fail 6 0
  else if !(a.sup || gateBit d 1) then fail 2 0
  else if s.gateCross n w k && !(gateBit f 0 && gateBit f 3 && !gateReserved f && s.pmSecure n (gateBase true + k * 16)) then fail 3 0
  else
    match gateCheck a f 0 with
    | some o => fail 4 o
    | none =>
      match gateCheck a f 1 with
      | some o => fail 5 o
      | none => none

/-- R278: a gate is entered; `a` holds the registers after the Loaf's other syllables, its pc at the next Loaf. -/
def Arch.gate (a : Arch) (d : BitVec 128) (cross : Bool) : Arch :=
  let t := a.world || cross
  let a1 := a.setCtx t { a.ctx t with era := a.pc.zeroExtend 64, esr := a.ssr }
  let a2 := if gateBit d 6 then
      (a1.setReg 62 (a1.reg 63)).setReg 63 (BitVec.ofNat 64 (bitsOf d.toNat 32 48))
    else a1
  { a2 with ssr := ssrWith a.ssr 0xF (bit01 t + 2 + 4 * bit01 (gateBit d 4) + 8 * bit01 (gateBit d 5)),
            pc := BitVec.ofNat 19 (bitsOf d.toNat 8 17 * 4) }

end Sys2Proof.Machine
end

