-- ==== Sys2Proof/Machine/SeqSyl.lean ====
section
/-! DEFINITION. Sys2Proof/Machine/SeqSyl.lean: a Loaf's syllables one by one: slots and sizes (R220, R221), what makes a Loaf
illegal (R222), the registers a syllable reads and writes (R223), and its result on the scalar registers. -/
namespace Sys2Proof
open Machine

/-- The slot class of a syllable (Table 7-1). -/
def Syl.slot : Syl → Nat
  | .alu _ b .. => bit01 b
  | .alui _ b .. => bit01 b
  | .movi b .. => bit01 b
  | .movk b .. => bit01 b
  | .mem .. | .vdset .. | .vdget .. | .mfs .. | .mts .. | .pld .. | .pst .. | .fence .. => 2
  | .br .. | .jump .. | .call .. | .jr .. | .callr .. | .ret .. | .gate .. | .syscall .. | .rfe .. | .brk .. | .iflush .. => 3
  | .vec .. => 7

def Syl.size (y : Syl) : Nat := if y.slot = 7 then 8 else 4

/-- R222: reserved fields that are not zero, and broken operand rules (Tables 7-5 to 7-10, R61, R226, R232, R236). -/
def Syl.bad : Syl → Bool
  | .alu op b rsv w _ _ y => rsv || (op.bOnly && !b) || ((op == .clz || op == .popc) && y != 0) || ((op == .mulhs || op == .mulhu) && w)
  | .alui op _ rsv _ _ i => rsv || ((op == .shli || op == .shri || op == .srai) && decide (64 ≤ i.toNat))
  | .movi _ rsv _ _ => rsv
  | .movk _ rsv _ _ _ => rsv
  | .mem op rsv d _ _ _ => rsv || ((op == .vdld || op == .vdst) && decide (32 ≤ d.val)) || (op == .acasD && d.val % 2 == 1)
  | .vdset rsv d _ i => rsv || decide (32 ≤ d.val) || decide (4 < i.toNat)
  | .vdget rsv _ g i => rsv || decide (32 ≤ g.val) || decide (3 < i.toNat)
  | .mfs rsv _ k => rsv || srKind k.toNat == .reserved
  | .mts rsv _ k => rsv || srNoWrite k.toNat
  | .pld rsv .. => rsv
  | .pst rsv .. => rsv
  | .fence rsv => rsv
  | .br _ rsv .. => rsv
  | .jump rsv .. => rsv
  | .call rsv .. => rsv
  | .jr rsv .. => rsv
  | .callr rsv .. => rsv
  | .ret rsv _ a => rsv || a != 0
  | .gate rsv c => rsv || decide (16 ≤ c.toNat)
  | .syscall rsv _ => rsv
  | .rfe rsv c => rsv || c != 0
  | .brk rsv _ => rsv
  | .iflush rsv an _ => rsv || an
  | .vec op v => vecIllegal op v

/-- The registers a syllable names as destinations (R222). -/
def Syl.dests (vd : Vector VecDesc 32) : Syl → List (Fin 64)
  | .alu _ _ _ _ d _ _ => [d]
  | .alui _ _ _ d _ _ => [d]
  | .movi _ _ d _ => [d]
  | .movk _ _ _ d _ => [d]
  | .mem op _ d _ _ _ => if op.loadsG then [d] else []
  | .vdget _ d _ _ => [d]
  | .mfs _ d _ => [d]
  | .pld _ d _ _ => [d]
  | .vec op v => vecDests op v vd
  | _ => []

/-- The registers a syllable reads, branch conditions and targets apart; `entry` is a V syllable's Recipe. -/
def Syl.reads (entry : Nat) : Syl → List (Fin 64)
  | .alu _ _ _ _ _ a b => [a, b]
  | .alui _ _ _ _ a _ => [a]
  | .movk _ _ _ d _ => [d]
  | .mem op _ d a _ _ =>
    match op with
    | .acasD => [a, d, pairOf d]
    | .sb | .sh | .sw | .sd | .aaddW | .aaddD | .aswpW | .aswpD => [a, d]
    | _ => [a]
  | .vdset _ _ a _ => [a]
  | .mts _ a _ => [a]
  | .pld _ _ a _ => [a]
  | .pst _ d a _ => [a, d]
  | .vec op v => if vecReadsG op v entry then [v.gs, pairOf v.gs] else []
  | _ => []

/-- The register that decides a conditional branch or holds an indirect target. -/
def Syl.brReg : Syl → Option (Fin 64)
  | .br _ _ _ _ a _ => some a
  | .jr _ _ a => some a
  | .callr _ _ a => some a
  | _ => none

/-- Transfers that a delay Loaf follows (R238). -/
def Syl.delayed : Syl → Bool
  | .br .. | .jump .. | .call .. | .jr .. | .callr .. | .ret .. => true
  | _ => false

/-- C operations that finish after their Loaf. -/
def Syl.last : Syl → Bool
  | .gate .. | .syscall .. | .rfe .. | .brk .. | .iflush .. => true
  | _ => false

def Syl.isDiv : Syl → Bool
  | .alu op .. => op.isDiv
  | _ => false

/-- MTS to a return stack register of the running world (R243). -/
def Syl.setsRs : Syl → Bool
  | .mts _ _ k => k.toNat == 8 || decide (16 ≤ k.toNat)
  | _ => false

def Syl.usesRs : Syl → Bool
  | .call .. | .callr .. | .ret .. => true
  | _ => false

/-- MTS that writes reserved bits of a cause register (R6). -/
def Syl.loose (pre : Arch) : Syl → Bool
  | .mts _ a k => (k.toNat == 3 || k.toNat == 7) && decide (bitsOf (pre.reg a).toNat 5 11 ≠ 0)
  | _ => false

end Sys2Proof

namespace Sys2Proof.Machine

/-- The syllable of a Loaf in a slot. -/
def slotOf (l : List Syl) (k : Nat) : Option Syl := l.find? (fun y => y.slot == k)

def loafSize (l : List Syl) : Nat := (l.map Syl.size).foldl (· + ·) 0

/-- The addresses of a Loaf's words. -/
def loafWords (pc : BitVec 19) (l : List Syl) : List Nat := (upTo (loafSize l / 4)).map (fun i => pc.toNat + 4 * i)

/-- R222: ILLEGAL_LOAF. -/
def loafIllegal (pc : BitVec 19) (l : List Syl) (delay : Bool) (vd : Vector VecDesc 32) : Bool :=
  let last := pc.toNat + loafSize l
  l.any Syl.bad || !decide (l.map Syl.slot).Nodup || !decide ((l.flatMap (Syl.dests vd)).filter (fun d => d != 0)).Nodup
    || (delay && l.any (fun y => decide (3 ≤ y.slot)))
    || (decide (pc.toNat < 0x40000) && decide (0x40000 < last)) || decide (0x80000 < last)

/-- A program memory word that PLD and PST name (Table 7-7). -/
def progWord (a : Arch) (r : Fin 64) (imm : BitVec 5) : Nat :=
  let sum : Int := ((a.reg r).toNat : Int) + imm.toInt * 4
  bitsOf (BitVec.ofInt 64 sum).toNat 2 17 * 4

def State.sylReads (s : State) (n : Fin 9) (y : Syl) : List (Fin 64) :=
  y.reads (match y with
    | .vec op _ => s.recipeOf n op
    | _ => 0)

/-- A free value `k` places on. -/
def State.freshAt (s : State) (k : Nat) : Nat := Config.freeValue (s.freeCtr + k)

/-- R223: a syllable's scalar result, from the registers `pre` that stood before its Loaf. -/
def State.sylRegs (s : State) (n : Fin 9) (pre a : Arch) : Syl → Arch
  | .alu op _ _ w d x y => a.setReg d (op.run w (pre.reg x) (pre.reg y))
  | .alui op _ _ d x i => a.setReg d (op.run (pre.reg x) i)
  | .movi _ _ d i => a.setReg d (i.signExtend 64)
  | .movk _ _ q d i => a.setReg d (Machine.movk (pre.reg d) q i)
  | .vdset _ d x i => { a with vd := a.vd.set (Fin.ofNat 32 d.val) (vdSet pre.vd[Fin.ofNat 32 d.val] i.toNat (pre.reg x)) }
  | .vdget _ d g i => a.setReg d (vdGet pre.vd[Fin.ofNat 32 g.val] i.toNat)
  | .mfs _ d k => a.setReg d (s.mfs n pre k.toNat)
  | .mts _ x k => a.mts k.toNat s.fresh (pre.reg x)
  | _ => a

/-- R243: a return stack that MTS and a C syllable of one Loaf both write holds free values. -/
def State.rsFree (s : State) (a : Arch) : Arch :=
  let c := a.ctx a.world
  a.setCtx a.world { c with rsTop := BitVec.ofNat 4 (s.freshAt 1), rsDepth := s.freshAt 2 % 17,
                            rse := Vector.ofFn (fun i : Fin 16 => BitVec.ofNat 17 (s.freshAt (3 + i.val))) }

/-- R240: RET pops at its Loaf; CALL and CALLR push when their delay Loaf is known (`Arch.pushFor`). -/
def State.sylStack (s : State) (l : List Syl) (a : Arch) : Arch :=
  let a := if l.any Syl.setsRs && l.any Syl.usesRs then s.rsFree a else a
  match slotOf l 3 with
  | some (.ret ..) => a.setCtx a.world (a.ctx a.world).pop
  | _ => a

def Arch.pushFor (a : Arch) (br : List Syl) (ret : BitVec 19) : Arch :=
  match slotOf br 3 with
  | some (.call ..) | some (.callr ..) => a.setCtx a.world ((a.ctx a.world).push ret)
  | _ => a

/-- The registers after a Loaf's scalar syllables, its pc past the Loaf. -/
def State.loafRegs (s : State) (n : Fin 9) (pre : Arch) (l : List Syl) : Arch :=
  s.sylStack l { l.foldl (s.sylRegs n pre) pre with pc := pre.pc + BitVec.ofNat 19 (loafSize l) }

/-- How many free values a Loaf's scalar syllables draw. -/
def loafDraws (pre : Arch) (l : List Syl) : Nat :=
  if l.any Syl.setsRs && l.any Syl.usesRs then 19 else if l.any (Syl.loose pre) then 1 else 0

end Sys2Proof.Machine
end

