-- ==== Sys2Proof/Machine/SeqLoaf.lean ====
section
/-! DEFINITION. Sys2Proof/Machine/SeqLoaf.lean: a whole Loaf: its own causes in their order (R268), what holds it (R194 to R199,
R211, R217, R223, R259), its M operation, and the branch target buffer (R252 to R255). -/
namespace Sys2Proof.Machine

/-! ### Records of shadows, branches and pairs -/

def SpecRec.isPair (r : SpecRec) : Bool := match r.kind with
  | .pair .. => true
  | _ => false

def SpecRec.isBranch (r : SpecRec) : Bool := match r.kind with
  | .branch .. => true
  | _ => false

def SpecRec.acc (r : SpecRec) : Option Access := match r.kind with
  | .access a _ _ _ => some a
  | _ => none

/-- The records that hold a Loaf: all but the pair whose delay Loaf it is. -/
def Seq.older (q : Seq) (own : Option Nat) : List SpecRec := q.spec.filter (fun r => some r.id != own)

/-- The general registers that await a result of a record or instruction numbered below `lim` (R223). -/
def Seq.pendG (q : Seq) (lim : Nat) : List (Fin 64) :=
  (q.spec.filter (fun r => decide (r.id < lim))).filterMap (fun r => match r.acc with
    | some a => if a.isPld || a.op.loadsG then some a.dst else none
    | none => none)
  ++ (q.outs.filter (fun v => decide (v.id < lim))).flatMap VIns.pends

def Seq.pendVd (q : Seq) : List Nat := q.spec.filterMap (fun r => match r.acc with
  | some a => if !a.isPld && a.op == .vdld then some a.dst.val else none
  | none => none)

def Seq.pendSg (q : Seq) : List (Fin 64) := q.spec.filterMap (fun r => match r.acc with
  | some a => if !a.isPld && a.op == .sgld then some a.dst else none
  | none => none)

/-- The stores that a pair holds back. -/
def Seq.heldStores (q : Seq) (own : Option Nat) : List SbEntry :=
  q.spec.flatMap (fun r => match r.kind with
    | .pair _ st _ _ => if some r.id == own then st else []
    | _ => [])

/-! ### The M operation -/

/-- Where a memory form reaches: its segment, its offset, and the place. -/
structure MemRef where
  seg : SegDesc
  off : Int
  tgt : Target
  addr : Nat

def State.memRef (s : State) (n : Fin 9) (a : Arch) (op : MemOp) (r sg : Fin 64) (imm : BitVec 5) : MemRef :=
  let seg := a.seg a.world sg
  let off := memOffset op (a.reg r) imm
  { seg := seg, off := off, tgt := segTarget seg (s.ovenOf n), addr := segBase seg + off.toNat }

/-- A completion post (Table 6-3): a store to a completion register of the Queue Engine. -/
def isPost (t : Target) (a : Nat) : Bool :=
  t == .ctl && decide (0x800200 ≤ a) && decide (a < 0x800400) && decide (0x20 ≤ (a - 0x800200) % 0x40)
    && decide ((a - 0x800200) % 0x40 < 0x28)

/-- R194: the byte that the youngest buffered store gives an address. -/
def sbByte (l : List SbEntry) (t : Target) (a : Nat) : Option Nat :=
  (l.reverse.find? (fun e => e.tgt == t && decide (e.addr ≤ a) && decide (a < e.addr + e.size))).map
    (fun e => bitsOf e.data (8 * (a - e.addr)) 8)

/-- What buffered stores hold of a load's bytes: nothing, a part, or all. -/
inductive Cover
  | none
  | part
  | all (v : Nat)
  deriving DecidableEq, Repr

def sbCover (l : List SbEntry) (t : Target) (a size : Nat) : Cover :=
  let bs := (upTo size).map (fun i => sbByte l t (a + i))
  if bs.all Option.isSome then .all (bs.foldr (fun b acc => b.getD 0 + 256 * acc) 0)
  else if bs.any Option.isSome then .part else .none

/-- What a Loaf's M operation does beside its scalar result: nothing, a buffered store, a load served from the store
buffer, or an access that leaves the sequencer. -/
inductive MemDo
  | nothing
  | store (e : SbEntry)
  | value (a : Access) (v : Nat)
  | access (a : Access)
  deriving DecidableEq, Repr

/-- The value that a store writes. -/
def storeData (a : Arch) (op : MemOp) (d : Fin 64) : Nat :=
  match op with
  | .sgst => (a.seg a.world d).toNat
  | .vdst => (a.vd[Fin.ofNat 32 d.val]).toNat
  | _ => (a.reg d).toNat % 2 ^ (8 * op.size)

/-- R232: an M syllable's access; a misaligned one carries a free value (R233, R235, R236). -/
def State.memDo (s : State) (n : Fin 9) (a : Arch) (own : Option Nat) (y : Syl) : MemDo :=
  let buf := (s.seq n).sb ++ (s.seq n).heldStores own
  let load := fun (x : Access) => match sbCover buf x.tgt x.addr x.size with
    | .all v => MemDo.value x v
    | _ => MemDo.access x
  match y with
  | .mem op _ d r sg imm =>
    let m := s.memRef n a op r sg imm
    let odd := !memAligned op m.seg m.off
    if op.isStore then
      .store { tgt := m.tgt, addr := m.addr, size := op.size,
               data := if odd then s.freshAt 20 % 2 ^ (8 * op.size) else storeData a op d, seg := sg, off := m.off.toNat,
               world := a.world, sup := a.sup, sent := false }
    else
      let x : Access := { op := op, isPld := false, dst := d, tgt := m.tgt, addr := m.addr, size := op.size, seg := sg,
                          off := m.off.toNat, world := a.world, sup := a.sup, misaligned := odd,
                          data := (a.reg d).toNat % 2 ^ (8 * op.size), data2 := (a.reg (pairOf d)).toNat }
      if op.isAtomic then .access x else load x
  | .pld _ d r imm =>
    load { op := .lwu, isPld := true, dst := d, tgt := .pm, addr := progWord a r imm, size := 4, seg := 0, off := progWord a r imm,
           world := a.world, sup := a.sup, misaligned := false, data := 0, data2 := 0 }
  | .pst _ d r imm =>
    .store { tgt := .pm, addr := progWord a r imm, size := 4, data := (a.reg d).toNat % 2 ^ 32, seg := 0, off := progWord a r imm,
             world := a.world, sup := a.sup, sent := false }
  | _ => .nothing

/-- Whether a Loaf's M operation draws free values beyond those of `loafDraws`. -/
def State.memOdd (s : State) (n : Fin 9) (a : Arch) (l : List Syl) : Bool :=
  match slotOf l 2 with
  | some (.mem op _ _ r sg imm) => (let m := s.memRef n a op r sg imm; !memAligned op m.seg m.off)
  | _ => false

/-- R223: what an access that has returned leaves in the registers. -/
def Arch.loaded (a : Arch) (x : Access) (v : Nat) : Arch :=
  if x.isPld then a.setReg x.dst (BitVec.ofNat 64 v)
  else match x.op with
    | .sgld => a.setSeg x.world x.dst (BitVec.ofNat 128 v)
    | .vdld => { a with vd := a.vd.set (Fin.ofNat 32 x.dst.val) (BitVec.ofNat 256 v) }
    | _ => a.setReg x.dst (x.op.extend v)

/-! ### A Loaf's own causes (R268, step 3) -/

/-- PROG_ECC of the Loaf's words, ILLEGAL_LOAF, and PRIVILEGE for fetch. -/
def State.fetchCause (s : State) (n : Fin 9) (a : Arch) (l : List Syl) (delay : Bool) : Option Exc :=
  let ws := loafWords a.pc l
  match ws.find? (fun w => s.pmBadAt n.val w) with
  | some w => some (exc exProgEcc 0 w)
  | none =>
    if loafIllegal a.pc l delay a.vd then some (exc exIllegal)
    else (ws.find? (fun w => s.pmSecure n w != a.world)).map (fun w => exc exPrivilege 1 w)

/-- PRIVILEGE of the M slot (R226, R235, R246). -/
def State.memPriv (s : State) (n : Fin 9) (a : Arch) : Syl → Option Exc
  | .pld _ _ r imm =>
    let w := progWord a r imm
    if !a.sup || (!a.world && s.pmSecure n w) then some (exc exPrivilege 2 w) else none
  | .pst _ _ r imm =>
    let w := progWord a r imm
    if !a.sup || (!a.world && s.pmSecure n w && (s.pmSram n.val w).isSome) then some (exc exPrivilege 2 w) else none
  | .mem op _ _ _ _ _ => if (op == .sgld || op == .sgst) && !a.sup then some (exc exPrivilege 3) else none
  | .mfs _ _ k => if srDenied a k.toNat false then some (exc exPrivilege 3) else none
  | .mts _ _ k => if srDenied a k.toNat true then some (exc exPrivilege 3) else none
  | _ => none

/-- PRIVILEGE for reasons other than fetch. -/
def State.loafPriv (s : State) (n : Fin 9) (a : Arch) (l : List Syl) : Option Exc :=
  l.findSome? (fun y => match y with
    | .rfe .. => if !a.sup || (!a.world && a.rfeWorld) then some (exc exPrivilege 4) else none
    | .vec .vrestart _ => if !a.sup then some (exc exPrivilege 5) else none
    | y => s.memPriv n a y)

/-- PROG_ECC of a word that PLD reads, and of a gate descriptor (R247, R277). -/
def State.dataEcc (s : State) (n : Fin 9) (a : Arch) (l : List Syl) : Option Exc :=
  l.findSome? (fun y => match y with
    | .pld _ _ r imm =>
      if (s.memPriv n a y).isNone && s.pmBadAt n.val (progWord a r imm) then some (exc exProgEcc 0 (progWord a r imm)) else none
    | .gate _ c => (s.gateEcc n a.world c.toNat).map (fun w => exc exProgEcc 1 w)
    | _ => none)

/-- Whether a Loaf is about to change the world (R270). -/
def State.changesWorld (s : State) (n : Fin 9) (a : Arch) (l : List Syl) : Bool :=
  l.any (fun y => match y with
    | .gate _ c => s.gateCross n a.world c.toNat && (s.gateFault n a c.toNat).isNone
    | .rfe .. => a.rfeWorld != a.world
    | _ => false)

/-- R48, R54: whether a recorded vector fault is delivered at a Loaf. -/
def State.vecCause (s : State) (n : Fin 9) (a : Arch) (l : List Syl) : Option Exc :=
  let q := s.seq n
  let here := match slotOf l 7 with
    | some (.vec .vsync _) => q.outs.isEmpty
    | some _ => true
    | none => s.changesWorld n a l
  if q.vecPending && here then some (exc exVector) else none

def State.recipeCause (s : State) (n : Fin 9) (l : List Syl) : Option Exc :=
  match slotOf l 7 with
  | some (.vec (.recipe k) v) => if recipeBad (s.recipeOf n (.recipe k)) v.een then some (exc exRecipe k.val) else none
  | _ => none

/-- R242: RS_OVERFLOW and RS_UNDERFLOW. -/
def stackCause (a : Arch) (l : List Syl) : Option Exc :=
  let c := a.ctx a.world
  match slotOf l 3 with
  | some (.call ..) | some (.callr ..) => if a.rsm && decide (16 ≤ c.rsDepth) then some (exc exRsOver) else none
  | some (.ret ..) => if a.rsm && decide (c.rsDepth = 0) then some (exc exRsUnder) else none
  | _ => none

/-- R233, R246: SEG_ACCESS and SEG_LIMIT. -/
def State.segCause (s : State) (n : Fin 9) (a : Arch) (l : List Syl) : Option Exc :=
  match slotOf l 2 with
  | some (.mem op _ _ r sg imm) =>
    let m := s.memRef n a op r sg imm
    (scalarCheck op m.seg a.sup m.off).map (fun c => exc c sg.val (ofInt 64 m.off))
  | some (.pst _ _ r imm) => if (s.pmSram n.val (progWord a r imm)).isNone then some (exc exSegAccess 0 (progWord a r imm)) else none
  | _ => none

/-- R229: DIV_ZERO. -/
def divCause (a : Arch) (l : List Syl) : Option Exc :=
  if l.any (fun y => match y with
      | .alu op _ _ w _ _ y => op.isDiv && decide ((a.reg y).toNat % 2 ^ (if w then 32 else 64) = 0)
      | _ => false) then some (exc exDivZero) else none

def State.gateCause (s : State) (n : Fin 9) (a : Arch) (l : List Syl) : Option Exc :=
  match slotOf l 3 with
  | some (.gate _ c) => s.gateFault n a c.toNat
  | _ => none

/-- The causes that come after those of fetch, in the order of R268. -/
def State.ownCause (s : State) (n : Fin 9) (a : Arch) (l : List Syl) : Option Exc :=
  (s.dataEcc n a l).or ((s.vecCause n a l).or ((s.recipeCause n l).or ((s.loafPriv n a l).or ((stackCause a l).or
    ((s.segCause n a l).or ((divCause a l).or (s.gateCause n a l)))))))

/-! ### What holds a Loaf -/

/-- R223: a register of the Loaf that is still to be written. -/
def State.regHold (s : State) (n : Fin 9) (a : Arch) (l : List Syl) : Bool :=
  let q := s.seq n
  let pend := q.pendG q.nextId
  let vd := q.pendVd
  let sg := q.pendSg
  let anyVec := l.any (fun y => y.slot == 7)
  let gate := l.any (fun y => match y with
    | .gate .. => true
    | _ => false)
  let seg := fun (y : Syl) => match y with
    | .mem op _ d _ g _ => sg.contains g || ((op == .sgld || op == .sgst) && sg.contains d) || ((op == .vdld || op == .vdst) && vd.contains d.val)
    | .vdset _ d _ _ => vd.contains d.val
    | .vdget _ _ g _ => vd.contains g.val
    | _ => false
  l.any (fun y => (s.sylReads n y ++ y.dests a.vd).any (fun r => r != 0 && pend.contains r) || seg y)
    || (anyVec && (!vd.isEmpty || !sg.isEmpty)) || (gate && (!pend.isEmpty || !sg.isEmpty))

/-- Whether a scalar atomic is out, or a completion post waits, behind which later accesses are held (Table 6-3). -/
def Seq.fenced (q : Seq) : Bool :=
  q.spec.any (fun r => match r.acc with
    | some a => !a.isPld && a.op.isAtomic
    | none => false) || q.sb.any (fun e => isPost e.tgt e.addr)

/-- What holds a Loaf for its M operation; `free` says that no older branch or shadow is open. -/
def State.memHold (s : State) (n : Fin 9) (a : Arch) (own : Option Nat) (free : Bool) (y : Syl) : Bool :=
  let q := s.seq n
  let held := q.heldStores own
  let part := fun (t : Target) (ad sz : Nat) => sbCover (q.sb ++ held) t ad sz == .part
  let full := decide (16 ≤ q.sb.length + held.length)
  match y with
  | .mem op _ _ r sg imm =>
    let m := s.memRef n a op r sg imm
    q.fenced ||
      (if op.isAtomic then !free || !q.sb.isEmpty
       else if op.isStore then !free || full || (isPost m.tgt m.addr && !(q.sb.isEmpty && q.vecQuiet))
       else part m.tgt m.addr op.size || ((segSide m.seg || segRemote m.seg) && !free) || (m.tgt == .ctl && !(free && q.sb.isEmpty)))
  | .pld _ _ r imm => q.fenced || !free || part .pm (progWord a r imm) 4
  | .pst .. => q.fenced || !free || full
  | .fence .. => !free || !q.sb.isEmpty || !held.isEmpty
  | _ => false

/-- What holds a Loaf for its V syllable. -/
def State.vecHold (s : State) (n : Fin 9) (free : Bool) (y : Syl) : Bool :=
  let q := s.seq n
  match y with
  | .vec .vsync _ => !free || !q.sb.isEmpty || !q.vecQuiet
  | .vec .vrestart v => !free || !q.mayRestart (v.mod.getLsbD 0)
  | .vec _ _ => decide (8 ≤ q.outs.length) || q.sb.any (fun e => isPost e.tgt e.addr)
  | _ => false

/-! ### The branch target buffer -/

/-- R253: the entry that a lookup at an address finds. -/
def Seq.btbFind (q : Seq) (a : Arch) (pc : BitVec 19) : Option BtbEntry :=
  q.btb.find? (fun e => e.set == (bitsOf pc.toNat 2 7 ^^^ (a.ctxid % 128)) && e.pcTag == bitsOf pc.toNat 9 10 && e.world == a.world
    && e.sup == a.sup && e.ctx == a.ctxid)

/-- R253, R254: a resolved transfer, with the registers before its Loaf in `a`, enters the buffer, or moves its entry's counter. -/
def State.btbUpdate (s : State) (n : Fin 9) (a : Arch) (kind : BtbKind) (target : Option (BitVec 19)) : State :=
  let q := s.seq n
  let pc := a.pc
  let old := q.btbFind a pc
  let rest := match old with
    | some e => q.btb.erase e
    | none => q.btb
  match target with
  | some t =>
    let k := s.secret n.val a.world a.sup a.ctxid
    let set := bitsOf pc.toNat 2 7 ^^^ (a.ctxid % 128)
    let e : BtbEntry := { set := set, pcTag := bitsOf pc.toNat 9 10, world := a.world, sup := a.sup, ctx := a.ctxid,
                          target := BitVec.ofNat 17 (t.toNat / 4) ^^^ k, kind := kind,
                          counter := match old with
                            | some e => min 3 (e.counter + 1)
                            | none => 2 }
    let rest := if 4 ≤ (rest.filter (fun x => x.set == set)).length then
        match rest.reverse.find? (fun x => x.set == set) with
        | some v => rest.erase v
        | none => rest
      else rest
    s.setSeq n { q with btb := e :: rest }
  | none =>
    match old with
    | some e => s.setSeq n { q with btb := { e with counter := e.counter - 1 } :: rest }
    | none => s

/-- Where a transfer goes, from the registers that stood before its Loaf; none where it is not taken. -/
def brTarget (a : Arch) (l : List Syl) : Option (BitVec 19) :=
  match slotOf l 3 with
  | some (.br c _ _ _ r d) => if c.holds (a.reg r) then some (directTarget a.pc d.toInt) else none
  | some (.jump _ _ d) => some (directTarget a.pc d.toInt)
  | some (.call _ _ d) => some (directTarget a.pc d.toInt)
  | some (.jr _ _ r) => some (indirectTarget (a.reg r))
  | some (.callr _ _ r) => some (indirectTarget (a.reg r))
  | some (.ret ..) => some (a.ctx a.world).top
  | _ => none

/-- The kind under which a transfer enters the buffer; RET never does. -/
def brKind (l : List Syl) : Option BtbKind :=
  match slotOf l 3 with
  | some (.br ..) => some .conditional
  | some (.jump ..) => some .direct
  | some (.call ..) => some .direct
  | some (.jr ..) => some .indirect
  | some (.callr ..) => some .indirect
  | _ => none

/-- ANNUL of a conditional branch; an unconditional transfer is always taken (R238). -/
def annulOf (l : List Syl) : Bool :=
  match slotOf l 3 with
  | some (.br _ _ an ..) => an
  | _ => false

/-- R252: what a branch Loaf comes to, none where it must wait: its register is not yet written and run-ahead is stopped,
or it lies beyond an open branch, or nothing predicts its target. -/
def State.brDecide (s : State) (n : Fin 9) (l : List Syl) : Option BrDecision :=
  let q := s.seq n
  let a := q.arch
  let beyond := q.spec.any SpecRec.isBranch
  match slotOf l 3 with
  | none => none
  | some y =>
    match y.brReg with
    | none => some (.known (brTarget a l))
    | some r =>
      if beyond then none
      else if r = 0 || !(q.pendG q.nextId).contains r then some (.known (brTarget a l))
      else if s.flag (SEQ_CTL n.val) SEQ_CTL.RA_DIS then none
      else
        let hit := if s.flag (SEQ_CTL n.val) SEQ_CTL.BTB_DIS then none else q.btbFind a a.pc
        let there := fun (e : BtbEntry) =>
          BitVec.ofNat 19 ((e.target ^^^ s.secret n.val a.world a.sup a.ctxid).toNat * 4)
        match y with
        | .br _ _ _ hint _ d =>
          let taken := match hit with
            | some e => decide (2 ≤ e.counter)
            | none => hint
          some (.predicted (if taken then some (directTarget a.pc d.toInt) else none))
        | _ => hit.map (fun e => BrDecision.predicted (some (there e)))

end Sys2Proof.Machine
end

