-- ==== Sys2Proof/Machine/SeqRun.lean ====
section
/-! DEFINITION. Sys2Proof/Machine/SeqRun.lean: Loafs run: assembly (R221), the boundary (R268), execution (R223), branch Loafs
with their delay Loafs (R238, R239), run-ahead and its end (R211, R271), divides (R230), and the C operations that finish
after their Loaf. -/
namespace Sys2Proof.Machine

/-! ### Records closed and cancelled -/

/-- R257: retired Loafs counted. -/
def State.loafCount (s : State) (n : Fin 9) (k : Nat) : State :=
  s.countWrap (SEQ_PERF_LOAF n.val) k (SEQ_STATUS n.val) SEQ_STATUS.OVF_LOAF

/-- `k` more Loafs under the youngest open record, or retired where none is open. -/
def State.loafDone (s : State) (n : Fin 9) (k : Nat) : State :=
  let q := s.seq n
  match q.spec.reverse with
  | [] => s.loafCount n k
  | r :: rs => s.setSeq n { q with spec := (({ r with loafs := r.loafs + k } :: rs).reverse) }

/-- A record closed in favour of what lies beyond it: its Loafs go to the next older one, or retire. -/
def State.closeRec (s : State) (n : Fin 9) (id : Nat) : State :=
  let q := s.seq n
  match q.spec.find? (fun r => r.id == id) with
  | none => s
  | some r =>
    let old := q.spec.filter (fun x => decide (x.id < id))
    let young := q.spec.filter (fun x => decide (id < x.id))
    let s := s.setSeq n ({ q with spec := old ++ young }.vecResolve id)
    match old.reverse with
    | [] => s.loafCount n r.loafs
    | o :: os =>
      let q := s.seq n
      s.setSeq n { q with spec := ({ o with loafs := o.loafs + r.loafs } :: os).reverse ++ young }

/-- R128, R271: record `id` and all that lies beyond it cancelled, the registers put back. -/
def State.cancelFrom (s : State) (n : Fin 9) (id : Nat) (a : Arch) : State :=
  let s := s.vecCancel n id
  let q := s.seq n
  s.setSeq n ({ q with spec := q.spec.filter (fun r => decide (r.id < id)), arch := a }.flush)

/-- R239: pairs whose delay Loaf is done and whose accesses have returned retire, oldest first; their stores are buffered. -/
def State.pairSettle (s : State) (n : Fin 9) : State :=
  (s.seq n).spec.foldl (fun s r =>
    match r.kind with
    | .pair br stores _ true =>
      let q := s.seq n
      let busy := q.spec.any (fun x => match x.kind with
        | .access _ p _ _ => p == some r.id
        | .branch _ _ _ _ p => p == r.id && annulOf br
        | _ => false)
      if busy then s else (s.setSeq n { q with sb := q.sb ++ stores }).closeRec n r.id
    | _ => s) s

/-- A pair's record changed. -/
def Seq.setPair (q : Seq) (p : Nat) (f : List Syl → List SbEntry → BrDecision → Bool → SpecKind) : Seq :=
  { q with spec := q.spec.map (fun r => match r.kind with
    | .pair br st d ran => if r.id = p then { r with kind := f br st d ran } else r
    | _ => r) }

/-! ### Accesses leave -/

/-- The operation that a scalar atomic's unit applies. -/
def Access.atomOp (x : Access) : AtomOp :=
  match x.op with
  | .acasD => .cas x.data
  | .aswpW | .aswpD => .swap
  | _ => .add

/-- An access marked as sent, or as failed. -/
def Seq.markAccess (q : Seq) (id : Nat) (sent failed : Bool) : Seq :=
  { q with spec := q.spec.map (fun r => match r.kind with
    | .access a p s f => if r.id = id then { r with kind := .access a p (s || sent) (f || failed) } else r
    | _ => r) }

/-- A remote load's RD, a remote AADD's ATOM, or a local atomic's entry into its unit's queue; a remote exchange, which no
message carries (Table 12-4), is answered with an error response. -/
def State.accessSend (s : State) (n : Fin 9) (id : Nat) (x : Access) : State :=
  let mark := fun (s : State) (failed : Bool) => s.setSeq n ((s.seq n).markAccess id true failed)
  match x.tgt with
  | .remote dev store =>
    let m := if x.op.isAtomic then
        ChMsg.make mtATOM 0 dev s.chId 0 0 (if x.size = 4 then 4 else 6) 15 x.size x.addr 0 false (toBytes x.size x.data)
      else ChMsg.make mtRD 0 dev s.chId 0 0 0 store x.size x.addr 0 false []
    if x.op.isAtomic && x.op != .aaddW && x.op != .aaddD then mark s true
    else
      match s.chRequest (.scalar n) m with
      | some s => mark s false
      | none => s
  | _ =>
    if x.op.isAtomic && !x.isPld then
      let e : AtomEl := { unit := s.atomUnitOf x.addr, addr := x.addr, size := x.size, op := x.atomOp, ety := 0, aty := 0,
                          v := if x.op = .acasD then x.data2 else x.data, psn := false, src := .scalar n id, lease := 100 + n.val,
                          world := x.world }
      match s.atomAdmit e with
      | (s, true) => mark s false
      | (s, false) => s
    else s

/-! ### Execution -/

/-- R28, R235: SGLD of a segment that an outstanding instruction of its world names leaves that instruction's result open. -/
def Seq.segTouch (q : Seq) (x : Access) : Seq :=
  let hit := fun (v : VIns) => v.world == x.world && v.streams.any (fun st => st.segNo == x.dst.val)
  if x.op = .sgld ∧ x.isPld = false then
    { q with outs := q.outs.map (fun v => if hit v then { v with unpred := true } else v) }
  else q

/-- A Loaf's M operation beside its scalar result; `own` is the pair of a branch Loaf or delay Loaf. -/
def State.runMem (s : State) (n : Fin 9) (pre : Arch) (own : Option Nat) (l : List Syl) : State :=
  match slotOf l 2 with
  | none => s
  | some y =>
    let q := s.seq n
    match s.memDo n pre own y with
    | .nothing => s
    | .store e =>
      match own with
      | none => s.setSeq n { q with sb := q.sb ++ [e] }
      | some p => s.setSeq n (q.setPair p (fun br st d ran => .pair br (st ++ [e]) d ran))
    | .value x v =>
      let q := q.segTouch x
      s.setSeq n { q with arch := q.arch.loaded x (if x.misaligned then s.freshAt 20 % 2 ^ (8 * x.size) else v) }
    | .access x =>
      let id := q.nextId
      let r : SpecRec := { id := id, ckpt := pre, loafPc := pre.pc, loafs := 0, kind := .access x own false false }
      let s := s.setSeq n { q with spec := q.spec ++ [r], nextId := id + 1 }
      s.accessSend n id x

/-- A Loaf's V syllable: issued with the registers that stood before its Loaf, and speculative under every open record. -/
def State.runVec (s : State) (n : Fin 9) (pre : Arch) (l : List Syl) : State :=
  match slotOf l 7 with
  | some (.vec .vsync _) => s
  | some (.vec .vrestart v) => s.vecRestart n (v.mod.getLsbD 0)
  | some (.vec op v) =>
    let young := match (s.seq n).spec.getLast? with
      | some r => r.id
      | none => 0
    s.vecIssue n pre op v young
  | _ => s

/-- R223: the effect of a Loaf on everything but what its C syllable begins. -/
def State.runLoaf (s : State) (n : Fin 9) (own : Option Nat) (l : List Syl) : State :=
  let q := s.seq n
  let pre := q.arch
  let a := s.loafRegs n pre l
  let draws := if s.memOdd n pre l then 21 else loafDraws pre l
  let s1 := s.setSeq n { q with arch := a, gateEntered := false }
  let s2 := s1.runMem n pre own l
  { s2 with freeCtr := s2.freeCtr + draws }.runVec n pre l

/-- The C operation of a Loaf that finishes after it. -/
def State.tailOf (s : State) (n : Fin 9) (pre : Arch) (y : Syl) : Tail :=
  match y with
  | .gate _ c => { op := y, pre := pre, desc := s.gateFields n pre.world c.toNat, cross := s.gateCross n pre.world c.toNat }
  | _ => { op := y, pre := pre, desc := 0, cross := false }

/-- A branch Loaf: its pair opens, it executes, and its delay Loaf comes next. -/
def State.runBranch (s : State) (n : Fin 9) (l : List Syl) (dec : BrDecision) : State :=
  let q := s.seq n
  let pre := q.arch
  let p := q.nextId
  let r : SpecRec := { id := p, ckpt := pre, loafPc := pre.pc, loafs := 1, kind := .pair l [] dec false }
  let s := (s.setSeq n { q with spec := q.spec ++ [r], nextId := p + 1 }).runLoaf n (some p) l
  let s := match dec, brKind l with
    | .known t, some k => s.btbUpdate n pre k t
    | _, _ => s
  let q := s.seq n
  let q := { q with delayOf := some p }
  match dec with
  | .predicted t =>
    if annulOf l then
      let id := q.nextId
      let b : SpecRec := { id := id, ckpt := pre, loafPc := pre.pc, loafs := 0, kind := .branch l [] t q.arch p }
      s.setSeq n { q with spec := q.spec ++ [b], nextId := id + 1 }
    else s.setSeq n q
  | .known _ => s.setSeq n q

/-- The decision under which a delay Loaf is met. -/
def BrDecision.target : BrDecision → Option (BitVec 19)
  | .known t => t
  | .predicted t => t

/-- The delay Loaf is done (executed, or annulled): the transfer takes place; a prediction without ANNUL opens its record
here, since its delay Loaf executes either way. -/
def State.delayEnd (s : State) (n : Fin 9) (p : Nat) (br delay : List Syl) (dec : BrDecision) (ckpt : Arch) (exec' : Bool) : State :=
  let q := s.seq n
  let ret := q.arch.pc
  let a := { q.arch with pc := dec.target.getD ret }
  let known := match dec with
    | .known _ => true
    | .predicted _ => false
  let an := annulOf br
  let waits := !known && an && !exec'
  let q := { q with arch := a, delayOf := none }
  let q := q.setPair p (fun b st d _ => .pair b st d (!waits))
  let note := fun (r : SpecRec) => match r.kind with
    | .branch b [] t af pr => if pr = p then { r with kind := .branch b delay t af pr } else r
    | _ => r
  let q := if !known && an then { q with spec := q.spec.map note } else q
  let q := if !known && !an then
      let b : SpecRec := { id := q.nextId, ckpt := ckpt, loafPc := ckpt.pc, loafs := 0,
                           kind := .branch br delay dec.target { q.arch with pc := ret } p }
      { q with spec := q.spec ++ [b], nextId := q.nextId + 1 }
    else q
  (s.setSeq n q).pairSettle n

/-! ### One Loaf at the head -/

/-- The pair whose delay Loaf comes next. -/
def Seq.pairAt (q : Seq) : Option (Nat × List Syl × List SbEntry × BrDecision × Arch) :=
  match q.delayOf with
  | none => none
  | some p => (q.spec.find? (fun r => r.id == p)).bind (fun r => match r.kind with
    | .pair br st d _ => some (p, br, st, d, r.ckpt)
    | _ => none)

/-- Whether a delay Loaf is annulled under its decision (R238). -/
def annulled (br : List Syl) (d : BrDecision) : Bool := annulOf br && d.target.isNone

/-- Whether older work must end before a Loaf's cause may be taken: any open record but the Loaf's own pair. -/
def State.takeOwn (s : State) (n : Fin 9) (own : Option (Nat × List Syl × List SbEntry × BrDecision × Arch)) (e : Exc) : Option State :=
  let q := s.seq n
  let s := if e.code = exProgEcc then s.raise (seqSrc n 1) (seqUnit n.val) svSevere else s
  match own with
  | none => if q.spec.isEmpty then s.deliver n e false q.arch.world q.arch.pc else none
  | some (p, _, _, _, ckpt) =>
    if (q.older (some p)).isEmpty then
      let q' := { q with arch := ckpt }
      let dest := q'.doubles e false || ckpt.world
      let s' := s.cancelFrom n p ckpt
      if ckpt.dfault || dest == ckpt.world || (s'.seq n).quiet then s'.deliver n e false ckpt.world ckpt.pc else none
    else none

/-- What holds a Loaf beside pending registers. -/
def State.loafHold (s : State) (n : Fin 9) (a : Arch) (own : Option Nat) (l : List Syl) : Bool :=
  let q := s.seq n
  let free := (q.older own).isEmpty
  let at' := fun (k : Nat) (f : Syl → Bool) => match slotOf l k with
    | some y => f y
    | none => false
  at' 2 (s.memHold n a own free) || at' 7 (s.vecHold n free)
    || at' 3 (fun y => y.last && (!free || (s.changesWorld n a l && !q.quiet)))

/-- R239: once a delay Loaf can raise nothing more, the stores of its pair are buffered. -/
def State.pairStores (s : State) (n : Fin 9) (own : Option Nat) (l : List Syl) : State :=
  let q := s.seq n
  let risky := match slotOf l 2 with
    | some (.mem op ..) => !op.isStore
    | some (.pld ..) => true
    | _ => false
  match own with
  | none => s
  | some p =>
    if risky || !(q.older own).isEmpty then s
    else s.setSeq n ({ q with sb := q.sb ++ q.heldStores own }.setPair p (fun br _ d ran => .pair br [] d ran))

/-- A Loaf that may execute: a delay Loaf, a branch Loaf, or another. -/
def State.execLoaf (s : State) (n : Fin 9) (l : List Syl) : Option State :=
  let q := s.seq n
  match q.pairAt with
  | some (p, br, _, dec, ckpt) =>
    let a := q.arch.pushFor br (q.arch.pc + BitVec.ofNat 19 (loafSize l))
    let s := (s.setSeq n { q with arch := a }).runLoaf n (some p) l
    some ((s.loafDone n 1).delayEnd n p br l dec ckpt true)
  | none =>
    match slotOf l 3 with
    | some y =>
      if y.delayed then (s.brDecide n l).map (fun dec => s.runBranch n l dec)
      else
        let t := s.tailOf n q.arch y
        let s := s.runLoaf n none l
        some ((s.setSeq n { s.seq n with tail := some t }).loafDone n 1)
    | none => some ((s.runLoaf n none l).loafDone n 1)

/-- R268: the Loaf at the head of those that wait, at its boundary; none where it holds. -/
def State.tryLoaf (s : State) (n : Fin 9) (l : List Syl) : Option State :=
  let q := s.seq n
  let pop := fun (s : State) => s.setSeq n { s.seq n with waiting := (s.seq n).waiting.drop 1 }
  match s.boundary n with
  | .taken s => some s
  | .wait => none
  | .clear =>
    let own := q.pairAt
    let p := own.map (fun x => x.1)
    match own with
    | some (p, br, _, dec, ckpt) =>
      if annulled br dec then
        let a := q.arch.pc + BitVec.ofNat 19 (loafSize l)
        let s := pop (s.setSeq n { q with arch := { q.arch with pc := a } })
        some (s.delayEnd n p br l dec ckpt false)
      else rest s pop own (some p) (match dec with
        | .predicted _ => annulOf br
        | .known _ => false)
    | none => rest s pop none p false
where
  /-- A Loaf that is to execute; `guess` says that a prediction decides whether it does. -/
  rest (s : State) (pop : State → State) (own : Option (Nat × List Syl × List SbEntry × BrDecision × Arch)) (p : Option Nat)
      (guess : Bool) : Option State :=
    let a := (s.seq n).arch
    let take := fun (e : Exc) => if guess then none else s.takeOwn n own e
    match s.fetchCause n a l own.isSome with
    | some e => take e
    | none =>
      if s.regHold n a l then none
      else
        match s.ownCause n a l with
        | some e => take e
        | none =>
          let s := s.pairStores n p l
          if s.loafHold n a p l then none
          else if l.any Syl.isDiv && (own.isSome || !l.any Syl.delayed || (s.brDecide n l).isSome) then some ((pop s).setSeq n { (pop s).seq n with div := some l })
          else (s.execLoaf n l).map pop

/-! ### C operations that finish after their Loaf -/

/-- SYSCALL and BREAK (R268, step 4), IFLUSH (R245), RFE (R273), GATE (R278), once the Loaf's accesses have returned. -/
def State.runTail (s : State) (n : Fin 9) (t : Tail) : Option State :=
  let q := s.seq n
  let a := q.arch
  let moves := match t.op with
    | .gate .. => t.cross
    | .rfe .. => t.pre.rfeWorld != a.world
    | _ => false
  if !q.spec.isEmpty then none
  else if moves && !q.quiet then none
  else if moves && q.vecPending then
    (s.setSeq n { q with arch := t.pre }).deliver n (exc exVector) false t.pre.world t.pre.pc
  else
    match t.op with
    | .syscall _ c => s.deliver n (exc exSyscall c.toNat) false a.world a.pc
    | .brk _ c => s.deliver n (exc exBreak c.toNat) false a.world a.pc
    | .iflush _ _ d =>
      if q.sb.isEmpty then some (s.setSeq n { q.flush with arch := { a with pc := directTarget t.pre.pc d.toInt } }) else none
    | .rfe .. => some (s.setSeq n { q.flush with arch := a.rfe t.pre })
    | .gate .. => some (s.setSeq n { q.flush with arch := a.gate t.desc t.cross, gateEntered := true })
    | _ => some (s.setSeq n { q with tail := none })

/-! ### The pump -/

/-- R271: the error response of the oldest access, once nothing older is open: what lies beyond is cancelled, and SEG_ACCESS
with BUS is taken at the accessing Loaf, or at its branch Loaf. -/
def State.failTake (s : State) (n : Fin 9) : Option State :=
  let q := s.seq n
  match q.spec.find? (fun r => match r.kind with
      | .access _ _ _ f => f
      | _ => false) with
  | none => none
  | some r =>
    match r.kind with
    | .access x own _ _ =>
      let first := own.getD r.id
      let a := match q.spec.find? (fun y => y.id == first) with
        | some y => y.ckpt
        | none => r.ckpt
      if q.spec.any (fun y => decide (y.id < first) || (y.isBranch && decide (y.id < r.id))) then none
      else (s.cancelFrom n first a).deliver n (exc exSegAccess (x.seg.val + 64) (if x.isPld then x.addr else x.off)) false x.world a.pc
    | _ => none

/-- One thing that a sequencer can do of itself: deliver an error, finish a C operation, execute the next Loaf. -/
def State.pumpOne (s : State) (n : Fin 9) : Option State :=
  let q := s.seq n
  if !s.seqRuns n then none
  else
    match s.failTake n with
    | some s => some s
    | none =>
      match q.tail with
      | some t => s.runTail n t
      | none =>
        if q.div.isSome then none
        else match q.waiting with
          | [] => none
          | l :: _ => s.tryLoaf n l

def pumpN : Nat → State → Fin 9 → State
  | 0, s, _ => s
  | k + 1, s, n => match s.pumpOne n with
    | none => s
    | some s => pumpN k s n

/-- A sequencer goes on as far as it can. -/
def State.pump (s : State) (n : Fin 9) : State := pumpN (2 * (s.seq n).waiting.length + 4) s n

/-- A syllable is met (R220, R221): it joins its Loaf; a stop bit, or a slot class that repeats, completes the Loaf. -/
def State.syllable (s : State) (n : Fin 9) (y : Syl) (stop : Bool) : State :=
  if !s.seqRuns n then s
  else
    let q := s.seq n
    let l := q.asm ++ [y]
    if stop || q.asm.any (fun z => z.slot == y.slot) then
      (s.setSeq n { q with asm := [], waiting := q.waiting ++ [l] }).pump n
    else s.setSeq n { q with asm := l }

/-! ### Divides and branches -/

/-- DIVIDE_DONE (R230): a divide's Loaf takes effect. -/
def State.divideDone (s : State) (n : Fin 9) : State :=
  let q := s.seq n
  match q.div with
  | none => s
  | some l =>
    if !s.seqRuns n then s
    else
      match (s.setSeq n { q with div := none }).execLoaf n l with
      | some s => s.pump n
      | none => s

/-- R252, R128: a predicted branch resolves. A wrong prediction cancels what lies beyond it; with ANNUL the delay Loaf is
then met again under what is known. -/
def State.branchDone (s : State) (n : Fin 9) (r : SpecRec) (br delay : List Syl) (guess : Option (BitVec 19)) (after : Arch)
    (p : Nat) : State :=
  let t := brTarget r.ckpt br
  let s := match brKind br with
    | some k => s.btbUpdate n r.ckpt k t
    | none => s
  let an := annulOf br
  let know := fun (q : Seq) (ran : Bool → Bool) => q.setPair p (fun b st _ x => .pair b st (.known t) (ran x))
  if t = guess then
    let s := s.closeRec n r.id
    (s.setSeq n (know (s.seq n) (fun x => x || !delay.isEmpty))).pairSettle n
  else
    let met := !delay.isEmpty
    let wait := if met then [delay] else (s.seq n).waiting.take 1
    let part := if met || !wait.isEmpty then [] else (s.seq n).asm
    let s := s.cancelFrom n r.id after
    if an then
      let q := know (s.seq n) (fun _ => false)
      s.setSeq n { q with delayOf := some p, waiting := wait, asm := part }
    else
      s.setSeq n { s.seq n with arch := { after with pc := t.getD after.pc } }

/-- BRANCH_RESOLVE: the open prediction resolves once its register is written. -/
def State.branchResolve (s : State) (n : Fin 9) : State :=
  let q := s.seq n
  match q.spec.find? SpecRec.isBranch with
  | none => s
  | some r =>
    match r.kind with
    | .branch br delay t after p =>
      let pend := match (slotOf br 3).bind Syl.brReg with
        | some g => (q.pendG p).contains g
        | none => false
      if pend || !s.seqRuns n then s else (s.branchDone n r br delay t after p).pump n
    | _ => s

/-- BTB_INVALIDATE (R255): BTB_INV clears when every entry is invalid. -/
def State.btbInvalidate (s : State) (n : Fin 9) : State :=
  if s.flag (SEQ_CTL n.val) SEQ_CTL.BTB_INV then
    (s.setSeq n { s.seq n with btb := [] }).setFld (SEQ_CTL n.val) SEQ_CTL.BTB_INV 0
  else s

end Sys2Proof.Machine
end

