-- ==== Sys2Proof/Machine/Repair.lean ====
section
/-! DEFINITION. Sys2Proof/Machine/Repair.lean: Autotomy (R470 to R474), Regrow (R475 to R477), the writer and reader of the
Journal (R459 to R464, R481), the checks of the Unit State Table (R467, R468), and the FJ block (R480). -/
namespace Sys2Proof.Machine

/-! ### Regrow ends without its spare (R477, R474) -/

/-- R474: an Oven without a sequencer gives its pipes back as idle spares. -/
def State.ovenFence (s : State) (o : Nat) : State :=
  if (s.seqOf o).isSome || s.unitState (seqUnit 8) == usRegrow && s.unitOven (seqUnit 8) == o then s
  else (s.pipesOf o).foldl (fun s p => s.ustBind (pipeUnit p) usIdle 0 false) s

/-- The logical bank that a physical bank serves. -/
def State.bankOf (s : State) (p : Nat) : Option Nat :=
  let b := p / 8320 * 8192 + p % 8320
  if p % 8320 < 8192 ∧ s.physBank b = p then some b else (s.vm.bankMap.find? (fun e => e.2 == p)).map (fun e => e.1)

/-- R477: a Regrow fails: the spare is fenced, and the unit it was to replace stays out of service. -/
def State.regrowFail (s : State) (spare : Nat) : State :=
  match s.fj.regrows.find? (fun g => g.spare == spare) with
  | none => s
  | some g =>
    let o := s.unitOven spare
    let s := ((s.ustFence spare 0x009).regrowClose spare).raise 0x009 spare svSevere
    let cls := spare / 65536
    if cls = 0 then (s.ustFence (lsUnit (spare % 65536)) 0x009).ovenFence o
    else if cls = 3 then
      let t := spare % 65536 / 8320
      let s := (s.setFld (VM_REGROW t) VM_REGROW.ACTIVE 0).setFld VM_STATUS (10 + t, 1) 0
      match s.bankOf (g.lost % 65536) with
      | some b => s.bankLose b
      | none => s
    else s

/-! ### Autotomy (R471) -/

/-- R58, R218, R260: what a sequencer holds is lost; its committed Slices drain, its atomics in a queue are applied. -/
def State.seqFence (s : State) (n : Fin 9) : State :=
  let s := s.seqDiscard n
  let id := (s.seq n).nextId
  let s := s.setSeq n { Seq.reset with nextId := id }
  ((s.seqRegsReset n).pmLose n.val).qeFence n.val (s.ovenOf n)

/-- A local store goes with its sequencer: its secure part is wiped (Table 10-4), its contents are lost. -/
def State.lsFence (s : State) (k : Nat) : State :=
  let s := (s.lsWipeNow k).lsZero k 0 0x400000
  { s with marches := s.marches.filter (fun m => m.store != k) }

/-- R133: the free spare pipe that would take a side of an Oven. -/
def State.sparePipe (s : State) : Option Nat :=
  ((upTo 18).filter (fun p => s.unitState (pipeUnit p) == usIdle)).head?

/-- Whether some pipe is bound, or on its way, to a side of an Oven. -/
def State.sideTaken (s : State) (o : Nat) (side : Bool) : Bool :=
  (upTo 18).any (fun p => (s.unitState (pipeUnit p) == usBound || s.unitState (pipeUnit p) == usRegrow)
    && s.unitOven (pipeUnit p) == o && s.unitSide (pipeUnit p) == side)

/-- R133 to R135: a pipe is fenced. Its committed entries drain, its uncommitted Slices are discarded, and a free spare is
bound to its side where its Oven holds a group or ACTION asks for Regrow; with no pipe left the Oven is fenced. -/
def State.pipeAutotomy (s : State) (src p action : Nat) : State :=
  let u := pipeUnit p
  let o := s.unitOven u
  let side := s.unitSide u
  let pair := s.unitPaired u
  let owner := s.seqOfOven o
  let group := match owner with
    | some n => !(s.seq n).outs.isEmpty
    | none => false
  let s := match owner with
    | some n => (s.pipeDrain n side).pipeDrop n p
    | none => s
  let s := s.ustFence u src
  let tad := decide (s.st.base = mTadpole)
  match if tad || !(group || decide (action = 2)) || s.sideTaken o side then none else s.sparePipe with
  | some x =>
    let s := s.ustBind (pipeUnit x) usRegrow o side
    let s := if pair then s.ustChange (pipeUnit x) (setBits (s.ustEntry (pipeUnit x)).toNat 7 1 1) else s
    s.regrowOpen src (pipeUnit x) u
  | none =>
    if (s.sideTaken o false) || (s.sideTaken o true) then s
    else match owner with
      | some n => s.autotomy src (seqUnit n.val) 1 svDegraded
      | none => s

/-- The steps of Autotomy up to its end, by class of unit. -/
def State.unitFence (s : State) (src u action : Nat) : State :=
  let i := u % 65536
  match u / 65536 with
  | 0 =>
    let n : Fin 9 := Fin.ofNat 9 i
    let s := (s.ustFence u src).ustFence (lsUnit i) src
    (s.seqFence n).lsFence i
  | 1 => s.pipeAutotomy src i action
  | 3 =>
    match s.bankOf i with
    | some b => s.bankRegrow b
    | none => s.ustFence u src
  | 4 => (s.ustFence u src).atomUnitFence i
  | 5 => (s.ustFence u src).chFence i
  | 6 => (s.ustFence u src).laneLoss (i / 9) (i % 9)
  | 7 => (s.ustFence u src).hostLinkDown i
  | 8 => (s.ustFence u src).bmFence
  | _ => s

/-- REACTION_START (R450): the oldest queued ACTION runs, with at most four at once; one pending on its source takes the
place that is freed. A spare under Regrow whose Autotomy begins fails its Regrow (R477). -/
def State.reactionStart (s : State) : State :=
  match s.fj.queued with
  | [] => s
  | r :: rest =>
    if 4 ≤ s.fj.running.length then s
    else
      let f := { s.fj with running := s.fj.running ++ [r], queued := rest ++ s.fj.onSource.take 1, onSource := s.fj.onSource.drop 1 }
      let s := ({ s with fj := f }).fjShow
      let s := if s.fj.regrows.any (fun g => g.spare == r.unit) then s.regrowFail r.unit else s
      if r.action = 3 then
        match if r.unit / 65536 = 3 then s.bankOf (r.unit % 65536) else none with
        | some b => s.bankRegrow b
        | none => s
      else s.unitFence r.src r.unit r.action

/-- R476: the spare sequencer and its store are bound to an Oven under Regrow, the store is cleared, and the sequencer
enters RESET with SUB 2 (R285); with none free, the Oven is fenced (R474). -/
def State.seqRegrow (s : State) (src u o : Nat) : State :=
  let free := s.unitState (seqUnit 8) == usIdle && s.unitState (lsUnit 8) == usIdle && decide (s.st.base ≠ mTadpole)
  if !free then s.ovenFence o
  else
    let s := (s.ustBind (seqUnit 8) usRegrow o false).ustBind (lsUnit 8) usRegrow o false
    let a := { Arch.reset with sec := { WorldCtx.reset with ecause := 0x20000 } }
    let id := (s.seq 8).nextId
    let s := (s.lsClearStart 8).setSeq 8 { Seq.reset with arch := a, nextId := id }
    (s.seqRegsReset 8).regrowOpen src (seqUnit 8) u

/-- A reaction ends: its record is written with its final COUNT (R459). -/
def State.reactionEnd (s : State) (r : Reaction) : State :=
  let s := { s with fj := { s.fj with running := s.fj.running.erase r } }
  ((s.jPlace (setBits r.bits.toNat 64 64 s.st.tb)).1).fjShow.moultShow

/-- AUTOTOMY_END (R471): every owner has answered; a sequencer's Regrow follows, or its Oven is fenced. -/
def State.autotomyEnd (s : State) (u : Nat) : State :=
  match s.fj.running.find? (fun r => r.covers u && r.action != 3) with
  | none => s
  | some r =>
    let o := s.unitOven r.unit
    if r.unit / 65536 = 0 then
      let s := if r.action = 2 then s.seqRegrow r.src r.unit o else s.ovenFence o
      s.reactionEnd r
    else s.reactionEnd r

/-- The end of a reaction whose ACTION is its chapter's repair, once no Regrow of its unit is in progress (R453). -/
def State.repairEnd (s : State) : State :=
  match s.fj.running.find? (fun r => r.action == 3 && !s.fj.regrows.any (fun g => g.lost == r.unit)) with
  | none => s
  | some r => s.reactionEnd r

/-- AUTOTOMY_TIMEOUT (R472): the bound passes. What is still to be drained is written as Poison, and Autotomy ends. -/
def State.autotomyTimeout (s : State) (u : Nat) : State :=
  match s.fj.running.find? (fun r => r.covers u && r.action != 3) with
  | none => s
  | some r =>
    let s := s.raise 0x00A r.unit svSevere
    let s := if r.unit / 65536 = 1 then
        match s.seqOfOven (s.unitOven r.unit) with
        | some n => (s.seq n).cbuf.foldl (fun s e => if e.side == s.unitSide r.unit then s.drainEntry n e true else s) s
        | none => s
      else s
    s.autotomyEnd u

/-- PIPE_SPARE_ACCEPT (R133): a spare under Regrow accepts its group, or its binding ends, and it is bound. -/
def State.pipeAccept (s : State) (p : Nat) : State :=
  if s.unitState (pipeUnit p) == usRegrow then (s.ustState (pipeUnit p) usBound).regrowClose (pipeUnit p) else s

/-- SEQUENCER_REGROW_END (R476): the image checks, is written into the program SRAM, and the spare is bound; a mismatch
fails the Regrow. -/
def State.seqRegrowEnd (s : State) (ok : Bool) : State :=
  if !s.fj.regrows.any (fun g => g.spare == seqUnit 8) then s
  else if !ok then s.regrowFail (seqUnit 8)
  else if !s.flag (LS_STATUS 8) LS_STATUS.READY then s
  else
    let s := (s.pmLoad 8 (s.fld ST_BOOT ST_BOOT.IMAGE)).setFld (SEQ_CTL 8) SEQ_CTL.REMAP 1
    ((s.ustState (seqUnit 8) usBound).ustState (lsUnit 8) usBound).regrowClose (seqUnit 8)

/-! ### Alerts -/

/-- ALERT_PULSE_END and ALERT_HIGH_TIME_END (R456). -/
def State.alertPulseEnd (s : State) : State := ({ s with fj := { s.fj with alertMin := true } }).alertSettle

def State.alertHighEnd (s : State) : State :=
  let s' := { s with fj := { s.fj with alertHigh := false, alertNext := false } }
  if s.fj.alertNext then s'.alertFall else s'

/-! ### The Journal's writer and reader -/

/-- What one half makes of a record: `k` attempts that fail retire their slots, and three fail the half, as more than 4,096
bad slots do (R460, R463). -/
def JHalf.tryWrite (h : JHalf) (a : JArea) (r : BitVec 512) (k : Nat) : JHalf :=
  if h.failed then h
  else
    let h := (upTo (min 3 k)).foldl (fun h _ => h.retire a) h
    if 3 ≤ k ∨ 4096 < h.bad.length then { h with failed := true } else h.write a r

/-- R463, R464: a half has failed. -/
def State.halfFailed (s : State) (b : Bool) : State :=
  let e : Event := { src := 0x000, unit := fjUnit, sev := svSevere }
  let old := s.bootObj obHalfFail % 4
  let bits := if b then old ||| 2 else old ||| 1
  let s := s.setBootObj obHalfFail 8 (s.st.tb / 4 * 4 + bits)
  let (s, r) := s.jAccept (s.jRec e kJournal svSevere false false)
  let s := (s.jStore .ring r).lgWrite r
  let s := s.raise 0x000 fjUnit svSevere
  if s.jLost then
    let s := (s.condClear 0x001).raise 0x002 fjUnit svSevere
    let s := s.fj.jq.foldl (fun s r => s.lgWrite r) s
    { s with fj := { s.fj with jq := [] } }
  else s.condSet 0x001 fjUnit svDegraded

/-- R462: FJ_JNL_WEAR is raised once for a half. -/
def State.wearCheck (s : State) : State :=
  let hit := fun (h : JHalf) => decide (2250000000 ≤ h.passes / 4) && !h.wearRaised
  let one := fun (s : State) (b : Bool) =>
    let h := if b then s.nv.jb else s.nv.ja
    if hit h then
      let nv := if b then { s.nv with jb := { h with wearRaised := true } } else { s.nv with ja := { h with wearRaised := true } }
      ({ s with nv := nv }).raise 0x005 fjUnit svInfo
    else s
  one (one s false) true

/-- JOURNAL_WRITE (R459, R460): the oldest queued record goes to both halves; `fa` and `fb` are the attempts that fail in
each. In a flush, once 4,096 slots have been retired, the half with more of them is written no longer (R507). -/
def State.journalWrite (s : State) (fa fb : Nat) : State :=
  match s.fj.jq with
  | [] => s
  | r :: rest =>
    if !s.fjRuns then s
    else
      let s := { s with fj := { s.fj with jq := rest } }
      let tired := s.st.holdup && decide (4096 ≤ s.fj.flA + s.fj.flB)
      let skipA := tired && decide (s.fj.flB < s.fj.flA)
      let skipB := tired && !skipA
      let a := s.nv.ja
      let b := s.nv.jb
      let x := recStored (s.jSingle || tired) r
      let a' := if skipA then a else a.tryWrite .ring x fa
      let b' := if skipB then b else b.tryWrite .ring x fb
      let ka := a'.bad.length - a.bad.length
      let kb := b'.bad.length - b.bad.length
      let s := { s with nv := { s.nv with ja := a', jb := b' } }
      let s := if s.st.holdup then { s with fj := { s.fj with flA := s.fj.flA + ka, flB := s.fj.flB + kb, flN := s.fj.flN + 1 } } else s
      let s := s.jShow
      let s := if s.fj.firstSeq ≠ 0 ∧ s.fj.firstSeq = recSeq r then
          (s.setFld FJ_FIRST FJ_FIRST.JSEQ (recSeq r) |> fun s => { s with fj := { s.fj with firstSeq := 0 } })
        else s
      let s := (upTo (ka + kb)).foldl (fun s _ => s.raise 0x003 fjUnit svCorrected) s
      let s := if a'.failed && !a.failed then s.halfFailed false else s
      let s := if b'.failed && !b.failed then s.halfFailed true else s
      s.wearCheck

/-- The record with a SEQ in a half in service. -/
def JHalf.lookup (h : JHalf) (seq : Nat) : Option (BitVec 512) :=
  if h.failed || seq == 0 then none
  else (h.slots.find? (fun p => recSeq p.2 == seq && !h.bad.contains p.1)).map (fun p => p.2)

/-- R481: the record that FJ_JRD_SEQ asks for, in FJ_JRD_DATA. -/
def State.journalRead (s : State) : State :=
  let seq := s.regNat FJ_JRD_SEQ 2
  match s.nv.ja.lookup seq, s.nv.jb.lookup seq with
  | some r, _ => (s.setRegNat FJ_JRD_DATA 16 r.toNat).setRegNat FJ_JRD_STAT 1 2
  | none, some r => (s.setRegNat FJ_JRD_DATA 16 r.toNat).setRegNat FJ_JRD_STAT 1 6
  | none, none => s.setRegNat FJ_JRD_STAT 1 8

/-! ### Requests and checks -/

/-- R479: FJ_REQ. The request is queued as a reaction, or refused with REJ. -/
def State.fjRequest (s : State) (u cmd : Nat) : State :=
  let known := s.fj.repairs.find? (fun x => x % 2 ^ 20 == u)
  let refuse := s.setFld FJ_REQ FJ_REQ.REJ 1
  if cmd = 0 then s
  else if 3 < cmd ∨ !fenceable u ∨ s.unitState u = 7 ∨ (cmd = 3 ∧ known.isNone) then refuse
  else if cmd = 3 then
    let s := { s with fj := { s.fj with repairs := s.fj.repairs.filter (fun x => x % 2 ^ 20 != u) } }
    let act := known.getD 0 / 2 ^ 20
    if act = 1 ∨ act = 2 then s.autotomy 0 u act svDegraded
    else
      match s.bankOf (u % 65536) with
      | none => s
      | some b =>
        let mine := s.vm.rowHeld.filter (fun k => k.1 == b)
        let s := { s with vm := { s.vm with rowHeld := s.vm.rowHeld.filter (fun k => k.1 != b), rowDue := s.vm.rowDue ++ mine } }
        if s.vm.bankHeld.contains b then
          ({ s with vm := { s.vm with bankHeld := s.vm.bankHeld.filter (fun x => x != b) } }).bankRegrow b
        else s
  else if s.fj.reactions.any (fun r => r.covers u) then s
  else
    let a := actUnit u
    let bits := BitVec.ofNat 512 (s.jRec { src := 0, unit := a, sev := svDegraded } kAutotomy svDegraded false false)
    let (s, es) := s.actPush { src := 0, unit := a, action := cmd, first := false, bits := bits }
    raiseAll 8 s es

/-- R468: how restrictive a state is. -/
def ustRank (st : Nat) : Nat :=
  if st = usLost then 4 else if st = usFenced then 3 else if st = usRegrow then 2 else if st = usIdle then 1 else 0

def ustCode (v : Nat) : Nat := if v % 8 = 5 ∨ v % 8 = 6 then usLost else v % 8

/-- UST_CHECK (R467, R468): the three copies and the two further views of an entry, as the check reads them. -/
def State.ustCheck (s : State) (u : Nat) (a b c mgmt data : W32) : State :=
  if s.unitState u = 7 then s
  else
    let v := majority a b c
    let s := s.setUst u v
    let s := if v = a ∧ v = b ∧ v = c then s else s.raise 0x007 fjUnit svCorrected
    let bad := v.toNat % 8 == 5 || v.toNat % 8 == 6
    let s := if bad then
        let s := (s.setUst u (BitVec.ofNat 32 (setBits v.toNat 0 3 usBound))).raise 0x008 u svSevere
        let s := s.autotomy 0x008 (actUnit u) 1 svSevere
        s.setUst u (BitVec.ofNat 32 (setBits v.toNat 0 3 usLost))
      else s
    let st := ustCode v.toNat
    let worst := [ustCode mgmt.toNat, ustCode data.toNat].foldl (fun w x => if ustRank w < ustRank x then x else w) st
    if mgmt = v ∧ data = v then s
    else
      let s := s.raise 0x006 fjUnit svInfo
      if worst = st then s
      else
        let s := if worst = usFenced ∨ worst = usLost then s.autotomy 0x006 (actUnit u) 1 svInfo else s
        s.ustChange u (setBits v.toNat 0 3 worst)

/-! ### The FJ block (R480) -/

/-- R454 gives a forced event no unit of its own: that of the source's instance, or the first of the class that the
source's real events name (DESIGN CHOICE). -/
def forcedUnit (k : Nat) : Nat :=
  if k < 0x20 then fjUnit
  else if k < 0x50 then seqUnit ((k - 0x20) / 4)
  else if k < 0xA0 then pipeUnit ((k - 0x50) / 4)
  else if k < 0xB0 then (if k = 0x0A8 then atomUnit 0 else bankUnit 0)
  else if k < 0xF8 then lsUnit ((k - 0xB0) / 8)
  else if k < 0x100 then fabUnit
  else if k < 0x110 then qeUnit
  else if k < 0x120 then bmUnit
  else if k < 0x1A0 then portUnit ((k - 0x120) / 16)
  else if k < 0x1C0 then hostUnit ((k - 0x1A0) / 8)
  else starterUnit

/-- A word of the FJ block written. -/
def State.fjWord (s : State) (a v : Nat) : State :=
  if a = FJ_CTL then
    let s := s.wordWrite a v
    if s.st.lc = 1 ∨ s.st.lc = 2 ∨ s.st.lc = 4 then s else s.setFld FJ_CTL FJ_CTL.FORCE_EN 0
  else if a = FJ_PIN_CTL then (s.wordWrite a v).alertSettle
  else if a = FJ_REQ then (s.wordWrite a v).fjRequest (v % 2 ^ 20) (v / 2 ^ 20 % 8)
  else if a = FJ_FIRST then
    let s := s.wordWrite a v
    if bitAt v 12 then
      let keep := fun (l : List Reaction) => l.map (fun r => { r with first := false })
      let s := (upTo 16).foldl (fun s i => s.setRegNat (FJ_ALSO i) 1 0) s
      { s with fj := { s.fj with firstSeq := 0, running := keep s.fj.running, queued := keep s.fj.queued,
                                 onSource := keep s.fj.onSource } }
    else s
  else if FJ_JRD_SEQ ≤ a ∧ a < FJ_JRD_SEQ + 8 then (s.wordWrite a v).journalRead
  else if FJ_SRC_CFG 0 ≤ a ∧ a < FJ_SRC_CFG 512 ∧ a % 8 = 0 then
    let k := (a - FJ_SRC_CFG 0) / 8
    let s := (s.wordWrite a v).setFld a FJ_SRC_CFG.FORCE 0
    if bitAt v 31 && s.flag FJ_CTL FJ_CTL.FORCE_EN then
      (s.raise0 { src := k, unit := forcedUnit k, sev := 0, forced := true }).fatalSettle
    else s
  else s.wordWrite a v

def State.fjRegWrite (s : State) (m : Master) (a size v : Nat) : State × Option Nat :=
  let lo := v % 2 ^ 32
  let hi := v / 2 ^ 32 % 2 ^ 32
  if a = FJ_NOTICE ∧ size = 4 ∧ !m.secSup ∧ m.isSeq ∧ m.sup then
    (s.wordWrite a (lo &&& 2 ^ (m.id + 16 * bit01 m.world)), none)
  else if !m.secSup then (s, some erDenied)
  else if a = FJ_JRD_SEQ ∧ size = 8 then ((s.typedWrite a 8 v).journalRead, none)
  else
    let s := s.fjWord a lo
    (if size = 8 then s.fjWord (a + 4) hi else s, none)

/-- The word of the FJ block that a master reads: the views of the Table, of the next SEQ and of FJ_FIRST's levels. -/
def State.fjView (s : State) (a : Nat) : Nat :=
  let v := (s.reg a).toNat
  if a = FJ_UST_ENT then (s.ustEntry (s.fld FJ_UST_SEL FJ_UST_SEL.UNIT)).toNat
  else if a = FJ_JNL_SEQ then s.nv.jnext % 2 ^ 32
  else if a = FJ_JNL_SEQ + 4 then s.nv.jnext / 2 ^ 32 % 2 ^ 32
  else if a = FJ_FIRST then
    let k := v % 512
    if bitAt v 12 then
      setBits (setBits v 13 1 (s.fld (FJ_SRC_STAT k) FJ_SRC_STAT.LATCHED)) 14 1 (s.fld (FJ_SRC_STAT k) FJ_SRC_STAT.PRESENT)
    else v
  else v

/-- R480: the reader's registers are for Secure supervisor level and the Starter. -/
def fjReadOk (m : Master) (a : Nat) : Bool := m.secSup || decide (a < FJ_JRD_SEQ) || decide (FJ_JRD_DATA + 64 ≤ a)

end Sys2Proof.Machine
end

