-- ==== Sys2Proof/Machine/Modes.lean ====
section
/-! DEFINITION. Sys2Proof/Machine/Modes.lean: the start of the device (R494 to R502), mode requests (R489), quiescing
(R490), Brumation (R492), Paired Run (R493), Hold-up (R504 to R508) and the loss of P3V3_AUX (R509). -/
namespace Sys2Proof

/-- Whether a unit fails its test in this start. -/
def ProofRun.bad (r : ProofRun) (u : Nat) : Bool := r.fails.any (fun x => x.toNat == u)

end Sys2Proof

namespace Sys2Proof.Machine

/-! ### The Starter boots (R496), and loses its supply (R509) -/

/-- R495: the image of a start, and whether it fell back. BOOT_TRIES before the increment chooses; a count of 3, after a
Tadpole start, chooses as 2 does. -/
def State.imageChoice (s : State) (okA okB : Bool) : Option (Nat × Bool) :=
  let ok := fun i => (if i = 0 then okA else okB) && decide (s.st.lc ≠ 5)
  let pref := s.bootObj obPref % 2
  let want := if s.bootTries ≤ 1 then pref else 1 - pref
  if ok want then some (want, false) else if ok (1 - want) then some (1 - want, true) else none

def State.setImage (s : State) (x : Nat × Bool) : State :=
  (s.setFld ST_BOOT ST_BOOT.IMAGE x.1).setFlag ST_BOOT ST_BOOT.FALLBACK x.2

/-- R547: a saved object loaded at boot, where it holds a value of its type and range. -/
def State.bootObject (s : State) (o : DictObj) (i j : Nat) : State :=
  let v := mget (fun _ => []) s.nv.saved (objKey (o.index + i) (o.sub + j))
  let fits := !v.isEmpty && (if o.ty = 9 ∨ o.ty = 10 then decide (v.length ≤ o.size)
    else decide (v.length = o.size) && decide (o.lo ≤ ofBytes v) && decide (ofBytes v ≤ o.hi))
  if fits && o.home == .stored then s.setObj (o.index + i) (o.sub + j) v else s

def State.bootObjects (s : State) : State :=
  (dictTable.filter (fun o => o.pers == 1)).foldl (fun s o =>
    (upTo o.n).foldl (fun s i => (upTo o.m).foldl (fun s j => s.bootObject o i j) s) s) s

/-- ST_VF_BOUNDS and ST_PCAP as their objects give them (R520). -/
def State.boundsLoad (s : State) : State :=
  let s := (s.setFld ST_VF_BOUNDS ST_VF_BOUNDS.VMIN (s.objNat 0x3000 2)).setFld ST_VF_BOUNDS ST_VF_BOUNDS.VMAX (s.objNat 0x3000 3)
  let s := (s.setFld ST_VF_BOUNDS ST_VF_BOUNDS.FLOOR (s.objNat 0x3000 4)).setFld ST_VF_BOUNDS ST_VF_BOUNDS.CEIL (s.objNat 0x3000 5)
  (s.setFld ST_PCAP ST_PCAP.PCAP (s.objNat 0x3000 6)).setFld ST_PCAP ST_PCAP.TJ_LIMIT (s.objNat 0x3000 7)

/-- AUX_LOSS (R509): Off at once. Only the fuses, the vault and the Journal die keep anything. -/
def State.auxLoss (s : State) : State :=
  let st := { Starter.reset with base := 0, secDraw := s.st.secDraw }
  let s := { s.baseOff with regs := [], fj := FaultUnit.reset, st := st, wideRd := [], wideWr := [] }
  { s.setFld ST_MODE ST_MODE.MODE mOff with nv := { s.nv with lastEnd := 5 } }

/-- R605, Table 19-7 step 6: the configuration area overwritten, but for the records of R186 and the saved Table. -/
def keptKey (k : Nat) : Bool :=
  decide (0x1000000 ≤ k) || (decide (0x8010 * 256 < k) && decide (k < 0x8011 * 256))
    || (decide (0x8020 * 256 < k) && decide (k < 0x8024 * 256))

def JHalf.wipeCfg (h : JHalf) : JHalf :=
  { h with slots := h.slots.filter (fun p => !(decide (4096 ≤ p.1) && decide (p.1 < 20480))), headCfg := 4096 }

/-- Table 17-3: the kept values written anew. -/
def State.cfgWipe (s : State) : State :=
  let keep := s.nv.saved.filter (fun p => keptKey p.1)
  let ust := s.nv.savedUst
  let s := { s with nv := { s.nv with ja := s.nv.ja.wipeCfg, jb := s.nv.jb.wipeCfg, saved := keep } }
  let s := keep.foldl (fun s p => if p.1 < 0x1000000 then s.saveObj (p.1 / 256) (p.1 % 256) p.2 else s) s
  ust.foldl (fun s p =>
    let (s, r) := s.jAccept (s.jRec { src := bitsOf p.2.toNat 8 9, unit := p.1, sev := svInfo, detail := p.2.toNat } kUst svInfo false false)
    s.jStore .cfg r) s

/-- Table 19-7 step 7: the Wipe's record, and WIPE_PEND cleared. -/
def State.wipeRecord (s : State) : State :=
  let (s, r) := s.jAccept (s.jRec { src := 0, unit := starterUnit, sev := svInfo } kMode svInfo false false)
  let s := s.jStore .ring r
  { s with nv := { s.nv with wipePend := false } }

/-- R605: a Wipe that a loss of power broke off is completed at boot: steps 2 and 6, then its record. The vault
keeps one bit and no scope, so it is completed as FULL. -/
def State.wipeResume (s : State) : State :=
  if !s.nv.wipePend then s
  else
    let s := s.drawAll.cfgWipe
    ({ s with nv := { s.nv with keys := Vector.replicate 4 0 } }).wipeRecord

/-- STARTER_BOOT (R496, R547, R565). -/
def State.starterBoot (s : State) (okA okB : Bool) : State :=
  if s.st.base ≠ 0 then s
  else
    let s := { s with regs := [], st := { Starter.reset with secDraw := s.st.secDraw, lc := s.nv.lc } }
    let s := s.drawAll.wipeResume
    let s := s.bootObjects.boundsLoad
    let s := s.loadMirrors (fun a => decide (0xD00000 ≤ a))
    let s := { s with st := { s.st with canEn := s.objNat 0x1010 1 } }
    let s := s.setBootTries (s.bootObj obTries)
    let s := (s.setRegNat ST_BOOT_REASON 1 (s.bootObj obReason)).newChallenge
    match s.imageChoice okA okB with
    | some x => (s.setImage x).rename
    | none => s.rename.startFail 1 0x1F8 5 s.nv.lastEnd

/-! ### The units that Proofing tests (R469, R497) -/

def psrc : Nat := 0x1F8

/-- R469: the Table as it is read from the configuration area; without it, R14 stands. -/
def State.ustLoad (s : State) : State := s.nv.savedUst.foldl (fun s p => s.setUst p.1 p.2) s

/-- R497: a pipe that fails is fenced, and a spare bound in its place. -/
def State.proofPipe (s : State) (r : ProofRun) (p : Nat) : State :=
  let u := pipeUnit p
  let st := s.unitState u
  let o := s.unitOven u
  let side := s.unitSide u
  if st = usRegrow then (if r.bad u then s.ustFence u psrc else s.ustState u usBound)
  else if st = usIdle then (if r.bad u then s.ustFence u psrc else s)
  else if st = usBound then
    if r.bad u then
      let s := s.ustFence u psrc
      match (upTo 18).find? (fun x => s.unitState (pipeUnit x) == usIdle && !r.bad (pipeUnit x)) with
      | some x => s.ustBind (pipeUnit x) usBound o side
      | none => s
    else s
  else if st = usFenced ∧ s.flag FJ_CTL FJ_CTL.RETEST = true ∧ r.bad u = false then
    (if s.sideTaken o side then s.ustBind u usIdle 0 false else s.ustBind u usBound o side)
  else s

/-- The sequencer with its store, likewise (R15, R474). A store that fails takes its sequencer with it (R343). -/
def State.proofSeq (s : State) (r : ProofRun) (bad : Bool) (n : Nat) : State :=
  let u := seqUnit n
  let st := s.unitState u
  let o := s.unitOven u
  let fence := fun (s : State) => (s.ustFence u psrc).ustFence (lsUnit n) psrc
  let place := fun (s : State) (x st o : Nat) => (s.ustBind (seqUnit x) st o false).ustBind (lsUnit x) st o false
  if st = usRegrow then (if bad then (fence s).ovenFence o else place s n usBound o)
  else if st = usIdle then (if bad then fence s else s)
  else if st = usBound then
    if bad then
      let s := fence s
      if s.unitState (seqUnit 8) = usIdle ∧ r.bad (seqUnit 8) = false ∧ r.bad (lsUnit 8) = false then place s 8 usBound o
      else s.ovenFence o
    else s
  else if st = usFenced ∧ s.flag FJ_CTL FJ_CTL.RETEST = true ∧ bad = false then
    (if (s.seqOf o).isSome then place s n usIdle 0 else place s n usBound o)
  else s

/-- Spares are tested first, so that a failing one takes no place. -/
def sparesFirst (spare : Nat → Bool) (n : Nat) : List Nat := (upTo n).filter spare ++ (upTo n).filter (fun i => !spare i)

/-- Stage 0x12: pipes, sequencers, the Block Mover; Ovens that a Ticket could use. -/
def State.proofLogic (s : State) (r : ProofRun) : State :=
  let s := (sparesFirst (fun p => s.unitState (pipeUnit p) == usIdle) 18).foldl (fun s p => s.proofPipe r p) s
  let s := (sparesFirst (fun n => s.unitState (seqUnit n) == usIdle) 9).foldl (fun s n => s.proofSeq r (r.bad (seqUnit n)) n) s
  if r.bad bmUnit then (s.ustFence bmUnit psrc).setFld BM_STATUS BM_STATUS.FENCED 1
  else if s.unitState bmUnit = usFenced ∧ s.flag FJ_CTL FJ_CTL.RETEST = true then s.ustState bmUnit usBound
  else s

/-- Ovens with a sequencer and a pipe. -/
def State.goodOvens (s : State) : Nat := ((upTo 8).filter (fun o => (s.seqOf o).isSome && !(s.pipesOf o).isEmpty)).length

/-- MIN_OVENS; a Tadpole start takes it as 1 (R501). -/
def State.minOvens (s : State) : Nat := if s.flag ST_BOOT ST_BOOT.TADPOLE then 1 else s.objNat 0x2000 5

/-- Stage 0x13: March C- on every store (R343). -/
def State.proofStores (s : State) (r : ProofRun) : State :=
  let s := (upTo 9).foldl (fun s n => if s.unitState (lsUnit n) = usFenced then s
    else (s.setFld (LS_MARCH_STATUS n) LS_MARCH_STATUS.DONE 1).setFlag (LS_MARCH_STATUS n) LS_MARCH_STATUS.FAIL (r.bad (lsUnit n))) s
  let bad := (sparesFirst (fun n => s.unitState (seqUnit n) == usIdle) 9).filter (fun n => r.bad (lsUnit n))
  bad.foldl (fun s n => (s.proofSeq r true n).raise (0x0B0 + n * 8 + 4) (lsUnit n) svDegraded) s

/-! ### Banks (R151, R181, R188) -/

/-- R188 step 2: the bank and row maps from the Journal, the row repairs fused. -/
def State.mapsLoad (s : State) : State :=
  let s := (upTo 512).foldl (fun s k =>
    let v := ofBytes (mget (fun _ => []) s.nv.saved (objKey (0x8020 + k / 128) (k % 128 + 1)))
    let s := s.setRegNat (VM_SPARE k) 1 v
    if bitAt v 0 then
      let b := k / 128 * 8192 + bitsOf v 2 13
      { s with vm := { s.vm with bankMap := mput (fun b => b / 8192 * 8320 + b % 8192) s.vm.bankMap b (k / 128 * 8320 + 8192 + k % 128) } }
    else s) s
  let rows := (s.nv.saved.filter (fun p => decide (0x1000000 ≤ p.1) && decide (p.1 < 0x2000000))).flatMap (fun p =>
    (upTo 8).filterMap (fun i =>
      let v := ofBytes ((p.2.drop (4 * i)).take 4)
      if bitAt v 11 then some ({ bank := p.1 - 0x1000000, spare := i, row := v % 2048, fused := true } : RowEntry) else none))
  let s := { s with vm := { s.vm with rows := rows } }
  (rows.map (fun x => x.bank)).eraseDups.foldl (fun s p => s.rowKeep p) s

/-- The spare of a tier that a bank takes in Proofing: its own group's, or the lowest free one (R179). -/
def State.proofSpare (s : State) (r : ProofRun) (b : Nat) : Option Nat :=
  let t := b / 8192
  let free := (s.freeSpares t).filter (fun g => !r.bad (bankUnit (t * 8320 + 8192 + g)))
  if free.contains (b / 64 % 128) then some (b / 64 % 128) else free.head?

/-- R188 step 3: a spare taken for a bank, or none left: the bank is lost, and the start fails (R181). -/
def State.proofBank (s : State) (r : ProofRun) (b : Nat) : State × Bool :=
  let t := b / 8192
  let old := s.physBank b
  match s.proofSpare r b with
  | none => (s.bankLose b, false)
  | some g =>
    let new := t * 8320 + 8192 + g
    let k := t * 128 + g
    let s := { s with vm := { s.vm with bankMap := mput (fun b => b / 8192 * 8320 + b % 8192) s.vm.bankMap b new,
                                        rows := s.vm.rows.filter (fun x => x.bank != old) } }.rowKeep old
    let s := s.setRegNat (VM_SPARE k) 1 (1 + bit01 (decide (g ≠ b / 64 % 128)) * 2 + b % 8192 * 4 + bit01 (s.flag (VM_SPARE k) VM_SPARE.LOST) * 2 ^ VM_SPARE.LOST.1)
    let s := s.keepObj (0x8020 + t) (g + 1) (toBytes 4 (s.regNat (VM_SPARE k) 1))
    (((s.ustFence (bankUnit old) vmRegrow).ustState (bankUnit new) usBound).raise vmRegrow (bankUnit old) svDegraded, true)

/-- R469: the spare banks that the saved Table shows under Regrow. -/
def State.proofRegrown (s : State) (r : ProofRun) : State :=
  (upTo 512).foldl (fun s k =>
    let p := k / 128 * 8320 + 8192 + k % 128
    let u := bankUnit p
    if s.unitState u ≠ usRegrow then s
    else if r.bad u then s.ustFence u psrc
    else
      let lost := ofBytes (mget (fun _ => []) s.nv.saved (regrowKey u))
      match if lost = 0 then none else s.bankOf ((lost - 1) % 65536) with
      | none => s.ustState u usIdle
      | some b =>
        let s := (s.ustState u usIdle).regrowKeep u []
        let old := s.physBank b
        let s := { s with vm := { s.vm with bankMap := mput (fun b => b / 8192 * 8320 + b % 8192) s.vm.bankMap b p } }.rowKeep old
        let s := s.setRegNat (VM_SPARE k) 1 (1 + bit01 (decide (k % 128 ≠ b / 64 % 128)) * 2 + b % 8192 * 4)
        let s := s.keepObj (0x8020 + k / 128) (k % 128 + 1) (toBytes 4 (s.regNat (VM_SPARE k) 1))
        (s.ustFence (bankUnit old) vmRegrow).ustState u usBound) s

/-- Banks in service that fail, or that the saved Table shows out of service. -/
def State.badBanks (s : State) (r : ProofRun) : List Nat :=
  let failing := r.fails.filterMap (fun u => if u.toNat / 65536 = 3 then s.bankOf (u.toNat % 65536) else none)
  let saved := s.nv.savedUst.filterMap (fun p =>
    if p.1 / 65536 = 3 ∧ (s.unitState p.1 = usLost ∨ s.unitState p.1 = usFenced) then s.bankOf (p.1 % 65536) else none)
  (failing ++ saved).eraseDups

/-- R151, R501: the tier of a Tadpole start. -/
def State.tadTier (s : State) (r : ProofRun) : Option Nat :=
  let bad := s.badBanks r
  (upTo 4).find? (fun t => !bad.any (fun b => b / 8192 == t))

/-- Stage 0x14: the maps, sparing, and whether every bank could be repaired. -/
def State.proofBanks (s : State) (r : ProofRun) : State × Bool :=
  let s := s.mapsLoad.proofRegrown r
  if s.flag ST_BOOT ST_BOOT.TADPOLE then
    match s.tadTier r with
    | some t => ({ s with vm := { s.vm with tadTier := t } }.setFld VM_STATUS VM_STATUS.TADPOLE_MAP 1, true)
    | none => (s, false)
  else
    let idle := r.fails.filter (fun u => decide (u.toNat / 65536 = 3) && s.unitState u.toNat == usIdle)
    let s := idle.foldl (fun s u => s.ustFence u.toNat psrc) s
    let s := (r.fails.filter (fun u => decide (u.toNat / 65536 = 4) && s.unitState u.toNat == usBound)).foldl (fun s u =>
      (s.ustFence u.toNat psrc).atomUnitFence (u.toNat % 65536)) s
    let s := if s.flag FJ_CTL FJ_CTL.RETEST then
        s.nv.savedUst.foldl (fun s p =>
          if (p.1 / 65536 = 3 ∨ p.1 / 65536 = 4) ∧ s.unitState p.1 = usFenced ∧ r.bad p.1 = false then
            s.ustState p.1 (if p.1 / 65536 = 4 ∨ (s.bankOf (p.1 % 65536)).isSome then usBound else usIdle)
          else s) s
      else s
    let (s, ok) := (s.badBanks r).foldl (fun (x : State × Bool) b =>
      let (s, o) := x.1.proofBank r b
      (s, x.2 && o)) (s, s.vm.lostBanks.isEmpty)
    (s.sparesShow, ok && s.vm.lostUnits.all (fun u => (s.frontOf (u * 16)).isSome))

/-! ### The other stages -/

/-- R484: records that one half alone holds go to the other; a half that failed is tested, and rebuilt if it passes. -/
def JHalf.missing (a b : JHalf) : List (JArea × BitVec 512) :=
  (b.slots.filter (fun p => !a.slots.any (fun q => recSeq q.2 == recSeq p.2))).map (fun p =>
    (if p.1 < 4096 then .boot else if p.1 < 20480 then .cfg else .ring, p.2))

def JHalf.fillFrom (a b : JHalf) : JHalf := (a.missing b).foldl (fun h x => h.write x.1 x.2) a

def State.jRebuild (s : State) (okHalf : Bool) : State :=
  let a := s.nv.ja
  let b := s.nv.jb
  let fresh := fun (h src : JHalf) => { JHalf.reset with passes := h.passes, wearRaised := h.wearRaised }.fillFrom src
  let (a, b) :=
    if a.failed && b.failed then (a, b)
    else if a.failed then (if okHalf then fresh a b else a, b)
    else if b.failed then (a, if okHalf then fresh b a else b)
    else (a.fillFrom b, b.fillFrom a)
  let s := ({ s with nv := { s.nv with ja := a, jb := b } }).jShow
  let top := ((a.slots ++ b.slots).map (fun p => p.2) ++ s.fj.jq).foldl (fun m r => max m (recSeq r)) 0
  let lg := (upTo 16).foldl (fun m n => if s.flag (ST_LG n) ST_LG.VALID then max m (s.fld (ST_LG n) ST_LG.SEQ) else m) 0
  { s with nv := { s.nv with jnext := max top lg + 1 } }

/-- R465: every valid last-gasp entry copied, as a record of its own. -/
def State.lgCopy (s : State) : State :=
  (upTo 16).foldl (fun s n =>
    if s.flag (ST_LG n) ST_LG.VALID then
      let e : Event := { src := s.fld (ST_LG n) ST_LG.SOURCE, unit := s.fld (ST_LG n) ST_LG.UNIT, sev := s.fld (ST_LG n) ST_LG.SEV,
                         detail := s.regNat (ST_LG n) 4 }
      (s.jPlace (s.jRec e kLastGasp e.sev false false)).1
    else s) s

/-- Stage 0x11 (R469, R484). -/
def State.proofFj (s : State) (r : ProofRun) : State :=
  let s := s.ustLoad.loadMirrors (fun a => decide (0xC00000 ≤ a) && decide (a < 0xC10000))
  let s := (s.jRebuild r.halfOk).lgCopy
  let s := if s.jLost then s.condSet 0x002 fjUnit svSevere else if s.jSingle then s.condSet 0x001 fjUnit svDegraded else s
  s.setFld FJ_STATUS FJ_STATUS.READY 1

/-- R501: a Tadpole start powers one sequencer with its store, one pipe, and the tier; the Table's other entries of
these classes read idle while it lasts. -/
def State.tadUnits (s : State) (r : ProofRun) : State × Bool :=
  let ok := fun u => s.unitState u != usFenced && s.unitState u != usLost && !r.bad u
  match (upTo 9).find? (fun n => ok (seqUnit n) && ok (lsUnit n)), (upTo 18).find? (fun p => ok (pipeUnit p)) with
  | some n, some p =>
    let o := s.unitOven (seqUnit n)
    let off := fun (s : State) u => if s.unitState u = usBound ∨ s.unitState u = usRegrow then s.setUnitState u usIdle else s
    let s := (upTo 9).foldl (fun s i => off (off s (seqUnit i)) (lsUnit i)) s
    let s := (upTo 18).foldl (fun s i => off s (pipeUnit i)) s
    let put := fun (s : State) u => s.setUst u (BitVec.ofNat 32 (usBound + o * 8))
    (put (put (put s (seqUnit n)) (lsUnit n)) (pipeUnit p), true)
  | _, _ => (s, false)

/-- Stage 0x15 (R494, R244). -/
def State.proofImage (s : State) : State :=
  (upTo 9).foldl (fun s n =>
    if s.unitState (seqUnit n) = usBound then (s.pmLoad n (s.fld ST_BOOT ST_BOOT.IMAGE)).setFld (SEQ_CTL n) SEQ_CTL.REMAP 1 else s) s

/-- Stage 0x16: region keys (R188 step 4); the key is fixed at 1 in Tadpole (R151). -/
def State.proofKeys (s : State) : State :=
  let s := (upTo 96).foldl (fun s r =>
    let v := mget (fun _ => []) s.nv.saved (objKey 0x8010 (r + 1))
    let k := if s.vmTad || v.isEmpty || decide (15 < ofBytes v) then 1 else ofBytes v
    s.setFld (VM_REGION r) VM_REGION.KEY k) s
  s.setFld VM_STATUS VM_STATUS.READY 1

/-- Stage 0x17 (R325, R339, R380). -/
def State.proofQueues (s : State) : State :=
  let s := (upTo 9).foldl (fun s n => if s.unitState (lsUnit n) = usBound then s.setFld (LS_STATUS n) LS_STATUS.READY 1 else s) s
  let s := s.qeReady
  if s.unitState bmUnit = usBound then s.setFld BM_STATUS BM_STATUS.READY 1 else s

/-- Stage 0x18 (R395, R423): CH_ID, ports in training; host ports take their form. In Tadpole the chain stays down. -/
def State.proofPorts (s : State) : State :=
  if s.flag ST_BOOT ST_BOOT.TADPOLE then { s with hp := { s.hp with bifur := 0 } }
  else
    let id := s.objNat 0x6000 1
    let s := if id < 0x1000 then (s.setFld CH_ID CH_ID.ID id).setFld CH_ID CH_ID.VALID 1 else s
    let s := (upTo 8).foldl (fun s p =>
      if s.unitState (portUnit p) = usBound ∧ s.flag (CH_CTL p) CH_CTL.EN = true then
        (s.setLstate p lsTraining).setChPort p { s.chPort p with train := .start }
      else if s.unitState (portUnit p) = usFenced then s.setLstate p lsFenced else s) s
    { s with hp := { s.hp with bifur := s.fld (HP_CTL 0 0) HP_CTL.BIFUR + 2 * s.fld (HP_CTL 1 0) HP_CTL.BIFUR } }

/-- Ovens whose firmware has set RDY. -/
def State.readyOvens (s : State) : Nat := ((upTo 8).filter (fun o => s.flag (QE_OVEN o) QE_OVEN.RDY)).length

/-- One stage done: the state, and the source and cause where its check fails. -/
def State.proofStage (s : State) (r : ProofRun) (k : Nat) : State × Option (Nat × Nat) :=
  let few := fun (s : State) => if s.goodOvens < s.minOvens then some (psrc, 4) else none
  let tad := s.flag ST_BOOT ST_BOOT.TADPOLE
  match k with
  | 0 => ((s.setFld ST_VF_STATUS ST_VF_STATUS.VNOW s.vmax).setFld ST_VF_STATUS ST_VF_STATUS.FNOW s.ffloor, none)
  | 1 => (s.proofFj r, none)
  | 2 =>
    if r.bad qeUnit || r.bad fabUnit then (s, some (psrc, 1))
    else if tad then
      let (s, ok) := s.tadUnits r
      (s, if ok then none else some (psrc, 7))
    else
      let s := s.proofLogic r
      (s, few s)
  | 3 =>
    let s := if tad then s else s.proofStores r
    (s, few s)
  | 4 =>
    let (s, ok) := s.proofBanks r
    (s, if ok then none else some (vmBankLost, 6))
  | 5 => (s.proofImage, none)
  | 6 => (s.proofKeys, none)
  | 7 => (s.proofQueues, none)
  | _ => (s.proofPorts, none)

/-- The first stage's code of a start. -/
def State.stageBase (s : State) : Nat := if s.flag ST_BOOT ST_BOOT.TADPOLE then 0x30 else 0x10

/-- R497: the stages from number `k` on, up to the one the start comes to. Stage 9 waits for the Ovens' firmware and
stage 10 for admission, both at RUN_ADMISSION. -/
def proofFrom (r : ProofRun) : Nat → State → Nat → State
  | 0, s, _ => s
  | n + 1, s, k =>
    if s.st.base ≠ mProof then s
    else
      let s := s.setFld ST_BOOT ST_BOOT.STAGE (s.stageBase + k)
      if k = r.reach.val ∨ 9 ≤ k then
        match r.fail with
        | some (src, cause) => s.startFail (s.stageBase + k) src.val cause.val s.nv.lastEnd
        | none => s
      else
        match s.proofStage r k with
        | (s, some (src, cause)) => s.startFail (s.stageBase + k) src cause s.nv.lastEnd
        | (t, none) => if t.fld ST_BOOT ST_BOOT.STAGE = s.stageBase + k then proofFrom r n t (k + 1) else t

/-- The stages of a start in progress. -/
def State.proofRun (s : State) (r : ProofRun) : State := proofFrom r 11 s (s.fld ST_BOOT ST_BOOT.STAGE - s.stageBase)

/-- A start: the image (R495), Proofing, and its stages. -/
def State.startWith (s : State) (okA okB : Bool) (run : Option ProofRun) : State :=
  match s.imageChoice okA okB with
  | none => s.startFail 1 0x1F8 5 s.nv.lastEnd
  | some x =>
    let s := (s.proofBegin false).setImage x
    match run with
    | some r => s.proofRun r
    | none => s

/-- PROOFING_START (R487): P12V held for PGOOD_HOLD with AUTOSTART = 1. In Proofing the stages go on. -/
def State.proofingStart (s : State) (r : ProofRun) : State :=
  if s.st.holdup || s.st.wipe.isSome then s
  else if s.st.base = mProof then s.proofRun r
  else if s.st.base = mStarter ∧ s.objNat 0x2000 4 ≠ 0 ∧ s.st.restart = false ∧ s.st.barred = false ∧ s.st.extest = false then
    s.startWith r.okA r.okB (some r)
  else s

/-- RESTART_DELAY_EXPIRY (R499). -/
def State.restartExpiry (s : State) (r : ProofRun) : State :=
  if s.st.base = mStarter ∧ s.st.restart = true ∧ s.st.holdup = false ∧ s.st.wipe = none ∧ s.st.extest = false then
    let s := { s with st := { s.st with restart := false } }
    if s.objNat 0x2000 4 ≠ 0 then s.startWith r.okA r.okB (some r) else s
  else s

/-- PROOFING_STAGE_TIMEOUT (R497): CAUSE 0x2; too few ready Ovens is stage 0x19's own check; stage 0x1A has no limit. -/
def State.stageTimeout (s : State) : State :=
  if s.st.base ≠ mProof ∨ s.st.holdup = true ∨ s.st.wipe ≠ none then s
  else
    let k := s.fld ST_BOOT ST_BOOT.STAGE - s.stageBase
    if k = 10 ∨ k = 8 then s
    else s.startFail (s.stageBase + k) psrc (if k = 9 then 4 else 2) s.nv.lastEnd

/-- BOOT_TRIES_CLEAR (R498). -/
def State.triesClear (s : State) : State :=
  if mBrum ≤ s.st.base ∧ s.st.triesOpen = true then
    { s.setBootTries 0 with st := { s.st with triesOpen := false } }
  else s

/-! ### Requests (R489, R490) -/

def State.reqDone (s : State) : State := s.setFld ST_MODE_REQ ST_MODE_REQ.DONE 1
def State.reqRej (s : State) : State := s.setFld ST_MODE_REQ ST_MODE_REQ.REJ 1

/-- Table 15-3: whether a request is accepted, by the mode that MODE names. -/
def State.reqAccepts (s : State) (t : Nat) : Bool :=
  let m := s.mode
  s.st.quiesce.isNone && (match t with
    | 6 => m == mPaired || m == mBrum
    | 7 => m == mRun || m == mDoze
    | 4 => m == mRun || m == mDoze
    | 1 => m == mTadpole || m == mBrum || (decide (mDoze ≤ m) && decide (m ≤ mTransit))
    | 2 => (m == mStarter && !s.st.extest) || m == mTadpole
    | _ => false)

/-- R490: the conditions of quiescing. -/
def State.quiet (s : State) : Bool :=
  s.qe.tkts.isEmpty && s.liveQueues.all (fun q => s.qf q QCTX.INFLIGHT == 0)
    && (upTo 32).all (fun c => s.bmState c == bsIdle || s.bmState c == bsStopped || s.bmState c == bsParked)
    && s.fj.regrows.isEmpty

/-- R492: what Brumation asks for beside quiescing. A host's reads are answered as they arrive. -/
def State.allDoze (s : State) : Bool := s.boundOvens.all (fun o => s.dozing o)

/-- A request for a mode, but for Wipe. A start asked for without its stages' outcomes stands at its first stage. -/
def State.modeRequest (s : State) (t : Nat) (run : Option ProofRun) : State :=
  if !s.reqAccepts t then s.reqRej
  else match t with
    | 2 =>
      let s := if s.st.base = mTadpole then (s.goStarter s.nv.lastEnd).setBootTries 2 else s
      let s := s.reqDone
      match run with
      | some r => s.startWith r.okA r.okB (some r)
      | none => s.startWith true true none
    | 6 =>
      if s.st.base = mBrum then { s with st := { s.st with quiesce := some 6, wake := true } }
      else { s with st := { s.st with quiesce := some 6 } }
    | _ => { s with st := { s.st with quiesce := some t } }

/-- The PAIRED bit of the pipes (R493). -/
def State.pairAll (s : State) (on : Bool) : State :=
  (upTo 18).foldl (fun s p =>
    let u := pipeUnit p
    let both := decide (2 ≤ (s.pipesOf (s.unitOven u)).length)
    if s.unitState u = usBound ∧ s.unitPaired u ≠ (on && both) then s.ustChange u (setBits (s.ustEntry u).toNat 7 1 (bit01 (on && both)))
    else s) s

/-- Entry to Brumation (R189, R485). -/
def State.brumEnter (s : State) : State :=
  let s := { s with vm := { s.vm with lines := [] } }.hostL1 true
  ({ s with st := { s.st with base := mBrum } }).rename

/-- QUIESCE_DONE (R490): where the conditions hold, the transition that was asked for. -/
def State.quiesceDone (s : State) : State :=
  match s.st.quiesce with
  | none => s
  | some t =>
    if !s.quiet || s.st.holdup || s.st.wipe.isSome then s
    else if t % 16 = 4 ∧ s.allDoze = false then s
    else if t = 6 ∧ s.st.base = mBrum then s
    else
      let s := { s with st := { s.st with quiesce := none } }
      let s := if t < 16 then s.reqDone else s
      match t % 16 with
      | 6 => ((s.pairAll false).overlay ST_MODE.PAIRED false).bmUnpark.qePump
      | 7 => ((s.pairAll true).overlay ST_MODE.PAIRED true).bmUnpark.qePump
      | 4 => s.brumEnter
      | _ => s.giveBack.jDrain.goStarter 0

/-- QUIESCE_TIMEOUT (R490): the request is refused and fetching resumes. A request for Run in Brumation is not quiescing. -/
def State.quiesceTimeout (s : State) : State :=
  if s.st.base = mBrum ∧ s.st.quiesce = some 6 then s
  else s.reqCancel.bmUnpark.qePump

/-- BRUM_IDLE_EXPIRY (R492). -/
def State.brumIdle (s : State) : State :=
  if (s.mode = mRun ∨ s.mode = mDoze) ∧ s.st.quiesce = none ∧ s.objNat 0x2000 9 ≠ 0 ∧ s.quiet = true ∧ s.allDoze = true then
    { s with st := { s.st with quiesce := some 20 } }
  else s

/-- The end of a wake from Brumation: every bound Oven runs, and what waited is served. -/
def State.brumLeave (s : State) : State :=
  let s := if s.st.quiesce = some 6 then s.reqDone else s
  let s := { s with st := { s.st with base := mRun, wake := false, quiesce := none } }.hostL1 false
  ((s.boundOvens.foldl (fun s o => s.setDoze o false) s).rename).bmUnpark.qePump

/-- R339: a store whose retention monitor reports a loss. -/
def State.retLost (s : State) (n : Fin 9) : State :=
  if s.unitState (lsUnit n.val) = usBound then
    ((s.lsClearStart n.val).setFld (LS_STATUS n.val) LS_STATUS.RET_LOST 1).raise (0x0B0 + n.val * 8 + 5) (lsUnit n.val) svDegraded
  else s

/-- BRUMATION_WAKE (R492, R502): the wake waits where Run is not admitted. -/
def State.brumWake (s : State) (lost : List (Fin 9)) : State :=
  if s.st.base ≠ mBrum ∨ s.st.holdup = true ∨ s.st.wipe ≠ none then s
  else
    let s := lost.foldl State.retLost s
    let s := { s with st := { s.st with wake := true } }.holdupLow
    if s.flag ST_MODE ST_MODE.ADMIT then s.brumLeave else s

/-- RUN_ADMISSION (R502): at the end of Proofing, where enough Ovens are ready, and for a wake that waits. -/
def State.runAdmission (s : State) : State :=
  if s.st.holdup || s.st.wipe.isSome then s
  else if s.st.base = mBrum ∧ s.st.wake = true then s.brumWake []
  else if s.st.base ≠ mProof ∨ s.fld ST_BOOT ST_BOOT.STAGE < s.stageBase + 9 ∨ s.readyOvens < s.minOvens then s
  else
    let s := (s.setFld ST_BOOT ST_BOOT.STAGE (s.stageBase + 10)).holdupLow
    if s.flag ST_MODE ST_MODE.ADMIT then
      let b := if s.flag ST_BOOT ST_BOOT.TADPOLE then mTadpole else mRun
      ({ s with st := { s.st with base := b } }).rename.qePump
    else s

/-! ### Hold-up (R504 to R508) -/

/-- A record of the flush, with the next SEQ. -/
def State.flushRec (s : State) (detail : Nat) : State × BitVec 512 :=
  s.jAccept (s.jRec { src := 0x1FA, unit := starterUnit, sev := svDegraded, detail := detail } kFlush svDegraded false false)

/-- Table 15-8: a queue's entry. -/
def State.flushEntry (s : State) (q : Nat) : Nat := q % 65536 + s.qf q QCTX.SQ_HEAD * 2 ^ 16 + s.qf q QCTX.CQ_TAIL * 2 ^ 32

/-- The queue records of the flush, four queues in each. -/
def flushQueues : Nat → State → List Nat → State × List (BitVec 512)
  | 0, s, _ => (s, [])
  | _, s, [] => (s, [])
  | n + 1, s, qs =>
    let four := qs.take 4
    let body := (four.zipIdx.map (fun x => s.flushEntry x.1 * 2 ^ (16 + 48 * x.2))).foldl (· + ·) 0
    let (s, r) := s.flushRec (2 + four.length * 2 ^ 8 + body)
    let (s, rs) := flushQueues n s (qs.drop 4)
    (s, r :: rs)

/-- What stops and what is lost at once (R505, R189, R326, R377). -/
def State.holdupStop (s : State) : State :=
  let halt := fun (q : Seq) => { q with asm := [], delayOf := none, waiting := [], div := none, tail := none, spec := [],
                                        outs := [], openGrp := none }
  let s := (List.finRange 9).foldl (fun (s : State) n => s.setSeq n (halt (s.seq n))) s
  let s := ((s.qeHold.bmHold).lsWipeAll).chHoldup
  { s with vm := { VMem.reset with bankMap := s.vm.bankMap, rows := s.vm.rows }, bm := Vector.replicate 32 BmChan.reset }

/-- HOLDUP_ENTRY (R504, R505): the records of the flush stand in the queue, ahead of any later one. -/
def State.holdupEntry (s : State) (mainFail p12v : Bool) : State :=
  if s.st.base < 2 ∨ s.st.holdup = true ∨ s.st.wipe ≠ none ∨ (mainFail = false ∧ p12v = false) then s
  else
    let m := s.mode
    let s := s.giveBack.reqCancel
    let s := if s.flag ST_HU_STATUS ST_HU_STATUS.TEST then s.testDiscard else s
    let busy := fun q => s.qf q QCTX.INFLIGHT != 0 || s.qe.tkts.any (fun t => t.queue == q)
    let active := s.liveQueues.filter busy
    let rest := s.liveQueues.filter (fun q => !busy q)
    let net := s.objNat 0x3020 0xF - s.objNat 0x3020 0x10
    let detail := 1 + (bit01 mainFail + 2 * bit01 p12v) * 2 ^ 8 + m * 2 ^ 16 + (active.length + rest.length) * 2 ^ 20 + net * 2 ^ 37
    let s := ({ s with st := { s.st with holdup := true, wake := false } }).rename
    let (s, start) := s.flushRec detail
    let (s, ra) := flushQueues (active.length + 1) s active
    let (s, rr) := flushQueues (rest.length + 1) s rest
    let severe := s.fj.jq.filter (fun r => decide (svSevere ≤ recSev r))
    let f := { s.fj with jq := start :: severe ++ ra ++ rr, flA := 0, flB := 0, flAt := s.now, flN := 0 }
    let s := ({ s with fj := f }).setBootObj obFlushSeq 8 (recSeq start)
    s.holdupStop.raise 0x1FA starterUnit svDegraded

/-- FLUSH_END (R505, R506): what is still queued, the end record, and Starter-only. -/
def State.flushEnd (s : State) : State :=
  if !s.st.holdup || s.st.wipe.isSome then s
  else
    let n := s.fj.flN + s.fj.jq.length + 1
    let s := (upTo s.fj.jq.length).foldl (fun s _ => if s.jLost then
        (match s.fj.jq with
         | [] => s
         | r :: rest => ({ s with fj := { s.fj with jq := rest } }).lgWrite r) else s.journalWrite 0 0) s
    let (s, r) := s.flushRec (3 + n % 2 ^ 24 * 2 ^ 8 + (s.now - s.fj.flAt) / 1000 % 2 ^ 32 * 2 ^ 32)
    let s := if s.jLost then s.lgWrite r else ({ s with fj := { s.fj with jq := [r] } }).journalWrite 0 0
    s.goStarter 1

/-- FLUSH_WATCHDOG (R505, R508): writing stops, with a last-gasp entry. -/
def State.flushWatchdog (s : State) : State :=
  if !s.st.holdup || s.st.wipe.isSome then s
  else
    let s := s.raise 0x1FA starterUnit svSevere
    let (s, r) := match s.fj.jq.reverse.find? (fun r => recSrc r == 0x1FA && recKind r != kFlush) with
      | some r => (s, r)
      | none => s.jAccept (s.jRec { src := 0x1FA, unit := starterUnit, sev := svSevere } kEvent svSevere false false)
    (s.lgWrite r).goStarter 2

end Sys2Proof.Machine
end

