-- ==== Sys2Proof/Machine/Life.lean ====
section
/-! DEFINITION. Sys2Proof/Machine/Life.lean: Wipe (R602 to R605), tamper responses (R600, R601), the life cycle (R590 to
R597), and the TAP (R590). -/
namespace Sys2Proof.Machine

/-! ### Wipe -/

/-- Table 19-7, steps 1 and 2, for what the base die holds. -/
def State.wipeBase (s : State) : State :=
  let halt := fun (q : Seq) => { q with asm := [], delayOf := none, waiting := [], div := none, tail := none, spec := [],
                                        outs := [], openGrp := none, btb := [] }
  let s := (List.finRange 9).foldl (fun (s : State) n => s.setSeq n (halt (s.seq n))) s
  let s := (upTo 4).foldl (fun s i => s.setFld (hpStatus i) HP_STATUS.LSTATE 0) s.qeHold.bmHold
  s.lsWipeAll.chOff

/-- WIPE_ENTRY (R602, R603): steps 1 and 2. A request in Off or in Wipe has no effect. The flush of a Hold-up ends; the
records already written stand. -/
def State.wipeEnter (s : State) (full : Bool) : State :=
  if s.st.base = 0 ∨ s.st.wipe ≠ none then s
  else
    let powered := decide (2 ≤ s.st.base)
    let s := s.giveBack.reqCancel
    let f := if s.st.holdup then { s.fj with jq := [] } else s.fj
    let st := { s.st with wipe := some (full, powered), holdup := false, wake := false, restart := false }
    let s := ({ s with fj := f, st := st }).rename
    let s := if powered then s.wipeBase else s
    let s := s.clearOwner.drawAll
    let keys := if full then Vector.replicate 4 0 else s.nv.keys
    { s with nv := { s.nv with keys := keys, wipePend := true } }

/-- Step 5: registers of the Starter die whose saved value a FULL Wipe erases take their defaults. -/
def State.mirrorDefault (s : State) : State :=
  (dictTable.filter (fun o => o.pers == 1)).foldl (fun s o =>
    (upTo o.n).foldl (fun s i => (upTo o.m).foldl (fun s j =>
      match o.regAt (o.index + i) (o.sub + j) with
      | none => s
      | some a =>
        if a < 0xD00000 then s
        else (upTo o.words).foldl (fun s w => s.setReg (a + 4 * w) (regReset (a + 4 * w))) s) s) s) s

/-- R603, R547: every saved object but those of R186 at its default. -/
def State.savedDefault (s : State) : State :=
  let dead := fun (p : Nat × List Byte) =>
    !keptKey p.1 && (match dictFind (p.1 / 256) (p.1 % 256) with
      | some o => o.pers == 1
      | none => false)
  ({ s with st := { s.st with dict := s.st.dict.filter (fun p => !dead p) } }).mirrorDefault.boundsLoad

/-- WIPE_END (R603): steps 3 to 7. The memories of the base die and every register of it are lost with its power. -/
def State.wipeEnd (s : State) : State :=
  match s.st.wipe with
  | none => s
  | some (full, _) =>
    let s := s.tmrWipe
    let s := if full then s.cfgWipe.savedDefault else s
    (s.wipeRecord).goStarter 4

/-! ### Tamper -/

/-- R601: the response that is taken once for the sources that detected together, LOG being raised already. -/
def State.tamperTake (s : State) (resp : Nat) : State :=
  if resp = 2 then
    let s := if 2 ≤ s.st.base then s.lsWipeAll else s
    s.drawAll.clearOwner
  else if resp = 3 then s.wipeEnter true
  else s

/-- TAMPER_DETECT (R600). -/
def State.tamperDetect (s : State) (k : Nat) (present : Bool) : State :=
  if s.st.base = 0 then s
  else
    let (s, resp) := s.tamperLatch k present
    s.tamperTake resp

/-- TAMPER_SAMPLE (R600): a loop-mode input that differs from the code on three samples in a row detects; the highest
response among them is taken once. -/
def State.tamperSample (s : State) (differs : Nat) : State :=
  if s.st.base = 0 then s
  else
    let loop := s.fld SEC_TAMPER_CFG SEC_TAMPER_CFG.LOOP
    let step := fun (x : State × Nat) i =>
      let s := x.1
      if !bitAt loop i then x
      else if !bitAt differs i then
        (({ s with st := { s.st with tamperMiss := cput s.st.tamperMiss i 0 } }).setFld SEC_TAMPER_STAT (8 + i, 1) 0, x.2)
      else
        let n := min 3 (cget s.st.tamperMiss i + 1)
        let s := { s with st := { s.st with tamperMiss := cput s.st.tamperMiss i n } }
        if n < 3 then (s, x.2)
        else
          let (s, r) := s.tamperLatch i true
          (s, max x.2 r)
    let (s, resp) := (upTo 4).foldl step (s, 0)
    s.tamperTake resp

/-- R556: a write in Hold-up or in Wipe is refused; in Off the dictionary is not served. -/
def State.lifeShut (s : State) : Bool := s.st.holdup || s.st.wipe.isSome || decide (s.st.base = 0)

/-! ### Life cycle: each answers the abort code of its refusal, or zero -/

/-- R592: the modes that accept a transition. -/
def State.lcMode (s : State) : Bool :=
  let m := s.mode
  m == mStarter || m == mTadpole || (decide (mDoze ≤ m) && decide (m ≤ mTransit))

/-- R592: the fuses blown, WIPE_PEND set, and Wipe with scope FULL. -/
def State.lcChange (s : State) (target : Nat) : State :=
  let s := { s with nv := { s.nv with lc := target, wipePend := true } }
  s.wipeEnter true

/-- R591: a token's checks. -/
def State.tokenOk (s : State) (t : List Byte) : Bool :=
  decide (t.length = 116) && decide (ofBytes ((t.drop 4).take 8) = Config.serial.toNat)
    && decide (ofBytes ((t.drop 12).take 8) = s.st.challenge.toNat)
    && (upTo 4).any (fun k => !bitAt s.nv.revoked k && Config.tokenSigned k t)

/-- LC_TOKEN (R591). -/
def State.lcToken (s : State) (path src : Nat) (t : List Byte) : State × Nat :=
  if !s.tokenOk t then (s.raise 0x1FD starterUnit svInfo, abAuth)
  else
    let target := ofBytes (t.take 4)
    let byPath := decide (s.nv.lc = 1) && (target == 2 || target == 3) && decide (2 ≤ path) && decide (path ≤ 5)
    let byOwner := decide (s.nv.lc = 3) && target == 4 && s.isOwner src path
    if (byPath || byOwner) && s.lcMode then (s.lcChange target, 0) else (s, abState)

/-- LC_REQ (R591). -/
def State.lcReq (s : State) (path src target : Nat) : State × Nat :=
  if !s.isOwner src path then (s, abNotOwner)
  else if ((s.nv.lc = 2 ∧ target = 3) ∨ (s.nv.lc ≠ 5 ∧ target = 5)) ∧ s.lcMode = true then (s.lcChange target, 0)
  else (s, abState)

/-- The epoch of the running image (R594): VERSION[31:24]. -/
def State.imageEpoch (s : State) : Nat := (Config.flash (s.fld ST_BOOT ST_BOOT.IMAGE * 0x1000000 + 7)).toNat

/-- EPOCH_WRITE (R594). -/
def State.epochWrite (s : State) (path src v : Nat) : State × Nat :=
  if !s.isOwner src path then (s, abNotOwner)
  else if v < s.nv.epoch ∨ 63 < v then (s, abOutOfRange)
  else if s.imageEpoch < v then (s, abState)
  else ({ s with nv := { s.nv with epoch := v } }, 0)

/-- The firmware keys that a state accepts (Table 19-1), revocations aside. -/
def lcKeys (lc : Nat) : List Nat :=
  if lc = 1 ∨ lc = 2 then [0, 1, 2, 3, 4] else if lc = 3 then [0, 1, 2, 3] else if lc = 4 then [4] else []

/-- KEY_REVOKE (R593): a bit written one is blown; blown bits stay. -/
def State.keyRevoke (s : State) (path src v : Nat) : State × Nat :=
  let now := s.nv.revoked ||| v % 16
  let img := s.fld ST_BOOT ST_BOOT.IMAGE
  let verifies := fun r => (lcKeys s.st.lc).any (fun k => (decide (k = 4) || !bitAt r k) && Config.imageSigned img k)
  if !s.isOwner src path then (s, abNotOwner)
  else if 15 < v then (s, abOutOfRange)
  else if now = 15 ∨ (verifies s.nv.revoked = true ∧ verifies now = false) then (s, abState)
  else ({ s with nv := { s.nv with revoked := now } }, 0)

/-- CLAIM_KEY_WRITE (R597). -/
def State.claimKeyWrite (s : State) (path src : Nat) (slot : Fin 4) (key : BitVec 256) : State × Nat :=
  let open' := decide (s.keySlots = 0) && decide (2 ≤ path) && decide (path ≤ 5)
  if open' || s.isOwner src path then ({ s with nv := { s.nv with keys := s.nv.keys.set slot key } }, 0)
  else (s, abNotOwner)

/-! ### The TAP (R590) -/

/-- TAP_INSTRUCTION_LOAD: a private instruction is loaded only in the states of Table 19-1; EXTEST loaded holds the device
out of Proofing. -/
def State.tapLoad (s : State) (c : TapCode) : State :=
  let code := match c with
    | .bypass => 0
    | .idcode => 1
    | .sample => 2
    | .extest => 3
    | .priv => 4
  if code = 4 ∧ s.st.lc ≠ 1 ∧ s.st.lc ≠ 4 then s
  else { s with st := { s.st with tap := code, extest := decide (code = 3) } }

end Sys2Proof.Machine
end

