-- ==== Sys2Proof/Machine/Control.lean ====
section
/-! DEFINITION. Sys2Proof/Machine/Control.lean: the control space as a master meets it (R611 to R622), the posted blocks
(R616 to R618), wide registers (R612), and the control fabric (R345 to R355). -/
namespace Sys2Proof.Machine

/-! ### What a request meets before its block (R349, R622) -/

/-- Whether a request goes on, waits, or is answered with an error. -/
inductive Gate
  | go
  | hold
  | err (code : Nat)
  deriving DecidableEq, Repr

/-- The unit whose registers a block holds, where a unit that can be fenced has one (Table 20-7). -/
def blockUnit (a : Nat) : Option Nat :=
  if 0x100000 ≤ a ∧ a < 0x190000 then some (seqUnit ((a - 0x100000) / 0x10000))
  else if 0x200000 ≤ a ∧ a < 0x320000 then some (pipeUnit ((a - 0x200000) / 0x10000))
  else if 0x600000 ≤ a ∧ a < 0x690000 then some (lsUnit ((a - 0x600000) / 0x10000))
  else if 0x900000 ≤ a ∧ a < 0x910000 then some bmUnit
  else if 0xA00000 ≤ a ∧ a < 0xA80000 then some (portUnit ((a - 0xA00000) / 0x10000))
  else if 0xB00000 ≤ a ∧ a < 0xB20000 then some (hostUnit (hpEpOf a))
  else none

/-- Whether a unit is under Autotomy. -/
def State.underAutotomy (s : State) (u : Nat) : Bool := s.fj.running.any (fun r => r.covers u)
def State.unitGone (s : State) (u : Nat) : Bool := s.unitState u == usFenced || s.unitState u == usLost

/-- A request to a unit: VC2 passes, Autotomy holds the others, and a fenced unit answers FENCED. -/
def State.unitGate (s : State) (vc2 : Bool) (u : Nat) : Gate :=
  if !vc2 && s.underAutotomy u then .hold
  else if s.unitGone u then .err erFenced
  else .go

/-- The blocks of the Starter die, which stay powered while the base die is not. -/
def starterDie (a : Nat) : Bool := decide (0xD00000 ≤ a) && decide (a < 0x1000000)

/-- Table 10-13 and R355 for a master whose request may travel on VC2. -/
def State.modeGate (s : State) (m : Master) : Gate :=
  if s.st.wipe.isSome || s.st.holdup then (if m.id = 13 ∨ m.id = 14 then .go else .hold)
  else if s.st.base < 2 ∧ m.id ≠ 13 then .hold
  else .go

/-- A control-space request: the mode, a block that sleeps in Brumation, and the unit of the block. -/
def State.ctlGate (s : State) (m : Master) (a : Nat) : Gate :=
  match s.modeGate m with
  | .go =>
    if s.st.base < 2 ∧ !starterDie a then .hold
    else if s.st.base = mBrum ∧ (a < 0xA00000 ∨ 0x1000000 ≤ a) then .hold
    else match blockUnit a with
      | some u =>
        if s.st.base = mTadpole ∧ 0x600000 ≤ a ∧ a < 0x690000 ∧ s.unitState u ≠ usBound then .err erFenced
        else s.unitGate (decide (m.id = 14)) u
      | none => .go
  | g => g

/-- Table 10-13: a request held in Brumation asks the Starter to wake. -/
def State.holdWake (s : State) : State := if s.st.base = mBrum then { s with st := { s.st with wake := true } } else s

/-- R351: an error response is recorded in FAB_ERR, and raises its source (Table 10-14). -/
def State.fabErr (s : State) (m : Master) (kind unit addr : Nat) (write : Bool) (code : Nat) : State :=
  let s :=
    if s.flag FAB_ERR FAB_ERR.VALID then s.setFld FAB_ERR FAB_ERR.MULTI 1
    else
      let s := ((s.setFld FAB_ERR FAB_ERR.ADDR addr).setFld FAB_ERR FAB_ERR.MASTER m.id).setFld FAB_ERR FAB_ERR.CODE code
      let s := ((s.setFld FAB_ERR FAB_ERR.KIND kind).setFld FAB_ERR FAB_ERR.UNIT unit).setFlag FAB_ERR FAB_ERR.WRITE write
      s.setFld FAB_ERR FAB_ERR.VALID 1
  if code = erDefault then s.raise 0xF8 fabUnit svInfo
  else if code = erDenied then s.raise 0xF9 fabUnit svInfo
  else if code = erTimeout then s.raise 0xFB fabUnit svSevere
  else s

/-! ### Reads -/

/-- The word of a SEQ block that a master reads: STATE and OVEN show the Unit State Table (R15), the Secure world's bits
read as zero to the General world and to hosts (Tables 2-11 and 3-15a). -/
def State.seqView (s : State) (m : Master) (a : Nat) : Nat :=
  let n : Fin 9 := Fin.ofNat 9 ((a - 0x100000) / 0x10000)
  let off := a % 0x10000
  let v := (s.reg a).toNat
  let q := s.seq n
  let u := seqUnit n.val
  let st := s.unitState u
  if off = 4 then
    let code := if st = usBound then 1 else if st = usFenced ∨ st = usLost then 2 else if st = usRegrow then 3 else 0
    let v := setBits (setBits (setBits v 0 2 code) 2 3 (s.unitOven u)) 5 4 (min 8 q.outs.length)
    setBits (setBits v 9 1 (bit01 (q.spec.any SpecRec.isBranch))) 10 1 (bit01 q.div.isSome)
  else if off = 0x818 then (if m.world then v else v % 4)
  else if off = 0x81C then (if m.world then v else v % 0x10000)
  else if (0x800 ≤ off ∧ off < 0x818) ∨ 0x900 ≤ off then s.vfrView m a
  else v

/-- A word of an HP block: endpoint b's BIFUR and VFSPLIT read zero (R438). -/
def State.hpView (s : State) (a : Nat) : Nat :=
  let i := hpEpOf a
  let v := (s.reg a).toNat
  if i % 2 = 0 then v
  else if a = hpCtl i then setBits v 1 1 0
  else if a = hpCtl i + 4 then setBits v 3 9 0
  else v

/-- A word of the ST block: BUSY as its reader's slot stands (R617), PEND while a request waits (R510). -/
def State.stView (s : State) (m : Master) (a : Nat) : Nat :=
  let v := (s.reg a).toNat
  let st := fun (p : Posted) => decide (0xD00000 ≤ p.addr) && decide (p.addr < 0xE00000)
  if a = ST_WSTAT then setBits v 0 1 (bit01 (s.st.posted.any (fun p => p.master == m.id && st p)))
  else if a = ST_MODE_REQ then
    setBits v 7 1 (bit01 (s.st.posted.any (fun p => decide (p.addr ≤ a) && decide (a < p.addr + p.size))))
  else v

/-- A word as a master reads it, without the effect of an RC register. -/
def State.ctlView (s : State) (m : Master) (a : Nat) : Nat :=
  if a < 0x200000 then s.seqView m a
  else if a < 0x400000 then (if a % 0x10000 = 0 then s.pipeView ((a - 0x200000) / 0x10000) else (s.reg a).toNat)
  else if 0x600000 ≤ a ∧ a < 0x700000 then s.lsView m a
  else if 0x900000 ≤ a ∧ a < 0xA00000 then s.bmView m a
  else if 0xA00000 ≤ a ∧ a < 0xB00000 then (s.reg (chCanon a)).toNat
  else if 0xB00000 ≤ a ∧ a < 0xC00000 then s.hpView a
  else if 0xC00000 ≤ a ∧ a < 0xD00000 then s.fjView a
  else if 0xD00000 ≤ a ∧ a < 0xE00000 then s.stView m a
  else if 0xE00000 ≤ a ∧ a < 0xF00000 then s.tmrView m a
  else if 0xF00000 ≤ a ∧ a < 0x1000000 then s.secView a
  else (s.reg a).toNat

/-- A register wider than 8 B: where it begins and its words. -/
def wideOf (a : Nat) : Option (Nat × Nat) :=
  match regFind a with
  | some (r, _, _, w) => if 2 < r.words then some (a / 4 * 4 - 4 * w, r.words) else none
  | none => none

/-- A master and its world, for the captured copies (R612). -/
def wideKey (b : Nat) (m : Master) : Nat := b * 32 + bit01 m.world * 16 + m.id

/-- R612: a read of the lowest word captures the register; a read of a higher one returns the captured copy. -/
def State.wideRead (s : State) (m : Master) (b n a size : Nat) : State × Nat :=
  let k := wideKey b m
  let now := (upTo n).foldl (fun acc i => acc + s.ctlView m (b + 4 * i) % 2 ^ 32 * 2 ^ (32 * i)) 0
  let part := fun (v : Nat) => bitsOf v (8 * (a - b)) (8 * size)
  if a < b + 8 then ({ s with wideRd := (k, now) :: s.wideRd.filter (fun p => p.1 != k) }, part now)
  else match s.wideRd.find? (fun p => p.1 == k) with
    | some p => (s, part p.2)
    | none => (s, part now)

/-- A listed access of 4 or 8 bytes, read with its effect (R614). A host function reads no queue context that it does not
reach (R425). -/
def State.ctlTake (s : State) (m : Master) (ep : Option Nat) (a size : Nat) : State × Acc Nat :=
  let plain := s.ctlView m a + (if size = 8 then s.ctlView m (a + 4) * 2 ^ 32 else 0)
  if 0x800000 ≤ a ∧ a < 0x900000 then s.qeRead m a size
  else if 0x1000000 ≤ a && m.isHost && !s.reaches (ep.getD ((m.id - 11) * 2)) 0 ((a - 0x1000000) / 64) then (s, .err erDenied)
  else match wideOf a with
    | some (b, n) =>
      if 0xC00000 ≤ a ∧ a < 0xD00000 ∧ !fjReadOk m a then (s, .err erDenied)
      else (let r := s.wideRead m b n a size; (r.1, .ok r.2))
    | none =>
      if 0xC00000 ≤ a ∧ a < 0xD00000 then (if fjReadOk m a then (s, .ok plain) else (s, .err erDenied))
      else if 0xE00000 ≤ a ∧ a < 0xF00000 then
        let s := s.tmrReadEffect m a
        (if size = 8 then s.tmrReadEffect m (a + 4) else s, .ok plain)
      else if a / 8 * 8 = SEC_RNG then
        if !m.secSup then (s, .err erDenied)
        else (let r := s.rngRead; (r.1, .ok (bitsOf r.2 (8 * (a - SEC_RNG)) (8 * size))))
      else (s, .ok plain)

/-- R611: a read of 1 to 8 bytes, its errors recorded. A narrow one returns its bytes of the word. -/
def State.ctlRead (s : State) (m : Master) (ep : Option Nat) (a size : Nat) : State × Acc Nat :=
  let fail := fun (s : State) (c : Nat) => (s.fabErr m 0 0 a false c, (Acc.err c : Acc Nat))
  match s.ctlGate m a with
  | .hold => (s.holdWake, .hold)
  | .err c => fail s c
  | .go =>
    let b := if size < 4 then a / 4 * 4 else a
    let n := if size < 4 then 4 else size
    if b % n ≠ 0 ∨ b + n < a + size ∨ !regListed b n then fail s erDefault
    else match s.ctlTake m ep b n with
      | (s, .ok v) => (s, .ok (bitsOf v (8 * (a - b)) (8 * size)))
      | (s, .err c) => fail s c
      | (s, .hold) => (s, .hold)

/-! ### Writes -/

/-- R106, R256: who may write the guarded registers of SEQn. -/
def seqMayWrite (m : Master) (n : Nat) : Bool := decide (m.id = 13) || (decide (m.id = n) && m.world && m.sup)

/-- R256, R106: the registers that only SEQn's Secure supervisor level and the Starter write. -/
def seqGuarded (off : Nat) : Bool :=
  decide (off < 4) || (decide (0x10 ≤ off) && decide (off < 0x800)) || decide (off = 0x820)

def State.seqRegWrite (s : State) (m : Master) (a size v : Nat) : State × Option Nat :=
  let n := (a - 0x100000) / 0x10000
  let off := a % 0x10000
  if (seqGuarded off || (decide (size = 8) && seqGuarded (off + 4))) && !seqMayWrite m n then (s, some erDenied)
  else if 0x400 ≤ off ∧ off < 0x800 ∧ s.flag (SEQ_RECIPE_LOCK n) SEQ_RECIPE_LOCK.LOCK then
    (s.setFld (SEQ_RECIPE_LOCK n) SEQ_RECIPE_LOCK.WVIOL 1, none)
  else (s.typedWrite a size v, none)

/-- R142: PIPE_CTL is for Secure supervisor level and the Starter. -/
def State.pipeRegWrite (s : State) (m : Master) (a size v : Nat) : State × Option Nat :=
  let hit := wrHits a size (PIPE_CTL ((a - 0x200000) / 0x10000)) 0
  if hit && !m.secSup then (s, some erDenied) else (s.typedWrite a size v, none)

/-- R353. -/
def State.fabRegWrite (s : State) (m : Master) (a size v : Nat) : State × Option Nat :=
  if m.secSup then (s.typedWrite a size v, none) else (s, some erDenied)

/-- R510, R537, R466: the ST registers that only Secure supervisor level and the Starter write. -/
def stGuarded (a size : Nat) : Bool :=
  [ST_MODE_REQ, ST_VF_BOUNDS, ST_VF_BOUNDS + 4, ST_PCAP, ST_LG_CTL].any (fun r => decide (a ≤ r) && decide (r < a + size))

/-- R617, R618: a write to a posted block fills its master's slot, or is discarded and recorded. -/
def State.postWrite (s : State) (m : Master) (a size v : Nat) : State × Option Nat :=
  let blk := fun (x : Nat) => decide (0xE00000 ≤ x)
  let ok := if blk a then s.tmrMayWrite m a && (decide (size = 4) || s.tmrMayWrite m (a + 4)) else m.secSup || !stGuarded a size
  if !ok then (s, some erDenied)
  else if s.st.posted.any (fun p => p.master == m.id && blk p.addr == blk a) then
    if s.flag ST_WSTAT ST_WSTAT.WDROP then (s, none)
    else
      let s := (s.setFlag ST_WSTAT ST_WSTAT.DBLOCK (blk a)).setFld ST_WSTAT ST_WSTAT.DMASTER m.id
      (s.setFld ST_WSTAT ST_WSTAT.WDROP 1, none)
  else
    let p : Posted := { master := m.id, world := m.world, sup := m.sup, addr := a, size := size, data := v }
    ({ s with st := { s.st with posted := s.st.posted ++ [p] } }, none)

/-- A write of 4 or 8 bytes as its block takes it; `ep` is the endpoint that a host's request came through. -/
def State.blockWrite (s : State) (m : Master) (ep : Option Nat) (a size v : Nat) : State × Option Nat :=
  let fn := if m.isHost then some (ep.getD ((m.id - 11) * 2), 0) else none
  if a < 0x200000 then s.seqRegWrite m a size v
  else if a < 0x400000 then s.pipeRegWrite m a size v
  else if a < 0x600000 then s.vmRegWrite m a size v
  else if a < 0x700000 then s.lsRegWrite m a size v
  else if a < 0x800000 then s.fabRegWrite m a size v
  else if a < 0x900000 then s.qeWrite m ep a size v
  else if a < 0xA00000 then s.bmRegWrite m a size v
  else if a < 0xB00000 then s.chRegWrite m (chCanon a) size v
  else if a < 0xC00000 then s.hpRegWrite m ep a size v
  else if a < 0xD00000 then s.fjRegWrite m a size v
  else if a < 0xF00000 then s.postWrite m a size v
  else if a < 0x1000000 then s.secWrite m a size v
  else s.ctxWrite m a size v fn

/-- The staged words of a register applied, lowest first, each as its master wrote it. -/
def State.stagedApply (s : State) (m : Master) (ep : Option Nat) (b n : Nat) : State :=
  let mine := fun (x : StagedWord) => decide (b ≤ x.addr) && decide (x.addr < b + 4 * n)
  let ws := s.wideWr.filter mine
  let s := { s with wideWr := s.wideWr.filter (fun x => !mine x) }
  (upTo n).foldl (fun s i => match ws.find? (fun x => x.addr == b + 4 * i) with
    | some x => (s.blockWrite m ep x.addr 4 x.data.toNat).1
    | none => s) s

/-- R612: a write to a word of a wide register is staged, and takes effect with the highest 8 B word. -/
def State.wideWrite (s : State) (m : Master) (ep : Option Nat) (b n a size v : Nat) : State :=
  let hit := fun (x : StagedWord) => decide (b ≤ x.addr) && decide (x.addr < b + 4 * n)
  let keep := s.wideWr.filter (fun x => !hit x || (x.master == m.id && !(decide (a ≤ x.addr) && decide (x.addr < a + size))))
  let w0 : StagedWord := { addr := a, master := m.id, data := BitVec.ofNat 32 v }
  let w1 : StagedWord := { addr := a + 4, master := m.id, data := BitVec.ofNat 32 (v / 2 ^ 32) }
  let s := { s with wideWr := keep ++ (if size = 8 then [w0, w1] else [w0]) }
  if b + 4 * n - 8 ≤ a then s.stagedApply m ep b n else s

/-- A write that a master's request makes, with the error response it receives, which is not yet recorded. A word of a
wide register is first offered to its block, which may refuse it. -/
def State.ctlPut (s : State) (m : Master) (ep : Option Nat) (a size v : Nat) : State × Option Nat :=
  match (if 0x1000000 ≤ a then none else wideOf (if 0xA00000 ≤ a ∧ a < 0xB00000 then chCanon a else a)) with
  | none => s.blockWrite m ep a size v
  | some (b, n) =>
    let a := if 0xA00000 ≤ a ∧ a < 0xB00000 then chCanon a else a
    let seq := a < 0x200000
    match s.blockWrite m ep a size v with
    | (s', some e) => (s', some e)
    | (s', none) =>
      if seq ∧ 0x400 ≤ a % 0x10000 ∧ a % 0x10000 < 0x800
          ∧ s.flag (SEQ_RECIPE_LOCK ((a - 0x100000) / 0x10000)) SEQ_RECIPE_LOCK.LOCK then (s', none)
      else (s.wideWrite m ep b n a size v, none)

/-- R611: a write; one that is not 4 or 8 bytes wide, or not aligned, receives DEFAULT. -/
def State.ctlWrite (s : State) (m : Master) (ep : Option Nat) (a size v : Nat) : State × Acc Unit :=
  let fail := fun (s : State) (c : Nat) => (s.fabErr m 0 0 a true c, (Acc.err c : Acc Unit))
  match s.ctlGate m a with
  | .hold => (s.holdWake, .hold)
  | .err c => fail s c
  | .go =>
    if (size ≠ 4 ∧ size ≠ 8) ∨ a % size ≠ 0 ∨ !regListed a size then fail s erDefault
    else match s.ctlPut m ep a size v with
      | (s, some c) => fail s c
      | (s, none) => (s, .ok ())

/-! ### Posted writes applied (R617) -/

/-- A word of the ST block written as R617 applies it: a request taken, the last-gasp ring cleared, a field stored. -/
def State.stWord (s : State) (m : Master) (a v : Nat) : State :=
  if a = ST_MODE_REQ then
    let s := (s.wordWrite a v).setFld ST_MODE_REQ ST_MODE_REQ.GO 0
    if !bitAt v 4 then s
    else if s.fld ST_MODE_REQ ST_MODE_REQ.REQ = 11 then s.wipeEnter (s.flag SEC_CTL SEC_CTL.WIPE_FULL)
    else s.modeRequest (s.fld ST_MODE_REQ ST_MODE_REQ.REQ) none
  else if a = ST_LG_CTL then (if bitAt v 31 then s.lgClear else s)
  else if a = ST_MODE then (if m.id = 13 then s.wordWrite a v else s)
  else s.wordWrite a v

/-- POSTED_WRITE_APPLY: the oldest accepted write takes effect. -/
def State.postApply (s : State) : State :=
  match s.st.posted with
  | [] => s
  | p :: ps =>
    let s := { s with st := { s.st with posted := ps } }
    let m : Master := ⟨p.master, p.world, p.sup⟩
    if 0xE00000 ≤ p.addr then s.tmrApply m p.addr p.size p.data
    else
      let s := s.stWord m p.addr (p.data % 2 ^ 32)
      if p.size = 8 then s.stWord m (p.addr + 4) (p.data / 2 ^ 32 % 2 ^ 32) else s

/-! ### The fabric's ports (R346 to R350) -/

/-- The target port of a request: its block, the program memory or the local store of a number, or the default target. -/
def fabPort (r : FabReq) : Nat :=
  match r.kind with
  | .ctl =>
    if (blockRegs r.addr).isEmpty then 0
    else if 0x1000000 ≤ r.addr ∨ (0x800000 ≤ r.addr ∧ r.addr < 0x900000) then 0x80
    else r.addr / 0x10000
  | .prog => 0x1000 + r.unit.val
  | .store => 0x2000 + r.unit.val

def fabKindNo : FabKind → Nat
  | .ctl => 0
  | .prog => 1
  | .store => 2

/-- Table 10-12: whether a master may issue a request of this kind and size. -/
def fabAllowed (r : FabReq) : Bool :=
  let write := r.data.isSome
  match r.kind with
  | .ctl => r.who.isSeq || r.who.isHost || decide (r.who.id = 13) || (decide (r.who.id = 14) && r.vc2) || decide (r.who.id = 15)
  | .prog => decide (r.who.id = 13) || (decide (r.who.id = 9) && !write)
  | .store => decide (r.who.id = 10) || decide (r.who.id = 13) || decide (r.who.id = 15) || (decide (r.who.id = 9) && write)

/-- The bytes of the block that an address lies in end here. -/
def blockEnd (a : Nat) : Nat :=
  if 0x800000 ≤ a ∧ a < 0x900000 then 0x900000
  else if 0x1000000 ≤ a ∧ a < 0x1400000 then 0x1400000
  else a / 0x10000 * 0x10000 + 0x10000

/-- What a request comes to: it waits; or it is answered with a code (0 for none) and the data read. -/
abbrev FabAns := Option (Nat × Nat)

/-- A burst as consecutive 8 B accesses (R611); its answer carries the first error. -/
def fabBurst (m : Master) (ep : Option Nat) : Nat → State → Nat → Option Nat → Nat → State × Nat × Nat
  | 0, s, _, _, _ => (s, 0, 0)
  | k + 1, s, a, d, i =>
    let (s, c, v) := match d with
      | some x => (match s.ctlWrite m ep a 8 (bitsOf x (64 * i) 64) with
        | (s, .err c) => (s, c, 0)
        | (s, _) => (s, 0, 0))
      | none => (match s.ctlRead m ep a 8 with
        | (s, .ok v) => (s, 0, v)
        | (s, .err c) => (s, c, 0)
        | (s, .hold) => (s, 0, 0))
    let (s, c', v') := fabBurst m ep k s (a + 8) d (i + 1)
    (s, if c = 0 then c' else c, v + v' * 2 ^ 64)

/-- A control-space request at its port. The chain's reach only doorbells (R402); a host's names its endpoint. -/
def State.fabCtl (s : State) (r : FabReq) : State × FabAns :=
  let m := r.who
  let ep := if m.isHost then some ((m.id - 11) * 2 + r.unit.val % 2) else none
  let bad := fun (c : Nat) => (s.fabErr m 0 0 r.addr r.data.isSome c, (some (c, 0) : FabAns))
  if m.id = 15 then
    match r.data with
    | some v =>
      if 0x880000 ≤ r.addr ∧ r.addr < 0x900000 ∧ r.addr % r.size = 0 ∧ (r.size = 4 ∨ r.size = 8) then
        let q := (r.addr - 0x880000) / 8
        let lo := decide (r.addr % 8 = 0)
        let tail := if lo then some (v % 65536) else none
        let head := if r.size = 8 then some (bitsOf v 32 16) else if lo then none else some (v % 65536)
        (s.doorbell q .chain tail head, some (0, 0))
      else bad erDenied
    | none => bad erDenied
  else if 8 < r.size then
    match s.ctlGate m r.addr with
    | .hold => (s.holdWake, none)
    | .err c => bad c
    | .go =>
      if blockEnd r.addr < r.addr + r.size ∨ r.addr % 8 ≠ 0 then bad erDefault
      else (let x := fabBurst m ep (r.size / 8) s r.addr r.data 0; (x.1, some x.2))
  else match r.data with
    | some v =>
      (match s.ctlWrite m ep r.addr r.size v with
      | (s, .ok _) => (s, some (0, 0))
      | (s, .err c) => (s, some (c, 0))
      | (s, .hold) => (s, none))
    | none =>
      (match s.ctlRead m ep r.addr r.size with
      | (s, .ok v) => (s, some (0, v))
      | (s, .err c) => (s, some (c, 0))
      | (s, .hold) => (s, none))

/-- A program memory request (R345): a word with a double-bit error answers UE; a write to boot ROM, DENIED. -/
def State.fabProg (s : State) (r : FabReq) : State × FabAns :=
  let n := r.unit.val
  let words := (upTo (r.size / 4 + 1)).map (fun i => r.addr / 4 * 4 + 4 * i)
  let words := words.filter (fun w => decide (w < r.addr + r.size))
  let bad := fun (s : State) (c : Nat) => (s.fabErr r.who 1 n r.addr r.data.isSome c, (some (c, 0) : FabAns))
  if 0x80000 < r.addr + r.size then bad s erDefault
  else match r.data with
    | some v =>
      if words.any (fun w => (s.pmSram n w).isNone) then bad s erDenied
      else (s.pmWrite n r.addr (toBytes r.size v), some (0, 0))
    | none =>
      if words.any (fun w => s.pmBadAt n w) then bad (s.raise (0x20 + 4 * n + 1) (seqUnit n) svSevere) erUe
      else (s, some (0, s.pmNat n r.addr r.size))

/-- A local store request. -/
def State.fabStore (s : State) (r : FabReq) : State × FabAns :=
  let n := r.unit.val
  let bad := fun (s : State) (c : Nat) => (s.fabErr r.who 2 n r.addr r.data.isSome c, (some (c, 0) : FabAns))
  match r.data with
  | some v =>
    (match s.lsWrite n r.who.world r.addr (toBytes r.size v) with
    | (s, .ok _) => (s, some (0, 0))
    | (s, .err c) => bad s c
    | (s, .hold) => (s, none))
  | none =>
    (match s.lsRead n r.who.world r.addr r.size with
    | (s, .ok d) => (s, some (0, ofBytes d))
    | (s, .err c) => bad s c
    | (s, .hold) => (s, none))

/-- Whether the unit behind a program memory or local store port holds a request or answers FENCED. -/
def State.fabGate (s : State) (r : FabReq) : Gate :=
  match r.kind with
  | .ctl => .go
  | k =>
    match s.modeGate r.who with
    | .go =>
      if s.st.base = mBrum ∨ s.st.base < 2 then .hold
      else s.unitGate r.vc2 (if k = .prog then seqUnit r.unit.val else lsUnit r.unit.val)
    | g => g

/-- A request served by its port, or held there (Table 10-13). -/
def State.fabServe (s : State) (r : FabReq) : State × FabAns :=
  let bad := fun (c : Nat) => (s.fabErr r.who (fabKindNo r.kind) (if r.kind = .ctl then 0 else r.unit.val) r.addr r.data.isSome c,
    (some (c, 0) : FabAns))
  if !fabAllowed r then bad erDenied
  else match s.fabGate r with
    | .hold => (s.holdWake, none)
    | .err c => bad c
    | .go => match r.kind with
      | .ctl => s.fabCtl r
      | .prog => s.fabProg r
      | .store => s.fabStore r

/-- The master a port is parked on (R347, R355). -/
def State.parkedOn (s : State) (port : Nat) : Nat := mget (fun _ => 13) s.fab.parked port

/-- R347: the request of a port that is granted next, of those that are first of their master: VC2, then the parked master,
then the others in rotating order. -/
def State.fabPick (s : State) (port : Nat) (l : List FabReq) : Option FabReq :=
  let mine := l.filter (fun r => fabPort r == port)
  let firsts := (upTo 16).filterMap (fun i => mine.find? (fun r => r.who.id == i))
  let p := s.parkedOn port
  let turn := fun (r : FabReq) => (r.who.id + 15 - p) % 16
  match firsts.find? (fun r => r.vc2) with
  | some r => some r
  | none =>
    match (if s.flag FAB_CTL FAB_CTL.PARK_DIS then none else firsts.find? (fun r => r.who.id == p)) with
    | some r => some r
    | none => (upTo 16).findSome? (fun i => firsts.find? (fun r => turn r == i))

/-- Requests granted until none is left; one that is held keeps its master's later ones at that port behind it (R348). -/
def fabGrant : Nat → State → List FabReq → State
  | 0, s, _ => s
  | k + 1, s, l =>
    match l with
    | [] => s
    | x :: _ =>
      match s.fabPick (fabPort x) l with
      | none => s
      | some r =>
        match s.fabServe r with
        | (s, some (c, v)) =>
          let fab := { s.fab with parked := mput (fun _ => 13) s.fab.parked (fabPort r) r.who.id }
          fabGrant k (({ s with fab := fab } : State).fabAnswer r c v) (l.erase r)
        | (s, none) =>
          let behind := fun (y : FabReq) => y.who.id == r.who.id && fabPort y == fabPort r
          fabGrant k { s with fab := { s.fab with waiting := s.fab.waiting ++ l.filter behind } } (l.filter (fun y => !behind y))

/-- FABRIC_REQUEST: requests that reach their ports, behind those that wait there. -/
def State.fabRun (s : State) (l : List FabReq) : State :=
  let all := s.fab.waiting ++ l
  fabGrant all.length { s with fab := { s.fab with waiting := [] } } all

/-- One control-space write or read of a master, through the fabric. -/
def State.regWrite (s : State) (m : Master) (a size v : Nat) : State :=
  s.fabRun [{ who := m, vc2 := decide (m.id = 14), kind := .ctl, unit := 0, addr := a, size := size, data := some v }]
def State.regRead (s : State) (m : Master) (a size : Nat) : State :=
  s.fabRun [{ who := m, vc2 := decide (m.id = 14), kind := .ctl, unit := 0, addr := a, size := size, data := none }]

/-- FABRIC_TIMEOUT (R351): a request that its target has accepted is answered TIMEOUT; it is no longer held. -/
def State.fabTimeout (s : State) (r : FabReq) : State :=
  let s := { s with fab := { s.fab with waiting := s.fab.waiting.erase r } }
  let s := s.fabErr r.who (fabKindNo r.kind) (if r.kind = .ctl then 0 else r.unit.val) r.addr r.data.isSome erTimeout
  s.fabAnswer r erTimeout 0

end Sys2Proof.Machine
end

