-- ==== Sys2Proof/Machine/Dict.lean ====
section
/-! DEFINITION. Sys2Proof/Machine/Dict.lean: the values of the dictionary's objects and writes to them (R540 to R547, R556,
and the tables of objects that the other chapters give). -/
namespace Sys2Proof.Machine

/-- What the dictionary answers: a value with its type's code, or an abort code (Table 17-9). -/
inductive DictAns
  | value (ty : Nat) (v : List Byte)
  | abort (code : Nat)
  deriving DecidableEq, Repr

/-! ### Values -/

/-- Whether the block that holds a register is powered (R556): the Starter die always, the base die from Proofing on, of
which Brumation leaves the ports. -/
def State.powered (s : State) (a : Nat) : Bool :=
  if 0xC00000 ≤ a ∧ a < 0xD00000 then s.fjRuns
  else if 0xD00000 ≤ a ∧ a < 0x1000000 then true
  else decide (2 ≤ s.st.base) && !(decide (s.st.base = mBrum) && (decide (a < 0xA00000) || decide (0x1000000 ≤ a)))

/-- The device as its mirrored objects show it: with the base die off, the registers as they last stood (R556). -/
def State.shadow (s : State) : State :=
  if s.st.base < 2 then { s with regs := s.st.known.foldl (fun m p => mput regReset m p.1 p.2) s.regs } else s

/-- The text of a STRING object. -/
def textBytes (t : String) : List Byte := t.toList.map (fun c => BitVec.ofNat 8 c.toNat)

/-- A DOMAIN of bits: bit `i` says whether `f i`. -/
def bitField (n : Nat) (f : Nat → Bool) : List Byte :=
  (upTo n).map (fun k => BitVec.ofNat 8 ((upTo 8).foldl (fun a i => a + bit01 (f (8 * k + i)) * 2 ^ i) 0))

/-- 0x1000 (R11). -/
def State.viewIdent (s : State) (sub : Nat) : List Byte :=
  if sub = 1 then textBytes "Feldodar Microsystems"
  else if sub = 2 then textBytes (if Config.orderingCode = .lq then "NX-1696-LQ" else "NX-1696-BQ")
  else if sub = 3 then toBytes 4 (s.regNat ST_IDENT 1)
  else if sub = 4 then textBytes "A1"
  else toBytes 8 Config.serial.toNat

/-- 0x1F00:01 to 0x1F00:05. LEASE_LEFT is in whole milliseconds, rounded down. -/
def State.viewOwn (s : State) (sub : Nat) : List Byte :=
  if sub = 3 then toBytes 8 s.st.challenge.toNat
  else match s.st.own.owner with
    | none => if sub = 1 then toBytes 2 0xFFFF else if sub = 2 then toBytes 1 0xFF else toBytes (if sub = 4 then 4 else 1) 0
    | some o =>
      if sub = 1 then toBytes 2 o.src
      else if sub = 2 then toBytes 1 o.path
      else if sub = 4 then toBytes 4 ((s.st.own.leaseEnd - s.now) / 1000000)
      else toBytes 1 o.prio

/-- CAN_STATUS (0x1010:06). -/
def State.viewCan (s : State) : Nat :=
  let f := fun b => if bitAt s.st.canEn b then cget s.st.canState b else 3
  f 0 + 4 * f 1

/-- The Fault and Journal Unit's computed objects (Table 14-24). -/
def State.viewFault (s : State) (index sub : Nat) : List Byte :=
  if index = 0x4000 then
    (if sub = 4 then (upTo 4).flatMap (fun i => toBytes 4 (s.fjView (FJ_FIRST + 4 * i)))
     else if sub = 5 then (upTo 16).flatMap (fun i => toBytes 4 (s.fjView (FJ_ALSO i)))
     else if sub = 6 then s.obj 0x4000 6
     else if sub = 7 then toBytes 8 s.nv.jnext
     else bitField 64 (fun k => s.flag (FJ_SRC_STAT k) FJ_SRC_STAT.LATCHED))
  else if index = 0x4010 then
    (if sub = 1 then toBytes 1 (s.fld FJ_STATUS FJ_STATUS.JNL)
     else if sub = 2 then toBytes 2 (s.fld FJ_JNL_STATUS FJ_JNL_STATUS.BAD_A)
     else if sub = 3 then toBytes 2 (s.fld FJ_JNL_STATUS FJ_JNL_STATUS.BAD_B)
     else if sub = 4 then toBytes 4 (s.fld FJ_JNL_WEAR FJ_JNL_WEAR.PASS_A)
     else toBytes 4 (s.fld FJ_JNL_WEAR FJ_JNL_WEAR.PASS_B))
  else toBytes 1 (s.regNat FJ_JRD_STAT 1) ++ toBytes 64 (s.regNat FJ_JRD_DATA 16)

/-- The Queue Engine's computed objects (Table 9-21). -/
def State.viewQueue (s : State) (index sub : Nat) : List Byte :=
  if index = 0x5000 then
    (if sub = 5 then toBytes 4 (s.liveQueues.filter (fun q => s.qState q != qsDisabled)).length
     else toBytes 1 (s.qe.tkts.filter Tkt.dispatched).length)
  else if index = 0x5040 then
    (if sub = 1 then bitField 32 (fun p => s.flag (QE_POOL_STAT p) QE_POOL_STAT.EXH)
     else bitField 32 (fun p => s.flag (QE_POOL_CFG p) QE_POOL_CFG.EN))
  else s.queueCtxObj

/-- The tier of a physical bank (Table 14-2). -/
def bankTier (p : Nat) : Nat := if p < 32768 then p / 8192 else (p - 32768) / 128

/-- Vector Memory's computed objects (Table 5-17): spare rows in service in a tier, and a bank's row map. -/
def State.viewMemory (s : State) (index : Nat) : List Byte :=
  if index = 0x8040 then
    let p := s.objNat 0x8040 1
    let kept := mget (fun _ => []) s.nv.saved (rowKey p)
    let map := if s.st.base < 2 ∧ kept.length = 32 then kept else s.rowMap p
    toBytes 2 p ++ map
  else toBytes 4 (s.vm.rows.filter (fun r => bankTier r.bank == index - 0x8030)).length

/-- The units of each class of Table 14-2. -/
def classSizes : List Nat := [9, 18, 9, 33280, 2048, 8, 72, 4, 1, 1, 1, 1, 1]

/-- A computed object's value. -/
def State.dictView (s : State) (index sub : Nat) : List Byte :=
  if index = 0x1000 then s.viewIdent sub
  else if index = 0x1010 then toBytes 1 s.viewCan
  else if index = 0x1F00 then s.viewOwn sub
  else if index = 0x2000 then toBytes 1 s.mode
  else if index = 0x2010 then toBytes 1 (s.fld ST_MODE ST_MODE.ADMIT)
  else if index = 0x2100 then toBytes 1 (if sub = 3 then s.fld ST_BOOT ST_BOOT.IMAGE else s.fld ST_BOOT ST_BOOT.STAGE)
  else if index = 0x3030 then toBytes 4 s.st.valve
  else if 0x4000 ≤ index ∧ index < 0x5000 then s.viewFault index sub
  else if 0x5000 ≤ index ∧ index < 0x6000 then s.viewQueue index sub
  else if index = 0x6000 then toBytes 2 (bitsOf (s.regNat CH_RING 1) 9 12)
  else if 0x8000 ≤ index ∧ index < 0x9000 then s.viewMemory index
  else if index = 0x9000 then toBytes 8 s.st.tb
  else if index = 0xA000 then
    (if sub = 1 then toBytes 1 s.nv.lc else if sub = 5 then toBytes 1 s.nv.epoch
     else if sub = 6 then toBytes 1 s.nv.revoked else [])
  else if index = 0xA010 then toBytes 1 s.keySlots
  else if 0xB001 ≤ index ∧ index < 0xB00E then
    (upTo (classSizes.getD (index - 0xB001) 0)).flatMap
      (fun i => toBytes 4 (mget ustReset s.ustMgmt (unitId (index - 0xB001) i)).toNat)
  else []

/-- VMIN to TJ_LIMIT (0x3000:02 to 0x3000:07): the register and field each one is. -/
def boundField (sub : Nat) : Nat × Fld :=
  if sub = 2 then (ST_VF_BOUNDS, ST_VF_BOUNDS.VMIN)
  else if sub = 3 then (ST_VF_BOUNDS, ST_VF_BOUNDS.VMAX)
  else if sub = 4 then (ST_VF_BOUNDS, ST_VF_BOUNDS.FLOOR)
  else if sub = 5 then (ST_VF_BOUNDS, ST_VF_BOUNDS.CEIL)
  else if sub = 6 then (ST_PCAP, ST_PCAP.PCAP)
  else (ST_PCAP, ST_PCAP.TJ_LIMIT)

def isBound (index sub : Nat) : Bool := decide (index = 0x3000) && decide (2 ≤ sub) && decide (sub ≤ 7)

/-- An object's default value: its register's reset value where it mirrors one. -/
def dictDefault (o : DictObj) (index sub : Nat) : List Byte :=
  match o.regAt index sub with
  | some a => ((upTo o.words).flatMap (fun w => toBytes 4 (regReset (a + 4 * w)).toNat)).take o.size
  | none => if o.ty = 10 then [] else toBytes o.size o.dflt

/-- An object's present value. -/
def State.dictValue (s : State) (o : DictObj) (index sub : Nat) : List Byte :=
  match o.home with
  | .view => s.shadow.dictView index sub
  | .mirror _ _ _ =>
    let t := s.shadow
    let a := (o.regAt index sub).getD 0
    let l := ((upTo o.words).flatMap (fun w => toBytes 4 (t.ctlView mStart (a + 4 * w)))).take o.size
    if index = 0x6000 ∧ sub = 3 then toBytes 4 (ofBytes l % 512) else l
  | .stored =>
    if isBound index sub then toBytes o.size (s.fld (boundField sub).1 (boundField sub).2)
    else if o.pers = 2 then
      let v := mget (fun _ => []) s.nv.boot (objKey index sub)
      if v.isEmpty then dictDefault o index sub else v
    else if o.ty = 10 then mget (fun _ => []) s.st.dict (objKey index sub)
    else s.obj index sub

/-- The value that FLAGS.SAVED asks for (R544): the one saved, or the default while none is. -/
def State.savedValue (s : State) (o : DictObj) (index sub : Nat) : List Byte :=
  let v := mget (fun _ => []) s.nv.saved (objKey index sub)
  if v.isEmpty then dictDefault o index sub else v

/-! ### Reading (R540, R542) -/

/-- Vendor diagnostic objects (Table 19-1): none is listed, so where they are open none exists. -/
def State.vendorCode (s : State) (src path : Nat) : Nat :=
  if s.st.lc = 1 ∨ s.st.lc = 4 ∨ (s.st.lc = 2 ∧ s.isOwner src path = true) then abUnknown else abDenied

def isKeySlot (index sub : Nat) : Bool := decide (index = 0xA010) && decide (1 ≤ sub) && decide (sub ≤ 4)

/-- A read of an object. -/
def State.dictRead (s : State) (src path index sub : Nat) (saved : Bool) : DictAns :=
  if 0xF000 ≤ index then .abort (s.vendorCode src path)
  else if sub = 0 then
    match dictTop index with
    | some t => .value 2 (toBytes 1 t)
    | none => .abort abUnknown
  else
    match dictFind index sub with
    | none => .abort abUnknown
    | some o =>
      if isKeySlot index sub then .abort abDenied
      else if o.acc = 2 then .abort abNotReadable
      else .value o.ty (if saved && o.pers == 1 then s.savedValue o index sub else s.dictValue o index sub)

/-- INFO (Table 17-8): an object's type, size, access right and persistence. -/
def State.dictInfo (s : State) (src path index sub : Nat) : Nat ⊕ (Nat × Nat × Nat × Nat) :=
  if 0xF000 ≤ index then .inl (s.vendorCode src path)
  else if sub = 0 then (if (dictTop index).isSome then .inr (2, 1, 0, 3) else .inl abUnknown)
  else match dictFind index sub with
    | none => .inl abUnknown
    | some o => .inr (o.ty, (if o.ty = 9 then (s.dictValue o index sub).length
        else if 0xB001 ≤ index ∧ index < 0xB00E then 4 * classSizes.getD (index - 0xB001) 0 else o.size), o.acc, o.pers)

/-! ### Writing (R543 to R545) -/

/-- Whether a set lock bit forbids a write to a mirrored object. -/
def State.mirrorLocked (s : State) (o : DictObj) (index sub : Nat) : Bool :=
  if isBound index sub then
    (if sub ≤ 5 then s.flag ST_VF_BOUNDS ST_VF_BOUNDS.LOCK else s.flag ST_PCAP ST_PCAP.LOCK)
  else match o.regAt index sub with
    | none => false
    | some a => (upTo o.words).any (fun w => match regFind (a + 4 * w) with
      | some (r, i, j, k) => s.locked r i j && decide ((r.mask k).rwl ≠ 0)
      | none => false)

/-- The ranges that the tables give beside the type's own. -/
def State.rangeOk (s : State) (o : DictObj) (index sub : Nat) (v : List Byte) : Bool :=
  let n := ofBytes v
  let f := toSigned 32 n
  if o.ty = 9 ∨ o.ty = 10 then
    (if index = 0x4000 ∧ sub = 4 then decide (n = 0) else decide (o.ty = 10) || v.all (fun b => decide (0x20 ≤ b.toNat) && decide (b.toNat ≤ 0x7E)))
  else if index = 0x6000 ∧ sub = 1 then decide (n ≤ 0xFFF) || decide (n = 0xFFFF)
  else if index = 0x3020 ∧ sub = 2 then decide (f ≤ toSigned 32 (s.objNat 0x3020 0x15))
  else if index = 0x3020 ∧ sub = 3 then decide (f < toSigned 32 (s.objNat 0x3020 2))
  else if index = 0x3020 ∧ sub = 0x15 then decide (n ≤ o.hi) && decide (toSigned 32 (s.objNat 0x3020 2) ≤ f)
  else if 0x7000 ≤ index ∧ index < 0x7004 ∧ sub = 2 ∧ index % 2 = 1 then !bitAt n 1 && decide (bitsOf n 35 9 = 0)
  else decide (o.lo ≤ n) && decide (n ≤ o.hi)

/-- The length that fits an object. -/
def lengthOk (o : DictObj) (index : Nat) (v : List Byte) : Bool :=
  if o.ty = 9 ∨ index = 0x3021 then decide (v.length ≤ 256) else decide (v.length = o.size)

/-- R543: the first check that fails. `open'` says that the writer needs no ownership (R597). -/
def State.writeCheck (s : State) (src path : Nat) (o : DictObj) (index sub : Nat) (v : List Byte) (open' : Bool) : Option Nat :=
  if o.acc = 0 then some abReadOnly
  else if o.acc ≠ 3 ∧ !s.isOwner src path ∧ open' = false then some abNotOwner
  else if !lengthOk o index v then some abTypeLength
  else if !s.rangeOk o index sub v then some abOutOfRange
  else if s.mirrorLocked o index sub then some abLocked
  else if s.st.holdup then some abState
  else if decide (o.pers ≠ 1) && (match o.regAt index sub with
      | some a => !s.powered a
      | none => (decide (index = 0x4000) || (decide (0x4200 ≤ index) && decide (index < 0x4400)) || decide (index = 0xB0F0)) && !s.fjRuns)
    then some abState
  else if (o.pers = 1 ∨ o.pers = 2) ∧ s.jLost then some abNoStore
  else none

/-- A mirrored register's value as it is saved: lock bits and bits that act when written are held as zero (R544). -/
def saveMask (a : Nat) (words : Nat) (v : List Byte) : List Byte :=
  ((upTo words).flatMap (fun w =>
    let x := ofBytes ((v.drop (4 * w)).take 4)
    match regFind (a + 4 * w) with
    | some (r, _, _, k) => toBytes 4 (x &&& ((r.mask k).rw ||| (r.mask k).rwl))
    | none => toBytes 4 0)).take v.length

/-- R544: a word or pair of words written by the Starter to a register, with the lock bit's place ignored. -/
def State.starterWrite (s : State) (a size v : Nat) : State :=
  let lo := v % 2 ^ 32 &&& (0xFFFFFFFF - lockBitIn a)
  let hi := v / 2 ^ 32 % 2 ^ 32 &&& (0xFFFFFFFF - lockBitIn (a + 4))
  let x := if size = 8 then lo + hi * 2 ^ 32 else lo
  if 0xE00000 ≤ a ∧ a < 0xF00000 then s.tmrApply mStart a size x else (s.blockWrite mStart none a size x).1

/-- A mirrored object's new value put into its register. -/
def State.mirrorApply (s : State) (a size : Nat) (v : List Byte) : State :=
  if size ≤ 8 then s.starterWrite a size (ofBytes v)
  else (upTo (size / 4)).foldl (fun s w => s.starterWrite (a + 4 * w) 4 (ofBytes ((v.drop (4 * w)).take 4))) s

/-- What a write to an object whose register waits for the next Proofing does at once: FORCE of CH_LANE, and
FAILOVER_EN, FAILVEC and MB_VEC of HP_CTL (R421, R441). -/
def State.laterApply (s : State) (index sub a : Nat) (v : List Byte) : State :=
  let n := ofBytes v
  if !s.powered a then s
  else if 0x6100 ≤ index ∧ index < 0x6108 ∧ sub = 3 ∧ bitAt n 4 then
    s.starterWrite a 4 (setBits (s.regNat a 1) 0 5 (bitsOf n 0 5))
  else if 0x7000 ≤ index ∧ index < 0x7004 ∧ sub = 2 then
    let new := fun (f : Fld) => bitsOf n f.1 f.2
    ((s.setFld a HP_CTL.FAILOVER_EN (new HP_CTL.FAILOVER_EN)).setFld a HP_CTL.FAILVEC (new HP_CTL.FAILVEC)).setFld
      a HP_CTL.MB_VEC (new HP_CTL.MB_VEC)
  else s

/-- Objects that are written and have no value of their own: what the write does, and its abort code. -/
def State.viewWrite (s : State) (path src index sub : Nat) (v : List Byte) : State × Nat :=
  let n := ofBytes v
  if index = 0x2000 then
    (if n = 0xB then (if s.st.base = 0 ∨ s.st.wipe.isSome then (s, abState) else (s.wipeEnter (s.objNat 0xA000 4 == 1), 0))
     else if s.reqAccepts n then (s.modeRequest n none, 0) else (s.reqRej, abState))
  else if index = 0x3020 then (if n = 1 then s.testStart else s, 0)
  else if index = 0x4000 then
    ((upTo 16).foldl (fun s i => s.setRegNat (FJ_ALSO i) 1 0) (s.starterWrite FJ_FIRST 4 (2 ^ 12)), 0)
  else if index = 0x4011 then (if n = 1 then s.lgClear else s, 0)
  else if 0x4200 ≤ index ∧ index < 0x4400 then
    let a := FJ_SRC_STAT (index - 0x4200)
    (if n = 1 then (((s.setFld a FJ_SRC_STAT.LATCHED 0).setFld a FJ_SRC_STAT.TRIPPED 0).setFld a FJ_SRC_STAT.SAT 0).alertSettle
     else s, 0)
  else if index = 0x6000 then (if n = 1 ∧ s.powered CH_RING = true then s.ringRestore else s, 0)
  else if index = 0x9000 then (s.tbWrite n, 0)
  else if index = 0xA000 then
    (if sub = 2 then s.lcReq path src n
     else if sub = 3 then s.lcToken path src v
     else if sub = 5 then s.epochWrite path src n
     else s.keyRevoke path src n)
  else if index = 0xA010 then s.claimKeyWrite path src (Fin.ofNat 4 (sub - 1)) (BitVec.ofNat 256 n)
  else if index = 0xB0F0 then (s.starterWrite FJ_REQ 4 n, 0)
  else (s, 0)

/-- A stored object's new value, with what follows from it. -/
def State.storedWrite (s : State) (o : DictObj) (index sub : Nat) (v : List Byte) : State :=
  if isBound index sub then
    let f := boundField sub
    (s.setObj index sub v).setFld f.1 f.2 (min (2 ^ f.2.2 - 1) (ofBytes v))
  else if o.pers = 2 then s.setBootObj (objKey index sub) o.size (ofBytes v)
  else
    let s := s.setObj index sub v
    if index = 0x2010 then s.holdupLow
    else if index = 0x3010 ∧ sub ≤ 3 then s.refSelect
    else s

/-- A write of an object's whole value: checked (R543), saved (R545), applied. -/
def State.dictWrite (s : State) (src path index sub : Nat) (v : List Byte) : State × Nat :=
  if 0xF000 ≤ index then (s, s.vendorCode src path)
  else if sub = 0 then (s, if (dictTop index).isSome then abReadOnly else abUnknown)
  else match dictFind index sub with
    | none => (s, abUnknown)
    | some o =>
      match s.writeCheck src path o index sub v (isKeySlot index sub && decide (s.keySlots = 0) && decide (2 ≤ path) && decide (path ≤ 5)) with
      | some c => (s, c)
      | none =>
        match o.home, o.regAt index sub with
        | .mirror _ _ _, some a =>
          let v := if index = 0x5030 then toBytes 4 (setBits (s.regNat a 1) QE_OVEN.DEPTH.1 QE_OVEN.DEPTH.2 (bitsOf (ofBytes v) QE_OVEN.DEPTH.1 QE_OVEN.DEPTH.2))
            else if 0x7000 ≤ index ∧ index < 0x7004 ∧ sub = 6 then toBytes 4 (ofBytes v &&& 0xF000) else v
          let s := if o.pers = 1 then s.saveObj index sub (saveMask a o.words v) else s
          (if o.later then s.laterApply index sub a v else if s.powered a then s.mirrorApply a o.size v else s, 0)
        | .view, _ => s.viewWrite path src index sub v
        | _, _ =>
          let s := if o.pers = 1 then s.saveObj index sub v else s
          (s.storedWrite o index sub v, 0)

end Sys2Proof.Machine
end

