-- ==== Sys2Proof/Machine/Jenzia.lean ====
section
/-! DEFINITION. Sys2Proof/Machine/Jenzia.lean: requests and their answers (R549 to R555), segmented transfers (R552), the
mailbox, chain and relay carriage (R560 to R562), and the CAN buses (R557 to R559). -/
namespace Sys2Proof

/-- The request's payload (Table 17-7) as it arrived, padding apart. -/
def JenziaReq.bytes (r : JenziaReq) (cmd n : Nat) : List Byte :=
  Machine.toBytes 1 cmd ++ [r.tid] ++ Machine.toBytes 2 r.index.toNat ++ [r.sub, r.flags]
    ++ Machine.toBytes 2 r.len.toNat ++ Machine.toBytes 4 r.offset.toNat ++ Machine.toBytes 4 r.total.toNat ++ r.data.take n

def JenziaReq.bySerial (r : JenziaReq) : Bool := r.flags.getLsbD 0
def JenziaReq.saved (r : JenziaReq) : Bool := r.flags.getLsbD 1
def JenziaReq.range (r : JenziaReq) : Bool := r.flags.getLsbD 2

/-- The data bytes of the frame that count: LEN, but for a READ with RANGE, whose LEN is what it asks for. -/
def JenziaReq.used (r : JenziaReq) (cmd : Nat) : Nat :=
  if cmd = 1 ∧ r.range = true then (if r.bySerial then 8 else 0) else r.len.toNat

end Sys2Proof

namespace Sys2Proof.Machine

def isMailbox (path : Nat) : Bool := decide (2 ≤ path) && decide (path ≤ 5)

/-- Data bytes of a request's or response's frame, and of a segment (R551, R552). -/
def frameRoom (path : Nat) : Nat := if isMailbox path then 236 else 48
def segRoom (path : Nat) : Nat := if isMailbox path then 250 else 62

/-! ### Frames out -/

/-- A frame put on its way from an address. -/
def State.sendFrom (s : State) (addr path func dst : Nat) (data : List Byte) : State :=
  { s with st := { s.st with canTx := s.st.canTx ++ [{ path := path, func := func, dst := dst, src := addr, data := data }] } }

/-- R561: a Jenzia frame as a MGMT message for a device. -/
def mgmtMsg (dev func dst src : Nat) (data : List Byte) : ChMsg :=
  ChMsg.make mtMGMT 2 dev 0 0 0 0 0 (max 1 (min 64 data.length)) (dst % 2 ^ 13 + src % 2 ^ 13 * 2 ^ 13 + func % 8 * 2 ^ 26) 0 false
    (data.take 64)

/-- A frame for a mailbox or the chain leaves at once; one for a CAN bus stays queued for it, as does one for the chain whose
way no MGMT has shown. -/
def State.frameOut (s : State) (f : Frame) : State :=
  if isMailbox f.path then s.mbAnswer (f.path - 2) (toBytes 4 (f.func + f.src * 8) ++ f.data)
  else match s.st.mgmtFrom.find? (fun p => p.1 == f.dst) with
    | some p => s.chInject (mgmtMsg p.2 f.func f.dst f.src f.data)
    | none => s

/-- Whether a frame's way is known: its mailbox, or over the chain the device that its manager's frames came from. -/
def State.frameGoes (s : State) (f : Frame) : Bool :=
  isMailbox f.path || (decide (2 ≤ f.path) && s.st.mgmtFrom.any (fun p => p.1 == f.dst))

def State.framesOut (s : State) : State :=
  let go := s.st.canTx.filter s.frameGoes
  let s := { s with st := { s.st with canTx := s.st.canTx.filter (fun f => !s.frameGoes f) } }
  go.foldl State.frameOut s

/-- A mailbox request that calls for no frame is completed with an empty answer, so that the host may go on. -/
def State.mbEmpty (s : State) (path : Nat) : State := if isMailbox path then s.mbAnswer (path - 2) [] else s

/-! ### Segmented transfers (R552) -/

def Xfer.is (x : Xfer) (src tid : Nat) : Bool := x.src == src && x.tid == tid
def State.dropXfer (s : State) (x : Xfer) : State :=
  { s with st := { s.st with xfers := s.st.xfers.filter (fun y => !y.is x.src x.tid) } }
def State.putXfer (s : State) (x : Xfer) : State :=
  { s with st := { s.st with xfers := s.st.xfers.map (fun y => if y.is x.src x.tid then x else y) } }

/-- Whether another transfer may begin: eight in all, one for each source address. -/
def State.xferFree (s : State) (src : Nat) : Bool :=
  decide (s.st.xfers.length < 8) && s.st.xfers.all (fun x => x.src != src)

/-- The segments a value's rest takes. -/
def Xfer.count (x : Xfer) : Nat := (x.data.length + segRoom x.path - 1) / segRoom x.path

/-- Segment `k` of what the device sends. -/
def Xfer.segment (x : Xfer) (k : Nat) : List Byte :=
  toBytes 1 (k % 128 + bit01 (decide (k + 1 = x.count)) * 128) ++ toBytes 1 x.tid ++ (x.data.drop (k * segRoom x.path)).take (segRoom x.path)

/-- The segments that the window admits: 16 unacknowledged, or 1 on a mailbox. -/
def State.segSend (s : State) (x : Xfer) : State :=
  let w := if isMailbox x.path then 1 else 16
  let hi := min x.count (x.base + w)
  let ks := (upTo hi).filter (fun k => decide (x.next ≤ k))
  let s := ks.foldl (fun s k => s.sendFrom s.jenziaAddr x.path 4 x.src (x.segment k)) s
  s.putXfer { x with next := max x.next hi }

/-- The device's SEG_ACK. -/
def State.segAckOut (s : State) (x : Xfer) : State :=
  s.sendFrom s.jenziaAddr x.path 3 x.src
    (toBytes 1 4 ++ toBytes 1 x.tid ++ toBytes 2 x.index ++ toBytes 1 x.sub ++ [0] ++ toBytes 2 0 ++ toBytes 4 x.next ++ toBytes 4 0)

/-- SEG_ACK from the manager: everything below NEXT has arrived, and the device goes on from there. -/
def State.segAckIn (s : State) (path src tid next : Nat) : State :=
  match s.st.xfers.find? (fun x => x.is src tid && x.sending && x.path == path) with
  | none => s.mbEmpty path
  | some x =>
    match (upTo (x.next + 1)).find? (fun k => decide (x.base ≤ k) && decide (k % 128 = next % 128)) with
    | none => s.mbEmpty path
    | some k =>
      if k = x.count then (s.dropXfer x).mbEmpty path
      else s.segSend { x with base := k, next := k, resent := false }

/-- ABORT from the manager. -/
def State.abortIn (s : State) (path src tid : Nat) : State :=
  match s.st.xfers.find? (fun x => x.is src tid && x.path == path) with
  | some x => (s.dropXfer x).mbEmpty path
  | none => s.mbEmpty path

/-- SEGMENT_TIMEOUT: one resend from the last NEXT, then ABORT with TIMEOUT. -/
def State.segTimeout (s : State) (src tid : Nat) : State :=
  match s.st.xfers.find? (fun x => x.is src tid && x.sending && decide (x.base < x.next)) with
  | none => s
  | some x =>
    if x.resent then
      (s.dropXfer x).sendFrom s.jenziaAddr x.path 3 x.src (refusal x.tid x.index x.sub abTimeout)
    else s.segSend { x with next := x.base, resent := true }

/-! ### Requests (R550 to R555) -/

/-- An answer sent and kept for a second against repeats (R554). -/
def State.answer (s : State) (addr path src tid : Nat) (req resp : List Byte) : State :=
  let keep := s.st.served.filter (fun v => decide (s.now < v.at_ + 1000000000))
  let e : Served := { src := src, tid := tid, req := req, resp := resp, at_ := s.now }
  let s := { s with st := { s.st with served := keep ++ [e] } }
  s.sendFrom addr path 3 src resp

/-- R543: a whole value written, and the WRITE response. -/
def State.writeServe (s : State) (addr path src tid index sub : Nat) (req v : List Byte) : State :=
  let ty := match dictFind index sub with
    | some o => o.ty
    | none => 0
  let (s, code) := s.dictWrite src path index sub v
  s.answer addr path src tid req
    (if code = 0 then respBytes 0x82 tid index sub ty 0 0 0 [] else refusal tid index sub code)

/-- A value delivered: whole in the frame, or its first bytes with segments to follow. -/
def State.deliverValue (s : State) (addr : Nat) (r : JenziaReq) (req : List Byte) (ty : Nat) (v : List Byte) : State :=
  let path := r.path.val
  let src := r.src.toNat
  let tid := r.tid.toNat
  let room := frameRoom path
  let index := r.index.toNat
  let sub := r.sub.toNat
  let first := respBytes 0x81 tid index sub ty (min room v.length) 0 v.length (v.take room)
  if v.length ≤ room then s.answer addr path src tid req first
  else if !s.xferFree src then s.answer addr path src tid req (refusal tid index sub abBusy)
  else
    let x : Xfer := { path := path, src := src, tid := tid, index := index, sub := sub, sending := true, data := v.drop room,
                      total := v.length, base := 0, next := 0, resent := false, req := req }
    let s := { s with st := { s.st with xfers := s.st.xfers ++ [x] } }
    let s := s.answer addr path src tid req first
    if isMailbox path then s else s.segSend x

/-- A READ, WRITE or INFO request served: refused by the first thing wrong with it, or answered. -/
def State.reqServe (s : State) (cmd : Nat) (r : JenziaReq) : State :=
  let addr := s.jenziaAddr
  let path := r.path.val
  let src := r.src.toNat
  let tid := r.tid.toNat
  let index := r.index.toNat
  let sub := r.sub.toNat
  let n := r.used cmd
  let req := r.bytes cmd n
  let fail := fun (s : State) (code : Nat) => s.answer addr path src tid req (refusal tid index sub code)
  match s.st.served.find? (fun v => v.src == src && v.tid == tid && v.req == req && decide (s.now < v.at_ + 1000000000)) with
  | some v => s.sendFrom addr path 3 src v.resp
  | none =>
    if 8 ≤ r.flags.toNat ∨ r.data.length < n ∨ frameRoom path < n ∨ (r.bySerial = true ∧ n < 8) ∨ (cmd = 2 ∧ r.range = true) then
      fail s abMalformed
    else if s.st.wipe.isSome ∧ !(cmd = 1 ∧ (index = 0x1000 ∨ index = 0x2000)) then fail s abState
    else if cmd = 1 then
      match s.dictRead src path index sub r.saved with
      | .abort c => fail s c
      | .value ty v =>
        if r.range then
          if ty ≠ 9 ∧ ty ≠ 10 then fail s abMalformed
          else if v.length < r.offset.toNat + r.len.toNat then fail s abRange
          else s.deliverValue addr r req ty ((v.drop r.offset.toNat).take r.len.toNat)
        else s.deliverValue addr r req ty v
    else if cmd = 3 then
      match s.dictInfo src path index sub with
      | .inl c => fail s c
      | .inr (ty, size, acc, pers) =>
        s.answer addr path src tid req (respBytes 0x83 tid index sub ty 2 0 size (toBytes 1 acc ++ toBytes 1 pers))
    else
      let v := (r.data.take n).drop (if r.bySerial then 8 else 0)
      if r.total.toNat = v.length then s.writeServe addr path src tid index sub req v
      else if r.total.toNat < v.length then fail s abTypeLength
      else if !s.xferFree src then fail s abBusy
      else
        let x : Xfer := { path := path, src := src, tid := tid, index := index, sub := sub, sending := false, data := v,
                          total := r.total.toNat, base := 0, next := 0, resent := false, req := req }
        let s := { s with st := { s.st with xfers := s.st.xfers ++ [x] } }
        if isMailbox path then s.segAckOut x else s

/-- A SEGMENT frame of a WRITE (R552); one that belongs to no transfer is answered ABORTED. -/
def State.segmentIn (s : State) (path src : Nat) (payload : List Byte) : State :=
  let b0 := ofBytes (payload.take 1)
  let tid := ofBytes ((payload.drop 1).take 1)
  let addr := s.jenziaAddr
  if payload.length < 2 then s.sendFrom addr path 3 src (refusal tid 0 0 abMalformed)
  else match s.st.xfers.find? (fun x => x.is src tid && !x.sending && x.path == path) with
  | none => s.sendFrom addr path 3 src (refusal tid 0 0 abAborted)
  | some x =>
    if s.st.wipe.isSome then (s.dropXfer x).sendFrom addr path 3 src (refusal tid x.index x.sub abState)
    else if b0 % 128 ≠ x.next % 128 then
      if x.resent && !isMailbox path then s else (s.putXfer { x with resent := true }).segAckOut x
    else
      let v := x.data ++ ((payload.drop 2).take (segRoom path)).take (x.total - x.data.length)
      let y := { x with data := v, next := x.next + 1, resent := false }
      if bitAt b0 7 then
        let s := s.dropXfer x
        let s := if isMailbox path then s else s.segAckOut y
        if v.length = x.total then s.writeServe addr path src tid x.index x.sub x.req v
        else s.answer addr path src tid x.req (refusal tid x.index x.sub abTypeLength)
      else
        let s := s.putXfer y
        if isMailbox path ∨ y.next % 16 = 0 then s.segAckOut y else s

/-- R550: whether a request is this device's to serve. -/
def State.reqMine (s : State) (cmd dst index : Nat) (bySerial : Bool) (data : List Byte) : Bool :=
  if dst = 0x1FFF then
    (decide (cmd = 1) && decide (index = 0x1000))
      || (bySerial && decide (8 ≤ data.length) && decide (ofBytes (data.take 8) = Config.serial.toNat))
  else decide (dst = s.jenziaAddr) && decide (dst < 0x1000)

/-- Whether a path carries frames to the Starter now. -/
def State.pathOpen (s : State) (path : Nat) : Bool :=
  decide (s.st.base ≠ 0) && (decide (2 ≤ path) || (bitAt s.st.canEn path && decide (cget s.st.canState path < 2)))

/-! ### Relay (R562) -/

/-- R562: UNREACHABLE, from the relaying device's own address. -/
def State.unreachable (s : State) (path func src tid index sub : Nat) (data : List Byte) : State :=
  if func = 1 then
    let c : ClaimIn := { path := path, src := src, data := data }
    s.claimAnswer path src c.cmd 0 c.tid abUnreachable 0 c.key
  else s.sendFrom s.jenziaAddr path 3 src (refusal tid index sub abUnreachable)

/-- A frame for another device: passed on over the chain, or refused with UNREACHABLE. -/
def State.relayOut (s : State) (path func dst src tid index sub : Nat) (data : List Byte) : State :=
  let m := mgmtMsg dst func dst src data
  let route := match s.chRoute m 8 with
    | .port _ => true
    | .turn _ => true
    | _ => false
  if s.objNat 0x6010 1 = 0 ∨ 64 < data.length ∨ s.chValid = false ∨ route = false then s.unreachable path func src tid index sub data
  else
    let same := fun (r : Relay) => r.src == src && r.dst == dst && r.tid == tid
    let e : Relay := { path := path, src := src, dst := dst, tid := tid, index := index, sub := sub, answered := false }
    let l := if func = 4 ∧ s.st.relays.any same then s.st.relays else s.st.relays.filter (fun r => !same r) ++ [e]
    ({ s with st := { s.st with relays := l } }).chInject m

/-- RELAY_TIMEOUT: no answer has come. -/
def State.relayTimeout (s : State) (src tid : Nat) : State :=
  match s.st.relays.find? (fun r => r.src == src && r.tid == tid && !r.answered) with
  | none => s
  | some r =>
    let s := { s with st := { s.st with relays := s.st.relays.filter (fun x => x != r) } }
    s.unreachable r.path 2 r.src r.tid r.index r.sub []

/-- Whether a frame is one to relay: from CAN or a mailbox, for another device. -/
def State.toRelay (s : State) (path dst : Nat) : Bool :=
  decide (path ≤ 5) && decide (dst < 0x1000) && decide (dst ≠ s.jenziaAddr)

/-! ### Frames in -/

/-- A READ, WRITE, INFO, SEG_ACK or ABORT request as it arrives. -/
def State.requestIn (s : State) (cmd : Nat) (r : JenziaReq) : State :=
  let path := r.path.val
  let dst := r.dst.toNat
  let src := r.src.toNat
  if !s.pathOpen path then s
  else if s.reqMine cmd dst r.index.toNat r.bySerial r.data then
    if cmd = 4 then s.segAckIn path src r.tid.toNat r.offset.toNat
    else if cmd = 5 then s.abortIn path src r.tid.toNat
    else if cmd = 0 ∨ 5 < cmd then s.sendFrom s.jenziaAddr path 3 src (refusal r.tid.toNat r.index.toNat r.sub.toNat abMalformed)
    else s.reqServe cmd r
  else if s.toRelay path dst then
    s.relayOut path 2 dst src r.tid.toNat r.index.toNat r.sub.toNat (r.bytes cmd r.data.length)
  else s

/-- A SEGMENT frame as it arrives. -/
def State.segmentFrame (s : State) (path src dst : Nat) (payload : List Byte) : State :=
  if !s.pathOpen path then s
  else if s.toRelay path dst then s.relayOut path 4 dst src (ofBytes ((payload.drop 1).take 1)) 0 0 payload
  else if dst = s.jenziaAddr ∧ dst < 0x1000 then s.segmentIn path src payload
  else s

/-- A CLAIM frame as it arrives, addressed to this device. -/
def State.claimFrame (s : State) (path src : Nat) (payload : List Byte) : State :=
  if !s.pathOpen path then s else s.claim { path := path, src := src, data := payload }

/-- A payload read as Table 17-7 lays it out. -/
def parseReq (path src dst : Nat) (d : List Byte) : JenziaReq :=
  { path := Fin.ofNat 7 path, src := BitVec.ofNat 13 src, dst := BitVec.ofNat 13 dst, tid := d.getD 1 0,
    index := BitVec.ofNat 16 (ofBytes ((d.drop 2).take 2)), sub := d.getD 4 0, flags := d.getD 5 0,
    len := BitVec.ofNat 16 (ofBytes ((d.drop 6).take 2)), offset := BitVec.ofNat 32 (ofBytes ((d.drop 8).take 4)),
    total := BitVec.ofNat 32 (ofBytes ((d.drop 12).take 4)), data := d.drop 16 }

/-- A frame from a mailbox or the chain, by its FUNC. -/
def State.frameIn (s : State) (path func dst src : Nat) (d : List Byte) : State :=
  if func = 1 then
    if s.toRelay path dst then (if s.pathOpen path then s.relayOut path 1 dst src (ofBytes ((d.drop 3).take 1)) 0 0 d else s)
    else if dst = s.jenziaAddr ∧ dst < 0x1000 then s.claimFrame path src d
    else s
  else if func = 2 then
    let r := parseReq path src dst d
    if d.length < 16 then
      (if s.pathOpen path && decide (dst = s.jenziaAddr) && decide (dst < 0x1000) then
        s.sendFrom s.jenziaAddr path 3 src (refusal r.tid.toNat r.index.toNat r.sub.toNat abMalformed)
       else s)
    else s.requestIn (d.getD 0 0).toNat r
  else if func = 4 then s.segmentFrame path src dst d
  else s

/-- MAILBOX_GO (R432): a request of `len` bytes; ignored while BUSY. -/
def State.mailboxGo (s : State) (i : Nat) (dest : Bool) (len : Nat) : State :=
  if s.mbBusy i || !s.epUp i then s
  else
    let s := ((s.setMbFld i MB_HCTL.LEN len).setMbFld i MB_HCTL.DEST (bit01 dest)).setMbFld i MB_HCTL.BUSY 1
    let s := s.setMbFld i MB_HCTL.DONE 0
    if dest then s.setFld (hpMbctl i) HP_MBCTL.PEND 1
    else
      let b := s.regBytes (mbReq i) (min 256 (max 1 len))
      let w := ofBytes (b.take 4)
      (s.frameIn (i + 2) (w % 8) (w / 8 % 2 ^ 13) (0x1F00 + i) (b.drop 4)).framesOut

/-- MGMT (R561): the answer to a relayed frame goes back by its path; any other frame is the Starter's. -/
def State.mgmtIn (s : State) (m : ChMsg) : State :=
  let dst := m.addr % 2 ^ 13
  let src := m.addr / 2 ^ 13 % 2 ^ 13
  let func := m.addr / 2 ^ 26 % 8
  let d := m.data.take m.bytes
  let t1 := ofBytes ((d.drop 1).take 1)
  let t3 := ofBytes ((d.drop 3).take 1)
  let mine := fun (r : Relay) => r.src == dst && r.dst == src && (r.tid == t1 || r.tid == t3)
  match (if func = 3 ∨ func = 4 then s.st.relays.find? mine else none) with
  | some r =>
    let l := s.st.relays.map (fun x => if x = r then { x with answered := true } else x)
    (({ s with st := { s.st with relays := l } }).sendFrom src r.path func dst d).framesOut
  | none =>
    let l := (src, m.src) :: s.st.mgmtFrom.filter (fun p => p.1 != src)
    (({ s with st := { s.st with mgmtFrom := l } }).frameIn 6 func dst src d).framesOut

/-! ### The CAN buses (R557 to R559) -/

/-- HEARTBEAT: Table 17-12's payload on each enabled bus. -/
def State.heartbeat (s : State) : State :=
  if s.objNat 0x1010 4 = 0 ∨ s.st.base = 0 then s
  else
    let fl := s.mode + bit01 (s.flag ST_MODE ST_MODE.ADMIT) * 2 ^ 8 + bit01 (s.flag ST_MODE ST_MODE.MOULT) * 2 ^ 9
      + bit01 (s.flag ST_MODE ST_MODE.TRANSIT) * 2 ^ 10 + bit01 (s.flag ST_MODE ST_MODE.PAIRED) * 2 ^ 11
      + s.fld FJ_PIN_CTL FJ_PIN_CTL.LOW * 2 ^ 12
    let own := match s.st.own.owner with
      | some o => (o.src, o.path)
      | none => (0xFFFF, 0xFF)
    let d := toBytes 2 fl ++ toBytes 2 own.1 ++ toBytes 4 (own.2 + s.objNat 0x1F00 0xA * 2 ^ 16) ++ toBytes 8 s.st.tb
      ++ toBytes 8 s.nv.jnext
    (upTo 2).foldl (fun s b => if s.pathOpen b then s.sendFrom s.jenziaAddr b 5 0x1FFF d else s) s

/-- The last `k` frames of a bus dropped from a queue given newest first. -/
def dropFrames (b : Nat) : Nat → List Frame → List Frame
  | _, [] => []
  | 0, l => l
  | k + 1, f :: l => if f.path == b then dropFrames b k l else f :: dropFrames b (k + 1) l

/-- CAN_BUS_ERROR: error-passive, or bus-off with the frames still queued discarded. -/
def State.canError (s : State) (b : Nat) (off : Bool) (unsent : Nat) : State :=
  if !s.pathOpen b then s
  else
    let s := { s with st := { s.st with canState := cput s.st.canState b (if off then 2 else 1) } }
    if off then { s with st := { s.st with canTx := (dropFrames b unsent s.st.canTx.reverse).reverse } } else s

/-- CAN_BUS_OFF_RECOVERY. -/
def State.canRecover (s : State) (b : Nat) : State :=
  if cget s.st.canState b = 2 then { s with st := { s.st with canState := cput s.st.canState b 0 } } else s

end Sys2Proof.Machine
end

