-- ==== Sys2Proof/Machine/HostBar.lean ====
section
/-! DEFINITION. Sys2Proof/Machine/HostBar.lean: what a host's reads and posted writes reach (R206, R427 to R430, Tables 13-2
to 13-4), and their fate by mode (Table 13-7). -/
namespace Sys2Proof.Machine

/-- What a host's request comes to: it waits, or it has been performed and answered. -/
abbrev HostDone := Option State

def urStatus : Nat := 1
def caStatus : Nat := 2
def poisonStatus : Nat := 3

/-- A request that fails: a read answered with a status, a write discarded and reported. -/
def State.hostFail (s : State) (r : HostReq) (status : Nat) : State :=
  if r.data.isSome then s.hostReport r.ep r.off status else s.hostAnswer r.ep r.off status [] false

/-- A read completed with data, or a write completed. -/
def State.hostOk (s : State) (r : HostReq) (data : List Byte) : State :=
  if r.data.isSome then s else s.hostAnswer r.ep r.off 0 data false

/-- A write with EP = 1 to anything but Vector Memory (Table 13-4). -/
def HostReq.spoilt (r : HostReq) : Bool := r.poison && r.data.isSome

/-! ### BAR4 (R428) -/

/-- The Vector Memory address of an offset, or none where the window does not hold it. -/
def State.hostWindow (s : State) (r : HostReq) : Option Nat :=
  if r.f = 0 then some (s.fld (hpCtl r.ep) HP_CTL.PF_WINREG * 2 ^ 30 + r.off)
  else if 2 ^ (30 + min 6 (s.fld (hpCtl r.ep) HP_CTL.VF_WIN_LOG)) ≤ r.off then none
  else some (s.fld (s.vfCfg r.ep r.f) HP_VFCFG.WINREG * 2 ^ 30 + r.off)

/-- R158, Table 13-4: a host's partial write that meets Poison. -/
def State.hostMerge (s : State) (i a : Nat) : State :=
  let p := HP_PM_ADDR (i / 2) (i % 2)
  let s := if s.flag p HP_PM_ADDR.VALID then s else (s.setFld p HP_PM_ADDR.ADDR a).setFld p HP_PM_ADDR.VALID 1
  s.raise (hpPmerge i) (hostUnit i) svInfo

/-- BAR4. -/
def State.hostMem (s : State) (r : HostReq) : HostDone :=
  if s.st.holdup then some (if r.data.isSome then s else s.hostFail r caStatus)
  else if s.st.base = mBrum then none
  else match s.hostWindow r with
  | none => some (s.hostFail r urStatus)
  | some a =>
    if 0x1800000000 ≤ a + r.len - 1 then some (s.hostFail r urStatus)
    else if !s.vmOk a r.len then some (s.hostFail r (hostStatus (s.vmErr a r.len)))
    else
      let s := s.vmCount a (granules a r.len).length
      match r.data with
      | none =>
        (match s.vmRead .full a r.len with
        | (s, some (d, p)) => some (s.hostAnswer r.ep r.off 0 d p)
        | (s, none) => some (s.hostFail r caStatus))
      | some d =>
        (match s.vmWrite a d r.poison with
        | (s, some merge) => some (if merge && !r.poison then s.hostMerge r.ep a else s)
        | (s, none) => some (s.hostFail r caStatus))

/-! ### BAR2: doorbells (R296) -/

/-- BAR2. A narrower write, or one that is not aligned, is ignored. -/
def State.hostBell (s : State) (r : HostReq) : State :=
  let q := (if r.f = 0 then 0 else s.fld (s.vfCfg r.ep r.f) HP_VFCFG.QBASE) + r.off / 8
  if 65536 ≤ q then s.hostFail r urStatus
  else match r.data with
    | some d =>
      if (r.len = 4 ∨ r.len = 8) ∧ r.off % r.len = 0 then
        let v := ofBytes d
        let lo := decide (r.off % 8 = 0)
        let tail := if lo then some (v % 65536) else none
        let head := if r.len = 8 then some (bitsOf v 32 16) else if lo then none else some (v % 65536)
        s.doorbell q (.host r.ep r.f) tail head
      else s
    | none =>
      if !s.reaches r.ep r.f q then s.hostFail r caStatus
      else s.hostOk r (((toBytes 8 (s.dbValue q)).drop (r.off % 8)).take r.len)

/-! ### MSI-X tables, PBA and the mailbox (Table 13-3) -/

/-- The MSI-X table of a function: bytes read or written; a message that an unmasked vector had pending is sent. -/
def State.hostTable (s : State) (r : HostReq) (off : Nat) : State :=
  match r.data with
  | none => s.hostOk r ((upTo r.len).map (fun k => (s.hostEp r.ep).tab r.f (off + k)))
  | some d =>
    let e := (d.zip (upTo d.length)).foldl (fun (e : HostEp) x => e.setTab r.f (off + x.2) x.1) (s.hostEp r.ep)
    (s.setHostEp r.ep e).msixSend r.ep r.f

/-- The pending bits of a function; writes are discarded. -/
def State.hostPba (s : State) (r : HostReq) (off : Nat) : State :=
  s.hostOk r (((bitField 256 (fun v => (s.hostEp r.ep).pend.contains (r.f, v))).drop off).take r.len)

/-- MB_HCTL written (R432): ABORT, DONE cleared by one, DEST and LEN, GO. -/
def State.hctlWrite (s : State) (i v : Nat) : State :=
  let s := if bitAt v 4 then s.mbAbort i else s
  let s := if bitAt v 2 then s.setMbFld i MB_HCTL.DONE 0 else s
  let len := bitsOf v 5 9
  if s.mbBusy i then s
  else
    let s := (s.setMbFld i MB_HCTL.LEN len).setMbFld i MB_HCTL.DEST (bitsOf v 3 1)
    if bitAt v 0 then s.mailboxGo i (bitAt v 3) len else s

/-- A PF's function-local region. -/
def State.hostLocal (s : State) (r : HostReq) : State :=
  let o := r.off - 0x1800000
  let within := fun (lo n : Nat) => decide (lo ≤ o) && decide (o + r.len ≤ lo + n)
  if within 0 0x8000 then s.hostTable r o
  else if within 0x8000 256 then s.hostPba r (o - 0x8000)
  else if o = 0x10000 ∧ r.len = 4 then
    match r.data with
    | none => s.hostOk r (toBytes 4 (s.hostEp r.ep).hctl.toNat)
    | some d => s.hctlWrite r.ep (ofBytes d)
  else if within 0x10100 256 then
    match r.data with
    | none => s.hostOk r (s.regBytes (mbReq r.ep + (o - 0x10100)) r.len)
    | some d => if s.mbBusy r.ep then s else s.setRegBytes (mbReq r.ep + (o - 0x10100)) d
  else if within 0x10200 256 then s.hostOk r (s.regBytes (mbRsp r.ep + (o - 0x10200)) r.len)
  else s.hostFail r urStatus

/-! ### A VF's BAR0 -/

/-- Words of a queue context written or read by the function that reaches it (R425). -/
def State.hostCtx (s : State) (r : HostReq) (q : Nat) : State :=
  let o := r.off % 64
  let m := mHost (r.ep / 2)
  if !s.reaches r.ep r.f q then s.hostFail r caStatus
  else if o % 4 ≠ 0 ∨ r.len % 4 ≠ 0 ∨ 64 < o + r.len then s.hostFail r urStatus
  else match r.data with
    | none =>
      let (s, bs) := (upTo (r.len / 4)).foldl (fun (x : State × List Byte) k =>
        let (s, v) := x.1.wideRead m (QCTX q) 16 (QCTX q + o + 4 * k) 4
        (s, x.2 ++ toBytes 4 v)) (s, [])
      s.hostOk r bs
    | some d =>
      if !s.flag QE_STATUS QE_STATUS.READY then s
      else s.ctxWords q (o / 4) ((upTo (r.len / 4)).map (fun k => ofBytes ((d.drop (4 * k)).take 4))) (some (r.ep, r.f))

/-- A VF's QE_ALLOCp and QE_FREEp; an allocation from a pool under initialisation waits (R313). -/
def State.hostPool (s : State) (r : HostReq) : State :=
  let a := s.vfCfg r.ep r.f
  let free := decide (0x5800 ≤ r.off)
  let p := (r.off - (if free then 0x5800 else 0x5000)) / 8
  let open' := s.flag a HP_VFCFG.POOL_EN && decide (s.fld a HP_VFCFG.POOL_LO ≤ p) && decide (p ≤ s.fld a HP_VFCFG.POOL_HI)
  let h := Holder.host r.ep r.f
  let m := mHost (r.ep / 2)
  if !open' || decide (r.off % 8 ≠ 0) || decide (r.len ≠ 8) then s.hostFail r urStatus
  else match r.data with
    | some d => if free then s.bufferFree p (ofBytes d) false h else s.hostFail r caStatus
    | none =>
      if free then s.hostOk r (toBytes 8 0)
      else match s.poolAlloc p h (10 + r.ep / 2) false with
        | (s, .wait) =>
          let w : PoolReq := { pool := p, who := m, holder := h, world := false }
          { s with qe := { s.qe with poolWait := s.qe.poolWait ++ [w] } }
        | (s', x) => s'.hostOk r (toBytes 8 (s'.allocValue p x))

def State.hostVf (s : State) (r : HostReq) : State :=
  let a := s.vfCfg r.ep r.f
  if r.off < 0x4000 then
    (if r.off / 64 < min 256 (s.fld a HP_VFCFG.QCOUNT) then s.hostCtx r (s.fld a HP_VFCFG.QBASE + r.off / 64) else s.hostFail r urStatus)
  else if 0x4000 ≤ r.off ∧ r.off + r.len ≤ 0x4400 then s.hostTable r (r.off - 0x4000)
  else if 0x4800 ≤ r.off ∧ r.off + r.len ≤ 0x4808 then s.hostPba r (r.off - 0x4800)
  else if 0x5000 ≤ r.off ∧ r.off < 0x6000 then s.hostPool r
  else s.hostFail r urStatus

/-! ### A request served -/

/-- Control space through a PF's BAR0: one request of the control fabric, which may hold it (R349). -/
def State.hostCtl (s : State) (r : HostReq) : State :=
  if r.len ≤ 8 ∨ r.len = 16 ∨ r.len = 32 ∨ r.len = 64 then
    s.fabRun [{ who := mHost (r.ep / 2), vc2 := false, kind := .ctl, unit := Fin.ofNat 9 (r.ep % 2), addr := r.off, size := r.len,
                data := r.data.map ofBytes }]
  else s.hostFail r urStatus

/-- Whether the function exists: the PF, or a VF that VF Enable has enabled. -/
def State.hostFuncOn (s : State) (i f : Nat) : Bool :=
  decide (f = 0) || (s.flag (hpStatus i) HP_STATUS.VFE && decide (f ≤ s.fld (hpStatus i) HP_STATUS.NUMVF))

/-- A request performed, or none where it must wait for the device to wake. -/
def State.hostServe (s : State) (r : HostReq) : HostDone :=
  if r.bar = 2 then s.hostMem r
  else if r.spoilt then some (s.hostReport r.ep r.off poisonStatus)
  else if r.bar = 1 then some (s.hostBell r)
  else if r.f = 0 ∧ r.off < 0x1800000 then some (s.hostCtl r)
  else if s.st.base = mBrum then none
  else some (if r.f = 0 then s.hostLocal r else s.hostVf r)

/-- R206: whether an earlier request of the port still waits. -/
def State.hostBehind (s : State) (i : Nat) : Bool :=
  s.hp.held.any (fun x => x.ep / 2 == i / 2)
    || s.fab.waiting.any (fun x => x.who.id == 11 + i / 2 && x.data.isSome)

/-- HOST_POSTED_WRITE and HOST_READ: a request of a function that is up, behind those of its port that wait. -/
def State.hostRequest (s : State) (r : HostReq) : State :=
  if !s.epUp r.ep || !s.epExists r.ep || !s.hostFuncOn r.ep r.f then s
  else if s.hostBehind r.ep then { s with hp := { s.hp with held := s.hp.held ++ [r] } }
  else match s.hostServe r with
    | some t => t
    | none => { s.holdWake with hp := { s.hp with held := s.hp.held ++ [r] } }

/-- Held requests tried again in order. -/
def State.hostHeldServe (s : State) : State :=
  if s.hp.held.isEmpty || decide (s.st.base = mBrum) then s
  else
    let l := s.hp.held
    l.foldl (fun s r => s.hostRequest r) { s with hp := { s.hp with held := [] } }

end Sys2Proof.Machine
end

