-- ==== Sys2Proof/Machine/SeqMem.lean ====
section
/-! DEFINITION. Sys2Proof/Machine/SeqMem.lean: a sequencer's scalar accesses where they are performed (R194, R195, R271,
R272): loads and atomics return, buffered stores drain, and the answers of remote devices and atomic units arrive. -/
namespace Sys2Proof.Machine

/-! ### Loads and atomics return -/

/-- The value of access `id` reaches the registers, and what younger records would restore. -/
def Seq.loadedAt (q : Seq) (id : Nat) (x : Access) (v : Nat) : Seq :=
  let kind := fun (k : SpecKind) => match k with
    | .branch b d t after p => SpecKind.branch b d t (after.loaded x v) p
    | k => k
  let put := fun (r : SpecRec) => if id < r.id then { r with ckpt := r.ckpt.loaded x v, kind := kind r.kind } else r
  { q.segTouch x with arch := q.arch.loaded x v, spec := q.spec.map put }

/-- R271: an access that returned without error; a misaligned one returns a free value (R233, R235, R236). -/
def State.accessDone (s : State) (n : Fin 9) (id : Nat) (x : Access) (v : Nat) : State :=
  let v := if x.misaligned then s.fresh % 2 ^ (8 * x.size) else v
  let s := if x.misaligned then s.tick else s
  let s := s.setSeq n ((s.seq n).loadedAt id x v)
  ((s.closeRec n id).pairSettle n).pump n

/-- An access that received an error response. -/
def State.accessFail (s : State) (n : Fin 9) (id : Nat) : State :=
  (s.setSeq n ((s.seq n).markAccess id false true)).pump n

/-- The oldest access that is open, with its record's number, whether it has left, and whether it failed. -/
def Seq.oldest (q : Seq) : Option (Nat × Access × Bool × Bool) :=
  q.spec.findSome? (fun r => match r.kind with
    | .access a _ sent failed => some (r.id, a, sent, failed)
    | _ => none)

/-- A load from Vector Memory. Beyond an unresolved branch it reads Granules only as Table 5-2 lets a run-ahead read, and
waits where one is poisoned or lost; a committed one that meets Poison receives an error response. -/
def State.loadVm (s : State) (n : Fin 9) (id : Nat) (x : Access) : State :=
  let ahead := (s.seq n).spec.any (fun r => r.isBranch && decide (r.id < id))
  let clean := (granules x.addr x.size).all (fun g => s.gcls g == .clean || s.gcls g == .corrected)
  if ahead && (!s.vmOk x.addr x.size || !clean) then s
  else match s.vmRead (if ahead then .ahead else .full) x.addr x.size with
    | (s, some (d, false)) => (s.vmCount x.addr 1).accessDone n id x (ofBytes d)
    | (s, _) => s.accessFail n id

/-- LOAD_RESPONSE: the oldest access is performed and returns, where its unit answers here; a remote one, or an atomic,
leaves if it has not. -/
def State.loadResponse (s : State) (n : Fin 9) : State :=
  match (s.seq n).oldest with
  | none => s
  | some (id, x, sent, failed) =>
    if sent || failed then s
    else if x.isPld then s.accessDone n id x (s.pmNat n.val x.addr x.size)
    else if x.op.isAtomic then s.accessSend n id x
    else match x.tgt with
      | .vm => s.loadVm n id x
      | .ls =>
        (match s.lsRead (s.lsOfSeq n) x.world x.addr x.size with
        | (s, .ok d) => s.accessDone n id x (ofBytes d)
        | (s, .err _) => s.accessFail n id
        | (s, .hold) => s)
      | .ctl =>
        (match s.ctlRead (mSeq n.val x.world x.sup) none x.addr x.size with
        | (s, .ok v) => s.accessDone n id x v
        | (s, .err _) => s.accessFail n id
        | (s, .hold) => s)
      | .pm => s.accessDone n id x (s.pmNat n.val x.addr x.size)
      | .remote _ _ => s.accessSend n id x

/-- The answer to a remote access: its value, or an error response. -/
def State.scalarAnswer (s : State) (n : Fin 9) (v : Option Nat) : State :=
  match (s.seq n).spec.findSome? (fun r => match r.kind with
      | .access a _ true false => (match a.tgt with
        | .remote _ _ => some (r.id, a)
        | _ => none)
      | _ => none) with
  | none => s
  | some (id, x) => match v with
    | some v => s.accessDone n id x (v % 2 ^ (8 * x.size))
    | none => s.accessFail n id

/-! ### Buffered stores drain -/

/-- The oldest buffered store leaves the buffer, with an error response where `bad`. -/
def State.sbPop (s : State) (n : Fin 9) (bad : Bool) : State :=
  let q := s.seq n
  match q.sb with
  | [] => s
  | e :: rest =>
    let q := { q with sb := rest }
    (s.setSeq n (if bad then q.lateError e.world e.seg e.off else q)).pump n

/-- STORE_BUFFER_DRAIN: the oldest buffered store is performed, or leaves for its device. A completion post waits for
every earlier vector instruction (Table 6-3). -/
def State.storeBufDrain (s : State) (n : Fin 9) : State :=
  let q := s.seq n
  match q.sb with
  | [] => s
  | e :: rest =>
    let data := toBytes e.size e.data
    if e.sent then s
    else match e.tgt with
      | .vm =>
        (match s.vmWrite e.addr data false with
        | (s, some merge) => (if merge then s.vpoison n.val e.world true else s).vmCount e.addr 1 |>.sbPop n false
        | (s, none) => s.sbPop n true)
      | .ls =>
        (match s.lsWrite (s.lsOfSeq n) e.world e.addr data with
        | (s, .ok _) => s.sbPop n false
        | (s, .err _) => s.sbPop n true
        | (s, .hold) => s)
      | .ctl =>
        if isPost e.tgt e.addr && !q.vecQuiet then s
        else
          (match s.ctlWrite (mSeq n.val e.world e.sup) none e.addr e.size e.data with
          | (s, .ok _) => s.sbPop n false
          | (s, .err _) => s.sbPop n true
          | (s, .hold) => s)
      | .pm => (s.pmWrite n.val e.addr data).sbPop n false
      | .remote dev store =>
        (match s.chRequest (.store n) (ChMsg.make mtWR 0 dev s.chId 0 0 0 store e.size e.addr 0 false data) with
        | some s => s.setSeq n { s.seq n with sb := { e with sent := true } :: rest }
        | none => s)

/-- The acknowledgement of a remote store: POISON_MERGE of its status, or an error response. -/
def State.storeAnswer (s : State) (n : Fin 9) (merge bad : Bool) : State :=
  match (s.seq n).sb with
  | [] => s
  | e :: _ => if e.sent then (if merge then s.vpoison n.val e.world true else s).sbPop n bad else s

/-! ### Atomic acknowledgements (R99, R392) -/

/-- ATOMIC_ACK: a unit's oldest acknowledgement reaches its sender. -/
def State.atomicAck (s : State) (u : Nat) : State :=
  match s.vm.atomAcks.find? (fun a => a.unit == u) with
  | none => s
  | some a =>
    let s := { s with vm := { s.vm with atomAcks := s.vm.atomAcks.erase a } }
    match a.src with
    | .vec n vid elem => (s.vecAck n vid elem a).pump n
    | .chain port src tag => s.chAtomAck src tag { a with unit := port.val }
    | .scalar n id =>
      match (s.seq n).spec.findSome? (fun r => if r.id = id then r.acc else none) with
      | none => s
      | some x => if a.err || a.psn then s.accessFail n id else s.accessDone n id x (a.old % 2 ^ (8 * x.size))

/-- FABRIC_TIMEOUT at a sequencer: the load that waits fails, or the store at the head of the buffer. -/
def State.seqTimeout (s : State) (r : FabReq) : State :=
  if h : r.who.id < 9 then
    let n : Fin 9 := ⟨r.who.id, h⟩
    match r.data with
    | none =>
      (match (s.seq n).oldest with
      | some (id, x, _, false) => if x.tgt = .ctl ∧ x.addr = r.addr then s.accessFail n id else s
      | _ => s)
    | some _ =>
      (match (s.seq n).sb with
      | e :: _ => if e.tgt = .ctl ∧ e.addr = r.addr then s.sbPop n true else s
      | [] => s)
  else s

end Sys2Proof.Machine
end

