-- ==== Sys2Proof/Machine/Remote.lean ====
section
/-! DEFINITION. Sys2Proof/Machine/Remote.lean: messages of the chain that are for this device reach who waits for them (R393,
R402 to R404, R561), and what an event may release is tried again. -/
namespace Sys2Proof.Machine

/-- R393, R404: a response reaches the requester that its tag names, and frees the tag. WAKING only lengthens its timer; a
response whose tag is not in use is discarded. -/
def State.chResponse (s : State) (m : ChMsg) : State :=
  match s.ch.tags.find? (fun t => t.tag == m.tag) with
  | none => s
  | some t =>
    if m.ty = mtWAKING then
      { s with ch := { s.ch with tags := s.ch.tags.map (fun x => if x.tag = m.tag then { x with waking := true } else x) } }
    else
      let s := { s with ch := { s.ch with tags := s.ch.tags.filter (fun x => x.tag != m.tag) } }
      let err := decide (m.ty = mtERRRSP)
      let merge := !err && bitAt m.stat 0
      let data := m.data.take m.bytes
      match t.who with
      | .scalar n => s.scalarAnswer n (if err || m.poison then none else some (ofBytes data))
      | .store n => s.storeAnswer n merge err
      | .stream n vid key slice lanes => (s.streamAnswer n vid key slice lanes (if err then none else some (data, m.poison))).pump n
      | .drain n vid pos slice => (s.drainAcked n vid pos slice merge err).pump n
      | .elem n vid elem =>
        (match (s.seq n).vins vid with
        | some v => (s.vecAck n vid elem (remoteAck v elem n m.stat (ofBytes (m.data.take 16)) m.poison err)).pump n
        | none => s)
      | .bmRead c => if err then s.bmReadErr c else s.bmGot c data m.poison
      | .bmWrite c elem => s.bmAcked c elem merge err
      | .bell => if err then s.chRaise t.port ckDbErr else s

/-- A message for this device: a request served, Jenzia traffic handed to the Starter, a response given to who waits. -/
def State.inboxTake (s : State) (p : Nat) (m : ChMsg) : State :=
  if m.isReq then s.chServe p m
  else if m.ty = mtMGMT then s.mgmtIn m
  else s.chResponse m

/-- The messages for this device taken in order; serving one may bring another. -/
def inboxRun : Nat → State → State
  | 0, s => s
  | k + 1, s =>
    match s.ch.inbox with
    | [] => s
    | x :: rest => inboxRun k ({ s with ch := { s.ch with inbox := rest } }.inboxTake x.1 x.2)

def State.inboxDrain (s : State) : State := inboxRun (4 * s.ch.inbox.length + 16) s

/-- A message of the chain arrives at a port, and what it brings this device is done. -/
def State.chMessage (s : State) (p : Nat) (m : ChMsg) : State := (s.chArrive p m).inboxDrain

/-- TAG_TIMEOUT (R404): the request is reported as UNKNOWN. In Transit the timers stand still. -/
def State.tagTimeout (s : State) (tag : Nat) : State :=
  if s.mode = mTransit then s
  else match s.ch.tags.find? (fun t => t.tag == tag) with
    | none => s
    | some t => (s.chRaise t.port ckRspTimeout).chResponse (ChMsg.make mtERRRSP 1 s.chId s.chId tag xrUnknown 0 0 1 0 0 false [])

/-- Every sequencer goes on as far as it can. -/
def State.pumpAll (s : State) : State := (List.finRange 9).foldl (fun s n => s.pump n) s

/-- What an event may release: requests held at the fabric, at the chain, at the host ports; messages for this device;
sequencers; and the ends of repairs. -/
def State.settle (s : State) : State :=
  (((s.fabRun []).chHeldServe.hostHeldServe.inboxDrain).pumpAll).repairEnd

end Sys2Proof.Machine
end

