-- ==== Sys2Proof/Machine/Intake.lean ====
section
/-! DEFINITION. Sys2Proof/Machine/Intake.lean: what a row of the table shares with others before its effect: events of one
clock (R451), requests for a mode (R489), doorbells (R296), and register accesses by value. -/
namespace Sys2Proof.Machine

/-- The state after a command: its effect, with the queue of commands as the command found it. -/
def State.after (s t : State) : State := { t with pending := s.pending }

/-! ### Events of one clock (R444, R451) -/

def FaultIn.event (f : FaultIn) : Event :=
  { src := f.src.val, unit := f.unit.toNat, sev := f.sev.val, spec := f.spec, detail := f.detail.toNat }

/-- The severity that an event will have, its trip counted. -/
def State.sevDue (s : State) (e : Event) : Nat :=
  let trips := !e.spec && (s.countWindow e.src).2.2
  if trips then max (s.sevOf e) (s.fld (FJ_SRC_CFG e.src) FJ_SRC_CFG.ESC) else s.sevOf e

/-- R451: higher severity first, then the lower source number. -/
def eventPut (x : Nat × Event) : List (Nat × Event) → List (Nat × Event)
  | [] => [x]
  | y :: l => if y.1 < x.1 ∨ (y.1 = x.1 ∧ x.2.src < y.2.src) then x :: y :: l else y :: eventPut x l

/-- The first event of each source, and those that a source reports beyond it, which are counted in the next clock. -/
def firstEach : List Event → List Event × List Event
  | [] => ([], [])
  | e :: l =>
    let (a, b) := firstEach l
    if a.any (fun x => x.src == e.src) then (e :: a.filter (fun x => x.src != e.src), a.filter (fun x => x.src == e.src) ++ b)
    else (e :: a, b)

/-- FAULT_EVENT: the events of one clock. -/
def State.faultEvents (s : State) (l : List FaultIn) : State :=
  let (now, later) := firstEach ((l.map FaultIn.event).filter (fun e => srcKnown e.src))
  let s :=
    if !s.fjRuns then now.foldl (fun s e => s.raise0 e) s
    else
      let open' := !s.flag FJ_FIRST FJ_FIRST.VALID
      let sorted := (now.map (fun e => (s.sevDue e, e))).foldl (fun acc x => eventPut x acc) []
      let (s, more) := sorted.foldl (fun (x : State × List Event) p =>
        let (s', _, es) := x.1.raiseCore p.2 open'
        (s', x.2 ++ es)) (s, [])
      raiseAll (8 * (more.length + 1)) s more
  (later.foldl (fun s e => s.raise0 e) s).fatalSettle

/-! ### Mode requests (R489) -/

/-- A request for mode `t` by its way: the owner's write of 0x2000:02, or Secure supervisor level's of ST_MODE_REQ. -/
def State.modeAsk (s : State) (via : ModeVia) (t : Nat) (run : Option ProofRun) : State :=
  match via with
  | .dict path src =>
    if !s.isOwner src.toNat path.val || s.st.holdup || s.st.wipe.isSome || decide (s.st.base = 0) then s
    else if t = 11 then s.wipeEnter (s.objNat 0xA000 4 == 1)
    else s.modeRequest t run
  | .reg m =>
    if !m.secSup then s.regWrite m ST_MODE_REQ 4 (t + 16)
    else if s.st.base = 0 ∨ s.st.wipe.isSome then s
    else
      let s := s.setFld ST_MODE_REQ ST_MODE_REQ.REQ t
      if t = 11 then s.wipeEnter (s.flag SEC_CTL SEC_CTL.WIPE_FULL) else s.modeRequest t run

/-! ### Doorbells (R296) -/

/-- A doorbell rung by a host function on BAR2 or by a fabric master: the halves it writes. -/
def State.bellRung (s : State) (q : Nat) (via : DbVia) (lo hi : Bool) (v : Nat) : State :=
  let tail := if lo then some (v % 65536) else none
  let head := if hi then some (bitsOf v 32 16) else none
  match via with
  | .host i f => s.doorbell q (.host i.val f.val) tail head
  | .ctl m =>
    let a := 0x880000 + q * 8
    if lo && hi then s.regWrite m a 8 v
    else if lo then s.regWrite m a 4 (v % 2 ^ 32)
    else if hi then s.regWrite m (a + 4) 4 (v / 2 ^ 32 % 2 ^ 32)
    else s

/-! ### Register writes that change one field -/

/-- The bits of a word that a write of its own value keeps: those that store what is written (R613). -/
def State.storedBits (s : State) (a : Nat) : Nat :=
  match regFind a with
  | none => 0
  | some (r, _, _, w) => bitsIn (s.regNat a 1) ((r.mask w).rw ||| (r.mask w).rwl)

/-- A 4 B write that leaves every other bit of the word as it stands. -/
def State.fieldWrite (s : State) (m : Master) (a : Nat) (f : Fld) (v : Nat) : State :=
  s.regWrite m a 4 (setBits (s.storedBits a) f.1 f.2 v)

/-- R343: an ABORT that was accepted stops the run at the boundary of a line. -/
def State.marchStop (s : State) (n : Nat) (lines : List Nat) : State :=
  if s.flag (LS_MARCH_CTL n) LS_MARCH_CTL.ABORT then s.marchEnd n lines true else s

/-- R529: the owner's write of TEST_NOW. -/
def State.testNow (s : State) (path src : Nat) : State :=
  if s.isOwner src path && !s.st.holdup && s.st.wipe.isNone then s.testStart else s

/-- R531: a sample of the store during Hold-up; at its floor the flush stops. -/
def State.storeSample (s : State) (v : Nat) : State := if s.st.holdup && s.atFloor v then s.flushWatchdog else s

/-- R536: the valve does not follow its command. -/
def State.valvePosition (s : State) : State := if s.objNat 0x3030 0xA = 0 then s else s.valveFault

end Sys2Proof.Machine
end

