-- ==== Sys2Proof/Machine/RowsChain.lean ====
section
/-! DEFINITION. Sys2Proof/Machine/RowsChain.lean: the rows of the chain ports (chapter 12). -/
namespace Sys2Proof.Machine

/-- LINK_TRAIN (R383): A chain port trains its lanes at start. -/
def execLinkTrain (p : Fin 8) (signal : Bool) (s : State) : Host.Outcome State Fault Refusal :=
  .next (s.after ((s.linkTrain p.val signal).inboxDrain))

/-- CH_RETRAIN (R383): CH_CTL.RETRAIN retrains the port. -/
def execChRetrain (p : Fin 8) (who : Master) (s : State) : Host.Outcome State Fault Refusal :=
  if who.ok then .next (s.after (s.fieldWrite who (CH_CTL p.val) CH_CTL.RETRAIN 1)) else .fault .illFormed

/-- RETRAIN_TIMEOUT (R386): A retrain that exceeds RETRAIN_MAX takes the link down. -/
def execRetrainTimeout (p : Fin 8) (s : State) : Host.Outcome State Fault Refusal :=
  .next (s.after ((s.retrainTimeout p.val).inboxDrain))

/-- LANE_ERROR_WINDOW (R384): A 1 ms lane window closes and may retire a lane onto the spare. -/
def execLaneErrorWindow (p : Fin 8) (errs : List (BitVec 16)) (ce : BitVec 31) (ue : BitVec 15) (s : State) :
    Host.Outcome State Fault Refusal :=
  if decide (errs.length = 9) then
    .next (s.after ((s.laneWindow p.val (errs.map BitVec.toNat) ce.toNat ue.toNat).inboxDrain))
  else .fault .illFormed

/-- LANE_FORCE (R384): CH_LANE.FORCE retires a logical lane onto the spare. -/
def execLaneForce (p : Fin 8) (who : Master) (lane : BitVec 4) (s : State) : Host.Outcome State Fault Refusal :=
  if who.ok then .next (s.after (s.fieldWrite who (CH_LANE p.val) (0, 5) (lane.toNat + 16))) else .fault .illFormed

/-- LINK_DOWN (R386): A chain link goes down on loss of signal or repeated NAK. -/
def execLinkDown (p : Fin 8) (lost : Bool) (s : State) : Host.Outcome State Fault Refusal :=
  .next (s.after ((s.linkDown p.val lost).inboxDrain))

/-- FLIT_ACK_TIMEOUT (R386): No ACK arrives for 100 µs and the port retrains. -/
def execFlitAckTimeout (p : Fin 8) (s : State) : Host.Outcome State Fault Refusal :=
  .next (s.after ((s.ackTimeout p.val).inboxDrain))

/-- FLIT_RECEIVE (R388): A flit is accepted in order, or discarded and NAKed. -/
def execFlitReceive (p : Fin 8) (f : FlitIn) (s : State) : Host.Outcome State Fault Refusal :=
  if f.ok then .next (s.after ((s.flitReceive p.val f).inboxDrain)) else .fault .illFormed

/-- RD (R401): An incoming remote read is admitted by a window and served. -/
def execRd (p : Fin 8) (m : ChMsg) (s : State) : Host.Outcome State Fault Refusal :=
  if m.isType 1 then .next (s.after (s.chMessage p.val m)) else .fault .illFormed

/-- WR (R401): An incoming remote write is admitted and performed. -/
def execWr (p : Fin 8) (m : ChMsg) (s : State) : Host.Outcome State Fault Refusal :=
  if m.isType 2 then .next (s.after (s.chMessage p.val m)) else .fault .illFormed

/-- ATOM (R401): An incoming remote atomic is admitted and applied. -/
def execAtom (p : Fin 8) (m : ChMsg) (s : State) : Host.Outcome State Fault Refusal :=
  if m.isType 3 then .next (s.after (s.chMessage p.val m)) else .fault .illFormed

/-- DB (R402): An incoming chain doorbell is accepted or answered DENIED. -/
def execDb (p : Fin 8) (m : ChMsg) (s : State) : Host.Outcome State Fault Refusal :=
  if m.isType 4 then .next (s.after (s.chMessage p.val m)) else .fault .illFormed

/-- RDRSP (R393): Remote read data returns to the requester. -/
def execRdrsp (p : Fin 8) (m : ChMsg) (s : State) : Host.Outcome State Fault Refusal :=
  if m.isType 8 then .next (s.after (s.chMessage p.val m)) else .fault .illFormed

/-- WRACK (R393): A remote write acknowledgement returns and the write counts as performed. -/
def execWrack (p : Fin 8) (m : ChMsg) (s : State) : Host.Outcome State Fault Refusal :=
  if m.isType 9 then .next (s.after (s.chMessage p.val m)) else .fault .illFormed

/-- ATOMRSP (R393): A remote atomic response returns its old value and status. -/
def execAtomrsp (p : Fin 8) (m : ChMsg) (s : State) : Host.Outcome State Fault Refusal :=
  if m.isType 10 then .next (s.after (s.chMessage p.val m)) else .fault .illFormed

/-- ERRRSP (R393): A remote error response is reported to the requester. -/
def execErrrsp (p : Fin 8) (m : ChMsg) (s : State) : Host.Outcome State Fault Refusal :=
  if m.isType 11 then .next (s.after (s.chMessage p.val m)) else .fault .illFormed

/-- WAKING (R403): A target in Brumation reports waking, and the tag timer becomes 20 ms. -/
def execWaking (p : Fin 8) (m : ChMsg) (s : State) : Host.Outcome State Fault Refusal :=
  if m.isType 12 then .next (s.after (s.chMessage p.val m)) else .fault .illFormed

/-- MARK (R411): A Transit marker returns and releases held traffic of its VC and direction. -/
def execMark (p : Fin 8) (m : ChMsg) (s : State) : Host.Outcome State Fault Refusal :=
  if m.isType 16 then .next (s.after (s.chMessage p.val m)) else .fault .illFormed

/-- NBR (R395): A neighbour message records the partner's ID and checks the wiring. -/
def execNbr (p : Fin 8) (m : ChMsg) (s : State) : Host.Outcome State Fault Refusal :=
  if m.isType 32 then .next (s.after (s.chMessage p.val m)) else .fault .illFormed

/-- NBR_PERIOD (R395): Every 100 ms an UP port sends NBR. -/
def execNbrPeriod (s : State) : Host.Outcome State Fault Refusal :=
  .next (s.after (s.nbrPeriod))

/-- TIME (R416): A timestamp message of the time exchange. -/
def execTime (p : Fin 8) (m : ChMsg) (s : State) : Host.Outcome State Fault Refusal :=
  if m.isType 33 then .next (s.after (s.chMessage p.val m)) else .fault .illFormed

/-- TIME_EXCHANGE (R416): Every 2^PERIOD µs the offset to UPPORT is measured. -/
def execTimeExchange (answer : Option (Word × Word × W32)) (s : State) : Host.Outcome State Fault Refusal :=
  .next (s.after (s.timeExchange (answer.map (fun x => (x.1.toNat, x.2.1.toNat, x.2.2.toNat)))))

/-- LINKDOWN (R408): A flooded link failure puts ring devices in Transit. -/
def execLinkdownFlood (p : Fin 8) (m : ChMsg) (s : State) : Host.Outcome State Fault Refusal :=
  if m.isType 34 then .next (s.after (s.chMessage p.val m)) else .fault .illFormed

/-- RECONCILE (R410): The partner's last received SEQ arrives and unreceived messages are resent, turned. -/
def execReconcile (p : Fin 8) (m : ChMsg) (s : State) : Host.Outcome State Fault Refusal :=
  if m.isType 35 then .next (s.after (s.chMessage p.val m)) else .fault .illFormed

/-- MGMT (R561): A Jenzia frame carried over the chain on VC2. -/
def execMgmt (p : Fin 8) (m : ChMsg) (s : State) : Host.Outcome State Fault Refusal :=
  if m.isType 36 then .next (s.after (s.chMessage p.val m)) else .fault .illFormed

/-- TAG_TIMEOUT (R404): A VC0 request tag times out after RSP_TIMEOUT and reports UNKNOWN. -/
def execTagTimeout (tag : BitVec 12) (s : State) : Host.Outcome State Fault Refusal :=
  .next (s.after (s.tagTimeout tag.toNat))

/-- TRANSIT_TIMEOUT (R412): Transit beyond TRANSIT_MAX releases held traffic and leaves Transit. -/
def execTransitTimeout (s : State) : Host.Outcome State Fault Refusal :=
  .next (s.after (s.transitTimeout.inboxDrain))

/-- RING_RESTORE (R413): CH_RING.RESTORE floods a restore and reverts routes through Transit. -/
def execRingRestore (who : Master) (s : State) : Host.Outcome State Fault Refusal :=
  if who.ok then .next (s.after (s.fieldWrite who CH_RING CH_RING.RESTORE 1)) else .fault .illFormed

/-- DOORBELL_SEND (R402): A CH_DBSEND write sends a DB to another device. -/
def execDoorbellSend (who : Master) (value : Word) (s : State) : Host.Outcome State Fault Refusal :=
  if who.ok then .next (s.after (s.regWrite who CH_DBSEND 8 value.toNat)) else .fault .illFormed

end Sys2Proof.Machine
end

