-- ==== Sys2Proof/Machine/RowsDict.lean ====
section
/-! DEFINITION. Sys2Proof/Machine/RowsDict.lean: the rows of the dictionary and of ownership (chapter 17). -/
namespace Sys2Proof.Machine

/-- READ (R551): A Jenzia READ request returns an object's value. -/
def execRead (req : JenziaReq) (s : State) : Host.Outcome State Fault Refusal :=
  if req.ok then .next (s.after (s.requestIn 1 req).framesOut) else .fault .illFormed

/-- WRITE (R543): A Jenzia WRITE request is checked and applied whole or refused. -/
def execWrite (req : JenziaReq) (s : State) : Host.Outcome State Fault Refusal :=
  if req.ok then .next (s.after (s.requestIn 2 req).framesOut) else .fault .illFormed

/-- INFO (R551): A Jenzia INFO request returns an object's size, access right and persistence. -/
def execInfo (req : JenziaReq) (s : State) : Host.Outcome State Fault Refusal :=
  if req.ok then .next (s.after (s.requestIn 3 req).framesOut) else .fault .illFormed

/-- SEGMENT (R552): A segment frame of a segmented transfer arrives. -/
def execSegment (path : Fin 7) (src dst : BitVec 13) (payload : List Byte) (s : State) : Host.Outcome State Fault Refusal :=
  if decide (payload.length ≤ pathMax path) then
    .next (s.after (s.segmentFrame path.val src.toNat dst.toNat payload).framesOut)
  else .fault .illFormed

/-- SEG_ACK (R552): A segment acknowledgement sets NEXT and may trigger a resend. -/
def execSegAck (req : JenziaReq) (s : State) : Host.Outcome State Fault Refusal :=
  if req.ok then .next (s.after (s.requestIn 4 req).framesOut) else .fault .illFormed

/-- ABORT (R552): A Jenzia ABORT ends a segmented transfer. -/
def execAbort (req : JenziaReq) (s : State) : Host.Outcome State Fault Refusal :=
  if req.ok then .next (s.after (s.requestIn 5 req).framesOut) else .fault .illFormed

/-- SEGMENT_TIMEOUT (R552): No acknowledgement within 100 ms leads to a resend, then ABORT with TIMEOUT. -/
def execSegmentTimeout (src : BitVec 13) (tid : Byte) (s : State) : Host.Outcome State Fault Refusal :=
  .next (s.after ((s.segTimeout src.toNat tid.toNat).framesOut))

/-- RELAY_TIMEOUT (R562): A relayed request gets no answer in RELAY_TIMEOUT and is refused UNREACHABLE. -/
def execRelayTimeout (src : BitVec 13) (tid : Byte) (s : State) : Host.Outcome State Fault Refusal :=
  .next (s.after ((s.relayTimeout src.toNat tid.toNat).framesOut))

/-- CLAIM (R567): A CLAIM joins or opens an election, or is granted by handover or pre-emption. -/
def execClaim (path : Fin 7) (src : BitVec 13) (payload : List Byte) (s : State) : Host.Outcome State Fault Refusal :=
  if claimOk path payload 1 then .next (s.after ((s.claimFrame path.val src.toNat payload).framesOut)) else .fault .illFormed

/-- RENEW (R567): The owner renews its lease. -/
def execRenew (path : Fin 7) (src : BitVec 13) (payload : List Byte) (s : State) : Host.Outcome State Fault Refusal :=
  if claimOk path payload 2 then .next (s.after ((s.claimFrame path.val src.toNat payload).framesOut)) else .fault .illFormed

/-- RELEASE (R567): The owner releases ownership. -/
def execRelease (path : Fin 7) (src : BitVec 13) (payload : List Byte) (s : State) : Host.Outcome State Fault Refusal :=
  if claimOk path payload 3 then .next (s.after ((s.claimFrame path.val src.toNat payload).framesOut)) else .fault .illFormed

/-- HANDOVER (R569): The owner arms a successor for HANDOVER_MS. -/
def execHandover (path : Fin 7) (src : BitVec 13) (payload : List Byte) (s : State) : Host.Outcome State Fault Refusal :=
  if claimOk path payload 4 then .next (s.after ((s.claimFrame path.val src.toNat payload).framesOut)) else .fault .illFormed

/-- ELECTION_CLOSE (R567): ELECT_WINDOW ends and the highest-ranked candidate is granted. -/
def execElectionClose (s : State) : Host.Outcome State Fault Refusal :=
  .next (s.after ((s.electionClose).framesOut))

/-- LEASE_LAPSE (R568): The owner's lease ends unrenewed and ownership ends. -/
def execLeaseLapse (s : State) : Host.Outcome State Fault Refusal :=
  .next (s.after ((s.leaseLapse).framesOut))

/-- HANDOVER_EXPIRY (R569): The handover window passes and the successor is disarmed. -/
def execHandoverExpiry (s : State) : Host.Outcome State Fault Refusal :=
  .next (s.after ((s.handoverExpire).framesOut))

/-- HEARTBEAT (R559): Every HB_PERIOD a HEARTBEAT is broadcast on each enabled bus. -/
def execHeartbeat (s : State) : Host.Outcome State Fault Refusal :=
  .next (s.after (s.heartbeat))

/-- CAN_BUS_OFF_RECOVERY (R557): After 128 occurrences of 11 recessive bits, a bus-off controller recovers. -/
def execCanBusOffRecovery (bus : Fin 2) (s : State) : Host.Outcome State Fault Refusal :=
  .next (s.after (s.canRecover bus.val))

/-- SYNC_LOST (R576): No measurement for 8 exchange periods clears SYNC. -/
def execSyncLost (s : State) : Host.Outcome State Fault Refusal :=
  .next (s.after (s.syncLost))

end Sys2Proof.Machine
end

