-- ==== Sys2Proof/Machine/RowsFault.lean ====
section
/-! DEFINITION. Sys2Proof/Machine/RowsFault.lean: the rows of the Fault and Journal Unit (chapter 14). -/
namespace Sys2Proof.Machine

/-- FAULT_EVENT (R446): A fault source reports an event, which is counted, classified and reacted to. -/
def execFaultEvent (evs : List FaultIn) (s : State) : Host.Outcome State Fault Refusal :=
  .next (s.after (s.faultEvents evs))

/-- FAULT_WINDOW_CLOSE (R446): A source's counting window closes. -/
def execFaultWindowClose (src : Fin 512) (s : State) : Host.Outcome State Fault Refusal :=
  .next (s.after (s.winClose src.val))

/-- REACTION_START (R450): A queued ACTION leaves the queue when fewer than four reactions run. -/
def execReactionStart (s : State) : Host.Outcome State Fault Refusal :=
  .next (s.after (s.reactionStart))

/-- AUTOTOMY_END (R471): Every owner has answered; the unit's domain powers down and the record is written. -/
def execAutotomyEnd (unit : BitVec 20) (s : State) : Host.Outcome State Fault Refusal :=
  .next (s.after ((s.autotomyEnd unit.toNat).settle))

/-- AUTOTOMY_TIMEOUT (R472): An Autotomy exceeds its bound and is forced. -/
def execAutotomyTimeout (unit : BitVec 20) (s : State) : Host.Outcome State Fault Refusal :=
  .next (s.after ((s.autotomyTimeout unit.toNat).settle))

/-- SEQUENCER_REGROW_END (R476): The image is loaded and the spare reads bound. -/
def execSequencerRegrowEnd (digestOk : Bool) (s : State) : Host.Outcome State Fault Refusal :=
  .next (s.after ((s.seqRegrowEnd digestOk).settle))

/-- REGROW_TIMEOUT (R477): A Regrow exceeds its bound and the spare is fenced. -/
def execRegrowTimeout (spare : BitVec 20) (s : State) : Host.Outcome State Fault Refusal :=
  .next (s.after ((s.regrowFail spare.toNat).settle))

/-- FAULT_FORCE (R454): FJ_SRC_CFGs.FORCE injects one forced event. -/
def execFaultForce (src : Fin 512) (who : Master) (value : W32) (s : State) : Host.Outcome State Fault Refusal :=
  if who.ok then .next (s.after (s.regWrite who (FJ_SRC_CFG src.val) 4 (setBits value.toNat 31 1 1))) else .fault .illFormed

/-- FIRST_RECORD_CLEAR (R451): Clearing FJ_FIRST.VALID also clears every FJ_ALSO bit. The register is 128 bits wide, so the
write of VALID is staged until its highest 8 B word is written (R612): the row is both writes. -/
def execFirstRecordClear (who : Master) (s : State) : Host.Outcome State Fault Refusal :=
  if who.ok then .next (s.after ((s.regWrite who FJ_FIRST 8 (2 ^ 12)).regWrite who (FJ_FIRST + 8) 8 0)) else .fault .illFormed

/-- ALERT_PULSE_END (R456): The ALERT_N minimum low time elapses, and the pin rises or holds by MODE. -/
def execAlertPulseEnd (s : State) : Host.Outcome State Fault Refusal :=
  .next (s.after (s.alertPulseEnd))

/-- ALERT_ACK (R456): FJ_PIN_CTL.ACK ends the alert episode. -/
def execAlertAck (who : Master) (s : State) : Host.Outcome State Fault Refusal :=
  if who.ok then .next (s.after (s.fieldWrite who FJ_PIN_CTL FJ_PIN_CTL.ACK 1)) else .fault .illFormed

/-- JOURNAL_WRITE (R460): The writer writes the next queued record into both halves and reads it back. -/
def execJournalWrite (failA failB : Fin 4) (s : State) : Host.Outcome State Fault Refusal :=
  .next (s.after (s.journalWrite failA.val failB.val))

/-- JOURNAL_READ (R481): An FJ_JRD_SEQ write reads the record with that SEQ. -/
def execJournalRead (who : Master) (seq : Word) (s : State) : Host.Outcome State Fault Refusal :=
  if who.ok then .next (s.after (s.regWrite who FJ_JRD_SEQ 8 seq.toNat)) else .fault .illFormed

/-- FJ_REQ_AUTOTOMY (R479): FJ_REQ CMD 0b001 requests Autotomy of a unit. -/
def execFjReqAutotomy (who : Master) (unit : BitVec 20) (s : State) : Host.Outcome State Fault Refusal :=
  if who.ok then .next (s.after (s.regWrite who FJ_REQ 4 (unit.toNat + 1 * 2 ^ 20))) else .fault .illFormed

/-- FJ_REQ_AUTOTOMY_REGROW (R479): FJ_REQ CMD 0b010 requests Autotomy and Regrow. -/
def execFjReqAutotomyRegrow (who : Master) (unit : BitVec 20) (s : State) : Host.Outcome State Fault Refusal :=
  if who.ok then .next (s.after (s.regWrite who FJ_REQ 4 (unit.toNat + 2 * 2 ^ 20))) else .fault .illFormed

/-- FJ_REQ_REPAIR (R479): FJ_REQ CMD 0b011 requests the pending repair. -/
def execFjReqRepair (who : Master) (unit : BitVec 20) (s : State) : Host.Outcome State Fault Refusal :=
  if who.ok then .next (s.after (s.regWrite who FJ_REQ 4 (unit.toNat + 3 * 2 ^ 20))) else .fault .illFormed

/-- UST_CHECK (R468): Periodic comparison of the Unit State Table with its views. -/
def execUstCheck (unit : BitVec 20) (copyA copyB copyC mgmt data : W32) (s : State) : Host.Outcome State Fault Refusal :=
  .next (s.after (s.ustCheck unit.toNat copyA copyB copyC mgmt data))

/-- LAST_GASP_CLEAR (R465): ST_LG_CTL.CLR invalidates every last-gasp entry. -/
def execLastGaspClear (who : Master) (s : State) : Host.Outcome State Fault Refusal :=
  if who.ok then .next (s.after (s.fieldWrite who ST_LG_CTL ST_LG_CTL.CLR 1)) else .fault .illFormed

end Sys2Proof.Machine
end

