-- ==== Sys2Proof/Machine/RowsHost.lean ====
section
/-! DEFINITION. Sys2Proof/Machine/RowsHost.lean: the rows of the host ports (chapter 13). -/
namespace Sys2Proof.Machine

/-- HOST_POSTED_WRITE (R206): A posted write TLP received on a host port is performed in order. -/
def execHostPostedWrite (ep : Fin 4) (f : Fin 257) (bar : Fin 3) (off : Word) (data : List Byte) (poison : Bool) (s : State) :
    Host.Outcome State Fault Refusal :=
  if hostDataOk data then
    .next (s.after (s.hostRequest { ep := ep.val, f := f.val, bar := bar.val, off := off.toNat, len := data.length, data := some data, poison := poison }))
  else .fault .illFormed

/-- HOST_READ (R206): A read TLP from the host is performed after earlier posted writes. -/
def execHostRead (ep : Fin 4) (f : Fin 257) (bar : Fin 3) (off : Word) (len : BitVec 13) (s : State) :
    Host.Outcome State Fault Refusal :=
  if decide (0 < len.toNat) && decide (len.toNat ≤ 4096) then
    .next (s.after (s.hostRequest { ep := ep.val, f := f.val, bar := bar.val, off := off.toNat, len := len.toNat, data := none, poison := false }))
  else .fault .illFormed

/-- HOST_LINK_DOWN (R434): An endpoint's link goes down, resetting its functions and stalling or moving queues. -/
def execHostLinkDown (ep : Fin 4) (s : State) : Host.Outcome State Fault Refusal :=
  .next (s.after (s.hostLinkDown ep.val))

/-- PERST (R434): PCIe fundamental reset of an endpoint, handled as a link down. -/
def execPerst (ep : Fin 4) (s : State) : Host.Outcome State Fault Refusal :=
  .next (s.after (s.hostLinkDown ep.val))

/-- VF_FLR (R434): A VF Function Level Reset resets its queues and returns its buffers. -/
def execVfFlr (ep : Fin 4) (v : Fin 257) (s : State) : Host.Outcome State Fault Refusal :=
  if decide (0 < v.val) then .next (s.after (s.vfFlr ep.val v.val)) else .fault .illFormed

/-- PF_FLR (R434): A PF Function Level Reset resets every function of the endpoint. -/
def execPfFlr (ep : Fin 4) (s : State) : Host.Outcome State Fault Refusal :=
  .next (s.after (s.pfFlr ep.val))

/-- VF_ENABLE_CLEAR (R434): Clearing VF Enable resets every VF's queues. -/
def execVfEnableClear (ep : Fin 4) (s : State) : Host.Outcome State Fault Refusal :=
  .next (s.after (s.vfEnableClear ep.val))

/-- BUS_MASTER_ENABLE_CLEAR (R434): Clearing Bus Master Enable stops requests for the function. -/
def execBusMasterEnableClear (ep : Fin 4) (f : Fin 257) (s : State) : Host.Outcome State Fault Refusal :=
  .next (s.after (s.bmeClear ep.val f.val))

/-- MSIX_UNMASK (R431): An unmasked vector sends its pending message. -/
def execMsixUnmask (ep : Fin 4) (f : Fin 257) (vec : Option (Fin 2048)) (s : State) : Host.Outcome State Fault Refusal :=
  .next (s.after (s.msixUnmask ep.val f.val (vec.map Fin.val)))

/-- MAILBOX_GO (R432): MB_HCTL.GO sends the mailbox request to the Starter or firmware. -/
def execMailboxGo (ep : Fin 4) (dest : Bool) (len : BitVec 9) (s : State) : Host.Outcome State Fault Refusal :=
  .next (s.after (s.mailboxGo ep.val dest len.toNat))

/-- MAILBOX_ABORT (R432): MB_HCTL.ABORT clears BUSY and PEND. -/
def execMailboxAbort (ep : Fin 4) (s : State) : Host.Outcome State Fault Refusal :=
  .next (s.after (s.mbAbort ep.val))

/-- MAILBOX_ANSWER (R433): HP_MBCTL.ANSWER completes a firmware mailbox request. -/
def execMailboxAnswer (ep : Fin 4) (who : Master) (rlen : BitVec 9) (s : State) : Host.Outcome State Fault Refusal :=
  if who.ok then .next (s.after (s.fieldWrite who (hpMbctl ep.val) (2, 10) (1 + 2 * rlen.toNat))) else .fault .illFormed

end Sys2Proof.Machine
end

