-- ==== Sys2Proof/Machine/RowsMemory.lean ====
section
/-! DEFINITION. Sys2Proof/Machine/RowsMemory.lean: the rows of the vector memory (chapter 5). -/
namespace Sys2Proof.Machine

/-- ATOMIC_QUEUE_ADMIT (R165): An atomic element enters a unit's queue, or the wait list when the queue is full. -/
def execAtomicQueueAdmit (n : Fin 9) (id : Nat) (s : State) : Host.Outcome State Fault Refusal :=
  .next (s.after ((s.atomQueue n id).pump n))

/-- ATOMIC_OPERATION (R166): An atomic unit starts a coalesced operation on one element location. -/
def execAtomicOperation (u : Fin 2048) (k : Fin 64) (misses : Fin 3) (s : State) : Host.Outcome State Fault Refusal :=
  .next (s.after ((s.atomCheck u.val k.val misses.val).settle))

/-- ATOMIC_ACK (R99): An atomic acknowledgement returns with its status and old value, filling E. -/
def execAtomicAck (u : Fin 2048) (s : State) : Host.Outcome State Fault Refusal :=
  .next (s.after (s.atomicAck u.val))

/-- LINE_IDLE_WRITEBACK (R164): A dirty line unused for 4,096 clocks is written back. -/
def execLineIdleWriteback (u : Fin 2048) (granule : BitVec 30) (s : State) : Host.Outcome State Fault Refusal :=
  .next (s.after (s.lineIdle u.val granule.toNat))

/-- BANK_REQUEST (R153): A request arrives at a bank front-end and queues, or answers REMAP. -/
def execBankRequest (addr : BitVec 37) (size : Fin 129) (data : Option (List Byte)) (ra remap : Bool) (s : State) :
    Host.Outcome State Fault Refusal :=
  if bankReqOk addr size data then .next (s.after (s.bankRequest addr.toNat size.val data ra remap)) else .fault .illFormed

/-- BANK_ACCESS (R153): A front-end starts one bank access per bank cycle. -/
def execBankAccess (b : Fin 32768) (s : State) : Host.Outcome State Fault Refusal :=
  .next (s.after (s.bankAccess b.val))

/-- PATROL_SCRUB (R161): The tier scrubber reads the next slot and rewrites it where needed. -/
def execPatrolScrub (t : Fin 4) (s : State) : Host.Outcome State Fault Refusal :=
  .next (s.after (s.patrolScrub t.val))

/-- SCRUB_REWRITE (R157): The scrubber serves an entry of its priority list with a locked read-modify-write. -/
def execScrubRewrite (t : Fin 4) (s : State) : Host.Outcome State Fault Refusal :=
  .next (s.after (s.scrubRewrite t.val))

/-- SCRUB_LATE (R161): A region is not scrubbed within twice its period. -/
def execScrubLate (r : Fin 96) (s : State) : Host.Outcome State Fault Refusal :=
  .next (s.after (s.scrubLate r.val))

/-- ROW_REFRESH (R162): A bank refreshes a row within its temperature window. -/
def execRowRefresh (bank : Fin 33280) (row : Fin 1536) (s : State) : Host.Outcome State Fault Refusal :=
  .next (s.after (s.rowRefresh bank.val row.val))

/-- NEIGHBOUR_REFRESH (R163): A row reaches 16,384 activations and its neighbours are refreshed. -/
def execNeighbourRefresh (bank : Fin 33280) (row : Fin 1536) (s : State) : Host.Outcome State Fault Refusal :=
  .next (s.after (s.neighbourRefresh bank.val row.val))

/-- PLACE_WINDOW_CLOSE (R170): A placement window closes, and the region may trip. -/
def execPlaceWindowClose (r : Fin 96) (conflicts : Nat) (s : State) : Host.Outcome State Fault Refusal :=
  .next (s.after (s.placeWindow r.val conflicts))

/-- REGION_MIGRATION_REQ (R172): A write of VM_REGIONr.REQ requests a migration to REQ_KEY. -/
def execRegionMigrationReq (r : Fin 96) (who : Master) (value : Word) (s : State) : Host.Outcome State Fault Refusal :=
  if who.ok then .next (s.after (s.regWrite who (VM_REGION r.val) 8 value.toNat)) else .fault .illFormed

/-- MIGRATION_START (R173): The queued migration at the head starts when no other region migrates. -/
def execMigrationStart (s : State) : Host.Outcome State Fault Refusal :=
  .next (s.after (s.migStart))

/-- SWAP_PAIR (R175): A pair of Granules is locked, swapped and unlocked. -/
def execSwapPair (b : Fin 32768) (s : State) : Host.Outcome State Fault Refusal :=
  .next (s.after (s.swapPair b.val))

/-- ROW_REPAIR (R177): A row is copied to a spare row behind a column pointer. -/
def execRowRepair (b : Fin 32768) (row : Fin 1536) (s : State) : Host.Outcome State Fault Refusal :=
  .next (s.after (s.rowRepair b.val row.val))

/-- BANK_REGROW_END (R180): The copy completes; the bank map changes and the old bank is fenced. -/
def execBankRegrowEnd (t : Fin 4) (s : State) : Host.Outcome State Fault Refusal :=
  .next (s.after ((s.bankRegrowEnd t.val).settle))

end Sys2Proof.Machine
end

