-- ==== Sys2Proof/Machine/RowsMode.lean ====
section
/-! DEFINITION. Sys2Proof/Machine/RowsMode.lean: the rows of modes and start (chapter 15). -/
namespace Sys2Proof.Machine

/-- STARTER_BOOT (R496): P3V3_AUX in range boots the Starter into Starter-only. -/
def execStarterBoot (okA okB : Bool) (s : State) : Host.Outcome State Fault Refusal :=
  .next (s.after (s.starterBoot okA okB))

/-- PROOFING_START (R497): P12V held for PGOOD_HOLD with AUTOSTART starts Proofing. -/
def execProofingStart (run : ProofRun) (s : State) : Host.Outcome State Fault Refusal :=
  .next (s.after (s.proofingStart run))

/-- PROOFING_STAGE_TIMEOUT (R497): A Proofing stage exceeds its limit and the start fails. -/
def execProofingStageTimeout (s : State) : Host.Outcome State Fault Refusal :=
  .next (s.after (s.stageTimeout))

/-- RESTART_DELAY_EXPIRY (R499): RESTART_DELAY after a failed start, Proofing starts again. -/
def execRestartDelayExpiry (run : ProofRun) (s : State) : Host.Outcome State Fault Refusal :=
  .next (s.after (s.restartExpiry run))

/-- BOOT_TRIES_CLEAR (R498): 60 s in service without FATAL clears BOOT_TRIES. -/
def execBootTriesClear (s : State) : Host.Outcome State Fault Refusal :=
  .next (s.after (s.triesClear))

/-- RUN_ADMISSION (R502): The stored energy meets E_REQ, and an in-service mode is admitted. -/
def execRunAdmission (s : State) : Host.Outcome State Fault Refusal :=
  .next (s.after (s.runAdmission.settle))

/-- MODE_REQ_RUN (R489): Mode request 0x6 leaves Paired Run or wakes from Brumation. -/
def execModeReqRun (via : ModeVia) (s : State) : Host.Outcome State Fault Refusal :=
  if via.ok then .next (s.after (s.modeAsk via 6 none)) else .fault .illFormed

/-- MODE_REQ_PAIRED_RUN (R489): Mode request 0x7 pairs every Oven after quiescing. -/
def execModeReqPairedRun (via : ModeVia) (s : State) : Host.Outcome State Fault Refusal :=
  if via.ok then .next (s.after (s.modeAsk via 7 none)) else .fault .illFormed

/-- MODE_REQ_BRUMATION (R489): Mode request 0x4 enters Brumation after quiescing. -/
def execModeReqBrumation (via : ModeVia) (s : State) : Host.Outcome State Fault Refusal :=
  if via.ok then .next (s.after (s.modeAsk via 4 none)) else .fault .illFormed

/-- MODE_REQ_STARTER_ONLY (R489): Mode request 0x1 makes an orderly stop. -/
def execModeReqStarterOnly (via : ModeVia) (s : State) : Host.Outcome State Fault Refusal :=
  if via.ok then .next (s.after (s.modeAsk via 1 none)) else .fault .illFormed

/-- MODE_REQ_PROOFING (R489): Mode request 0x2 starts Proofing. -/
def execModeReqProofing (via : ModeVia) (run : ProofRun) (s : State) : Host.Outcome State Fault Refusal :=
  if via.ok then .next (s.after (s.modeAsk via 2 (some run))) else .fault .illFormed

/-- MODE_REQ_WIPE (R602): Mode request 0xB enters Wipe with its scope. -/
def execModeReqWipe (via : ModeVia) (s : State) : Host.Outcome State Fault Refusal :=
  if via.ok then .next (s.after ((s.modeAsk via 11 none).framesOut)) else .fault .illFormed

/-- QUIESCE_DONE (R490): The quiesce conditions hold, and the requested transition proceeds. -/
def execQuiesceDone (s : State) : Host.Outcome State Fault Refusal :=
  .next (s.after (s.quiesceDone.settle))

/-- QUIESCE_TIMEOUT (R490): Quiescing fails within 1 s, the request is refused and fetching resumes. -/
def execQuiesceTimeout (s : State) : Host.Outcome State Fault Refusal :=
  .next (s.after (s.quiesceTimeout.settle))

/-- BRUM_IDLE_EXPIRY (R492): The idle conditions hold for BRUM_IDLE ms and Brumation is requested. -/
def execBrumIdleExpiry (s : State) : Host.Outcome State Fault Refusal :=
  .next (s.after (s.brumIdle))

/-- BRUMATION_WAKE (R492): A wake source returns the device from Brumation to Run. -/
def execBrumationWake (lost : List (Fin 9)) (s : State) : Host.Outcome State Fault Refusal :=
  .next (s.after ((s.brumWake lost).settle))

/-- HOLDUP_ENTRY (R504): MAIN_FAIL_N or low P12V enters Hold-up and starts the flush. -/
def execHoldupEntry (mainFail p12v : Bool) (s : State) : Host.Outcome State Fault Refusal :=
  .next (s.after (s.holdupEntry mainFail p12v))

/-- FLUSH_END (R505): The flush writes its end record, powers down the base die and enters Starter-only. -/
def execFlushEnd (s : State) : Host.Outcome State Fault Refusal :=
  .next (s.after (s.flushEnd))

/-- FLUSH_WATCHDOG (R505): The 250 ms watchdog or the store floor stops the flush. -/
def execFlushWatchdog (s : State) : Host.Outcome State Fault Refusal :=
  .next (s.after (s.flushWatchdog))

/-- AUX_LOSS (R509): Loss of P3V3_AUX enters Off at once. -/
def execAuxLoss (s : State) : Host.Outcome State Fault Refusal :=
  .next (s.after (s.auxLoss))

end Sys2Proof.Machine
end

