-- ==== Sys2Proof/Machine/RowsPower.lean ====
section
/-! DEFINITION. Sys2Proof/Machine/RowsPower.lean: the rows of power, clocks, hold-up and cooling (chapter 16). -/
namespace Sys2Proof.Machine

/-- RAIL_FAULT (R516): A rail outside its window for 10 µs raises PWR_REG as FATAL. -/
def execRailFault (s : State) : Host.Outcome State Fault Refusal :=
  .next (s.after (s.railFault))

/-- DOMAIN_GATE_TIMEOUT (R516): A domain gate misses its commanded state in 100 µs and the unit is fenced. -/
def execDomainGateTimeout (unit : BitVec 20) (s : State) : Host.Outcome State Fault Refusal :=
  .next (s.after (s.domainFault unit.toNat))

/-- CLOCK_STRETCH (R517): A droop detector lengthens core cycles while the droop lasts. -/
def execClockStretch (cycles : BitVec 32) (s : State) : Host.Outcome State Fault Refusal :=
  .next (s.after (s.clockStretch cycles.toNat))

/-- VOLTAGE_LOOP (R518): Every 10 µs VCORE is stepped by the timing margin. -/
def execVoltageLoop (low high : Bool) (s : State) : Host.Outcome State Fault Refusal :=
  .next (s.after (s.voltageLoop low high))

/-- FREQUENCY_LOOP (R518): Every 1 ms F is stepped within the bounds. -/
def execFrequencyLoop (stretch : Bool) (pin tj : W32) (allow : Bool) (s : State) : Host.Outcome State Fault Refusal :=
  .next (s.after (s.frequencyLoop stretch pin.toNat tj.toNat allow))

/-- THERMAL_TRIP (R519): A junction at 110 °C for 10 µs removes every P12V rail. -/
def execThermalTrip (s : State) : Host.Outcome State Fault Refusal :=
  .next (s.after (s.thermalTrip))

/-- REFERENCE_MEASURE (R522): Every 100 ms the references are measured and qualified or disqualified. -/
def execReferenceMeasure (signal beyond stable : BitVec 3) (second : Bool) (s : State) : Host.Outcome State Fault Refusal :=
  .next (s.after (s.refMeasure signal.toNat beyond.toNat stable.toNat second))

/-- REFERENCE_LOS (R522): A reference loses signal, is disqualified and causes a switch or holdover. -/
def execReferenceLos (r : Fin 3) (s : State) : Host.Outcome State Fault Refusal :=
  .next (s.after (s.refLos r))

/-- REFERENCE_SWITCH_END (R524): A hitless switch ends once the PLL locks. -/
def execReferenceSwitchEnd (s : State) : Host.Outcome State Fault Refusal :=
  .next (s.after (s.refSwitchEnd))

/-- CHARGER_LOOP (R527): Every 1 ms the charger steps through its three phases. -/
def execChargerLoop (v amp : W32) (s : State) : Host.Outcome State Fault Refusal :=
  .next (s.after (s.chargerLoop v.toNat amp.toInt))

/-- CHARGER_CC_TIMEOUT (R527): A constant-current phase over 120 s raises HU_STORE and retries after 60 s. -/
def execChargerCcTimeout (s : State) : Host.Outcome State Fault Refusal :=
  .next (s.after (s.chargerTimeout))

/-- ENERGY_ESTIMATE (R528): Every 100 ms E_avail and E_err are estimated, setting WARN and HOLDUP_LOW. -/
def execEnergyEstimate (v : W32) (s : State) : Host.Outcome State Fault Refusal :=
  .next (s.after (s.energyEstimate v.toNat))

/-- CAPACITANCE_TEST (R529): A capacitance test starts in float when its precondition holds. -/
def execCapacitanceTest (s : State) : Host.Outcome State Fault Refusal :=
  .next (s.after (s.testStart))

/-- TEST_NOW (R529): The owner's write of 0x3020:11 requests a capacitance test. -/
def execTestNow (path : Fin 7) (src : BitVec 13) (s : State) : Host.Outcome State Fault Refusal :=
  .next (s.after (s.testNow path.val src.toNat))

/-- CAPACITANCE_TEST_END (R529): The test voltage drop is reached and C and ESR are computed. -/
def execCapacitanceTestEnd (v0 v1 v2 : W32) (dt : W32) (s : State) : Host.Outcome State Fault Refusal :=
  .next (s.after (s.testEnd v0.toNat v1.toNat v2.toNat dt.toNat))

/-- HOLDUP_STORE_SAMPLE (R531): During Hold-up the store is sampled every 100 µs against its floor. -/
def execHoldupStoreSample (v : W32) (s : State) : Host.Outcome State Fault Refusal :=
  .next (s.after (s.storeSample v.toNat))

/-- COOLANT_LOOP (R533): Every 100 ms the valve command is computed from feed-forward and PI on TJ. -/
def execCoolantLoop (high : W32) (valid : Fin 33) (sensorBad : Bool) (s : State) : Host.Outcome State Fault Refusal :=
  .next (s.after (s.coolantLoop high.toInt valid.val sensorBad))

/-- VALVE_POSITION_FAULT (R536): COOL_VPOS differs from the command for 5 s and the valve goes to 100 %. -/
def execValvePositionFault (s : State) : Host.Outcome State Fault Refusal :=
  .next (s.after (s.valvePosition))

/-- LOSS_OF_FLOW (R536): The coolant rises over 15 K for 10 s at a nearly open valve. -/
def execLossOfFlow (s : State) : Host.Outcome State Fault Refusal :=
  .next (s.after (s.valveFault))

/-- SENSOR_LOSS_TRIP (R536): No junction sensor is valid for 1 s and the device stops as FATAL. -/
def execSensorLossTrip (s : State) : Host.Outcome State Fault Refusal :=
  .next (s.after (s.sensorTrip))

end Sys2Proof.Machine
end

