-- ==== Sys2Proof/Machine/RowsQueue.lean ====
section
/-! DEFINITION. Sys2Proof/Machine/RowsQueue.lean: the rows of the fabric and the Queue Engine (chapters 9 and 10). -/
namespace Sys2Proof.Machine

/-- FABRIC_REQUEST (R347): A target port grants a fabric request by VC2, parking and rotation. -/
def execFabricRequest (reqs : List FabReq) (s : State) : Host.Outcome State Fault Refusal :=
  if reqs.all FabReq.ok then .next (s.after (s.fabRun reqs)) else .fault .illFormed

/-- FABRIC_TIMEOUT (R351): A target does not answer within FAB_CTL.TIMEOUT and TIMEOUT is returned. -/
def execFabricTimeout (req : FabReq) (s : State) : Host.Outcome State Fault Refusal :=
  if req.ok then .next (s.after ((s.fabTimeout req).seqTimeout req)) else .fault .illFormed

/-- DOORBELL (R296): A doorbell write updates SQ_TAIL or CQ_HEAD, or stalls the queue on error. -/
def execDoorbell (q : BitVec 16) (via : DbVia) (lo hi : Bool) (value : Word) (s : State) : Host.Outcome State Fault Refusal :=
  if via.ok then .next (s.after (s.bellRung q.toNat via lo hi value.toNat)) else .fault .illFormed

/-- OVEN_WAKE (R19): The Starter receives a wake request and wakes the Oven. -/
def execOvenWake (o : Fin 8) (s : State) : Host.Outcome State Fault Refusal :=
  .next (s.after (s.ovenWake o.val))

/-- OVEN_WAKE_DONE (R19): The Oven reaches Run and accepts dispatch. -/
def execOvenWakeDone (o : Fin 8) (s : State) : Host.Outcome State Fault Refusal :=
  .next (s.after ((s.ovenWakeDone o.val).settle))

/-- TICKET_FETCH (R299): The scheduler reserves a completion entry and starts the read of a Ticket. -/
def execTicketFetch (s : State) : Host.Outcome State Fault Refusal :=
  .next (s.after (s.ticketFetch))

/-- TICKET_ARRIVAL (R304): A fetched Ticket arrives and is dispatched or completed by the Queue Engine. -/
def execTicketArrival (q : BitVec 16) (data : Option (BitVec 512)) (s : State) : Host.Outcome State Fault Refusal :=
  .next (s.after (s.ticketArrival q.toNat data))

/-- DISPATCH_READ (R307): A read of QE_DISP_Wo returns and removes the oldest dispatch. -/
def execDispatchRead (o : Fin 8) (w : Bool) (who : Master) (s : State) : Host.Outcome State Fault Refusal :=
  if who.ok then .next (s.after (s.regRead who (if w then QE_DISP_S o.val else QE_DISP_G o.val) 8)) else .fault .illFormed

/-- COMPLETION_POST (R308): A QE_CPL_POST_Wo write writes the completion entry, frees the slot and sends MSI-X. -/
def execCompletionPost (o : Fin 8) (w : Bool) (who : Master) (value : W32) (s : State) : Host.Outcome State Fault Refusal :=
  if who.ok then
    .next (s.after (s.regWrite who (if w then QE_CPL_POST_S o.val else QE_CPL_POST_G o.val) 4 value.toNat))
  else .fault .illFormed

/-- FEED_FORWARD (R309): A periodic feed-forward message is sent to the Starter. -/
def execFeedForward (s : State) : Host.Outcome State Fault Refusal :=
  .next (s.after (s.feedForward))

/-- DOZE_HINT (R310): An Oven idle for DOZE_IDLE µs gets a doze hint, and the Starter may doze it. -/
def execDozeHint (o : Fin 8) (s : State) : Host.Outcome State Fault Refusal :=
  .next (s.after (s.dozeHint o.val))

/-- QUEUE_ENABLE (R322): QE_QCMD ENABLE zeroes the ring indexes and enables the queue. -/
def execQueueEnable (q : BitVec 16) (who : Master) (s : State) : Host.Outcome State Fault Refusal :=
  if who.ok then .next (s.after (s.regWrite who QE_QCMD 4 (q.toNat + 1 * 2 ^ 16))) else .fault .illFormed

/-- QUEUE_PAUSE (R322): QE_QCMD PAUSE stops dispatch for the queue. -/
def execQueuePause (q : BitVec 16) (who : Master) (s : State) : Host.Outcome State Fault Refusal :=
  if who.ok then .next (s.after (s.regWrite who QE_QCMD 4 (q.toNat + 2 * 2 ^ 16))) else .fault .illFormed

/-- QUEUE_RESUME (R322): QE_QCMD RESUME re-enables a paused queue. -/
def execQueueResume (q : BitVec 16) (who : Master) (s : State) : Host.Outcome State Fault Refusal :=
  if who.ok then .next (s.after (s.regWrite who QE_QCMD 4 (q.toNat + 3 * 2 ^ 16))) else .fault .illFormed

/-- QUEUE_RESET (R291): QE_QCMD RESET puts the queue in RESETTING and abandons its Tickets. -/
def execQueueReset (q : BitVec 16) (who : Master) (s : State) : Host.Outcome State Fault Refusal :=
  if who.ok then .next (s.after (s.regWrite who QE_QCMD 4 (q.toNat + 4 * 2 ^ 16))) else .fault .illFormed

/-- QUEUE_RESET_END (R291): INFLIGHT and RSV reach 0 and the queue becomes DISABLED. -/
def execQueueResetEnd (q : BitVec 16) (s : State) : Host.Outcome State Fault Refusal :=
  .next (s.after (s.queueResetEnd q.toNat))

/-- QUEUE_CONTEXT_WRITE (R289): A queue context write is applied only while the queue is DISABLED. -/
def execQueueContextWrite (q : BitVec 16) (who : Master) (word : Fin 16) (wide : Bool) (value : Word) (s : State) :
    Host.Outcome State Fault Refusal :=
  if who.ok && !(wide && word.val % 2 == 1) then
    .next (s.after (s.regWrite who (QCTX q.toNat + 4 * word.val) (if wide then 8 else 4) value.toNat))
  else .fault .illFormed

/-- BUFFER_ALLOC (R312): A read of QE_ALLOCp grants a buffer as a Lease, or reports EMPTY. -/
def execBufferAlloc (p : BitVec 8) (who : List Master) (s : State) : Host.Outcome State Fault Refusal :=
  if who.all Master.ok then .next (s.after (s.bufferAlloc p.toNat who)) else .fault .illFormed

/-- BUFFER_FREE (R314): A QE_FREEp write returns a buffer to its pool. -/
def execBufferFree (p : BitVec 8) (who : Master) (addr : Word) (s : State) : Host.Outcome State Fault Refusal :=
  if who.ok then .next (s.after (s.regWrite who (QE_FREE p.toNat) 8 addr.toNat)) else .fault .illFormed

/-- POOL_ENABLE (R311): Writing EN = 1 starts INIT of the pool ring. -/
def execPoolEnable (p : BitVec 8) (who : Master) (value : W32) (s : State) : Host.Outcome State Fault Refusal :=
  if who.ok then .next (s.after (s.regWrite who (QE_POOL_CFG p.toNat) 4 (setBits value.toNat 0 1 1))) else .fault .illFormed

/-- POOL_INIT_DONE (R311): Pool initialisation ends and waiting requests are served. -/
def execPoolInitDone (p : BitVec 8) (s : State) : Host.Outcome State Fault Refusal :=
  .next (s.after (s.poolInitDone p.toNat))

/-- POOL_DISABLE (R311): Clearing EN takes the pool out of service. -/
def execPoolDisable (p : BitVec 8) (who : Master) (value : W32) (s : State) : Host.Outcome State Fault Refusal :=
  if who.ok then .next (s.after (s.regWrite who (QE_POOL_CFG p.toNat) 4 (setBits value.toNat 0 1 0))) else .fault .illFormed

/-- TICKET_REDISPATCH (R316): After Autotomy ends, the lost unit's Tickets are re-dispatched or complete with UNIT_LOST. -/
def execTicketRedispatch (s : State) : Host.Outcome State Fault Refusal :=
  .next (s.after (s.redispatch))

end Sys2Proof.Machine
end

