-- ==== Sys2Proof/Machine/RowsScalar.lean ====
section
/-! DEFINITION. Sys2Proof/Machine/RowsScalar.lean: the scalar rows of the table (chapters 7 and 8): each is one syllable of its sequencer, or an event of it. -/
namespace Sys2Proof.Machine

/-- ADD (R228): Scalar A/B-slot instruction that sets gD to gA plus gB. -/
def execAdd (h : SylHdr) (d a b : Fin 64) (w : Bool) (s : State) : Host.Outcome State Fault Refusal :=
  .next (s.after (s.syllable h.seq (.alu .add h.slotB h.rsv w d a b) h.stop))

/-- SUB (R228): Scalar instruction that sets gD to gA minus gB. -/
def execSub (h : SylHdr) (d a b : Fin 64) (w : Bool) (s : State) : Host.Outcome State Fault Refusal :=
  .next (s.after (s.syllable h.seq (.alu .sub h.slotB h.rsv w d a b) h.stop))

/-- AND (R228): Scalar instruction that sets gD to gA AND gB. -/
def execAnd (h : SylHdr) (d a b : Fin 64) (w : Bool) (s : State) : Host.Outcome State Fault Refusal :=
  .next (s.after (s.syllable h.seq (.alu .and h.slotB h.rsv w d a b) h.stop))

/-- OR (R228): Scalar instruction that sets gD to gA OR gB. -/
def execOr (h : SylHdr) (d a b : Fin 64) (w : Bool) (s : State) : Host.Outcome State Fault Refusal :=
  .next (s.after (s.syllable h.seq (.alu .or h.slotB h.rsv w d a b) h.stop))

/-- XOR (R228): Scalar instruction that sets gD to gA XOR gB. -/
def execXor (h : SylHdr) (d a b : Fin 64) (w : Bool) (s : State) : Host.Outcome State Fault Refusal :=
  .next (s.after (s.syllable h.seq (.alu .xor h.slotB h.rsv w d a b) h.stop))

/-- ANDN (R228): Scalar instruction that sets gD to gA AND NOT gB. -/
def execAndn (h : SylHdr) (d a b : Fin 64) (w : Bool) (s : State) : Host.Outcome State Fault Refusal :=
  .next (s.after (s.syllable h.seq (.alu .andn h.slotB h.rsv w d a b) h.stop))

/-- SHL (R227): Scalar left shift of gA by gB mod 64, or mod 32 when W = 1. -/
def execShl (h : SylHdr) (d a b : Fin 64) (w : Bool) (s : State) : Host.Outcome State Fault Refusal :=
  .next (s.after (s.syllable h.seq (.alu .shl h.slotB h.rsv w d a b) h.stop))

/-- SHR (R227): Scalar logical right shift of gA by gB. -/
def execShr (h : SylHdr) (d a b : Fin 64) (w : Bool) (s : State) : Host.Outcome State Fault Refusal :=
  .next (s.after (s.syllable h.seq (.alu .shr h.slotB h.rsv w d a b) h.stop))

/-- SRA (R227): Scalar arithmetic right shift of gA by gB. -/
def execSra (h : SylHdr) (d a b : Fin 64) (w : Bool) (s : State) : Host.Outcome State Fault Refusal :=
  .next (s.after (s.syllable h.seq (.alu .sra h.slotB h.rsv w d a b) h.stop))

/-- ROL (R227): Scalar left rotate of gA by gB. -/
def execRol (h : SylHdr) (d a b : Fin 64) (w : Bool) (s : State) : Host.Outcome State Fault Refusal :=
  .next (s.after (s.syllable h.seq (.alu .rol h.slotB h.rsv w d a b) h.stop))

/-- MIN (R228): Scalar signed minimum of gA and gB. -/
def execMin (h : SylHdr) (d a b : Fin 64) (w : Bool) (s : State) : Host.Outcome State Fault Refusal :=
  .next (s.after (s.syllable h.seq (.alu .min h.slotB h.rsv w d a b) h.stop))

/-- MAX (R228): Scalar signed maximum of gA and gB. -/
def execMax (h : SylHdr) (d a b : Fin 64) (w : Bool) (s : State) : Host.Outcome State Fault Refusal :=
  .next (s.after (s.syllable h.seq (.alu .max h.slotB h.rsv w d a b) h.stop))

/-- MINU (R228): Scalar unsigned minimum of gA and gB. -/
def execMinu (h : SylHdr) (d a b : Fin 64) (w : Bool) (s : State) : Host.Outcome State Fault Refusal :=
  .next (s.after (s.syllable h.seq (.alu .minu h.slotB h.rsv w d a b) h.stop))

/-- MAXU (R228): Scalar unsigned maximum of gA and gB. -/
def execMaxu (h : SylHdr) (d a b : Fin 64) (w : Bool) (s : State) : Host.Outcome State Fault Refusal :=
  .next (s.after (s.syllable h.seq (.alu .maxu h.slotB h.rsv w d a b) h.stop))

/-- SLT (R228): Sets gD to 1 when gA is less than gB, signed, and to 0 otherwise. -/
def execSlt (h : SylHdr) (d a b : Fin 64) (w : Bool) (s : State) : Host.Outcome State Fault Refusal :=
  .next (s.after (s.syllable h.seq (.alu .slt h.slotB h.rsv w d a b) h.stop))

/-- SLTU (R228): Sets gD to 1 when gA is less than gB, unsigned, and to 0 otherwise. -/
def execSltu (h : SylHdr) (d a b : Fin 64) (w : Bool) (s : State) : Host.Outcome State Fault Refusal :=
  .next (s.after (s.syllable h.seq (.alu .sltu h.slotB h.rsv w d a b) h.stop))

/-- CEQ (R228): Sets gD to 1 when gA equals gB, and to 0 otherwise. -/
def execCeq (h : SylHdr) (d a b : Fin 64) (w : Bool) (s : State) : Host.Outcome State Fault Refusal :=
  .next (s.after (s.syllable h.seq (.alu .ceq h.slotB h.rsv w d a b) h.stop))

/-- CLZ (R228): Sets gD to the number of leading zeros in gA. -/
def execClz (h : SylHdr) (d a b : Fin 64) (w : Bool) (s : State) : Host.Outcome State Fault Refusal :=
  .next (s.after (s.syllable h.seq (.alu .clz h.slotB h.rsv w d a b) h.stop))

/-- POPC (R228): Sets gD to the number of one bits in gA. -/
def execPopc (h : SylHdr) (d a b : Fin 64) (w : Bool) (s : State) : Host.Outcome State Fault Refusal :=
  .next (s.after (s.syllable h.seq (.alu .popc h.slotB h.rsv w d a b) h.stop))

/-- ADDI (R228): Adds the sign-extended IMM10 to gA. -/
def execAddi (h : SylHdr) (d a : Fin 64) (imm : BitVec 10) (s : State) : Host.Outcome State Fault Refusal :=
  .next (s.after (s.syllable h.seq (.alui .addi h.slotB h.rsv d a imm) h.stop))

/-- ANDI (R228): ANDs gA with the sign-extended IMM10. -/
def execAndi (h : SylHdr) (d a : Fin 64) (imm : BitVec 10) (s : State) : Host.Outcome State Fault Refusal :=
  .next (s.after (s.syllable h.seq (.alui .andi h.slotB h.rsv d a imm) h.stop))

/-- ORI (R228): ORs gA with the sign-extended IMM10. -/
def execOri (h : SylHdr) (d a : Fin 64) (imm : BitVec 10) (s : State) : Host.Outcome State Fault Refusal :=
  .next (s.after (s.syllable h.seq (.alui .ori h.slotB h.rsv d a imm) h.stop))

/-- XORI (R228): XORs gA with the sign-extended IMM10. -/
def execXori (h : SylHdr) (d a : Fin 64) (imm : BitVec 10) (s : State) : Host.Outcome State Fault Refusal :=
  .next (s.after (s.syllable h.seq (.alui .xori h.slotB h.rsv d a imm) h.stop))

/-- SHLI (R228): Shifts gA left by IMM10[5:0]. -/
def execShli (h : SylHdr) (d a : Fin 64) (imm : BitVec 10) (s : State) : Host.Outcome State Fault Refusal :=
  .next (s.after (s.syllable h.seq (.alui .shli h.slotB h.rsv d a imm) h.stop))

/-- SHRI (R228): Shifts gA logically right by IMM10[5:0]. -/
def execShri (h : SylHdr) (d a : Fin 64) (imm : BitVec 10) (s : State) : Host.Outcome State Fault Refusal :=
  .next (s.after (s.syllable h.seq (.alui .shri h.slotB h.rsv d a imm) h.stop))

/-- SRAI (R228): Shifts gA arithmetically right by IMM10[5:0]. -/
def execSrai (h : SylHdr) (d a : Fin 64) (imm : BitVec 10) (s : State) : Host.Outcome State Fault Refusal :=
  .next (s.after (s.syllable h.seq (.alui .srai h.slotB h.rsv d a imm) h.stop))

/-- SLTI (R228): Signed compare of gA against the sign-extended IMM10. -/
def execSlti (h : SylHdr) (d a : Fin 64) (imm : BitVec 10) (s : State) : Host.Outcome State Fault Refusal :=
  .next (s.after (s.syllable h.seq (.alui .slti h.slotB h.rsv d a imm) h.stop))

/-- CEQI (R228): Equality compare of gA against the sign-extended IMM10. -/
def execCeqi (h : SylHdr) (d a : Fin 64) (imm : BitVec 10) (s : State) : Host.Outcome State Fault Refusal :=
  .next (s.after (s.syllable h.seq (.alui .ceqi h.slotB h.rsv d a imm) h.stop))

/-- MOVI (R228): Sets gD to the sign-extended IMM16. -/
def execMovi (h : SylHdr) (d : Fin 64) (imm : BitVec 16) (s : State) : Host.Outcome State Fault Refusal :=
  .next (s.after (s.syllable h.seq (.movi h.slotB h.rsv d imm) h.stop))

/-- MOVK (R228): Writes IMM16 into 16-bit field q of gD and keeps the other bits. -/
def execMovk (h : SylHdr) (q : Fin 4) (d : Fin 64) (imm : BitVec 16) (s : State) : Host.Outcome State Fault Refusal :=
  .next (s.after (s.syllable h.seq (.movk h.slotB h.rsv q d imm) h.stop))

/-- MUL (R228): B-slot instruction that writes the low 64 bits of gA times gB. -/
def execMul (h : SylHdr) (d a b : Fin 64) (w : Bool) (s : State) : Host.Outcome State Fault Refusal :=
  .next (s.after (s.syllable h.seq (.alu .mul h.slotB h.rsv w d a b) h.stop))

/-- MULHS (R228): Writes the high 64 bits of the signed product. -/
def execMulhs (h : SylHdr) (d a b : Fin 64) (w : Bool) (s : State) : Host.Outcome State Fault Refusal :=
  .next (s.after (s.syllable h.seq (.alu .mulhs h.slotB h.rsv w d a b) h.stop))

/-- MULHU (R228): Writes the high 64 bits of the unsigned product. -/
def execMulhu (h : SylHdr) (d a b : Fin 64) (w : Bool) (s : State) : Host.Outcome State Fault Refusal :=
  .next (s.after (s.syllable h.seq (.alu .mulhu h.slotB h.rsv w d a b) h.stop))

/-- DIVS (R229): Signed divide that iterates one bit per clock; a zero divisor gives DIV_ZERO. -/
def execDivs (h : SylHdr) (d a b : Fin 64) (w : Bool) (s : State) : Host.Outcome State Fault Refusal :=
  .next (s.after (s.syllable h.seq (.alu .divs h.slotB h.rsv w d a b) h.stop))

/-- DIVU (R229): Unsigned divide that iterates one bit per clock. -/
def execDivu (h : SylHdr) (d a b : Fin 64) (w : Bool) (s : State) : Host.Outcome State Fault Refusal :=
  .next (s.after (s.syllable h.seq (.alu .divu h.slotB h.rsv w d a b) h.stop))

/-- REMS (R229): Signed remainder, with the sign of gA. -/
def execRems (h : SylHdr) (d a b : Fin 64) (w : Bool) (s : State) : Host.Outcome State Fault Refusal :=
  .next (s.after (s.syllable h.seq (.alu .rems h.slotB h.rsv w d a b) h.stop))

/-- REMU (R229): Unsigned remainder. -/
def execRemu (h : SylHdr) (d a b : Fin 64) (w : Bool) (s : State) : Host.Outcome State Fault Refusal :=
  .next (s.after (s.syllable h.seq (.alu .remu h.slotB h.rsv w d a b) h.stop))

/-- DIVIDE_DONE (R230): An iterative divide finishes, and its Loaf's other syllables take effect. -/
def execDivideDone (n : Fin 9) (s : State) : Host.Outcome State Fault Refusal :=
  .next (s.after (s.divideDone n))

/-- LB (R232): Scalar load of 1 B through a segment, sign-extended. -/
def execLb (h : SylHdr) (d a sg : Fin 64) (imm : BitVec 5) (s : State) : Host.Outcome State Fault Refusal :=
  .next (s.after (s.syllable h.seq (.mem .lb h.rsv d a sg imm) h.stop))

/-- LBU (R232): Scalar load of 1 B, zero-extended. -/
def execLbu (h : SylHdr) (d a sg : Fin 64) (imm : BitVec 5) (s : State) : Host.Outcome State Fault Refusal :=
  .next (s.after (s.syllable h.seq (.mem .lbu h.rsv d a sg imm) h.stop))

/-- LH (R232): Scalar load of 2 B, sign-extended. -/
def execLh (h : SylHdr) (d a sg : Fin 64) (imm : BitVec 5) (s : State) : Host.Outcome State Fault Refusal :=
  .next (s.after (s.syllable h.seq (.mem .lh h.rsv d a sg imm) h.stop))

/-- LHU (R232): Scalar load of 2 B, zero-extended. -/
def execLhu (h : SylHdr) (d a sg : Fin 64) (imm : BitVec 5) (s : State) : Host.Outcome State Fault Refusal :=
  .next (s.after (s.syllable h.seq (.mem .lhu h.rsv d a sg imm) h.stop))

/-- LW (R232): Scalar load of 4 B, sign-extended; allowed in control space. -/
def execLw (h : SylHdr) (d a sg : Fin 64) (imm : BitVec 5) (s : State) : Host.Outcome State Fault Refusal :=
  .next (s.after (s.syllable h.seq (.mem .lw h.rsv d a sg imm) h.stop))

/-- LWU (R232): Scalar load of 4 B, zero-extended. -/
def execLwu (h : SylHdr) (d a sg : Fin 64) (imm : BitVec 5) (s : State) : Host.Outcome State Fault Refusal :=
  .next (s.after (s.syllable h.seq (.mem .lwu h.rsv d a sg imm) h.stop))

/-- LD (R232): Scalar load of 8 B. -/
def execLd (h : SylHdr) (d a sg : Fin 64) (imm : BitVec 5) (s : State) : Host.Outcome State Fault Refusal :=
  .next (s.after (s.syllable h.seq (.mem .ld h.rsv d a sg imm) h.stop))

/-- SB (R232): Scalar store of 1 B into the store buffer. -/
def execSb (h : SylHdr) (d a sg : Fin 64) (imm : BitVec 5) (s : State) : Host.Outcome State Fault Refusal :=
  .next (s.after (s.syllable h.seq (.mem .sb h.rsv d a sg imm) h.stop))

/-- SH (R232): Scalar store of 2 B. -/
def execSh (h : SylHdr) (d a sg : Fin 64) (imm : BitVec 5) (s : State) : Host.Outcome State Fault Refusal :=
  .next (s.after (s.syllable h.seq (.mem .sh h.rsv d a sg imm) h.stop))

/-- SW (R232): Scalar store of 4 B; allowed in control space. -/
def execSw (h : SylHdr) (d a sg : Fin 64) (imm : BitVec 5) (s : State) : Host.Outcome State Fault Refusal :=
  .next (s.after (s.syllable h.seq (.mem .sw h.rsv d a sg imm) h.stop))

/-- SD (R232): Scalar store of 8 B. -/
def execSd (h : SylHdr) (d a sg : Fin 64) (imm : BitVec 5) (s : State) : Host.Outcome State Fault Refusal :=
  .next (s.after (s.syllable h.seq (.mem .sd h.rsv d a sg imm) h.stop))

/-- AADD_W (R202): Scalar atomic add of 4 B at the bank-side atomic unit; the old value goes to gD. -/
def execAaddW (h : SylHdr) (d a sg : Fin 64) (imm : BitVec 5) (s : State) : Host.Outcome State Fault Refusal :=
  .next (s.after (s.syllable h.seq (.mem .aaddW h.rsv d a sg imm) h.stop))

/-- AADD_D (R202): Scalar atomic add of 8 B. -/
def execAaddD (h : SylHdr) (d a sg : Fin 64) (imm : BitVec 5) (s : State) : Host.Outcome State Fault Refusal :=
  .next (s.after (s.syllable h.seq (.mem .aaddD h.rsv d a sg imm) h.stop))

/-- ASWP_W (R202): Scalar atomic exchange of 4 B. -/
def execAswpW (h : SylHdr) (d a sg : Fin 64) (imm : BitVec 5) (s : State) : Host.Outcome State Fault Refusal :=
  .next (s.after (s.syllable h.seq (.mem .aswpW h.rsv d a sg imm) h.stop))

/-- ASWP_D (R202): Scalar atomic exchange of 8 B. -/
def execAswpD (h : SylHdr) (d a sg : Fin 64) (imm : BitVec 5) (s : State) : Host.Outcome State Fault Refusal :=
  .next (s.after (s.syllable h.seq (.mem .aswpD h.rsv d a sg imm) h.stop))

/-- ACAS_D (R232): Scalar atomic compare-and-swap of 8 B, using a register pair. -/
def execAcasD (h : SylHdr) (d a sg : Fin 64) (imm : BitVec 5) (s : State) : Host.Outcome State Fault Refusal :=
  .next (s.after (s.syllable h.seq (.mem .acasD h.rsv d a sg imm) h.stop))

/-- SGLD (R235): Loads segment descriptor D of the running world from memory. -/
def execSgld (h : SylHdr) (d a sg : Fin 64) (imm : BitVec 5) (s : State) : Host.Outcome State Fault Refusal :=
  .next (s.after (s.syllable h.seq (.mem .sgld h.rsv d a sg imm) h.stop))

/-- SGST (R235): Stores segment descriptor D to memory. -/
def execSgst (h : SylHdr) (d a sg : Fin 64) (imm : BitVec 5) (s : State) : Host.Outcome State Fault Refusal :=
  .next (s.after (s.syllable h.seq (.mem .sgst h.rsv d a sg imm) h.stop))

/-- VDLD (R236): Loads a vector descriptor from 32 B of memory. -/
def execVdld (h : SylHdr) (d a sg : Fin 64) (imm : BitVec 5) (s : State) : Host.Outcome State Fault Refusal :=
  .next (s.after (s.syllable h.seq (.mem .vdld h.rsv d a sg imm) h.stop))

/-- VDST (R236): Stores a vector descriptor to 32 B of memory. -/
def execVdst (h : SylHdr) (d a sg : Fin 64) (imm : BitVec 5) (s : State) : Host.Outcome State Fault Refusal :=
  .next (s.after (s.syllable h.seq (.mem .vdst h.rsv d a sg imm) h.stop))

/-- VDSET (R236): Writes the vector descriptor field that IMM5 selects from gA. -/
def execVdset (h : SylHdr) (d a : Fin 64) (imm : BitVec 5) (s : State) : Host.Outcome State Fault Refusal :=
  .next (s.after (s.syllable h.seq (.vdset h.rsv d a imm) h.stop))

/-- VDADV (R236): Adds gA to a vector descriptor's OFFSET, modulo 2^48. -/
def execVdadv (h : SylHdr) (d a : Fin 64) (s : State) : Host.Outcome State Fault Refusal :=
  .next (s.after (s.syllable h.seq (.vdset h.rsv d a 4) h.stop))

/-- VDGET (R236): Reads the vector descriptor field that IMM5 selects into gD. -/
def execVdget (h : SylHdr) (d sg : Fin 64) (imm : BitVec 5) (s : State) : Host.Outcome State Fault Refusal :=
  .next (s.after (s.syllable h.seq (.vdget h.rsv d sg imm) h.stop))

/-- MFS (R226): Reads a special register into gD. -/
def execMfs (h : SylHdr) (d : Fin 64) (sr : BitVec 6) (s : State) : Host.Outcome State Fault Refusal :=
  .next (s.after (s.syllable h.seq (.mfs h.rsv d sr) h.stop))

/-- MTS (R225): Writes a special register from gA, within the limits of privilege. -/
def execMts (h : SylHdr) (a : Fin 64) (sr : BitVec 6) (s : State) : Host.Outcome State Fault Refusal :=
  .next (s.after (s.syllable h.seq (.mts h.rsv a sr) h.stop))

/-- PLD (R246): Reads a program memory word under the page protection. -/
def execPld (h : SylHdr) (d a : Fin 64) (imm : BitVec 5) (s : State) : Host.Outcome State Fault Refusal :=
  .next (s.after (s.syllable h.seq (.pld h.rsv d a imm) h.stop))

/-- PST (R246): Writes a program memory word under the page protection. -/
def execPst (h : SylHdr) (d a : Fin 64) (imm : BitVec 5) (s : State) : Host.Outcome State Fault Refusal :=
  .next (s.after (s.syllable h.seq (.pst h.rsv d a imm) h.stop))

/-- FENCE_SL (R198): Holds later scalar loads until every earlier scalar store is performed. -/
def execFenceSl (h : SylHdr) (s : State) : Host.Outcome State Fault Refusal :=
  .next (s.after (s.syllable h.seq (.fence h.rsv) h.stop))

/-- BEQ (R238): Branches if gA equals 0, with a delay Loaf. -/
def execBeq (h : SylHdr) (annul hint : Bool) (a : Fin 64) (disp : BitVec 16) (s : State) : Host.Outcome State Fault Refusal :=
  .next (s.after (s.syllable h.seq (.br .eq h.rsv annul hint a disp) h.stop))

/-- BNE (R238): Branches if gA is not 0. -/
def execBne (h : SylHdr) (annul hint : Bool) (a : Fin 64) (disp : BitVec 16) (s : State) : Host.Outcome State Fault Refusal :=
  .next (s.after (s.syllable h.seq (.br .ne h.rsv annul hint a disp) h.stop))

/-- BLT (R238): Branches if gA is less than 0. -/
def execBlt (h : SylHdr) (annul hint : Bool) (a : Fin 64) (disp : BitVec 16) (s : State) : Host.Outcome State Fault Refusal :=
  .next (s.after (s.syllable h.seq (.br .lt h.rsv annul hint a disp) h.stop))

/-- BGE (R238): Branches if gA is greater than or equal to 0. -/
def execBge (h : SylHdr) (annul hint : Bool) (a : Fin 64) (disp : BitVec 16) (s : State) : Host.Outcome State Fault Refusal :=
  .next (s.after (s.syllable h.seq (.br .ge h.rsv annul hint a disp) h.stop))

/-- BLE (R238): Branches if gA is less than or equal to 0. -/
def execBle (h : SylHdr) (annul hint : Bool) (a : Fin 64) (disp : BitVec 16) (s : State) : Host.Outcome State Fault Refusal :=
  .next (s.after (s.syllable h.seq (.br .le h.rsv annul hint a disp) h.stop))

/-- BGT (R238): Branches if gA is greater than 0. -/
def execBgt (h : SylHdr) (annul hint : Bool) (a : Fin 64) (disp : BitVec 16) (s : State) : Host.Outcome State Fault Refusal :=
  .next (s.after (s.syllable h.seq (.br .gt h.rsv annul hint a disp) h.stop))

/-- J (R238): Direct jump with a delay Loaf. -/
def execJ (h : SylHdr) (annul : Bool) (disp : BitVec 23) (s : State) : Host.Outcome State Fault Refusal :=
  .next (s.after (s.syllable h.seq (.jump h.rsv annul disp) h.stop))

/-- CALL (R240): Pushes the return address onto the world's return stack and jumps. -/
def execCall (h : SylHdr) (annul : Bool) (disp : BitVec 23) (s : State) : Host.Outcome State Fault Refusal :=
  .next (s.after (s.syllable h.seq (.call h.rsv annul disp) h.stop))

/-- JR (R237): Jumps to the word address in gA. -/
def execJr (h : SylHdr) (annul : Bool) (a : Fin 64) (s : State) : Host.Outcome State Fault Refusal :=
  .next (s.after (s.syllable h.seq (.jr h.rsv annul a) h.stop))

/-- CALLR (R240): Pushes the return address and jumps to gA. -/
def execCallr (h : SylHdr) (annul : Bool) (a : Fin 64) (s : State) : Host.Outcome State Fault Refusal :=
  .next (s.after (s.syllable h.seq (.callr h.rsv annul a) h.stop))

/-- RET (R240): Pops the return stack and continues at the popped address. -/
def execRet (h : SylHdr) (annul : Bool) (a : Fin 64) (s : State) : Host.Outcome State Fault Refusal :=
  .next (s.after (s.syllable h.seq (.ret h.rsv annul a) h.stop))

/-- GATE (R278): Checks gate n and enters its target, possibly in the Secure world. -/
def execGate (h : SylHdr) (code : BitVec 16) (s : State) : Host.Outcome State Fault Refusal :=
  .next (s.after (s.syllable h.seq (.gate h.rsv code) h.stop))

/-- SYSCALL (R266): Traps after the Loaf with cause SYSCALL and its CODE. -/
def execSyscall (h : SylHdr) (code : BitVec 16) (s : State) : Host.Outcome State Fault Refusal :=
  .next (s.after (s.syllable h.seq (.syscall h.rsv code) h.stop))

/-- RFE (R273): Restores SSR from ESR and continues at ERA, or ends double-fault state. -/
def execRfe (h : SylHdr) (code : BitVec 16) (s : State) : Host.Outcome State Fault Refusal :=
  .next (s.after (s.syllable h.seq (.rfe h.rsv code) h.stop))

/-- BREAK (R266): Traps after the Loaf with cause BREAKPOINT. -/
def execBrk (h : SylHdr) (code : BitVec 16) (s : State) : Host.Outcome State Fault Refusal :=
  .next (s.after (s.syllable h.seq (.brk h.rsv code) h.stop))

/-- IFLUSH (R245): Waits for earlier stores, discards fetched Loafs and continues at its target. -/
def execIflush (h : SylHdr) (annul : Bool) (disp : BitVec 23) (s : State) : Host.Outcome State Fault Refusal :=
  .next (s.after (s.syllable h.seq (.iflush h.rsv annul disp) h.stop))

/-- INTERRUPT_ENTRY (R284): An eligible interrupt line is taken at a Loaf boundary. -/
def execInterruptEntry (n : Fin 9) (s : State) : Host.Outcome State Fault Refusal :=
  .next (s.after ((s.boundaryTake n false).pump n))

/-- LATE_BUS_ERROR (R272): A pending store error is taken at the first boundary of its world. -/
def execLateBusError (n : Fin 9) (s : State) : Host.Outcome State Fault Refusal :=
  .next (s.after ((s.boundaryTake n true).pump n))

/-- LOAD_RESPONSE (R271): A scalar load returns and ends or cancels its access shadow. -/
def execLoadResponse (n : Fin 9) (s : State) : Host.Outcome State Fault Refusal :=
  .next (s.after (s.loadResponse n))

/-- STORE_BUFFER_DRAIN (R194): The oldest buffered scalar store is performed at its target. -/
def execStoreBufferDrain (n : Fin 9) (s : State) : Host.Outcome State Fault Refusal :=
  .next (s.after (s.storeBufDrain n))

/-- BRANCH_RESOLVE (R128): A predicted branch resolves and its run-ahead work commits or is cancelled. -/
def execBranchResolve (n : Fin 9) (s : State) : Host.Outcome State Fault Refusal :=
  .next (s.after (s.branchResolve n))

/-- BTB_INVALIDATE (R255): SEQ_CTL.BTB_INV invalidates every branch target buffer entry. -/
def execBtbInvalidate (n : Fin 9) (s : State) : Host.Outcome State Fault Refusal :=
  .next (s.after (s.btbInvalidate n))

end Sys2Proof.Machine
end

