-- ==== Sys2Proof/Machine/RowsSecure.lean ====
section
/-! DEFINITION. Sys2Proof/Machine/RowsSecure.lean: the rows of the life cycle, of security and of register accesses (chapters 19 and 20), and the last rows of the table. -/
namespace Sys2Proof.Machine

/-- LC_TOKEN (R591): A life-cycle token written to 0xA000:03 requests its transition. -/
def execLcToken (path : Fin 7) (src : BitVec 13) (token : List Byte) (s : State) : Host.Outcome State Fault Refusal :=
  if decide (token.length ≤ 116) then
    .next (s.after (if s.lifeShut then s else (s.lcToken path.val src.toNat token).1.framesOut))
  else .fault .illFormed

/-- LC_REQ (R591): The owner requests a life-cycle transition through 0xA000:02. -/
def execLcReq (path : Fin 7) (src : BitVec 13) (target : Byte) (s : State) : Host.Outcome State Fault Refusal :=
  .next (s.after (if s.lifeShut then s else (s.lcReq path.val src.toNat target.toNat).1.framesOut))

/-- EPOCH_WRITE (R594): The owner raises the fused epoch. -/
def execEpochWrite (path : Fin 7) (src : BitVec 13) (value : Byte) (s : State) : Host.Outcome State Fault Refusal :=
  .next (s.after (if s.lifeShut then s else (s.epochWrite path.val src.toNat value.toNat).1.framesOut))

/-- KEY_REVOKE (R593): The owner blows a production key revocation bit. -/
def execKeyRevoke (path : Fin 7) (src : BitVec 13) (value : Byte) (s : State) : Host.Outcome State Fault Refusal :=
  .next (s.after (if s.lifeShut then s else (s.keyRevoke path.val src.toNat value.toNat).1.framesOut))

/-- CLAIM_KEY_WRITE (R597): A claim key slot is provisioned or emptied. -/
def execClaimKeyWrite (path : Fin 7) (src : BitVec 13) (slot : Fin 4) (key : BitVec 256) (s : State) :
    Host.Outcome State Fault Refusal :=
  .next (s.after (if s.lifeShut then s else (s.claimKeyWrite path.val src.toNat slot key).1.framesOut))

/-- RNG_BLOCK (R598): The TRNG produces a conditioned block and runs its health tests. -/
def execRngBlock (ok : Bool) (s : State) : Host.Outcome State Fault Refusal :=
  .next (s.after (s.rngBlock ok))

/-- BTB_RENEW (R599): SEC_BTB_RENEW.GO draws fresh branch target secrets. -/
def execBtbRenew (who : Master) (value : W32) (s : State) : Host.Outcome State Fault Refusal :=
  if who.ok then .next (s.after (s.regWrite who SEC_BTB_RENEW 4 (setBits value.toNat 20 1 1))) else .fault .illFormed

/-- TAMPER_DETECT (R600): A tamper source detects, latches and takes its response. -/
def execTamperDetect (k : Fin 7) (present : Bool) (s : State) : Host.Outcome State Fault Refusal :=
  .next (s.after ((s.tamperDetect k.val present).framesOut))

/-- TAMPER_SAMPLE (R600): Every 1 ms the loop-mode tamper inputs are sampled against the code. -/
def execTamperSample (differs : BitVec 4) (s : State) : Host.Outcome State Fault Refusal :=
  .next (s.after ((s.tamperSample differs.toNat).framesOut))

/-- SEC_NOTIFY_SET (R607): A SET write raises WORLD_NOTIFY lines. -/
def execSecNotifySet (who : Master) (secure : Bool) (ovens : Byte) (s : State) : Host.Outcome State Fault Refusal :=
  if who.ok then
    .next (s.after (s.regWrite who (if secure then SEC_NOTIFY_S else SEC_NOTIFY_G) 4 ovens.toNat))
  else .fault .illFormed

/-- SEC_NOTIFY_CLR (R607): A CLR write clears WORLD_NOTIFY bits. -/
def execSecNotifyClr (who : Master) (secure : Bool) (ovens : Byte) (s : State) : Host.Outcome State Fault Refusal :=
  if who.ok then
    .next (s.after (s.regWrite who (if secure then SEC_NOTIFY_S else SEC_NOTIFY_G) 4 (ovens.toNat * 256)))
  else .fault .illFormed

/-- SEC_RNG_READ (R608): A read of SEC_RNG returns fresh random bits. -/
def execSecRngRead (who : Master) (s : State) : Host.Outcome State Fault Refusal :=
  if who.ok then .next (s.after (s.regRead who SEC_RNG 8)) else .fault .illFormed

/-- WIPE_ENTRY (R603): Wipe starts and runs its steps. -/
def execWipeEntry (full : Bool) (s : State) : Host.Outcome State Fault Refusal :=
  .next (s.after ((s.wipeEnter full).framesOut))

/-- WIPE_END (R603): Wipe writes its record, clears WIPE_PEND and enters Starter-only. -/
def execWipeEnd (s : State) : Host.Outcome State Fault Refusal :=
  .next (s.after (s.wipeEnd))

/-- WIDE_REGISTER_READ (R612): A read of the lowest word of a wide register captures the whole register. -/
def execWideRegisterRead (who : Master) (addr : W32) (s : State) : Host.Outcome State Fault Refusal :=
  if who.ok then .next (s.after (s.regRead who addr.toNat 4)) else .fault .illFormed

/-- REGISTER_WRITE (R613): A write to a register with no row of its own, by its access type. -/
def execRegisterWrite (who : Master) (addr : W32) (wide : Bool) (value : Word) (s : State) : Host.Outcome State Fault Refusal :=
  if who.ok then .next (s.after (s.regWrite who addr.toNat (if wide then 8 else 4) value.toNat)) else .fault .illFormed

/-- TIER_SENSOR_LOSS (R162): A tier's temperature reading is lost, so the tier refreshes at 8 ms and VM_TSENSE is raised. -/
def execTierSensorLoss (t : Fin 4) (s : State) : Host.Outcome State Fault Refusal :=
  .next (s.after (s.tierSensorLoss t.val))

/-- LANE_LOSS (R384): A single chain lane loses signal or lock and is retired onto the spare, or the port retrains at half width. -/
def execLaneLoss (p : Fin 8) (lane : Fin 9) (s : State) : Host.Outcome State Fault Refusal :=
  .next (s.after ((s.laneLoss p.val lane.val).inboxDrain))

/-- REPAIRED_LINK_UP (R413): A chain link that went down regains its partner's signal, trains and comes up carrying traffic. -/
def execRepairedLinkUp (p : Fin 8) (s : State) : Host.Outcome State Fault Refusal :=
  .next (s.after ((s.linkTrain p.val true).inboxDrain))

/-- HOST_LINK_UP (R437): A host endpoint's PCIe link finishes training with the host and enters UP. -/
def execHostLinkUp (ep : Fin 4) (cfg : HostCfg) (s : State) : Host.Outcome State Fault Refusal :=
  .next (s.after (s.hostLinkUp ep.val cfg))

/-- HOT_RESET (R434): A PCIe hot reset from the host returns the endpoint's configuration to reset values and moves or stalls its queues. -/
def execHotReset (ep : Fin 4) (s : State) : Host.Outcome State Fault Refusal :=
  .next (s.after (s.hotReset ep.val))

/-- CAN_BUS_ERROR (R557): CAN protocol errors on a bus move its controller to error-passive or bus-off, and the frames queued at bus-off are discarded. -/
def execCanBusError (bus : Fin 2) (busOff : Bool) (unsent : Nat) (s : State) : Host.Outcome State Fault Refusal :=
  .next (s.after (s.canError bus.val busOff unsent))

/-- ALERT_HIGH_TIME_END (R456): In pulse mode, the 20 µs during which ALERT_N stays high ends, and an episode held back meanwhile starts. -/
def execAlertHighTimeEnd (s : State) : Host.Outcome State Fault Refusal :=
  .next (s.after (s.alertHighEnd))

/-- TAP_INSTRUCTION_LOAD (R590): An IEEE 1149.1 instruction such as EXTEST or IDCODE is loaded through the TAP, and EXTEST holds the device out of Proofing. -/
def execTapInstructionLoad (code : TapCode) (s : State) : Host.Outcome State Fault Refusal :=
  .next (s.after (s.tapLoad code))

end Sys2Proof.Machine
end

