-- ==== Sys2Proof/Machine/RowsStore.lean ====
section
/-! DEFINITION. Sys2Proof/Machine/RowsStore.lean: the rows of the local stores and of the Block Mover (chapters 10 and 11). -/
namespace Sys2Proof.Machine

/-- SECURE_SIZE_WRITE (R337): A write of LS_SEC.SIZE grows the secure part or wipes and releases blocks. -/
def execSecureSizeWrite (n : Fin 9) (who : Master) (value : W32) (s : State) : Host.Outcome State Fault Refusal :=
  if who.ok then .next (s.after (s.regWrite who (LS_SEC n.val) 4 value.toNat)) else .fault .illFormed

/-- SECURE_WIPE (R338): LS_SEC.WIPE starts a wipe of the secure part. -/
def execSecureWipe (n : Fin 9) (who : Master) (value : W32) (s : State) : Host.Outcome State Fault Refusal :=
  if who.ok then .next (s.after (s.regWrite who (LS_SEC n.val) 4 (setBits value.toNat 5 1 1))) else .fault .illFormed

/-- SECURE_WIPE_DONE (R338): A secure part wipe ends and waiting requests proceed. -/
def execSecureWipeDone (n : Fin 9) (s : State) : Host.Outcome State Fault Refusal :=
  .next (s.after ((s.lsWipeDone n.val).settle))

/-- LS_CLEAR_DONE (R339): A local store clear ends and READY is set. -/
def execLsClearDone (n : Fin 9) (s : State) : Host.Outcome State Fault Refusal :=
  .next (s.after ((s.lsClearDone n.val).settle))

/-- MARCH_START (R341): LS_MARCH_CTL.START starts a destructive or preserving march run. -/
def execMarchStart (n : Fin 9) (who : Master) (value : W32) (s : State) : Host.Outcome State Fault Refusal :=
  if who.ok then .next (s.after (s.regWrite who (LS_MARCH_CTL n.val) 4 (setBits value.toNat 21 1 1))) else .fault .illFormed

/-- MARCH_ABORT (R343): LS_MARCH_CTL.ABORT stops a run at a line boundary. -/
def execMarchAbort (n : Fin 9) (who : Master) (value : W32) (fails : List (Fin 65536)) (s : State) :
    Host.Outcome State Fault Refusal :=
  if who.ok then
    .next (s.after (((s.regWrite who (LS_MARCH_CTL n.val) 4 (setBits value.toNat 22 1 1)).marchStop n.val (fails.map Fin.val)).settle))
  else .fault .illFormed

/-- MARCH_DONE (R343): A march run ends and records its failures. -/
def execMarchDone (n : Fin 9) (fails : List (Fin 65536)) (s : State) : Host.Outcome State Fault Refusal :=
  .next (s.after ((s.marchEnd n.val (fails.map Fin.val) (s.flag (LS_MARCH_CTL n.val) LS_MARCH_CTL.ABORT)).settle))

/-- BM_START (R367): BM_CMDc START fetches BM_DESCc and runs the channel. -/
def execBmStart (c : Fin 32) (who : Master) (s : State) : Host.Outcome State Fault Refusal :=
  if who.ok then .next (s.after (s.regWrite who (BM_CMD c.val) 4 1)) else .fault .illFormed

/-- BM_PAUSE (R367): BM_CMDc PAUSE stops the channel at the next descriptor boundary. -/
def execBmPause (c : Fin 32) (who : Master) (s : State) : Host.Outcome State Fault Refusal :=
  if who.ok then .next (s.after (s.regWrite who (BM_CMD c.val) 4 2)) else .fault .illFormed

/-- BM_RESUME (R372): BM_CMDc RESUME retries an erring halted channel from POS. -/
def execBmResume (c : Fin 32) (who : Master) (s : State) : Host.Outcome State Fault Refusal :=
  if who.ok then .next (s.after (s.regWrite who (BM_CMD c.val) 4 4)) else .fault .illFormed

/-- BM_ABORT (R372): BM_CMDc ABORT writes ABORTED and stops an erring halted channel. -/
def execBmAbort (c : Fin 32) (who : Master) (s : State) : Host.Outcome State Fault Refusal :=
  if who.ok then .next (s.after (s.regWrite who (BM_CMD c.val) 4 8)) else .fault .illFormed

/-- BM_DESCRIPTOR_FETCH (R359): A channel's descriptor read completes and is checked. -/
def execBmDescriptorFetch (c : Fin 32) (s : State) : Host.Outcome State Fault Refusal :=
  .next (s.after (s.bmFetch c.val))

/-- BM_ELEMENT (R361): A channel moves one element, advancing its check register. -/
def execBmElement (c : Fin 32) (host : Option (List Byte)) (s : State) : Host.Outcome State Fault Refusal :=
  .next (s.after (s.bmElement c.val host))

/-- BM_DESCRIPTOR_END (R366): The descriptor's writes are performed; CHECK and STATUS are written back and the channel continues or stops. -/
def execBmDescriptorEnd (c : Fin 32) (s : State) : Host.Outcome State Fault Refusal :=
  .next (s.after (s.bmEnd c.val))

/-- BM_HALT (R370): An error response to any channel halts the whole Block Mover. -/
def execBmHalt (c : Fin 32) (code : Fin 8) (side : Fin 3) (addr : Word) (s : State) : Host.Outcome State Fault Refusal :=
  .next (s.after (s.bmError c.val code.val side.val addr.toNat))

/-- BM_RELEASE (R372): BM_CTL.RELEASE ends the halt and resumes the channels that are not erring. -/
def execBmRelease (who : Master) (s : State) : Host.Outcome State Fault Refusal :=
  if who.ok then .next (s.after (s.fieldWrite who BM_CTL BM_CTL.RELEASE 1)) else .fault .illFormed

/-- BM_HALT_AUTO (R372): HALT_MAX µs after a halt, the halt ends by itself. -/
def execBmHaltAuto (s : State) : Host.Outcome State Fault Refusal :=
  .next (s.after (s.bmHaltAuto))

/-- BM_POWER_ABORT (R375): A keep-awake vote held for 1 ms stops the channel with POWER_ABORT. -/
def execBmPowerAbort (c : Fin 32) (s : State) : Host.Outcome State Fault Refusal :=
  .next (s.after (s.bmPowerAbort c.val))

end Sys2Proof.Machine
end

