-- ==== Sys2Proof/Machine/RowsTimer.lean ====
section
/-! DEFINITION. Sys2Proof/Machine/RowsTimer.lean: the rows of the time base and the timers (chapter 18), and posted writes (R617). -/
namespace Sys2Proof.Machine

/-- TB_SET_WRITE (R577): A TB_SET write sets the time base. -/
def execTbSetWrite (value : Word) (s : State) : Host.Outcome State Fault Refusal :=
  .next (s.after (s.tbWrite value.toNat))

/-- TBCAP_EDGE (R578): A rising edge on the selected input captures the time base into TB_CAP. -/
def execTbcapEdge (k : Fin 4) (s : State) : Host.Outcome State Fault Refusal :=
  .next (s.after (s.tbCapture k.val))

/-- TB_CAP_READ (R614): A read of TB_CAP returns the capture and clears TBCAP_VALID. -/
def execTbCapRead (who : Master) (s : State) : Host.Outcome State Fault Refusal :=
  if who.ok then .next (s.after (s.regRead who TB_CAP 8)) else .fault .illFormed

/-- TIMER_TICK (R580): A timer ticks by its mode, raising matches, OVF and PEAK with their actions. -/
def execTimerTick (n : Fin 16) (s : State) : Host.Outcome State Fault Refusal :=
  .next (s.after (s.tmrTick n))

/-- LINK_ACTION (R584): An action reaches the linked timer one time-clock cycle later. -/
def execLinkAction (n : Fin 16) (s : State) : Host.Outcome State Fault Refusal :=
  .next (s.after (s.linkAct n))

/-- TIMER_CAPTURE_EDGE (R586): An input edge enters the timer's count into its capture queue. -/
def execTimerCaptureEdge (k : Fin 4) (rising : Bool) (s : State) : Host.Outcome State Fault Refusal :=
  .next (s.after (s.tmrEdge k.val rising))

/-- CAPTURE_READ (R586): A read of TMR_CAPn removes the oldest capture entry. -/
def execCaptureRead (n : Fin 16) (who : Master) (s : State) : Host.Outcome State Fault Refusal :=
  if who.ok then .next (s.after (s.regRead who (TMR_CAP n.val) 8)) else .fault .illFormed

/-- COMPARE_WRITE (R582): A CMPk write sets CMPPASTk when the value lies behind the count. -/
def execCompareWrite (n : Fin 16) (k : Bool) (value : W32) (s : State) : Host.Outcome State Fault Refusal :=
  .next (s.after (s.cmpWrite n k value.toNat))

/-- COUNT_WRITE (R583): A COUNT write takes effect at the next tick edge. -/
def execCountWrite (n : Fin 16) (value : W32) (s : State) : Host.Outcome State Fault Refusal :=
  .next (s.after (s.countWrite n value.toNat))

/-- PRESCALE_WRITE (R579): A TMR_PSCn write sets the prescaler and clears its accumulator. -/
def execPrescaleWrite (n : Fin 16) (value : W32) (s : State) : Host.Outcome State Fault Refusal :=
  .next (s.after (s.pscWrite n value.toNat))

/-- POSTED_WRITE_APPLY (R617): A posted ST or TMR write crosses to the Starter die and is applied. -/
def execPostedWriteApply (s : State) : Host.Outcome State Fault Refusal :=
  .next (s.after (s.postApply))

end Sys2Proof.Machine
end

