-- ==== Sys2Proof/Machine/RowsVector.lean ====
section
/-! DEFINITION. Sys2Proof/Machine/RowsVector.lean: the vector rows (chapters 2 to 4). -/
namespace Sys2Proof.Machine

/-- VADD (R70): Vector add of streams A and B into D. -/
def execVadd (v : VSyl) (s : State) : Host.Outcome State Fault Refusal :=
  .next (s.after (s.syllable v.seq (.vec .vadd v) v.stop))

/-- VSUB (R70): Vector subtract. -/
def execVsub (v : VSyl) (s : State) : Host.Outcome State Fault Refusal :=
  .next (s.after (s.syllable v.seq (.vec .vsub v) v.stop))

/-- VADDC (R75): Vector add with carry-in stream C and carry-out to E. -/
def execVaddc (v : VSyl) (s : State) : Host.Outcome State Fault Refusal :=
  .next (s.after (s.syllable v.seq (.vec .vaddc v) v.stop))

/-- VSUBB (R75): Vector subtract with borrow-in and borrow-out. -/
def execVsubb (v : VSyl) (s : State) : Host.Outcome State Fault Refusal :=
  .next (s.after (s.syllable v.seq (.vec .vsubb v) v.stop))

/-- VMIN (R81): Elementwise minimum of A and B. -/
def execVmin (v : VSyl) (s : State) : Host.Outcome State Fault Refusal :=
  .next (s.after (s.syllable v.seq (.vec .vmin v) v.stop))

/-- VMAX (R81): Elementwise maximum of A and B. -/
def execVmax (v : VSyl) (s : State) : Host.Outcome State Fault Refusal :=
  .next (s.after (s.syllable v.seq (.vec .vmax v) v.stop))

/-- VABS (R80): Elementwise absolute value. -/
def execVabs (v : VSyl) (s : State) : Host.Outcome State Fault Refusal :=
  .next (s.after (s.syllable v.seq (.vec .vabs v) v.stop))

/-- VNEG (R80): Elementwise negation. -/
def execVneg (v : VSyl) (s : State) : Host.Outcome State Fault Refusal :=
  .next (s.after (s.syllable v.seq (.vec .vneg v) v.stop))

/-- VCMP (R81): Compare under relation REL, producing a BIT stream. -/
def execVcmp (v : VSyl) (s : State) : Host.Outcome State Fault Refusal :=
  .next (s.after (s.syllable v.seq (.vec .vcmp v) v.stop))

/-- VSEL (R70): Selects A or B by BIT stream C. -/
def execVsel (v : VSyl) (s : State) : Host.Outcome State Fault Refusal :=
  .next (s.after (s.syllable v.seq (.vec .vsel v) v.stop))

/-- VCVT (R82): Converts A to the type of D. -/
def execVcvt (v : VSyl) (s : State) : Host.Outcome State Fault Refusal :=
  .next (s.after (s.syllable v.seq (.vec .vcvt v) v.stop))

/-- VCOPY (R116): Copies A to D, including gather and scatter. -/
def execVcopy (v : VSyl) (s : State) : Host.Outcome State Fault Refusal :=
  .next (s.after (s.syllable v.seq (.vec .vcopy v) v.stop))

/-- VFILL (R75): Fills D with gS. -/
def execVfill (v : VSyl) (s : State) : Host.Outcome State Fault Refusal :=
  .next (s.after (s.syllable v.seq (.vec .vfill v) v.stop))

/-- VIOTA (R75): Writes gS + i into each element of D. -/
def execViota (v : VSyl) (s : State) : Host.Outcome State Fault Refusal :=
  .next (s.after (s.syllable v.seq (.vec .viota v) v.stop))

/-- VMUL (R77): Vector multiply. -/
def execVmul (v : VSyl) (s : State) : Host.Outcome State Fault Refusal :=
  .next (s.after (s.syllable v.seq (.vec .vmul v) v.stop))

/-- VMULH (R77): High half of the vector product. -/
def execVmulh (v : VSyl) (s : State) : Host.Outcome State Fault Refusal :=
  .next (s.after (s.syllable v.seq (.vec .vmulh v) v.stop))

/-- VFMA (R79): Fused multiply-add. -/
def execVfma (v : VSyl) (s : State) : Host.Outcome State Fault Refusal :=
  .next (s.after (s.syllable v.seq (.vec .vfma v) v.stop))

/-- VFMS (R79): Fused multiply-subtract. -/
def execVfms (v : VSyl) (s : State) : Host.Outcome State Fault Refusal :=
  .next (s.after (s.syllable v.seq (.vec .vfms v) v.stop))

/-- VFNMA (R79): Negated fused multiply-add. -/
def execVfnma (v : VSyl) (s : State) : Host.Outcome State Fault Refusal :=
  .next (s.after (s.syllable v.seq (.vec .vfnma v) v.stop))

/-- VDADD (R86): Packed-decimal add. -/
def execVdadd (v : VSyl) (s : State) : Host.Outcome State Fault Refusal :=
  .next (s.after (s.syllable v.seq (.vec .vdadd v) v.stop))

/-- VDSUB (R86): Packed-decimal subtract. -/
def execVdsub (v : VSyl) (s : State) : Host.Outcome State Fault Refusal :=
  .next (s.after (s.syllable v.seq (.vec .vdsub v) v.stop))

/-- VDCMP (R87): Packed-decimal compare into a BIT stream. -/
def execVdcmp (v : VSyl) (s : State) : Host.Outcome State Fault Refusal :=
  .next (s.after (s.syllable v.seq (.vec .vdcmp v) v.stop))

/-- VDNEG (R86): Packed-decimal negate. -/
def execVdneg (v : VSyl) (s : State) : Host.Outcome State Fault Refusal :=
  .next (s.after (s.syllable v.seq (.vec .vdneg v) v.stop))

/-- VDCVT (R88): Converts between packed decimal and integer. -/
def execVdcvt (v : VSyl) (s : State) : Host.Outcome State Fault Refusal :=
  .next (s.after (s.syllable v.seq (.vec .vdcvt v) v.stop))

/-- VDSHIFT (R89): Decimal shift by 10^s with rounding. -/
def execVdshift (v : VSyl) (s : State) : Host.Outcome State Fault Refusal :=
  .next (s.after (s.syllable v.seq (.vec .vdshift v) v.stop))

/-- VDCHK (R84): Writes the status of each packed-decimal element of A. -/
def execVdchk (v : VSyl) (s : State) : Host.Outcome State Fault Refusal :=
  .next (s.after (s.syllable v.seq (.vec .vdchk v) v.stop))

/-- VAND (R70): Vector AND. -/
def execVand (v : VSyl) (s : State) : Host.Outcome State Fault Refusal :=
  .next (s.after (s.syllable v.seq (.vec .vand v) v.stop))

/-- VOR (R70): Vector OR. -/
def execVor (v : VSyl) (s : State) : Host.Outcome State Fault Refusal :=
  .next (s.after (s.syllable v.seq (.vec .vor v) v.stop))

/-- VXOR (R70): Vector XOR. -/
def execVxor (v : VSyl) (s : State) : Host.Outcome State Fault Refusal :=
  .next (s.after (s.syllable v.seq (.vec .vxor v) v.stop))

/-- VANDN (R70): Vector AND NOT. -/
def execVandn (v : VSyl) (s : State) : Host.Outcome State Fault Refusal :=
  .next (s.after (s.syllable v.seq (.vec .vandn v) v.stop))

/-- VNOT (R70): Vector NOT. -/
def execVnot (v : VSyl) (s : State) : Host.Outcome State Fault Refusal :=
  .next (s.after (s.syllable v.seq (.vec .vnot v) v.stop))

/-- VSHL (R77): Vector left shift. -/
def execVshl (v : VSyl) (s : State) : Host.Outcome State Fault Refusal :=
  .next (s.after (s.syllable v.seq (.vec .vshl v) v.stop))

/-- VSHR (R77): Vector logical right shift. -/
def execVshr (v : VSyl) (s : State) : Host.Outcome State Fault Refusal :=
  .next (s.after (s.syllable v.seq (.vec .vshr v) v.stop))

/-- VSRA (R77): Vector arithmetic right shift. -/
def execVsra (v : VSyl) (s : State) : Host.Outcome State Fault Refusal :=
  .next (s.after (s.syllable v.seq (.vec .vsra v) v.stop))

/-- VROL (R77): Vector left rotate. -/
def execVrol (v : VSyl) (s : State) : Host.Outcome State Fault Refusal :=
  .next (s.after (s.syllable v.seq (.vec .vrol v) v.stop))

/-- VPOPC (R70): Vector count of one bits. -/
def execVpopc (v : VSyl) (s : State) : Host.Outcome State Fault Refusal :=
  .next (s.after (s.syllable v.seq (.vec .vpopc v) v.stop))

/-- VCLZ (R70): Vector count of leading zeros. -/
def execVclz (v : VSyl) (s : State) : Host.Outcome State Fault Refusal :=
  .next (s.after (s.syllable v.seq (.vec .vclz v) v.stop))

/-- VDIV (R76): Vector divide. -/
def execVdiv (v : VSyl) (s : State) : Host.Outcome State Fault Refusal :=
  .next (s.after (s.syllable v.seq (.vec .vdiv v) v.stop))

/-- VREM (R76): Vector remainder. -/
def execVrem (v : VSyl) (s : State) : Host.Outcome State Fault Refusal :=
  .next (s.after (s.syllable v.seq (.vec .vrem v) v.stop))

/-- VSQRT (R79): Vector square root. -/
def execVsqrt (v : VSyl) (s : State) : Host.Outcome State Fault Refusal :=
  .next (s.after (s.syllable v.seq (.vec .vsqrt v) v.stop))

/-- VCPRS (R92): Packs the active A elements into D and adds the count to gS. -/
def execVcprs (v : VSyl) (s : State) : Host.Outcome State Fault Refusal :=
  .next (s.after (s.syllable v.seq (.vec .vcprs v) v.stop))

/-- VEXPD (R92): Expands successive A elements into the active positions of D. -/
def execVexpd (v : VSyl) (s : State) : Host.Outcome State Fault Refusal :=
  .next (s.after (s.syllable v.seq (.vec .vexpd v) v.stop))

/-- VMSTEP (R70): Writes the minimum to D and the maximum to E. -/
def execVmstep (v : VSyl) (s : State) : Host.Outcome State Fault Refusal :=
  .next (s.after (s.syllable v.seq (.vec .vmstep v) v.stop))

/-- VRSUM (R90): Sum reduction into gS, in fixed order. -/
def execVrsum (v : VSyl) (s : State) : Host.Outcome State Fault Refusal :=
  .next (s.after (s.syllable v.seq (.vec .vrsum v) v.stop))

/-- VRMIN (R90): Minimum reduction into gS. -/
def execVrmin (v : VSyl) (s : State) : Host.Outcome State Fault Refusal :=
  .next (s.after (s.syllable v.seq (.vec .vrmin v) v.stop))

/-- VRMAX (R90): Maximum reduction into gS. -/
def execVrmax (v : VSyl) (s : State) : Host.Outcome State Fault Refusal :=
  .next (s.after (s.syllable v.seq (.vec .vrmax v) v.stop))

/-- VRAND (R90): AND reduction into gS. -/
def execVrand (v : VSyl) (s : State) : Host.Outcome State Fault Refusal :=
  .next (s.after (s.syllable v.seq (.vec .vrand v) v.stop))

/-- VROR (R90): OR reduction into gS. -/
def execVror (v : VSyl) (s : State) : Host.Outcome State Fault Refusal :=
  .next (s.after (s.syllable v.seq (.vec .vror v) v.stop))

/-- VRXOR (R90): XOR reduction into gS. -/
def execVrxor (v : VSyl) (s : State) : Host.Outcome State Fault Refusal :=
  .next (s.after (s.syllable v.seq (.vec .vrxor v) v.stop))

/-- VSCAN (R91): Prefix sum over the active elements. -/
def execVscan (v : VSyl) (s : State) : Host.Outcome State Fault Refusal :=
  .next (s.after (s.syllable v.seq (.vec .vscan v) v.stop))

/-- VCOUNT (R90): Adds the number of active one bits to gS. -/
def execVcount (v : VSyl) (s : State) : Host.Outcome State Fault Refusal :=
  .next (s.after (s.syllable v.seq (.vec .vcount v) v.stop))

/-- VAESE (R95): AES encryption round on B128 elements. -/
def execVaese (v : VSyl) (s : State) : Host.Outcome State Fault Refusal :=
  .next (s.after (s.syllable v.seq (.vec .vaese v) v.stop))

/-- VAESD (R95): AES decryption round on B128 elements. -/
def execVaesd (v : VSyl) (s : State) : Host.Outcome State Fault Refusal :=
  .next (s.after (s.syllable v.seq (.vec .vaesd v) v.stop))

/-- VGHASH (R96): GHASH multiply in GF(2^128). -/
def execVghash (v : VSyl) (s : State) : Host.Outcome State Fault Refusal :=
  .next (s.after (s.syllable v.seq (.vec .vghash v) v.stop))

/-- VSHA256 (R97): SHA-256 compression per element. -/
def execVsha256 (v : VSyl) (s : State) : Host.Outcome State Fault Refusal :=
  .next (s.after (s.syllable v.seq (.vec .vsha256 v) v.stop))

/-- VCRC32C (R98): Advances a CRC32C register over 16 bytes. -/
def execVcrc32c (v : VSyl) (s : State) : Host.Outcome State Fault Refusal :=
  .next (s.after (s.syllable v.seq (.vec .vcrc32c v) v.stop))

/-- VAADD (R99): Bank-side atomic add of A into D. -/
def execVaadd (v : VSyl) (s : State) : Host.Outcome State Fault Refusal :=
  .next (s.after (s.syllable v.seq (.vec .vaadd v) v.stop))

/-- VAMIN (R99): Bank-side atomic minimum. -/
def execVamin (v : VSyl) (s : State) : Host.Outcome State Fault Refusal :=
  .next (s.after (s.syllable v.seq (.vec .vamin v) v.stop))

/-- VAMAX (R99): Bank-side atomic maximum. -/
def execVamax (v : VSyl) (s : State) : Host.Outcome State Fault Refusal :=
  .next (s.after (s.syllable v.seq (.vec .vamax v) v.stop))

/-- VAOR (R99): Bank-side atomic OR. -/
def execVaor (v : VSyl) (s : State) : Host.Outcome State Fault Refusal :=
  .next (s.after (s.syllable v.seq (.vec .vaor v) v.stop))

/-- VAAND (R99): Bank-side atomic AND. -/
def execVaand (v : VSyl) (s : State) : Host.Outcome State Fault Refusal :=
  .next (s.after (s.syllable v.seq (.vec .vaand v) v.stop))

/-- VAFADD (R101): Bank-side atomic fetch-and-add that returns the old values in E. -/
def execVafadd (v : VSyl) (s : State) : Host.Outcome State Fault Refusal :=
  .next (s.after (s.syllable v.seq (.vec .vafadd v) v.stop))

/-- VSYNC (R54): Waits for outstanding vector work and then takes a pending VECTOR_FAULT or retires. -/
def execVsync (v : VSyl) (s : State) : Host.Outcome State Fault Refusal :=
  .next (s.after (s.syllable v.seq (.vec .vsync v) v.stop))

/-- VRESTART_RESUME (R55): VRESTART 0 resumes every stopped entry from its RESUME element. -/
def execVrestartResume (v : VSyl) (s : State) : Host.Outcome State Fault Refusal :=
  .next (s.after (s.syllable v.seq (.vec .vrestart { v with mod := v.mod &&& 14 }) v.stop))

/-- VRESTART_DISCARD (R55): VRESTART 1 discards the vector fault record. -/
def execVrestartDiscard (v : VSyl) (s : State) : Host.Outcome State Fault Refusal :=
  .next (s.after (s.syllable v.seq (.vec .vrestart { v with mod := v.mod ||| 1 }) v.stop))

/-- RECIPE (R110): Issues a Recipe opcode that runs its steps as one Chain Group. -/
def execRecipe (k : Fin 32) (v : VSyl) (s : State) : Host.Outcome State Fault Refusal :=
  .next (s.after (s.syllable v.seq (.vec (.recipe k) v) v.stop))

/-- STREAM_DATA_ARRIVAL (R139): Stream read data arrives at a load engine. -/
def execStreamDataArrival (n : Fin 9) (id : Nat) (key : StreamKey) (slice : Nat) (s : State) :
    Host.Outcome State Fault Refusal :=
  .next (s.after ((s.streamArrive n id key slice).pump n))

/-- VECTOR_FAULT_RECORD (R46): A failing element stops its instruction at k and the vector fault record is made. -/
def execVectorFaultRecord (n : Fin 9) (s : State) : Host.Outcome State Fault Refusal :=
  .next (s.after ((s.vecRecord n).pump n))

/-- SLICE_COMMIT (R124): A Slice whose results are produced and checked commits at the Commit Horizon. -/
def execSliceCommit (n : Fin 9) (id : Nat) (check : SliceCheck) (s : State) : Host.Outcome State Fault Refusal :=
  .next (s.after ((s.sliceCommit n id check).pump n))

/-- VECTOR_COMPLETE (R45): A vector instruction completes and releases the instructions held behind it. -/
def execVectorComplete (n : Fin 9) (id : Nat) (s : State) : Host.Outcome State Fault Refusal :=
  .next (s.after ((s.vecComplete n id).pump n))

/-- STORE_ENTRY_DRAIN (R127): A drainable commit buffer entry is written to its bank. -/
def execStoreEntryDrain (n : Fin 9) (k : Nat) (bad : Bool) (s : State) : Host.Outcome State Fault Refusal :=
  .next (s.after ((s.storeDrain n k bad).pump n))

/-- PIPE_SPARE_ACCEPT (R133): A spare pipe accepts a migrated Chain Group and becomes bound. -/
def execPipeSpareAccept (p : Fin 18) (s : State) : Host.Outcome State Fault Refusal :=
  .next (s.after ((s.pipeAccept p.val).settle))

end Sys2Proof.Machine
end

