-- ==== Sys2Proof/Machine/Dispatch.lean ====
section
/-! DEFINITION. Sys2Proof/Machine/Dispatch.lean: one arm for each command of the table, one call of its meaning. -/
namespace Sys2Proof.Machine

def exec (i : Instr) (s : State) : Host.Outcome State Fault Refusal :=
  match i with
  | .add h d a b w => Sys2Proof.Machine.execAdd h d a b w s
  | .sub h d a b w => Sys2Proof.Machine.execSub h d a b w s
  | .and h d a b w => Sys2Proof.Machine.execAnd h d a b w s
  | .or h d a b w => Sys2Proof.Machine.execOr h d a b w s
  | .xor h d a b w => Sys2Proof.Machine.execXor h d a b w s
  | .andn h d a b w => Sys2Proof.Machine.execAndn h d a b w s
  | .shl h d a b w => Sys2Proof.Machine.execShl h d a b w s
  | .shr h d a b w => Sys2Proof.Machine.execShr h d a b w s
  | .sra h d a b w => Sys2Proof.Machine.execSra h d a b w s
  | .rol h d a b w => Sys2Proof.Machine.execRol h d a b w s
  | .min h d a b w => Sys2Proof.Machine.execMin h d a b w s
  | .max h d a b w => Sys2Proof.Machine.execMax h d a b w s
  | .minu h d a b w => Sys2Proof.Machine.execMinu h d a b w s
  | .maxu h d a b w => Sys2Proof.Machine.execMaxu h d a b w s
  | .slt h d a b w => Sys2Proof.Machine.execSlt h d a b w s
  | .sltu h d a b w => Sys2Proof.Machine.execSltu h d a b w s
  | .ceq h d a b w => Sys2Proof.Machine.execCeq h d a b w s
  | .clz h d a b w => Sys2Proof.Machine.execClz h d a b w s
  | .popc h d a b w => Sys2Proof.Machine.execPopc h d a b w s
  | .addi h d a imm => Sys2Proof.Machine.execAddi h d a imm s
  | .andi h d a imm => Sys2Proof.Machine.execAndi h d a imm s
  | .ori h d a imm => Sys2Proof.Machine.execOri h d a imm s
  | .xori h d a imm => Sys2Proof.Machine.execXori h d a imm s
  | .shli h d a imm => Sys2Proof.Machine.execShli h d a imm s
  | .shri h d a imm => Sys2Proof.Machine.execShri h d a imm s
  | .srai h d a imm => Sys2Proof.Machine.execSrai h d a imm s
  | .slti h d a imm => Sys2Proof.Machine.execSlti h d a imm s
  | .ceqi h d a imm => Sys2Proof.Machine.execCeqi h d a imm s
  | .movi h d imm => Sys2Proof.Machine.execMovi h d imm s
  | .movk h q d imm => Sys2Proof.Machine.execMovk h q d imm s
  | .mul h d a b w => Sys2Proof.Machine.execMul h d a b w s
  | .mulhs h d a b w => Sys2Proof.Machine.execMulhs h d a b w s
  | .mulhu h d a b w => Sys2Proof.Machine.execMulhu h d a b w s
  | .divs h d a b w => Sys2Proof.Machine.execDivs h d a b w s
  | .divu h d a b w => Sys2Proof.Machine.execDivu h d a b w s
  | .rems h d a b w => Sys2Proof.Machine.execRems h d a b w s
  | .remu h d a b w => Sys2Proof.Machine.execRemu h d a b w s
  | .divideDone n => Sys2Proof.Machine.execDivideDone n s
  | .lb h d a sg imm => Sys2Proof.Machine.execLb h d a sg imm s
  | .lbu h d a sg imm => Sys2Proof.Machine.execLbu h d a sg imm s
  | .lh h d a sg imm => Sys2Proof.Machine.execLh h d a sg imm s
  | .lhu h d a sg imm => Sys2Proof.Machine.execLhu h d a sg imm s
  | .lw h d a sg imm => Sys2Proof.Machine.execLw h d a sg imm s
  | .lwu h d a sg imm => Sys2Proof.Machine.execLwu h d a sg imm s
  | .ld h d a sg imm => Sys2Proof.Machine.execLd h d a sg imm s
  | .sb h d a sg imm => Sys2Proof.Machine.execSb h d a sg imm s
  | .sh h d a sg imm => Sys2Proof.Machine.execSh h d a sg imm s
  | .sw h d a sg imm => Sys2Proof.Machine.execSw h d a sg imm s
  | .sd h d a sg imm => Sys2Proof.Machine.execSd h d a sg imm s
  | .aaddW h d a sg imm => Sys2Proof.Machine.execAaddW h d a sg imm s
  | .aaddD h d a sg imm => Sys2Proof.Machine.execAaddD h d a sg imm s
  | .aswpW h d a sg imm => Sys2Proof.Machine.execAswpW h d a sg imm s
  | .aswpD h d a sg imm => Sys2Proof.Machine.execAswpD h d a sg imm s
  | .acasD h d a sg imm => Sys2Proof.Machine.execAcasD h d a sg imm s
  | .sgld h d a sg imm => Sys2Proof.Machine.execSgld h d a sg imm s
  | .sgst h d a sg imm => Sys2Proof.Machine.execSgst h d a sg imm s
  | .vdld h d a sg imm => Sys2Proof.Machine.execVdld h d a sg imm s
  | .vdst h d a sg imm => Sys2Proof.Machine.execVdst h d a sg imm s
  | .vdset h d a imm => Sys2Proof.Machine.execVdset h d a imm s
  | .vdadv h d a => Sys2Proof.Machine.execVdadv h d a s
  | .vdget h d sg imm => Sys2Proof.Machine.execVdget h d sg imm s
  | .mfs h d sr => Sys2Proof.Machine.execMfs h d sr s
  | .mts h a sr => Sys2Proof.Machine.execMts h a sr s
  | .pld h d a imm => Sys2Proof.Machine.execPld h d a imm s
  | .pst h d a imm => Sys2Proof.Machine.execPst h d a imm s
  | .fenceSl h => Sys2Proof.Machine.execFenceSl h s
  | .beq h annul hint a disp => Sys2Proof.Machine.execBeq h annul hint a disp s
  | .bne h annul hint a disp => Sys2Proof.Machine.execBne h annul hint a disp s
  | .blt h annul hint a disp => Sys2Proof.Machine.execBlt h annul hint a disp s
  | .bge h annul hint a disp => Sys2Proof.Machine.execBge h annul hint a disp s
  | .ble h annul hint a disp => Sys2Proof.Machine.execBle h annul hint a disp s
  | .bgt h annul hint a disp => Sys2Proof.Machine.execBgt h annul hint a disp s
  | .j h annul disp => Sys2Proof.Machine.execJ h annul disp s
  | .call h annul disp => Sys2Proof.Machine.execCall h annul disp s
  | .jr h annul a => Sys2Proof.Machine.execJr h annul a s
  | .callr h annul a => Sys2Proof.Machine.execCallr h annul a s
  | .ret h annul a => Sys2Proof.Machine.execRet h annul a s
  | .gate h code => Sys2Proof.Machine.execGate h code s
  | .syscall h code => Sys2Proof.Machine.execSyscall h code s
  | .rfe h code => Sys2Proof.Machine.execRfe h code s
  | .brk h code => Sys2Proof.Machine.execBrk h code s
  | .iflush h annul disp => Sys2Proof.Machine.execIflush h annul disp s
  | .interruptEntry n => Sys2Proof.Machine.execInterruptEntry n s
  | .lateBusError n => Sys2Proof.Machine.execLateBusError n s
  | .loadResponse n => Sys2Proof.Machine.execLoadResponse n s
  | .storeBufferDrain n => Sys2Proof.Machine.execStoreBufferDrain n s
  | .branchResolve n => Sys2Proof.Machine.execBranchResolve n s
  | .btbInvalidate n => Sys2Proof.Machine.execBtbInvalidate n s
  | .vadd v => Sys2Proof.Machine.execVadd v s
  | .vsub v => Sys2Proof.Machine.execVsub v s
  | .vaddc v => Sys2Proof.Machine.execVaddc v s
  | .vsubb v => Sys2Proof.Machine.execVsubb v s
  | .vmin v => Sys2Proof.Machine.execVmin v s
  | .vmax v => Sys2Proof.Machine.execVmax v s
  | .vabs v => Sys2Proof.Machine.execVabs v s
  | .vneg v => Sys2Proof.Machine.execVneg v s
  | .vcmp v => Sys2Proof.Machine.execVcmp v s
  | .vsel v => Sys2Proof.Machine.execVsel v s
  | .vcvt v => Sys2Proof.Machine.execVcvt v s
  | .vcopy v => Sys2Proof.Machine.execVcopy v s
  | .vfill v => Sys2Proof.Machine.execVfill v s
  | .viota v => Sys2Proof.Machine.execViota v s
  | .vmul v => Sys2Proof.Machine.execVmul v s
  | .vmulh v => Sys2Proof.Machine.execVmulh v s
  | .vfma v => Sys2Proof.Machine.execVfma v s
  | .vfms v => Sys2Proof.Machine.execVfms v s
  | .vfnma v => Sys2Proof.Machine.execVfnma v s
  | .vdadd v => Sys2Proof.Machine.execVdadd v s
  | .vdsub v => Sys2Proof.Machine.execVdsub v s
  | .vdcmp v => Sys2Proof.Machine.execVdcmp v s
  | .vdneg v => Sys2Proof.Machine.execVdneg v s
  | .vdcvt v => Sys2Proof.Machine.execVdcvt v s
  | .vdshift v => Sys2Proof.Machine.execVdshift v s
  | .vdchk v => Sys2Proof.Machine.execVdchk v s
  | .vand v => Sys2Proof.Machine.execVand v s
  | .vor v => Sys2Proof.Machine.execVor v s
  | .vxor v => Sys2Proof.Machine.execVxor v s
  | .vandn v => Sys2Proof.Machine.execVandn v s
  | .vnot v => Sys2Proof.Machine.execVnot v s
  | .vshl v => Sys2Proof.Machine.execVshl v s
  | .vshr v => Sys2Proof.Machine.execVshr v s
  | .vsra v => Sys2Proof.Machine.execVsra v s
  | .vrol v => Sys2Proof.Machine.execVrol v s
  | .vpopc v => Sys2Proof.Machine.execVpopc v s
  | .vclz v => Sys2Proof.Machine.execVclz v s
  | .vdiv v => Sys2Proof.Machine.execVdiv v s
  | .vrem v => Sys2Proof.Machine.execVrem v s
  | .vsqrt v => Sys2Proof.Machine.execVsqrt v s
  | .vcprs v => Sys2Proof.Machine.execVcprs v s
  | .vexpd v => Sys2Proof.Machine.execVexpd v s
  | .vmstep v => Sys2Proof.Machine.execVmstep v s
  | .vrsum v => Sys2Proof.Machine.execVrsum v s
  | .vrmin v => Sys2Proof.Machine.execVrmin v s
  | .vrmax v => Sys2Proof.Machine.execVrmax v s
  | .vrand v => Sys2Proof.Machine.execVrand v s
  | .vror v => Sys2Proof.Machine.execVror v s
  | .vrxor v => Sys2Proof.Machine.execVrxor v s
  | .vscan v => Sys2Proof.Machine.execVscan v s
  | .vcount v => Sys2Proof.Machine.execVcount v s
  | .vaese v => Sys2Proof.Machine.execVaese v s
  | .vaesd v => Sys2Proof.Machine.execVaesd v s
  | .vghash v => Sys2Proof.Machine.execVghash v s
  | .vsha256 v => Sys2Proof.Machine.execVsha256 v s
  | .vcrc32c v => Sys2Proof.Machine.execVcrc32c v s
  | .vaadd v => Sys2Proof.Machine.execVaadd v s
  | .vamin v => Sys2Proof.Machine.execVamin v s
  | .vamax v => Sys2Proof.Machine.execVamax v s
  | .vaor v => Sys2Proof.Machine.execVaor v s
  | .vaand v => Sys2Proof.Machine.execVaand v s
  | .vafadd v => Sys2Proof.Machine.execVafadd v s
  | .vsync v => Sys2Proof.Machine.execVsync v s
  | .vrestartResume v => Sys2Proof.Machine.execVrestartResume v s
  | .vrestartDiscard v => Sys2Proof.Machine.execVrestartDiscard v s
  | .recipe k v => Sys2Proof.Machine.execRecipe k v s
  | .streamDataArrival n id key slice => Sys2Proof.Machine.execStreamDataArrival n id key slice s
  | .vectorFaultRecord n => Sys2Proof.Machine.execVectorFaultRecord n s
  | .sliceCommit n id check => Sys2Proof.Machine.execSliceCommit n id check s
  | .vectorComplete n id => Sys2Proof.Machine.execVectorComplete n id s
  | .storeEntryDrain n k bad => Sys2Proof.Machine.execStoreEntryDrain n k bad s
  | .pipeSpareAccept p => Sys2Proof.Machine.execPipeSpareAccept p s
  | .atomicQueueAdmit n id => Sys2Proof.Machine.execAtomicQueueAdmit n id s
  | .atomicOperation u k misses => Sys2Proof.Machine.execAtomicOperation u k misses s
  | .atomicAck u => Sys2Proof.Machine.execAtomicAck u s
  | .lineIdleWriteback u granule => Sys2Proof.Machine.execLineIdleWriteback u granule s
  | .bankRequest addr size data ra remap => Sys2Proof.Machine.execBankRequest addr size data ra remap s
  | .bankAccess b => Sys2Proof.Machine.execBankAccess b s
  | .patrolScrub t => Sys2Proof.Machine.execPatrolScrub t s
  | .scrubRewrite t => Sys2Proof.Machine.execScrubRewrite t s
  | .scrubLate r => Sys2Proof.Machine.execScrubLate r s
  | .rowRefresh bank row => Sys2Proof.Machine.execRowRefresh bank row s
  | .neighbourRefresh bank row => Sys2Proof.Machine.execNeighbourRefresh bank row s
  | .placeWindowClose r conflicts => Sys2Proof.Machine.execPlaceWindowClose r conflicts s
  | .regionMigrationReq r who value => Sys2Proof.Machine.execRegionMigrationReq r who value s
  | .migrationStart => Sys2Proof.Machine.execMigrationStart s
  | .swapPair b => Sys2Proof.Machine.execSwapPair b s
  | .rowRepair b row => Sys2Proof.Machine.execRowRepair b row s
  | .bankRegrowEnd t => Sys2Proof.Machine.execBankRegrowEnd t s
  | .fabricRequest reqs => Sys2Proof.Machine.execFabricRequest reqs s
  | .fabricTimeout req => Sys2Proof.Machine.execFabricTimeout req s
  | .doorbell q via lo hi value => Sys2Proof.Machine.execDoorbell q via lo hi value s
  | .ovenWake o => Sys2Proof.Machine.execOvenWake o s
  | .ovenWakeDone o => Sys2Proof.Machine.execOvenWakeDone o s
  | .ticketFetch => Sys2Proof.Machine.execTicketFetch s
  | .ticketArrival q data => Sys2Proof.Machine.execTicketArrival q data s
  | .dispatchRead o w who => Sys2Proof.Machine.execDispatchRead o w who s
  | .completionPost o w who value => Sys2Proof.Machine.execCompletionPost o w who value s
  | .feedForward => Sys2Proof.Machine.execFeedForward s
  | .dozeHint o => Sys2Proof.Machine.execDozeHint o s
  | .queueEnable q who => Sys2Proof.Machine.execQueueEnable q who s
  | .queuePause q who => Sys2Proof.Machine.execQueuePause q who s
  | .queueResume q who => Sys2Proof.Machine.execQueueResume q who s
  | .queueReset q who => Sys2Proof.Machine.execQueueReset q who s
  | .queueResetEnd q => Sys2Proof.Machine.execQueueResetEnd q s
  | .queueContextWrite q who word wide value => Sys2Proof.Machine.execQueueContextWrite q who word wide value s
  | .bufferAlloc p who => Sys2Proof.Machine.execBufferAlloc p who s
  | .bufferFree p who addr => Sys2Proof.Machine.execBufferFree p who addr s
  | .poolEnable p who value => Sys2Proof.Machine.execPoolEnable p who value s
  | .poolInitDone p => Sys2Proof.Machine.execPoolInitDone p s
  | .poolDisable p who value => Sys2Proof.Machine.execPoolDisable p who value s
  | .ticketRedispatch => Sys2Proof.Machine.execTicketRedispatch s
  | .secureSizeWrite n who value => Sys2Proof.Machine.execSecureSizeWrite n who value s
  | .secureWipe n who value => Sys2Proof.Machine.execSecureWipe n who value s
  | .secureWipeDone n => Sys2Proof.Machine.execSecureWipeDone n s
  | .lsClearDone n => Sys2Proof.Machine.execLsClearDone n s
  | .marchStart n who value => Sys2Proof.Machine.execMarchStart n who value s
  | .marchAbort n who value fails => Sys2Proof.Machine.execMarchAbort n who value fails s
  | .marchDone n fails => Sys2Proof.Machine.execMarchDone n fails s
  | .bmStart c who => Sys2Proof.Machine.execBmStart c who s
  | .bmPause c who => Sys2Proof.Machine.execBmPause c who s
  | .bmResume c who => Sys2Proof.Machine.execBmResume c who s
  | .bmAbort c who => Sys2Proof.Machine.execBmAbort c who s
  | .bmDescriptorFetch c => Sys2Proof.Machine.execBmDescriptorFetch c s
  | .bmElement c host => Sys2Proof.Machine.execBmElement c host s
  | .bmDescriptorEnd c => Sys2Proof.Machine.execBmDescriptorEnd c s
  | .bmHalt c code side addr => Sys2Proof.Machine.execBmHalt c code side addr s
  | .bmRelease who => Sys2Proof.Machine.execBmRelease who s
  | .bmHaltAuto => Sys2Proof.Machine.execBmHaltAuto s
  | .bmPowerAbort c => Sys2Proof.Machine.execBmPowerAbort c s
  | .linkTrain p signal => Sys2Proof.Machine.execLinkTrain p signal s
  | .chRetrain p who => Sys2Proof.Machine.execChRetrain p who s
  | .retrainTimeout p => Sys2Proof.Machine.execRetrainTimeout p s
  | .laneErrorWindow p errs ce ue => Sys2Proof.Machine.execLaneErrorWindow p errs ce ue s
  | .laneForce p who lane => Sys2Proof.Machine.execLaneForce p who lane s
  | .linkDown p lost => Sys2Proof.Machine.execLinkDown p lost s
  | .flitAckTimeout p => Sys2Proof.Machine.execFlitAckTimeout p s
  | .flitReceive p f => Sys2Proof.Machine.execFlitReceive p f s
  | .rd p m => Sys2Proof.Machine.execRd p m s
  | .wr p m => Sys2Proof.Machine.execWr p m s
  | .atom p m => Sys2Proof.Machine.execAtom p m s
  | .db p m => Sys2Proof.Machine.execDb p m s
  | .rdrsp p m => Sys2Proof.Machine.execRdrsp p m s
  | .wrack p m => Sys2Proof.Machine.execWrack p m s
  | .atomrsp p m => Sys2Proof.Machine.execAtomrsp p m s
  | .errrsp p m => Sys2Proof.Machine.execErrrsp p m s
  | .waking p m => Sys2Proof.Machine.execWaking p m s
  | .mark p m => Sys2Proof.Machine.execMark p m s
  | .nbr p m => Sys2Proof.Machine.execNbr p m s
  | .nbrPeriod => Sys2Proof.Machine.execNbrPeriod s
  | .time p m => Sys2Proof.Machine.execTime p m s
  | .timeExchange answer => Sys2Proof.Machine.execTimeExchange answer s
  | .linkdownFlood p m => Sys2Proof.Machine.execLinkdownFlood p m s
  | .reconcile p m => Sys2Proof.Machine.execReconcile p m s
  | .mgmt p m => Sys2Proof.Machine.execMgmt p m s
  | .tagTimeout tag => Sys2Proof.Machine.execTagTimeout tag s
  | .transitTimeout => Sys2Proof.Machine.execTransitTimeout s
  | .ringRestore who => Sys2Proof.Machine.execRingRestore who s
  | .doorbellSend who value => Sys2Proof.Machine.execDoorbellSend who value s
  | .hostPostedWrite ep f bar off data poison => Sys2Proof.Machine.execHostPostedWrite ep f bar off data poison s
  | .hostRead ep f bar off len => Sys2Proof.Machine.execHostRead ep f bar off len s
  | .hostLinkDown ep => Sys2Proof.Machine.execHostLinkDown ep s
  | .perst ep => Sys2Proof.Machine.execPerst ep s
  | .vfFlr ep v => Sys2Proof.Machine.execVfFlr ep v s
  | .pfFlr ep => Sys2Proof.Machine.execPfFlr ep s
  | .vfEnableClear ep => Sys2Proof.Machine.execVfEnableClear ep s
  | .busMasterEnableClear ep f => Sys2Proof.Machine.execBusMasterEnableClear ep f s
  | .msixUnmask ep f vec => Sys2Proof.Machine.execMsixUnmask ep f vec s
  | .mailboxGo ep dest len => Sys2Proof.Machine.execMailboxGo ep dest len s
  | .mailboxAbort ep => Sys2Proof.Machine.execMailboxAbort ep s
  | .mailboxAnswer ep who rlen => Sys2Proof.Machine.execMailboxAnswer ep who rlen s
  | .faultEvent evs => Sys2Proof.Machine.execFaultEvent evs s
  | .faultWindowClose src => Sys2Proof.Machine.execFaultWindowClose src s
  | .reactionStart => Sys2Proof.Machine.execReactionStart s
  | .autotomyEnd unit => Sys2Proof.Machine.execAutotomyEnd unit s
  | .autotomyTimeout unit => Sys2Proof.Machine.execAutotomyTimeout unit s
  | .sequencerRegrowEnd digestOk => Sys2Proof.Machine.execSequencerRegrowEnd digestOk s
  | .regrowTimeout spare => Sys2Proof.Machine.execRegrowTimeout spare s
  | .faultForce src who value => Sys2Proof.Machine.execFaultForce src who value s
  | .firstRecordClear who => Sys2Proof.Machine.execFirstRecordClear who s
  | .alertPulseEnd => Sys2Proof.Machine.execAlertPulseEnd s
  | .alertAck who => Sys2Proof.Machine.execAlertAck who s
  | .journalWrite failA failB => Sys2Proof.Machine.execJournalWrite failA failB s
  | .journalRead who seq => Sys2Proof.Machine.execJournalRead who seq s
  | .fjReqAutotomy who unit => Sys2Proof.Machine.execFjReqAutotomy who unit s
  | .fjReqAutotomyRegrow who unit => Sys2Proof.Machine.execFjReqAutotomyRegrow who unit s
  | .fjReqRepair who unit => Sys2Proof.Machine.execFjReqRepair who unit s
  | .ustCheck unit copyA copyB copyC mgmt data => Sys2Proof.Machine.execUstCheck unit copyA copyB copyC mgmt data s
  | .lastGaspClear who => Sys2Proof.Machine.execLastGaspClear who s
  | .starterBoot okA okB => Sys2Proof.Machine.execStarterBoot okA okB s
  | .proofingStart run => Sys2Proof.Machine.execProofingStart run s
  | .proofingStageTimeout => Sys2Proof.Machine.execProofingStageTimeout s
  | .restartDelayExpiry run => Sys2Proof.Machine.execRestartDelayExpiry run s
  | .bootTriesClear => Sys2Proof.Machine.execBootTriesClear s
  | .runAdmission => Sys2Proof.Machine.execRunAdmission s
  | .modeReqRun via => Sys2Proof.Machine.execModeReqRun via s
  | .modeReqPairedRun via => Sys2Proof.Machine.execModeReqPairedRun via s
  | .modeReqBrumation via => Sys2Proof.Machine.execModeReqBrumation via s
  | .modeReqStarterOnly via => Sys2Proof.Machine.execModeReqStarterOnly via s
  | .modeReqProofing via run => Sys2Proof.Machine.execModeReqProofing via run s
  | .modeReqWipe via => Sys2Proof.Machine.execModeReqWipe via s
  | .quiesceDone => Sys2Proof.Machine.execQuiesceDone s
  | .quiesceTimeout => Sys2Proof.Machine.execQuiesceTimeout s
  | .brumIdleExpiry => Sys2Proof.Machine.execBrumIdleExpiry s
  | .brumationWake lost => Sys2Proof.Machine.execBrumationWake lost s
  | .holdupEntry mainFail p12v => Sys2Proof.Machine.execHoldupEntry mainFail p12v s
  | .flushEnd => Sys2Proof.Machine.execFlushEnd s
  | .flushWatchdog => Sys2Proof.Machine.execFlushWatchdog s
  | .auxLoss => Sys2Proof.Machine.execAuxLoss s
  | .railFault => Sys2Proof.Machine.execRailFault s
  | .domainGateTimeout unit => Sys2Proof.Machine.execDomainGateTimeout unit s
  | .clockStretch cycles => Sys2Proof.Machine.execClockStretch cycles s
  | .voltageLoop low high => Sys2Proof.Machine.execVoltageLoop low high s
  | .frequencyLoop stretch pin tj allow => Sys2Proof.Machine.execFrequencyLoop stretch pin tj allow s
  | .thermalTrip => Sys2Proof.Machine.execThermalTrip s
  | .referenceMeasure signal beyond stable second => Sys2Proof.Machine.execReferenceMeasure signal beyond stable second s
  | .referenceLos r => Sys2Proof.Machine.execReferenceLos r s
  | .referenceSwitchEnd => Sys2Proof.Machine.execReferenceSwitchEnd s
  | .chargerLoop v amp => Sys2Proof.Machine.execChargerLoop v amp s
  | .chargerCcTimeout => Sys2Proof.Machine.execChargerCcTimeout s
  | .energyEstimate v => Sys2Proof.Machine.execEnergyEstimate v s
  | .capacitanceTest => Sys2Proof.Machine.execCapacitanceTest s
  | .testNow path src => Sys2Proof.Machine.execTestNow path src s
  | .capacitanceTestEnd v0 v1 v2 dt => Sys2Proof.Machine.execCapacitanceTestEnd v0 v1 v2 dt s
  | .holdupStoreSample v => Sys2Proof.Machine.execHoldupStoreSample v s
  | .coolantLoop high valid sensorBad => Sys2Proof.Machine.execCoolantLoop high valid sensorBad s
  | .valvePositionFault => Sys2Proof.Machine.execValvePositionFault s
  | .lossOfFlow => Sys2Proof.Machine.execLossOfFlow s
  | .sensorLossTrip => Sys2Proof.Machine.execSensorLossTrip s
  | .read req => Sys2Proof.Machine.execRead req s
  | .write req => Sys2Proof.Machine.execWrite req s
  | .info req => Sys2Proof.Machine.execInfo req s
  | .segment path src dst payload => Sys2Proof.Machine.execSegment path src dst payload s
  | .segAck req => Sys2Proof.Machine.execSegAck req s
  | .abort req => Sys2Proof.Machine.execAbort req s
  | .segmentTimeout src tid => Sys2Proof.Machine.execSegmentTimeout src tid s
  | .relayTimeout src tid => Sys2Proof.Machine.execRelayTimeout src tid s
  | .claim path src payload => Sys2Proof.Machine.execClaim path src payload s
  | .renew path src payload => Sys2Proof.Machine.execRenew path src payload s
  | .release path src payload => Sys2Proof.Machine.execRelease path src payload s
  | .handover path src payload => Sys2Proof.Machine.execHandover path src payload s
  | .electionClose => Sys2Proof.Machine.execElectionClose s
  | .leaseLapse => Sys2Proof.Machine.execLeaseLapse s
  | .handoverExpiry => Sys2Proof.Machine.execHandoverExpiry s
  | .heartbeat => Sys2Proof.Machine.execHeartbeat s
  | .canBusOffRecovery bus => Sys2Proof.Machine.execCanBusOffRecovery bus s
  | .syncLost => Sys2Proof.Machine.execSyncLost s
  | .tbSetWrite value => Sys2Proof.Machine.execTbSetWrite value s
  | .tbcapEdge k => Sys2Proof.Machine.execTbcapEdge k s
  | .tbCapRead who => Sys2Proof.Machine.execTbCapRead who s
  | .timerTick n => Sys2Proof.Machine.execTimerTick n s
  | .linkAction n => Sys2Proof.Machine.execLinkAction n s
  | .timerCaptureEdge k rising => Sys2Proof.Machine.execTimerCaptureEdge k rising s
  | .captureRead n who => Sys2Proof.Machine.execCaptureRead n who s
  | .compareWrite n k value => Sys2Proof.Machine.execCompareWrite n k value s
  | .countWrite n value => Sys2Proof.Machine.execCountWrite n value s
  | .prescaleWrite n value => Sys2Proof.Machine.execPrescaleWrite n value s
  | .postedWriteApply => Sys2Proof.Machine.execPostedWriteApply s
  | .lcToken path src token => Sys2Proof.Machine.execLcToken path src token s
  | .lcReq path src target => Sys2Proof.Machine.execLcReq path src target s
  | .epochWrite path src value => Sys2Proof.Machine.execEpochWrite path src value s
  | .keyRevoke path src value => Sys2Proof.Machine.execKeyRevoke path src value s
  | .claimKeyWrite path src slot key => Sys2Proof.Machine.execClaimKeyWrite path src slot key s
  | .rngBlock ok => Sys2Proof.Machine.execRngBlock ok s
  | .btbRenew who value => Sys2Proof.Machine.execBtbRenew who value s
  | .tamperDetect k present => Sys2Proof.Machine.execTamperDetect k present s
  | .tamperSample differs => Sys2Proof.Machine.execTamperSample differs s
  | .secNotifySet who secure ovens => Sys2Proof.Machine.execSecNotifySet who secure ovens s
  | .secNotifyClr who secure ovens => Sys2Proof.Machine.execSecNotifyClr who secure ovens s
  | .secRngRead who => Sys2Proof.Machine.execSecRngRead who s
  | .wipeEntry full => Sys2Proof.Machine.execWipeEntry full s
  | .wipeEnd => Sys2Proof.Machine.execWipeEnd s
  | .wideRegisterRead who addr => Sys2Proof.Machine.execWideRegisterRead who addr s
  | .registerWrite who addr wide value => Sys2Proof.Machine.execRegisterWrite who addr wide value s
  | .tierSensorLoss t => Sys2Proof.Machine.execTierSensorLoss t s
  | .laneLoss p lane => Sys2Proof.Machine.execLaneLoss p lane s
  | .repairedLinkUp p => Sys2Proof.Machine.execRepairedLinkUp p s
  | .hostLinkUp ep cfg => Sys2Proof.Machine.execHostLinkUp ep cfg s
  | .hotReset ep => Sys2Proof.Machine.execHotReset ep s
  | .canBusError bus busOff unsent => Sys2Proof.Machine.execCanBusError bus busOff unsent s
  | .alertHighTimeEnd => Sys2Proof.Machine.execAlertHighTimeEnd s
  | .tapInstructionLoad code => Sys2Proof.Machine.execTapInstructionLoad code s

end Sys2Proof.Machine
end

