-- ==== Sys2Proof/Machine/Tick.lean ====
section
/-! DEFINITION. Sys2Proof/Machine/Tick.lean: the nanosecond of the time clock that passes when no command waits (the table has
no row for it). -/
namespace Sys2Proof.Machine

/-- Table 7-3: CYCLE counts core clocks; at F MHz a nanosecond is F thousandths of one. -/
def State.cycleTick (s : State) (n : Fin 9) : State :=
  if s.seqRuns n then s.setSeq n { s.seq n with cycle := (s.seq n).cycle + s.fld ST_VF_STATUS ST_VF_STATUS.FNOW } else s

/-- The time base (R573), the timers that count the time clock (R579) and the cycle counts go on by 1 ns; then whatever waits
for an event that has come goes on. In Off nothing runs. -/
def State.timeTick (s : State) : State :=
  if s.st.base = mOff then s
  else
    let s := (List.finRange 9).foldl (fun s n => s.cycleTick n) s
    let s := s.tbTick.tmrClock
    { s with now := s.now + 1 }.settle

end Sys2Proof.Machine
end

