-- ==== Sys2Proof/Safety.lean ====
section
/-! DEFINITION. Sys2Proof/Safety.lean: what counts as a safe run, and the states that statements about one command start from. -/
namespace Sys2Proof.Machine

/-- Every command that waits is one that hardware can send. -/
def State.queueOk (s : State) : Prop := ∀ c ∈ s.pending, c.wellFormed = true

/-- Sequencer `n` runs, and stands at a Loaf boundary with nothing of its own outstanding: no Loaf in assembly or waiting; no
open shadow, branch, divide, C operation or vector instruction; and no late error, vector fault or interrupt to take. -/
structure SeqReady (s : State) (n : Fin 9) : Prop where
  runs : s.seqRuns n = true
  asm : (s.seq n).asm = []
  waiting : (s.seq n).waiting = []
  spec : (s.seq n).spec = []
  delayOf : (s.seq n).delayOf = none
  div : (s.seq n).div = none
  tail : (s.seq n).tail = none
  outs : (s.seq n).outs = []
  vec : (s.seq n).vecPending = false
  late : (s.seq n).late (s.seq n).arch.world = none
  line : s.eligibleLine n = none

/-- The next `k` words at the sequencer's pc lie in one part of program memory, hold no double-bit error, and belong to the
running world (R222, R246, R247). -/
structure FetchOk (s : State) (n : Fin 9) (k : Nat) : Prop where
  part : (s.seq n).arch.pc.toNat + 4 * k ≤ 0x40000 ∨ 0x40000 ≤ (s.seq n).arch.pc.toNat
  room : (s.seq n).arch.pc.toNat + 4 * k ≤ 0x80000
  good : ∀ i, i < k → s.pmBadAt n.val ((s.seq n).arch.pc.toNat + 4 * i) = false
  world : ∀ i, i < k → s.pmSecure n ((s.seq n).arch.pc.toNat + 4 * i) = (s.seq n).arch.world

/-- One syllable that is a Loaf of its own comes to a sequencer that stands ready for it: the stop bit is set, the reserved
bits are zero, and its word can be fetched. -/
structure LoafAt (s : State) (h : SylHdr) : Prop where
  ready : SeqReady s h.seq
  fetch : FetchOk s h.seq 1
  stop : h.stop = true
  rsv : h.rsv = false

/-- A sequencer that stands between a branch Loaf, of one syllable, and its delay Loaf (R238): nothing else is open. -/
structure DelayReady (s : State) (n : Fin 9) (br : Syl) (tgt : Option (BitVec 19)) (id : Nat) (ck : Arch) (lp : BitVec 19) : Prop where
  runs : s.seqRuns n = true
  asm : (s.seq n).asm = []
  waiting : (s.seq n).waiting = []
  div : (s.seq n).div = none
  tail : (s.seq n).tail = none
  outs : (s.seq n).outs = []
  vec : (s.seq n).vecPending = false
  pair : (s.seq n).spec = [⟨id, ck, lp, 1, .pair [br] [] (.known tgt) false⟩]
  here : (s.seq n).delayOf = some id

/-- The sequencer takes an exception: no exception is in progress, so it is no double fault (R269). -/
def State.mayTake (s : State) (n : Fin 9) : Prop := (s.seq n).arch.dfault = false ∧ (s.seq n).arch.eip = false

/-- R269, in the running world `w`: the saved registers of that world, SSR and the pc are written, the Loafs that had been
fetched are dropped, and nothing else changes. -/
structure TakesException (s t : State) (n : Fin 9) (w : Bool) (cause sub eaddr : Nat) (ret : BitVec 19) : Prop where
  saved : (t.seq n).arch.ctx w = { (s.seq n).arch.ctx w with
    era := ret.zeroExtend 64
    esr := (s.seq n).arch.ssr
    ecause := BitVec.ofNat 32 (cause + 65536 * sub)
    eaddr := BitVec.ofNat 64 eaddr }
  other : (t.seq n).arch.ctx (!w) = (s.seq n).arch.ctx (!w)
  world : (t.seq n).arch.world = w
  level : (t.seq n).arch.sup = true
  off : (t.seq n).arch.ie = false
  inside : (t.seq n).arch.eip = true
  kept : (t.seq n).arch.ssr &&& ~~~(0x17 : W32) = (s.seq n).arch.ssr &&& ~~~(0x17 : W32)
  pc : (t.seq n).arch.pc = BitVec.ofNat 19 ((if w then 0x800 else 0) + 32 * cause)
  regs : (t.seq n).arch.g = (s.seq n).arch.g ∧ (t.seq n).arch.vd = (s.seq n).arch.vd
  double : (t.seq n).arch.dra = (s.seq n).arch.dra ∧ (t.seq n).arch.dsr = (s.seq n).arch.dsr
    ∧ (t.seq n).arch.dcause = (s.seq n).arch.dcause ∧ (t.seq n).arch.dfault = (s.seq n).arch.dfault
  rest : t = s.setSeq n { s.seq n with
    arch := (t.seq n).arch
    asm := []
    waiting := []
    delayOf := none
    div := none
    tail := none
    gateEntered := false }

/-- Sequencer `n`'s Loaf has retired (R223, R257): the sequencer is left as `q`, one more Loaf is counted, and of everything
else only the overflow flag of that count may have changed. -/
structure Retired (s t : State) (n : Fin 9) (q : Seq) : Prop where
  own : t.seq n = q
  others : ∀ m, m ≠ n → t.seq m = s.seq m
  counted : t.regNat (SEQ_PERF_LOAF n.val) 2 = (s.regNat (SEQ_PERF_LOAF n.val) 2 + 1) % 2 ^ 64
  regs : ∀ a, a ≠ SEQ_PERF_LOAF n.val → a ≠ SEQ_PERF_LOAF n.val + 4 → a ≠ SEQ_STATUS n.val → t.reg a = s.reg a
  rest : t = { s with seqs := t.seqs, regs := t.regs, freeCtr := t.freeCtr }

/-- The A and B operations of form R at a width (Table 7-5, R227), each with the value of gD; `slotB` rows stand in a B
syllable. -/
def scalarOps (w : Nat) : List ((SylHdr → Fin 64 → Fin 64 → Fin 64 → Bool → Instr) × (BitVec w → BitVec w → BitVec w)) :=
  [(.add, fun x y => x + y), (.sub, fun x y => x - y), (.and, fun x y => x &&& y), (.or, fun x y => x ||| y),
   (.xor, fun x y => x ^^^ y), (.andn, fun x y => x &&& ~~~y), (.shl, fun x y => x <<< (y.toNat % w)),
   (.shr, fun x y => x >>> (y.toNat % w)), (.sra, fun x y => x.sshiftRight (y.toNat % w)),
   (.rol, fun x y => x.rotateLeft (y.toNat % w)), (.min, fun x y => if x.sle y then x else y),
   (.max, fun x y => if y.sle x then x else y), (.minu, fun x y => if x ≤ y then x else y),
   (.maxu, fun x y => if x ≤ y then y else x), (.slt, fun x y => if x.slt y then 1 else 0),
   (.sltu, fun x y => if x < y then 1 else 0), (.ceq, fun x y => if x = y then 1 else 0)]

/-- A memory form of Table 7-7 as a command: its header, its register D, its address register A, its segment and IMM5. -/
abbrev MemForm := SylHdr → Fin 64 → Fin 64 → Fin 64 → BitVec 5 → Instr

/-- The loads of Table 7-7 with the bytes each one moves. -/
def loadForms : List (MemForm × MemOp × Nat) :=
  [(.lb, .lb, 1), (.lbu, .lbu, 1), (.lh, .lh, 2), (.lhu, .lhu, 2), (.lw, .lw, 4), (.lwu, .lwu, 4), (.ld, .ld, 8),
   (.sgld, .sgld, 16), (.vdld, .vdld, 32)]

/-- The scalar atomics. -/
def atomicForms : List (MemForm × MemOp × Nat) :=
  [(.aaddW, .aaddW, 4), (.aaddD, .aaddD, 8), (.aswpW, .aswpW, 4), (.aswpD, .aswpD, 8), (.acasD, .acasD, 8)]

/-- The stores, with what each one stores from register D. -/
def storeForms : List (MemForm × MemOp × Nat × (Arch → Fin 64 → Nat)) :=
  [(.sb, .sb, 1, fun a d => (a.reg d).toNat), (.sh, .sh, 2, fun a d => (a.reg d).toNat), (.sw, .sw, 4, fun a d => (a.reg d).toNat),
   (.sd, .sd, 8, fun a d => (a.reg d).toNat), (.sgst, .sgst, 16, fun a d => (a.seg a.world d).toNat),
   (.vdst, .vdst, 32, fun a d => (a.vd[Fin.ofNat 32 d.val]).toNat)]

/-- The vector instructions that work on elements, as commands, each with its opcode. -/
def vecForms : List ((VSyl → Instr) × VOpc) :=
  [(.vadd, .vadd), (.vsub, .vsub), (.vaddc, .vaddc), (.vsubb, .vsubb), (.vmin, .vmin), (.vmax, .vmax), (.vabs, .vabs),
   (.vneg, .vneg), (.vcmp, .vcmp), (.vsel, .vsel), (.vcvt, .vcvt), (.vcopy, .vcopy), (.vfill, .vfill), (.viota, .viota),
   (.vmul, .vmul), (.vmulh, .vmulh), (.vfma, .vfma), (.vfms, .vfms), (.vfnma, .vfnma), (.vdadd, .vdadd), (.vdsub, .vdsub),
   (.vdcmp, .vdcmp), (.vdneg, .vdneg), (.vdcvt, .vdcvt), (.vdshift, .vdshift), (.vdchk, .vdchk), (.vand, .vand),
   (.vor, .vor), (.vxor, .vxor), (.vandn, .vandn), (.vnot, .vnot)] ++
  [(.vshl, .vshl), (.vshr, .vshr), (.vsra, .vsra), (.vrol, .vrol), (.vpopc, .vpopc), (.vclz, .vclz), (.vdiv, .vdiv),
   (.vrem, .vrem), (.vsqrt, .vsqrt), (.vcprs, .vcprs), (.vexpd, .vexpd), (.vmstep, .vmstep), (.vrsum, .vrsum),
   (.vrmin, .vrmin), (.vrmax, .vrmax), (.vrand, .vrand), (.vror, .vror), (.vrxor, .vrxor), (.vscan, .vscan),
   (.vcount, .vcount), (.vaese, .vaese), (.vaesd, .vaesd), (.vghash, .vghash), (.vsha256, .vsha256), (.vcrc32c, .vcrc32c),
   (.vaadd, .vaadd), (.vamin, .vamin), (.vamax, .vamax), (.vaor, .vaor), (.vaand, .vaand), (.vafadd, .vafadd)]

/-- The integer opcodes of the ADD and MUL classes whose result R75 fits to the type of D, each with its exact result from A, B
and C. -/
def intForms : List (VOpc × (Int → Int → Int → Int)) :=
  [(.vadd, fun a b _ => a + b), (.vsub, fun a b _ => a - b), (.vabs, fun a _ _ => a.natAbs), (.vneg, fun a _ _ => -a),
   (.vmul, fun a b _ => a * b), (.vfma, fun a b c => a * b + c), (.vfms, fun a b c => a * b - c), (.vfnma, fun a b c => c - a * b)]

/-- Nothing waits that the end of an event would let go on: at the fabric, at the chain, at the host ports, at a sequencer,
or for a repair to end. -/
structure Still (s : State) : Prop where
  fab : s.fab.waiting = []
  chain : s.ch.wakeQ = []
  inbox : s.ch.inbox = []
  host : s.hp.held = []
  seqs : ∀ n, (s.seq n).waiting = [] ∧ (s.seq n).tail = none ∧ (s.seq n).spec = []
  repair : ∀ r ∈ s.fj.running, r.action ≠ 3

/-- A sequencer with no Loaf of its own to go on with. -/
structure SeqIdle (s : State) (n : Fin 9) : Prop where
  waiting : (s.seq n).waiting = []
  tail : (s.seq n).tail = none
  spec : (s.seq n).spec = []

/-- A control-space request that goes straight to its block: no other waits, the master may send it, the mode and the unit let
it pass (Table 10-13), and its words are listed (R611). -/
structure CtlGo (s : State) (m : Master) (a size : Nat) : Prop where
  free : s.fab.waiting = []
  who : m.isSeq = true ∨ m.id = 13
  gate : s.ctlGate m a = .go
  wide : size = 4 ∨ size = 8
  aligned : a % size = 0
  listed : regListed a size = true

/-- An event that is counted and recorded and does nothing beyond it: it stays below FATAL, its source does not trip, no reaction
is under way, and the record queue has room (R446 to R450, R459). -/
structure EventPlain (s : State) (k sev : Nat) : Prop where
  runs : s.fjRuns = true
  known : srcKnown k = true
  low : max sev (s.fld (FJ_SRC_CFG k) FJ_SRC_CFG.SEV) < svFatal
  noTrip : s.fld (FJ_SRC_CFG k) FJ_SRC_CFG.THRESH = 0
  calm : s.fj.reactions = []
  noFatal : s.fj.fatal = none
  kept : s.jLost = false
  room : (s.fj.jq.filter (fun r => decide (recKind r ≠ kFlush))).length < 64

/-- R446: the event of source `k` is counted; apart from the Fault and Journal Unit's own registers and state, the counts and
frames that report it, and the next SEQ, nothing has changed. -/
structure EventRaised (s t : State) (k : Nat) : Prop where
  count : t.fld (FJ_SRC_STAT k) FJ_SRC_STAT.EVENTS = satInc (2 ^ FJ_SRC_STAT.EVENTS.2 - 1) (s.fld (FJ_SRC_STAT k) FJ_SRC_STAT.EVENTS)
  latched : t.flag (FJ_SRC_STAT k) FJ_SRC_STAT.LATCHED = true
  outside : ∀ a, a < 0xC00000 ∨ 0xC10000 ≤ a → t.reg a = s.reg a
  calm : t.fj.reactions = []
  live : t.liveQueues = s.liveQueues
  rest : t = { s with
    regs := t.regs
    fj := t.fj
    st := { s.st with
      dict := t.st.dict
      canTx := t.st.canTx
      emcySent := t.st.emcySent }
    nv := { s.nv with jnext := t.nv.jnext } }

/-- Registers at the addresses `as` may have changed, and nothing else. -/
structure RegsOnly (s t : State) (as : List Nat) : Prop where
  regs : ∀ a, a ∉ as → t.reg a = s.reg a
  rest : t = { s with regs := t.regs }

/-! ### The chain -/

/-- R396: a message for device `d` leaves by port `b`, off the ring, which is usable and no dateline. -/
structure ChainTo (s : State) (d b : Nat) : Prop where
  away : d ≠ s.chId
  valid : s.flag (CH_ROUTE d) CH_ROUTE.VALID = true
  direct : s.onRing d = false
  port : s.fld (CH_ROUTE d) CH_ROUTE.PORT = b
  usable : s.chUsable b = true
  plain : s.flag (CH_CTL b) CH_CTL.DATELINE = false

/-- R391, R399: a well-formed message for this device arrives at a usable port, and no other waits. -/
structure ChainIn (s : State) (p : Nat) (m : ChMsg) : Prop where
  wellFormed : m.ok = true
  wired : s.flag (CH_STATUS p) CH_STATUS.WIRING = false
  known : s.chValid = true
  running : s.st.base = 6 ∧ s.st.wipe = none ∧ s.st.holdup = false
  here : m.dst = s.chId
  alone : s.ch.inbox = []

/-- Message `m` put last in the queue of port `b`. -/
def State.withQueued (s : State) (b : Nat) (m : ChMsg) : State :=
  s.setChPort b { s.chPort b with queue := (s.chPort b).queue ++ [m] }

/-- R393: a response of this device to request `m`, as it leaves. -/
def State.chReply (s : State) (m : ChMsg) (ty bytes stat : Nat) (data : List Byte) : ChMsg :=
  ((ChMsg.make ty 1 m.src s.chId m.tag 0 0 0 bytes 0 stat false data).set 24 12 s.chId).set 48 4 s.chTtl

/-! ### Modes -/

/-- Table 20-2: what the blocks of the base die hold beside their registers is at its reset value. -/
structure BaseCold (t : State) : Prop where
  seqs : ∀ n, t.seq n = Seq.reset
  vm : t.vm = VMem.reset
  stores : t.ls = [] ∧ t.lsBad = [] ∧ t.lsWipes = [] ∧ t.marches = []
  fab : t.fab = Fabric.reset
  qe : t.qe = QueueEng.reset
  hp : t.hp = HostPorts.reset
  ch : t.ch = ChainState.reset
  bm : t.bm = Vector.replicate 32 BmChan.reset
  pm : t.pm = [] ∧ t.pmBad = [] ∧ t.pmImg = []

/-- R485: Starter-only has been entered; `code` is how the run ended (R508). -/
structure StarterOnly (t : State) (code : Nat) : Prop where
  cold : BaseCold t
  regs : ∀ a, a < 0xC00000 ∨ 0x1000000 ≤ a → t.reg a = regReset a
  base : t.st.base = mStarter
  named : t.mode = mStarter
  overlays : ∀ f ∈ [ST_MODE.MOULT, ST_MODE.TRANSIT, ST_MODE.PAIRED, ST_MODE.ADMIT, ST_MODE.DOZE_OVENS], t.fld ST_MODE f = 0
  none : t.st.holdup = false ∧ t.st.wipe = none ∧ t.st.quiesce = none ∧ t.st.wake = false
  ended : t.nv.lastEnd = code

/-- R495, R497, R498: a start has begun and stands at its first stage, with the image that BOOT_TRIES and PREFERRED choose. -/
structure StartBegun (s t : State) : Prop where
  cold : BaseCold t
  regs : s.nv.saved = [] → ∀ a, a < 0xC00000 ∨ 0x1000000 ≤ a → t.reg a = regReset a
  base : t.st.base = mProof
  named : t.mode = mProof
  stage : t.fld ST_BOOT ST_BOOT.STAGE = 0x10 ∧ t.flag ST_BOOT ST_BOOT.TADPOLE = false ∧ t.flag ST_BOOT ST_BOOT.FALLBACK = false
  image : t.fld ST_BOOT ST_BOOT.IMAGE = if s.bootTries ≤ 1 then s.bootObj obPref % 2 else 1 - s.bootObj obPref % 2
  tries : t.bootTries = min 3 (s.bootTries + 1)
  counted : t.bootObj obStarts = (s.bootObj obStarts + 1) % 2 ^ 32

/-- R489: who may ask for a mode: the owner, or Secure supervisor level. -/
def State.mayAsk (s : State) : ModeVia → Prop
  | .dict path src => s.isOwner src.toNat path.val = true
  | .reg m => m.ok = true ∧ m.secSup = true

end Sys2Proof.Machine

namespace Sys2Proof

/-- The syllable that a scalar or vector command brings: its sequencer, itself, and its stop bit. -/
def Instr.syl : Instr → Option (Fin 9 × Syl × Bool)
  | .add h d a b w => some (h.seq, .alu .add h.slotB h.rsv w d a b, h.stop)
  | .sub h d a b w => some (h.seq, .alu .sub h.slotB h.rsv w d a b, h.stop)
  | .and h d a b w => some (h.seq, .alu .and h.slotB h.rsv w d a b, h.stop)
  | .or h d a b w => some (h.seq, .alu .or h.slotB h.rsv w d a b, h.stop)
  | .xor h d a b w => some (h.seq, .alu .xor h.slotB h.rsv w d a b, h.stop)
  | .andn h d a b w => some (h.seq, .alu .andn h.slotB h.rsv w d a b, h.stop)
  | .shl h d a b w => some (h.seq, .alu .shl h.slotB h.rsv w d a b, h.stop)
  | .shr h d a b w => some (h.seq, .alu .shr h.slotB h.rsv w d a b, h.stop)
  | .sra h d a b w => some (h.seq, .alu .sra h.slotB h.rsv w d a b, h.stop)
  | .rol h d a b w => some (h.seq, .alu .rol h.slotB h.rsv w d a b, h.stop)
  | .min h d a b w => some (h.seq, .alu .min h.slotB h.rsv w d a b, h.stop)
  | .max h d a b w => some (h.seq, .alu .max h.slotB h.rsv w d a b, h.stop)
  | .minu h d a b w => some (h.seq, .alu .minu h.slotB h.rsv w d a b, h.stop)
  | .maxu h d a b w => some (h.seq, .alu .maxu h.slotB h.rsv w d a b, h.stop)
  | .slt h d a b w => some (h.seq, .alu .slt h.slotB h.rsv w d a b, h.stop)
  | .sltu h d a b w => some (h.seq, .alu .sltu h.slotB h.rsv w d a b, h.stop)
  | .ceq h d a b w => some (h.seq, .alu .ceq h.slotB h.rsv w d a b, h.stop)
  | .clz h d a b w => some (h.seq, .alu .clz h.slotB h.rsv w d a b, h.stop)
  | .popc h d a b w => some (h.seq, .alu .popc h.slotB h.rsv w d a b, h.stop)
  | .addi h d a imm => some (h.seq, .alui .addi h.slotB h.rsv d a imm, h.stop)
  | .andi h d a imm => some (h.seq, .alui .andi h.slotB h.rsv d a imm, h.stop)
  | .ori h d a imm => some (h.seq, .alui .ori h.slotB h.rsv d a imm, h.stop)
  | .xori h d a imm => some (h.seq, .alui .xori h.slotB h.rsv d a imm, h.stop)
  | .shli h d a imm => some (h.seq, .alui .shli h.slotB h.rsv d a imm, h.stop)
  | .shri h d a imm => some (h.seq, .alui .shri h.slotB h.rsv d a imm, h.stop)
  | .srai h d a imm => some (h.seq, .alui .srai h.slotB h.rsv d a imm, h.stop)
  | .slti h d a imm => some (h.seq, .alui .slti h.slotB h.rsv d a imm, h.stop)
  | .ceqi h d a imm => some (h.seq, .alui .ceqi h.slotB h.rsv d a imm, h.stop)
  | .movi h d imm => some (h.seq, .movi h.slotB h.rsv d imm, h.stop)
  | .movk h q d imm => some (h.seq, .movk h.slotB h.rsv q d imm, h.stop)
  | .mul h d a b w => some (h.seq, .alu .mul h.slotB h.rsv w d a b, h.stop)
  | .mulhs h d a b w => some (h.seq, .alu .mulhs h.slotB h.rsv w d a b, h.stop)
  | .mulhu h d a b w => some (h.seq, .alu .mulhu h.slotB h.rsv w d a b, h.stop)
  | .divs h d a b w => some (h.seq, .alu .divs h.slotB h.rsv w d a b, h.stop)
  | .divu h d a b w => some (h.seq, .alu .divu h.slotB h.rsv w d a b, h.stop)
  | .rems h d a b w => some (h.seq, .alu .rems h.slotB h.rsv w d a b, h.stop)
  | .remu h d a b w => some (h.seq, .alu .remu h.slotB h.rsv w d a b, h.stop)
  | .lb h d a sg imm => some (h.seq, .mem .lb h.rsv d a sg imm, h.stop)
  | .lbu h d a sg imm => some (h.seq, .mem .lbu h.rsv d a sg imm, h.stop)
  | .lh h d a sg imm => some (h.seq, .mem .lh h.rsv d a sg imm, h.stop)
  | .lhu h d a sg imm => some (h.seq, .mem .lhu h.rsv d a sg imm, h.stop)
  | .lw h d a sg imm => some (h.seq, .mem .lw h.rsv d a sg imm, h.stop)
  | .lwu h d a sg imm => some (h.seq, .mem .lwu h.rsv d a sg imm, h.stop)
  | .ld h d a sg imm => some (h.seq, .mem .ld h.rsv d a sg imm, h.stop)
  | .sb h d a sg imm => some (h.seq, .mem .sb h.rsv d a sg imm, h.stop)
  | .sh h d a sg imm => some (h.seq, .mem .sh h.rsv d a sg imm, h.stop)
  | .sw h d a sg imm => some (h.seq, .mem .sw h.rsv d a sg imm, h.stop)
  | .sd h d a sg imm => some (h.seq, .mem .sd h.rsv d a sg imm, h.stop)
  | .aaddW h d a sg imm => some (h.seq, .mem .aaddW h.rsv d a sg imm, h.stop)
  | .aaddD h d a sg imm => some (h.seq, .mem .aaddD h.rsv d a sg imm, h.stop)
  | .aswpW h d a sg imm => some (h.seq, .mem .aswpW h.rsv d a sg imm, h.stop)
  | .aswpD h d a sg imm => some (h.seq, .mem .aswpD h.rsv d a sg imm, h.stop)
  | .acasD h d a sg imm => some (h.seq, .mem .acasD h.rsv d a sg imm, h.stop)
  | .sgld h d a sg imm => some (h.seq, .mem .sgld h.rsv d a sg imm, h.stop)
  | .sgst h d a sg imm => some (h.seq, .mem .sgst h.rsv d a sg imm, h.stop)
  | .vdld h d a sg imm => some (h.seq, .mem .vdld h.rsv d a sg imm, h.stop)
  | .vdst h d a sg imm => some (h.seq, .mem .vdst h.rsv d a sg imm, h.stop)
  | .vdset h d a imm => some (h.seq, .vdset h.rsv d a imm, h.stop)
  | .vdadv h d a => some (h.seq, .vdset h.rsv d a 4, h.stop)
  | .vdget h d sg imm => some (h.seq, .vdget h.rsv d sg imm, h.stop)
  | .mfs h d sr => some (h.seq, .mfs h.rsv d sr, h.stop)
  | .mts h a sr => some (h.seq, .mts h.rsv a sr, h.stop)
  | .pld h d a imm => some (h.seq, .pld h.rsv d a imm, h.stop)
  | .pst h d a imm => some (h.seq, .pst h.rsv d a imm, h.stop)
  | .fenceSl h => some (h.seq, .fence h.rsv, h.stop)
  | .beq h annul hint a disp => some (h.seq, .br .eq h.rsv annul hint a disp, h.stop)
  | .bne h annul hint a disp => some (h.seq, .br .ne h.rsv annul hint a disp, h.stop)
  | .blt h annul hint a disp => some (h.seq, .br .lt h.rsv annul hint a disp, h.stop)
  | .bge h annul hint a disp => some (h.seq, .br .ge h.rsv annul hint a disp, h.stop)
  | .ble h annul hint a disp => some (h.seq, .br .le h.rsv annul hint a disp, h.stop)
  | .bgt h annul hint a disp => some (h.seq, .br .gt h.rsv annul hint a disp, h.stop)
  | .j h annul disp => some (h.seq, .jump h.rsv annul disp, h.stop)
  | .call h annul disp => some (h.seq, .call h.rsv annul disp, h.stop)
  | .jr h annul a => some (h.seq, .jr h.rsv annul a, h.stop)
  | .callr h annul a => some (h.seq, .callr h.rsv annul a, h.stop)
  | .ret h annul a => some (h.seq, .ret h.rsv annul a, h.stop)
  | .gate h code => some (h.seq, .gate h.rsv code, h.stop)
  | .syscall h code => some (h.seq, .syscall h.rsv code, h.stop)
  | .rfe h code => some (h.seq, .rfe h.rsv code, h.stop)
  | .brk h code => some (h.seq, .brk h.rsv code, h.stop)
  | .iflush h annul disp => some (h.seq, .iflush h.rsv annul disp, h.stop)
  | .vadd v => some (v.seq, .vec .vadd v, v.stop)
  | .vsub v => some (v.seq, .vec .vsub v, v.stop)
  | .vaddc v => some (v.seq, .vec .vaddc v, v.stop)
  | .vsubb v => some (v.seq, .vec .vsubb v, v.stop)
  | .vmin v => some (v.seq, .vec .vmin v, v.stop)
  | .vmax v => some (v.seq, .vec .vmax v, v.stop)
  | .vabs v => some (v.seq, .vec .vabs v, v.stop)
  | .vneg v => some (v.seq, .vec .vneg v, v.stop)
  | .vcmp v => some (v.seq, .vec .vcmp v, v.stop)
  | .vsel v => some (v.seq, .vec .vsel v, v.stop)
  | .vcvt v => some (v.seq, .vec .vcvt v, v.stop)
  | .vcopy v => some (v.seq, .vec .vcopy v, v.stop)
  | .vfill v => some (v.seq, .vec .vfill v, v.stop)
  | .viota v => some (v.seq, .vec .viota v, v.stop)
  | .vmul v => some (v.seq, .vec .vmul v, v.stop)
  | .vmulh v => some (v.seq, .vec .vmulh v, v.stop)
  | .vfma v => some (v.seq, .vec .vfma v, v.stop)
  | .vfms v => some (v.seq, .vec .vfms v, v.stop)
  | .vfnma v => some (v.seq, .vec .vfnma v, v.stop)
  | .vdadd v => some (v.seq, .vec .vdadd v, v.stop)
  | .vdsub v => some (v.seq, .vec .vdsub v, v.stop)
  | .vdcmp v => some (v.seq, .vec .vdcmp v, v.stop)
  | .vdneg v => some (v.seq, .vec .vdneg v, v.stop)
  | .vdcvt v => some (v.seq, .vec .vdcvt v, v.stop)
  | .vdshift v => some (v.seq, .vec .vdshift v, v.stop)
  | .vdchk v => some (v.seq, .vec .vdchk v, v.stop)
  | .vand v => some (v.seq, .vec .vand v, v.stop)
  | .vor v => some (v.seq, .vec .vor v, v.stop)
  | .vxor v => some (v.seq, .vec .vxor v, v.stop)
  | .vandn v => some (v.seq, .vec .vandn v, v.stop)
  | .vnot v => some (v.seq, .vec .vnot v, v.stop)
  | .vshl v => some (v.seq, .vec .vshl v, v.stop)
  | .vshr v => some (v.seq, .vec .vshr v, v.stop)
  | .vsra v => some (v.seq, .vec .vsra v, v.stop)
  | .vrol v => some (v.seq, .vec .vrol v, v.stop)
  | .vpopc v => some (v.seq, .vec .vpopc v, v.stop)
  | .vclz v => some (v.seq, .vec .vclz v, v.stop)
  | .vdiv v => some (v.seq, .vec .vdiv v, v.stop)
  | .vrem v => some (v.seq, .vec .vrem v, v.stop)
  | .vsqrt v => some (v.seq, .vec .vsqrt v, v.stop)
  | .vcprs v => some (v.seq, .vec .vcprs v, v.stop)
  | .vexpd v => some (v.seq, .vec .vexpd v, v.stop)
  | .vmstep v => some (v.seq, .vec .vmstep v, v.stop)
  | .vrsum v => some (v.seq, .vec .vrsum v, v.stop)
  | .vrmin v => some (v.seq, .vec .vrmin v, v.stop)
  | .vrmax v => some (v.seq, .vec .vrmax v, v.stop)
  | .vrand v => some (v.seq, .vec .vrand v, v.stop)
  | .vror v => some (v.seq, .vec .vror v, v.stop)
  | .vrxor v => some (v.seq, .vec .vrxor v, v.stop)
  | .vscan v => some (v.seq, .vec .vscan v, v.stop)
  | .vcount v => some (v.seq, .vec .vcount v, v.stop)
  | .vaese v => some (v.seq, .vec .vaese v, v.stop)
  | .vaesd v => some (v.seq, .vec .vaesd v, v.stop)
  | .vghash v => some (v.seq, .vec .vghash v, v.stop)
  | .vsha256 v => some (v.seq, .vec .vsha256 v, v.stop)
  | .vcrc32c v => some (v.seq, .vec .vcrc32c v, v.stop)
  | .vaadd v => some (v.seq, .vec .vaadd v, v.stop)
  | .vamin v => some (v.seq, .vec .vamin v, v.stop)
  | .vamax v => some (v.seq, .vec .vamax v, v.stop)
  | .vaor v => some (v.seq, .vec .vaor v, v.stop)
  | .vaand v => some (v.seq, .vec .vaand v, v.stop)
  | .vafadd v => some (v.seq, .vec .vafadd v, v.stop)
  | .vsync v => some (v.seq, .vec .vsync v, v.stop)
  | .vrestartResume v => some (v.seq, .vec .vrestart { v with mod := v.mod &&& 14 }, v.stop)
  | .vrestartDiscard v => some (v.seq, .vec .vrestart { v with mod := v.mod ||| 1 }, v.stop)
  | .recipe k v => some (v.seq, .vec (.recipe k) v, v.stop)
  | _ => none

end Sys2Proof
end

