-- ==== Sys2Proof/Certificates/Slice0/Obligations.lean ====
section
/-! DEFINITION. Sys2Proof/Certificates/Slice0/Obligations.lean: the statements for the provers, most of them from the spec's
numbered rules; OBLIGATIONS.json says of each which. -/
open Sys2Proof Sys2Proof.Machine

/-- A step runs the command at the front of the queue: opcode_table.json. -/
def Obligations.StepRunsFrontCommand : Prop :=
  ∀ (c : Instr) (rest : List Instr) (s : State), step { s with pending := c :: rest } = exec c { s with pending := rest }

/-- On an empty queue a step lets one nanosecond pass (the model's choice, log entry 2): 18_timers.md; 07_kinego_sequencer.md.
-/
def Obligations.IdleStepTicks : Prop :=
  ∀ s : State, s.pending = [] →
    (s.st.base = mOff → step s = .next s) ∧
    (s.st.base ≠ mOff → Still s → (∀ n : Fin 16, s.flag (TMR_CTL n) TMR_CTL.EN = false) → s.reg TB_ADJ = 0 →
      s.st.tbFrac.natAbs < 1000000000 →
      ∃ t, step s = .next t ∧ (∀ n, t.seq n = if s.seqRuns n = true then
          { s.seq n with cycle := (s.seq n).cycle + s.fld ST_VF_STATUS ST_VF_STATUS.FNOW } else s.seq n) ∧
        t = { s with now := s.now + 1, seqs := t.seqs, st := { s.st with tb := (s.st.tb + 1) % 2 ^ 64 } })

/-- What a sequencer and its records hold at reset, and the registers: R59. -/
def Obligations.ResetHolds : Prop :=
  ∀ n : Fin 9,
    let q := State.reset.seq n
    let a := q.arch
    (∀ i : Fin 32, a.vd[i] = 0) ∧ (∀ (w : Bool) (i : Fin 64), a.seg w i = 0) ∧
    q.vrec.valid = false ∧ q.vrec.pending = false ∧ q.vrec.first = none ∧ q.vrec.entries = [] ∧ State.reset.reg (SEQ_VSTAT n.val) = 0 ∧
    (∀ i : Fin 64, a.reg i = 0) ∧ a.ssr = 3 ∧ a.dra = 0 ∧ a.dsr = 0 ∧ a.dcause = 0 ∧ q.cycle = 0 ∧ a.pc = 0x800 ∧
    (∀ w : Bool, let c := a.ctx w
      c.era = 0 ∧ c.esr = 0 ∧ c.ecause = 0 ∧ c.eaddr = 0 ∧ c.rsTop = 0 ∧ c.rsDepth = 0 ∧ ∀ i : Fin 16, c.rse[i] = 0) ∧
    q.btb = [] ∧ q.sb = [] ∧ ∀ x : Nat, State.reset.reg x = regReset x

/-- The queue invariant holds at reset: opcode_table.json. -/
def Obligations.ResetQueueOk : Prop := State.reset.queueOk

/-- A command completes if and only if its operands are well formed: opcode_table.json; 20_register_behaviour.md. -/
def Obligations.CommandsComplete : Prop :=
  ∀ (c : Instr) (s : State),
    (c.wellFormed = true → ∃ t, exec c s = .next t ∧ t.pending = s.pending) ∧
    (c.wellFormed = false → exec c s = .fault .illFormed)

/-- The machine never stops and serves its queue first in, first out: opcode_table.json; 20_register_behaviour.md. -/
def Obligations.RunsForever : Prop :=
  ∀ s : State, s.queueOk → ∃ t, step s = .next t ∧ t.pending = s.pending.tail ∧ t.queueOk

/-- A syllable without a stop bit joins the Loaf of its sequencer: 07_kinego_sequencer.md, Loafs (R221). -/
def Obligations.SyllableJoinsLoaf : Prop :=
  ∀ (s : State) (i : Instr) (n : Fin 9) (y : Syl), i.syl = some (n, y, false) →
    (s.seqRuns n = true → (∀ z ∈ (s.seq n).asm, z.slot ≠ y.slot) →
      exec i s = .next (s.setSeq n { s.seq n with asm := (s.seq n).asm ++ [y] })) ∧
    (s.seqRuns n = false → exec i s = .next s)

/-- The register forms of the A and B operations, at 64 and 32 bits: 07_kinego_sequencer.md, R227, R228, Table 7-5. -/
def Obligations.RegisterFormOperations : Prop :=
  ∀ (s : State) (h : SylHdr) (d a b : Fin 64), LoafAt s h →
    let q := s.seq h.seq
    let x := q.arch.reg a
    let y := q.arch.reg b
    (∀ p ∈ scalarOps 64, ∃ t, exec (p.1 h d a b false) s = .next t ∧
      Retired s t h.seq { q with arch := { q.arch.setReg d (p.2 x y) with pc := q.arch.pc + 4 }, gateEntered := false }) ∧
    (∀ p ∈ scalarOps 32, ∃ t, exec (p.1 h d a b true) s = .next t ∧
      Retired s t h.seq { q with arch := { q.arch.setReg d ((p.2 (x.truncate 32) (y.truncate 32)).signExtend 64) with
                                             pc := q.arch.pc + 4 }, gateEntered := false })

/-- CLZ, POPC, the products, and the immediate forms: 07_kinego_sequencer.md, R227, R228, Table 7-5. -/
def Obligations.CountsProductsImmediates : Prop :=
  (∀ (s : State) (h : SylHdr) (d a b : Fin 64) (w : Bool), LoafAt s h →
      let q := s.seq h.seq
      let x := q.arch.reg a
      let y := q.arch.reg b
      let sets := fun (t : State) (v : Word) =>
        Retired s t h.seq { q with arch := { q.arch.setReg d v with pc := q.arch.pc + 4 }, gateEntered := false }
      let k := if w then 32 else 64
      (∃ t r, exec (.clz h d a 0 w) s = .next t ∧ sets t (BitVec.ofNat 64 r) ∧ r ≤ k ∧ x.toNat % 2 ^ k < 2 ^ (k - r) ∧
        (r < k → 2 ^ (k - 1 - r) ≤ x.toNat % 2 ^ k)) ∧
      (∃ t, exec (.popc h d a 0 w) s = .next t ∧ sets t (BitVec.ofNat 64 ((List.range k).countP (fun i => x.getLsbD i)))) ∧
      (h.slotB = true →
        (∃ t, exec (.mul h d a b false) s = .next t ∧ sets t (x * y)) ∧
        (∃ t, exec (.mul h d a b true) s = .next t ∧ sets t ((x.truncate 32 * y.truncate 32 : W32).signExtend 64)) ∧
        (∃ t, exec (.mulhs h d a b false) s = .next t ∧
          sets t (((x.signExtend 128 * y.signExtend 128) >>> 64).truncate 64)) ∧
        (∃ t, exec (.mulhu h d a b false) s = .next t ∧
          sets t (((x.zeroExtend 128 * y.zeroExtend 128) >>> 64).truncate 64)))) ∧
  (∀ (s : State) (h : SylHdr) (d a : Fin 64) (imm : BitVec 10), LoafAt s h →
      let q := s.seq h.seq
      let x := q.arch.reg a
      let i : Word := imm.signExtend 64
      let sets := fun (c : Instr) (v : Word) => ∃ t, exec c s = .next t ∧
        Retired s t h.seq { q with arch := { q.arch.setReg d v with pc := q.arch.pc + 4 }, gateEntered := false }
      sets (.addi h d a imm) (x + i) ∧ sets (.andi h d a imm) (x &&& i) ∧ sets (.ori h d a imm) (x ||| i) ∧
      sets (.xori h d a imm) (x ^^^ i) ∧ sets (.slti h d a imm) (if x.slt i then 1 else 0) ∧
      sets (.ceqi h d a imm) (if x = i then 1 else 0) ∧
      (imm.toNat < 64 → sets (.shli h d a imm) (x <<< imm.toNat) ∧ sets (.shri h d a imm) (x >>> imm.toNat) ∧
        sets (.srai h d a imm) (x.sshiftRight imm.toNat)) ∧
      ∀ (j : BitVec 16), sets (.movi h d j) (j.signExtend 64) ∧
        ∀ (p : Fin 4), ∃ v : Word, sets (.movk h p d j) v ∧
          ∀ k : Fin 64, v.getLsbD k = if k.val / 16 = p.val then j.getLsbD (k.val % 16) else (q.arch.reg d).getLsbD k)

/-- An illegal syllable takes ILLEGAL_LOAF before its Loaf executes: 07_kinego_sequencer.md, R222;
08_worlds_and_exceptions.md, R266, R269. -/
def Obligations.IllegalLoafTaken : Prop :=
  ∀ (s : State) (i : Instr) (n : Fin 9) (y : Syl), i.syl = some (n, y, true) → SeqReady s n → FetchOk s n (y.size / 4) →
    s.mayTake n → y.bad = true →
    ∃ t, exec i s = .next t ∧ TakesException s t n (s.seq n).arch.world 2 0 0 (s.seq n).arch.pc

/-- A divide takes its Loaf's result when it is done: 07_kinego_sequencer.md, R227 to R230. -/
def Obligations.DividesFinishLater : Prop :=
  ∀ (s : State) (h : SylHdr) (d a b : Fin 64), LoafAt s h → h.slotB = true →
    let q := s.seq h.seq
    let x := q.arch.reg a
    let y := q.arch.reg b
    let divides := fun (c : Instr) (v : Word) => ∃ t u, exec c s = .next t ∧
      t = s.setSeq h.seq { q with div := (t.seq h.seq).div } ∧ (t.seq h.seq).div.isSome ∧
      exec (.divideDone h.seq) t = .next u ∧
      Retired s u h.seq { q with arch := { q.arch.setReg d v with pc := q.arch.pc + 4 }, gateEntered := false }
    (y ≠ 0 → divides (.divs h d a b false) (x.sdiv y) ∧ divides (.divu h d a b false) (x / y) ∧
      divides (.rems h d a b false) (x.srem y) ∧ divides (.remu h d a b false) (x % y)) ∧
    (let x' : W32 := x.truncate 32
     let y' : W32 := y.truncate 32
     y' ≠ 0 → divides (.divs h d a b true) ((x'.sdiv y').signExtend 64) ∧ divides (.divu h d a b true) ((x' / y').signExtend 64) ∧
      divides (.rems h d a b true) ((x'.srem y').signExtend 64) ∧ divides (.remu h d a b true) ((x' % y').signExtend 64))

/-- Division by zero traps, and the smallest value by minus one gives the smallest value: R229. -/
def Obligations.DivideCorners : Prop :=
  ∀ (s : State) (h : SylHdr) (d a b : Fin 64) (w : Bool), LoafAt s h → h.slotB = true →
    let q := s.seq h.seq
    let k := if w then 32 else 64
    ((q.arch.reg b).toNat % 2 ^ k = 0 → s.mayTake h.seq →
      ∀ c ∈ [Instr.divs h d a b w, .divu h d a b w, .rems h d a b w, .remu h d a b w],
        ∃ t, exec c s = .next t ∧ TakesException s t h.seq q.arch.world 11 0 0 q.arch.pc) ∧
    ((q.arch.reg a).toNat % 2 ^ k = 2 ^ (k - 1) → (q.arch.reg b).toNat % 2 ^ k = 2 ^ k - 1 →
      ∀ p ∈ [(Instr.divs h d a b w, -(2 : Int) ^ (k - 1)), (.rems h d a b w, 0)],
        ∃ t u, exec p.1 s = .next t ∧ exec (.divideDone h.seq) t = .next u ∧
          Retired s u h.seq { q with arch := { q.arch.setReg d (BitVec.ofInt 64 p.2) with pc := q.arch.pc + 4 }, gateEntered := false })

/-- VDSET, VDADV and VDGET move the fields of vector descriptors: 07_kinego_sequencer.md, R236, Table 7-8. -/
def Obligations.VectorDescriptorFields : Prop :=
  ∀ (s : State) (h : SylHdr) (d a g : Fin 64), LoafAt s h →
    let q := s.seq h.seq
    let x := q.arch.reg a
    (d.val < 32 →
      (∀ p ∈ [((0 : BitVec 5), 0, 48), (1, 64, 48), (2, 128, 32), (3, 160, 22)], ∃ t, ∃ v : VecDesc,
        exec (.vdset h d a p.1) s = .next t ∧
        Retired s t h.seq { q with arch := { q.arch with vd := q.arch.vd.set (Fin.ofNat 32 d.val) v
                                                         pc := q.arch.pc + 4 }, gateEntered := false } ∧
        ∀ i : Fin 256, v.getLsbD i = if p.2.1 ≤ i.val ∧ i.val < p.2.1 + p.2.2 then x.getLsbD (i.val - p.2.1)
          else q.arch.vd[Fin.ofNat 32 d.val].getLsbD i) ∧
      (∃ t, ∃ v : VecDesc, exec (.vdadv h d a) s = .next t ∧
        Retired s t h.seq { q with arch := { q.arch with vd := q.arch.vd.set (Fin.ofNat 32 d.val) v
                                                         pc := q.arch.pc + 4 }, gateEntered := false } ∧
        (v.truncate 48 : BitVec 48) = q.arch.vd[Fin.ofNat 32 d.val].truncate 48 + x.truncate 48 ∧
        v >>> 48 = q.arch.vd[Fin.ofNat 32 d.val] >>> 48)) ∧
    (g.val < 32 →
      let v := q.arch.vd[Fin.ofNat 32 g.val]
      ∀ p ∈ [((0 : BitVec 5), (v.extractLsb' 0 48).zeroExtend 64), (1, (v.extractLsb' 64 48).signExtend 64),
          (2, (v.extractLsb' 128 32).zeroExtend 64), (3, (v.extractLsb' 160 22).zeroExtend 64)],
        ∃ t, exec (.vdget h d g p.1) s = .next t ∧
          Retired s t h.seq { q with arch := { q.arch.setReg d p.2 with pc := q.arch.pc + 4 }, gateEntered := false })

/-- MFS reads the special registers that the level may read, and traps on the others: 07_kinego_sequencer.md, R226, Table 7-3.
-/
def Obligations.SpecialRegistersRead : Prop :=
  ∀ (s : State) (h : SylHdr) (d : Fin 64) (k : BitVec 6) (v : Word), LoafAt s h →
    let q := s.seq h.seq
    let a := q.arch
    let c := a.ctx a.world
    let user := [(0, a.ssr.zeroExtend 64), (9, BitVec.ofNat 64 (q.cycle / 1000)), (10, BitVec.ofNat 64 s.st.tb),
      (11, BitVec.ofNat 64 (h.seq.val + 16 * s.ovenOf h.seq))]
    let sup := [(1, c.era), (2, c.esr.zeroExtend 64), (3, c.ecause.zeroExtend 64), (4, c.eaddr),
      (8, BitVec.ofNat 64 (c.rsTop.toNat + 16 * c.rsDepth))] ++
      (List.finRange 16).map (fun i => (16 + i.val, (c.rse[i]).zeroExtend 64 * 4))
    let secure := [(5, a.dra), (6, a.dsr.zeroExtend 64), (7, a.dcause.zeroExtend 64)]
    ((k.toNat, v) ∈ user ∨ ((k.toNat, v) ∈ sup ∧ a.sup = true) ∨ ((k.toNat, v) ∈ secure ∧ a.sup = true ∧ a.world = true) →
      ∃ t, exec (.mfs h d k) s = .next t ∧
        Retired s t h.seq { q with arch := { a.setReg d v with pc := a.pc + 4 }, gateEntered := false }) ∧
    (((k.toNat, v) ∈ sup ∧ a.sup = false) ∨ ((k.toNat, v) ∈ secure ∧ (a.sup && a.world) = false) → s.mayTake h.seq →
      ∃ t, exec (.mfs h d k) s = .next t ∧ TakesException s t h.seq a.world 3 3 0 a.pc)

/-- MTS writes the special registers that the level may write, and traps on the others: 07_kinego_sequencer.md, R225, R226,
R241. -/
def Obligations.SpecialRegistersWritten : Prop :=
  ∀ (s : State) (h : SylHdr) (r : Fin 64) (k : BitVec 6), LoafAt s h →
    let q := s.seq h.seq
    let a := q.arch
    let c := a.ctx a.world
    let x := a.reg r
    let writes := fun (b : Arch) => ∃ t, exec (.mts h r k) s = .next t ∧
      Retired s t h.seq { q with arch := { b with pc := a.pc + 4 }, gateEntered := false }
    (k.toNat = 0 →
      let m : W32 := if a.sup then 0xFF2C else 0x28
      writes { a with ssr := (a.ssr &&& ~~~m) ||| (x.truncate 32 &&& m) }) ∧
    (a.sup = true →
      (k.toNat = 1 → writes (a.setCtx a.world { c with era := x })) ∧
      (k.toNat = 2 → writes (a.setCtx a.world { c with esr := x.truncate 32 })) ∧
      (k.toNat = 3 → x.extractLsb' 5 11 = 0 → writes (a.setCtx a.world { c with ecause := x.truncate 32 })) ∧
      (k.toNat = 3 → ∃ v : W32, writes (a.setCtx a.world { c with ecause := v }) ∧
        v.extractLsb' 0 5 = x.extractLsb' 0 5 ∧ v.extractLsb' 16 16 = x.extractLsb' 16 16) ∧
      (k.toNat = 4 → writes (a.setCtx a.world { c with eaddr := x })) ∧
      (k.toNat = 8 → writes (a.setCtx a.world { c with rsTop := x.truncate 4
                                                       rsDepth := min 16 (x.extractLsb' 4 5).toNat })) ∧
      (∀ i : Fin 16, k.toNat = 16 + i.val → writes (a.setCtx a.world { c with rse := c.rse.set i (x.extractLsb' 2 17) })) ∧
      (a.world = true → (k.toNat = 5 → writes { a with dra := x }) ∧ (k.toNat = 6 → writes { a with dsr := x.truncate 32 }) ∧
        (k.toNat = 7 → x.extractLsb' 5 11 = 0 → writes { a with dcause := x.truncate 32 }))) ∧
    (s.mayTake h.seq → (a.sup = false ∧ ((1 ≤ k.toNat ∧ k.toNat ≤ 8) ∨ (16 ≤ k.toNat ∧ k.toNat < 32))) ∨ (a.world = false ∧ k.toNat ∈ [5, 6, 7]) →
      ∃ t, exec (.mts h r k) s = .next t ∧ TakesException s t h.seq a.world 3 3 0 a.pc)

/-- A load opens an access shadow: 07_kinego_sequencer.md, R232, R235, R236; 08_worlds_and_exceptions.md, R271. -/
def Obligations.LoadsOpenAccess : Prop :=
  ∀ (s : State) (h : SylHdr) (d a sg : Fin 64) (imm : BitVec 5), LoafAt s h → (s.seq h.seq).sb = [] →
    let q := s.seq h.seq
    let seg := q.arch.seg q.arch.world sg
    let opens := fun (c : Instr) (x : Access) => exec c s = .next (s.setSeq h.seq { q with
      arch := { q.arch with pc := q.arch.pc + 4 }
      gateEntered := false
      spec := [⟨q.nextId, q.arch, q.arch.pc, 1, .access x none false false⟩]
      nextId := q.nextId + 1 })
    (∀ p ∈ loadForms,
      let off : Int := (q.arch.reg a).toNat + imm.toInt * p.2.2
      let addr := segBase seg + off.toNat
      scalarCheck p.2.1 seg q.arch.sup off = none → segRemote seg = false → addr % p.2.2 = 0 →
      (p.2.1 = .sgld → q.arch.sup = true) → (p.2.1 = .vdld → d.val < 32) →
      opens (p.1 h d a sg imm)
        { op := p.2.1, isPld := false, dst := d, tgt := segTarget seg (s.ovenOf h.seq), addr := addr, size := p.2.2, seg := sg,
          off := off.toNat, world := q.arch.world, sup := q.arch.sup, misaligned := false,
          data := (q.arch.reg d).toNat % 2 ^ (8 * p.2.2), data2 := (q.arch.reg (d + 1)).toNat }) ∧
    (let w := progWord q.arch a imm
     q.arch.sup = true → (q.arch.world = false → s.pmSecure h.seq w = false) → s.pmBadAt h.seq.val w = false →
      opens (.pld h d a imm)
        { op := .lwu, isPld := true, dst := d, tgt := .pm, addr := w, size := 4, seg := 0, off := w, world := q.arch.world,
          sup := q.arch.sup, misaligned := false, data := 0, data2 := 0 })

/-- A scalar atomic on Vector Memory leaves for the atomic unit of its address: 07_kinego_sequencer.md, R232;
05_vector_memory.md, R165; 03_vector_instructions.md, R99. -/
def Obligations.AtomicsLeave : Prop :=
  ∀ (s : State) (h : SylHdr) (d a sg : Fin 64) (imm : BitVec 5), LoafAt s h → (s.seq h.seq).sb = [] →
    ∀ p ∈ atomicForms,
      let q := s.seq h.seq
      let seg := q.arch.seg q.arch.world sg
      let off : Int := (q.arch.reg a).toNat + imm.toInt * p.2.2
      let addr := segBase seg + off.toNat
      let unit := s.atomUnitOf addr
      scalarCheck p.2.1 seg q.arch.sup off = none → segRemote seg = false → addr % p.2.2 = 0 → (p.2.1 = .acasD → d.val % 2 = 0) →
      (s.vm.atomQ.filter (fun e => e.unit == unit)).length < 64 →
      ∃ x e, exec (p.1 h d a sg imm) s = .next (({ s with vm := { s.vm with atomQ := s.vm.atomQ ++ [e] } } : State).setSeq h.seq
          { q with arch := { q.arch with pc := q.arch.pc + 4 }
                   gateEntered := false
                   spec := [⟨q.nextId, q.arch, q.arch.pc, 1, .access x none true false⟩]
                   nextId := q.nextId + 1 }) ∧
        x.op = p.2.1 ∧ x.dst = d ∧ x.tgt = .vm ∧ x.addr = addr ∧ x.size = p.2.2 ∧ e.unit = unit ∧ e.addr = addr ∧ e.size = p.2.2 ∧
        e.src = .scalar h.seq q.nextId ∧ e.world = q.arch.world ∧ e.psn = false ∧
        e.op = (if p.2.1 = .acasD then .cas (q.arch.reg d).toNat else if p.2.1 = .aswpW ∨ p.2.1 = .aswpD then .swap else .add) ∧
        e.v = (if p.2.1 = .acasD then (q.arch.reg (d + 1)).toNat else (q.arch.reg d).toNat % 2 ^ (8 * p.2.2))

/-- A store enters the store buffer; FENCE.SL retires once it is empty: 07_kinego_sequencer.md, R232;
06_ordering_and_runahead.md, R194, R195. -/
def Obligations.StoresEnterBuffer : Prop :=
  ∀ (s : State) (h : SylHdr) (d a sg : Fin 64) (imm : BitVec 5), LoafAt s h →
    let q := s.seq h.seq
    let seg := q.arch.seg q.arch.world sg
    let past : Machine.Seq := { q with arch := { q.arch with pc := q.arch.pc + 4 }, gateEntered := false }
    let buffers := fun (c : Instr) (e : SbEntry) => ∃ t, exec c s = .next t ∧ Retired s t h.seq { past with sb := q.sb ++ [e] }
    (q.sb.length < 16 → (∀ e ∈ q.sb, isPost e.tgt e.addr = false) →
      (∀ p ∈ storeForms,
        let size := p.2.2.1
        let off : Int := (q.arch.reg a).toNat + imm.toInt * size
        let addr := segBase seg + off.toNat
        let tgt := segTarget seg (s.ovenOf h.seq)
        scalarCheck p.2.1 seg q.arch.sup off = none → addr % size = 0 → isPost tgt addr = false →
        (p.2.1 = .sgst → q.arch.sup = true) → (p.2.1 = .vdst → d.val < 32) →
        buffers (p.1 h d a sg imm)
          { tgt := tgt, addr := addr, size := size, data := p.2.2.2 q.arch d % 2 ^ (8 * size), seg := sg, off := off.toNat,
            world := q.arch.world, sup := q.arch.sup, sent := false }) ∧
      (let w := progWord q.arch a imm
       q.arch.sup = true → (s.pmSram h.seq.val w).isSome → (q.arch.world = false → s.pmSecure h.seq w = false) →
        buffers (.pst h d a imm)
          { tgt := .pm, addr := w, size := 4, data := (q.arch.reg d).toNat % 2 ^ 32, seg := 0, off := w, world := q.arch.world,
            sup := q.arch.sup, sent := false })) ∧
    (q.sb = [] → ∃ t, exec (.fenceSl h) s = .next t ∧ Retired s t h.seq past)

/-- A load returns what memory holds, and a store writes its bytes: 08_worlds_and_exceptions.md, R271;
06_ordering_and_runahead.md, R194, R195. -/
def Obligations.LoadsReturnStoresDrain : Prop :=
  (∀ (s : State) (n : Fin 9) (id : Nat) (ck : Arch) (lp : BitVec 19) (x : Access),
      let q := s.seq n
      q.spec = [⟨id, ck, lp, 1, .access x none false false⟩] → x.misaligned = false → q.waiting = [] → q.tail = none → q.outs = [] →
      (x.isPld = true → ∃ t, exec (.loadResponse n) s = .next t ∧
        Retired s t n { q with arch := q.arch.setReg x.dst (BitVec.ofNat 64 (s.pmNat n.val x.addr x.size)), spec := [] }) ∧
      (x.isPld = false → x.tgt = .vm → s.vmOk x.addr x.size = true → (∀ g ∈ granules x.addr x.size, s.gcls g = .clean) →
        let v := ofBytes (memRead s.vm.bytes x.addr x.size)
        ∀ a, (x.op, a) ∈ [(MemOp.lb, q.arch.setReg x.dst ((BitVec.ofNat 8 v).signExtend 64)),
            (.lbu, q.arch.setReg x.dst ((BitVec.ofNat 8 v).zeroExtend 64)), (.lh, q.arch.setReg x.dst ((BitVec.ofNat 16 v).signExtend 64)),
            (.lhu, q.arch.setReg x.dst ((BitVec.ofNat 16 v).zeroExtend 64)), (.lw, q.arch.setReg x.dst ((BitVec.ofNat 32 v).signExtend 64)),
            (.lwu, q.arch.setReg x.dst ((BitVec.ofNat 32 v).zeroExtend 64)), (.ld, q.arch.setReg x.dst (BitVec.ofNat 64 v)),
            (.sgld, q.arch.setSeg x.world x.dst (BitVec.ofNat 128 v)),
            (.vdld, { q.arch with vd := q.arch.vd.set (Fin.ofNat 32 x.dst.val) (BitVec.ofNat 256 v) })] →
          ∃ t, exec (.loadResponse n) s = .next t ∧ t.seq n = { q with arch := a, spec := [] } ∧ (∀ m, m ≠ n → t.seq m = s.seq m) ∧
            t.vm.bytes = s.vm.bytes ∧ (∀ g, t.gcls g = s.gcls g) ∧ t = { s with seqs := t.seqs, regs := t.regs, vm := t.vm })) ∧
  (∀ (s : State) (n : Fin 9) (e : SbEntry) (rest : List SbEntry),
      let q := s.seq n
      q.sb = e :: rest → e.sent = false → q.spec = [] → q.waiting = [] → q.tail = none →
      (e.tgt = .vm → s.vmOk e.addr e.size = true → (∀ g ∈ granules e.addr e.size, s.gcls g = .clean) →
        ∃ t, exec (.storeBufferDrain n) s = .next t ∧ t.seq n = { q with sb := rest } ∧ (∀ m, m ≠ n → t.seq m = s.seq m) ∧
          (∀ y, memByte t.vm.bytes y = if e.addr ≤ y ∧ y < e.addr + e.size then BitVec.ofNat 8 (e.data / 256 ^ (y - e.addr))
            else memByte s.vm.bytes y) ∧
          (∀ g, t.gcls g = s.gcls g) ∧ t = { s with seqs := t.seqs, regs := t.regs, vm := t.vm }) ∧
      (∀ o, e.tgt = .pm → s.pmSram n.val e.addr = some o →
        ∃ t, exec (.storeBufferDrain n) s = .next t ∧ t.seq n = { q with sb := rest } ∧ (∀ m, m ≠ n → t.seq m = s.seq m) ∧
          (∀ y, mget (pmDefault t.pmImg) t.pm y =
            if n.val * 0x40000 + o ≤ y ∧ y < n.val * 0x40000 + o + e.size then
              BitVec.ofNat 8 (e.data / 256 ^ (y - (n.val * 0x40000 + o)))
            else mget (pmDefault s.pmImg) s.pm y) ∧
          t = { s with seqs := t.seqs, pm := t.pm, pmBad := t.pmBad }))

/-- A branch opens a pair with its delay Loaf, and the pair retires together: 07_kinego_sequencer.md, R237 to R241, R252. -/
def Obligations.BranchesAndDelayLoafs : Prop :=
  (∀ (s : State) (h : SylHdr) (annul hint : Bool) (a : Fin 64) (d16 : BitVec 16) (d23 : BitVec 23), LoafAt s h →
      let q := s.seq h.seq
      let c := q.arch.ctx q.arch.world
      let x := (q.arch.reg a).toInt
      let near := fun (d : Int) => BitVec.ofInt 19 ((q.arch.pc.toNat : Int) + d * 4)
      let far : BitVec 19 := ((q.arch.reg a).extractLsb' 2 17).zeroExtend 19 <<< 2
      let pairs := fun (i : Instr) (tgt : Option (BitVec 19)) (arch : Arch) => ∃ y b, i.syl = some (h.seq, y, true) ∧
        exec i s = .next (s.setSeq h.seq { q with
          arch := { arch with pc := q.arch.pc + 4 }
          gateEntered := false
          btb := b
          delayOf := some q.nextId
          nextId := q.nextId + 1
          spec := [⟨q.nextId, q.arch, q.arch.pc, 1, .pair [y] [] (.known tgt) false⟩] })
      (∀ p ∈ [((Instr.beq : SylHdr → Bool → Bool → Fin 64 → BitVec 16 → Instr), decide (x = 0)), (.bne, decide (x ≠ 0)),
          (.blt, decide (x < 0)), (.bge, decide (0 ≤ x)), (.ble, decide (x ≤ 0)), (.bgt, decide (0 < x))],
        pairs (p.1 h annul hint a d16) (if p.2 then some (near d16.toInt) else none) q.arch) ∧
      pairs (.j h annul d23) (some (near d23.toInt)) q.arch ∧
      pairs (.jr h annul a) (some far) q.arch ∧
      ((q.arch.rsm = true → c.rsDepth < 16) →
        pairs (.call h annul d23) (some (near d23.toInt)) q.arch ∧ pairs (.callr h annul a) (some far) q.arch) ∧
      ((q.arch.rsm = true → c.rsDepth ≠ 0) →
        pairs (.ret h annul 0) (some ((c.rse[c.rsTop.toFin]).zeroExtend 19 <<< 2))
          (q.arch.setCtx q.arch.world { c with rsTop := c.rsTop - 1, rsDepth := c.rsDepth - 1 }))) ∧
  (∀ (s : State) (h : SylHdr) (br : Syl) (tgt : Option (BitVec 19)) (id : Nat) (ck : Arch) (lp : BitVec 19) (d a b : Fin 64),
      DelayReady s h.seq br tgt id ck lp → FetchOk s h.seq 1 → h.stop = true → h.rsv = false →
      let q := s.seq h.seq
      let ret := q.arch.pc + 4
      let c := q.arch.ctx q.arch.world
      let calls := match br with
        | .call .. => true
        | .callr .. => true
        | _ => false
      let skip := match br with
        | .br _ _ annul _ _ _ => annul && tgt.isNone
        | _ => false
      let after : Arch := if calls then
          q.arch.setCtx q.arch.world { c with
            rsTop := c.rsTop + 1
            rsDepth := min 16 (c.rsDepth + 1)
            rse := c.rse.set (c.rsTop + 1).toFin (ret.extractLsb' 2 17) }
        else q.arch
      ∃ t, exec (.add h d a b false) s = .next t ∧
        t.seq h.seq = { q with
          arch := if skip then { q.arch with pc := ret }
            else { after.setReg d (q.arch.reg a + q.arch.reg b) with pc := tgt.getD ret }
          gateEntered := if skip then q.gateEntered else false
          delayOf := none
          spec := [] } ∧
        (∀ m, m ≠ h.seq → t.seq m = s.seq m) ∧
        t.regNat (SEQ_PERF_LOAF h.seq.val) 2 = (s.regNat (SEQ_PERF_LOAF h.seq.val) 2 + (if skip then 1 else 2)) % 2 ^ 64 ∧
        t = { s with seqs := t.seqs, regs := t.regs })

/-- SYSCALL and BREAK trap, RFE returns, and IFLUSH refetches: 08_worlds_and_exceptions.md, R266, R268, R273, R274;
07_kinego_sequencer.md, R245. -/
def Obligations.TrapsAndReturns : Prop :=
  (∀ (s : State) (h : SylHdr) (code : BitVec 16), LoafAt s h → s.mayTake h.seq →
      let q := s.seq h.seq
      ∀ p ∈ [(Instr.syscall h code, 9), (.brk h code, 14)], ∃ u t, exec p.1 s = .next t ∧
        Retired s u h.seq { q with arch := { q.arch with pc := q.arch.pc + 4 }, gateEntered := false } ∧
        TakesException u t h.seq q.arch.world p.2 code.toNat 0 (q.arch.pc + 4)) ∧
  (∀ (s : State) (h : SylHdr) (disp : BitVec 23), LoafAt s h →
      let q := s.seq h.seq
      let c := q.arch.ctx q.arch.world
      let moves := fun (i : Instr) (a : Arch) => ∃ t, exec i s = .next t ∧ Retired s t h.seq { q with arch := a, gateEntered := false }
      (q.sb = [] → moves (.iflush h false disp) { q.arch with pc := BitVec.ofInt 19 ((q.arch.pc.toNat : Int) + disp.toInt * 4) }) ∧
      (q.arch.sup = true → q.arch.dfault = false → (q.arch.world = false → c.esr.getLsbD 0 = false) →
        (c.esr.getLsbD 0 = q.arch.world ∨ q.sb = []) →
        moves (.rfe h 0) { q.arch with ssr := c.esr &&& 0xFF3F
                                       pc := (c.era.extractLsb' 2 17).zeroExtend 19 <<< 2 }) ∧
      (q.arch.sup = true → q.arch.dfault = true → (q.arch.world = false → q.arch.dsr.getLsbD 0 = false) →
        (q.arch.dsr.getLsbD 0 = q.arch.world ∨ q.sb = []) →
        moves (.rfe h 0) { q.arch with ssr := q.arch.dsr &&& 0xFF3F
                                       pc := (q.arch.dra.extractLsb' 2 17).zeroExtend 19 <<< 2
                                       dfault := false }) ∧
      (s.mayTake h.seq → (q.arch.sup = false ∨ (q.arch.world = false ∧ c.esr.getLsbD 0 = true)) →
        ∃ t, exec (.rfe h 0) s = .next t ∧ TakesException s t h.seq q.arch.world 3 4 0 q.arch.pc))

/-- GATE enters through its descriptor: 08_worlds_and_exceptions.md, R276 to R278. -/
def Obligations.GateEnters : Prop :=
  ∀ (s : State) (h : SylHdr) (code : BitVec 16), LoafAt s h → code.toNat < 16 →
    let q := s.seq h.seq
    let a := q.arch
    let w := a.world
    let d := s.gateFields h.seq w code.toNat
    let cross := s.gateCross h.seq w code.toNat
    let dest := w || cross
    s.gateEcc h.seq w code.toNat = none → s.gateFault h.seq a code.toNat = none → (cross = true → q.sb = []) →
    ∃ t, exec (.gate h code) s = .next t ∧ Retired s t h.seq { q with arch := (t.seq h.seq).arch, gateEntered := true } ∧
      let b := (t.seq h.seq).arch
      b.pc = (d.extractLsb' 8 17).zeroExtend 19 <<< 2 ∧ b.world = dest ∧ b.sup = true ∧ b.ie = d.getLsbD 4 ∧ b.ct = d.getLsbD 5 ∧
      b.eip = a.eip ∧ b.rsm = a.rsm ∧ b.ctxid = a.ctxid ∧
      b.ctx dest = { a.ctx dest with era := (a.pc + 4).zeroExtend 64, esr := a.ssr } ∧ b.ctx (!dest) = a.ctx (!dest) ∧
      (d.getLsbD 6 = false → b.g = a.g) ∧
      (d.getLsbD 6 = true → b.g = (a.g.set 62 (a.g[63])).set 63 (BitVec.ofNat 64 ((d.extractLsb' 32 48).toNat))) ∧
      b.vd = a.vd ∧ b.dra = a.dra ∧ b.dsr = a.dsr ∧ b.dcause = a.dcause ∧ b.dfault = a.dfault

/-- Interrupts and late bus errors are taken at a Loaf boundary: 08_worlds_and_exceptions.md, R268, R272, R281 to R283. -/
def Obligations.InterruptsAndLateErrors : Prop :=
  ∀ (s : State) (n : Fin 9), s.seqRuns n = true →
    let q := s.seq n
    q.spec = [] → q.waiting = [] → q.tail = none → q.delayOf = none →
    (∀ c w, q.late q.arch.world = none → s.eligibleLine n = some (c, w) →
      (w = q.arch.world ∨ (q.outs = [] ∧ q.sb = [] ∧ q.vecPending = false)) →
      ∃ t, exec (.interruptEntry n) s = .next t ∧ TakesException s t n w c 0 0 q.arch.pc) ∧
    (∀ e, q.late q.arch.world = some e → q.div = none → s.mayTake n →
      ∃ t, exec (.lateBusError n) s = .next t ∧
        TakesException (s.setSeq n (q.setLate q.arch.world none)) t n q.arch.world 13 (e.seg.val + 64 * bit01 e.multi) e.off q.arch.pc)

/-- A predicted branch resolves, and the branch target buffer is invalidated: 07_kinego_sequencer.md, R252, R253, R255. -/
def Obligations.BranchesResolve : Prop :=
  (∀ (s : State) (n : Fin 9) (c : BrCond) (hint : Bool) (a : Fin 64) (d : BitVec 16) (delay : List Syl) (id p k : Nat) (ck after : Arch)
        (lp : BitVec 19) (g : Option (BitVec 19)),
      let q := s.seq n
      let tgt := if c.holds (ck.reg a) then some (BitVec.ofInt 19 ((ck.pc.toNat : Int) + d.toInt * 4)) else none
      s.seqRuns n = true → q.waiting = [] → q.tail = none → q.outs = [] →
      q.spec = [⟨id, ck, lp, k, .branch [.br c false false hint a d] delay g after p⟩] → delay ≠ [] →
      (g = tgt → ∃ t b, exec (.branchResolve n) s = .next t ∧ t.seq n = { q with spec := [], btb := b } ∧
        (∀ m, m ≠ n → t.seq m = s.seq m) ∧
        t.regNat (SEQ_PERF_LOAF n.val) 2 = (s.regNat (SEQ_PERF_LOAF n.val) 2 + k) % 2 ^ 64 ∧ t = { s with seqs := t.seqs, regs := t.regs }) ∧
      (g ≠ tgt → q.openGrp = none → ∃ t b, exec (.branchResolve n) s = .next t ∧
        t = s.setSeq n { q.flush with spec := [], btb := b, arch := { after with pc := tgt.getD after.pc } })) ∧
  (∀ (s : State) (n : Fin 9), s.flag (SEQ_CTL n.val) SEQ_CTL.BTB_INV = true →
      ∃ t, exec (.btbInvalidate n) s = .next t ∧ (t.seq n).btb = [] ∧ t.flag (SEQ_CTL n.val) SEQ_CTL.BTB_INV = false ∧
        t = { s.setSeq n { s.seq n with btb := [] } with regs := t.regs } ∧ (∀ x, x ≠ SEQ_CTL n.val → t.reg x = s.reg x))

/-- A vector instruction issues with copies of its descriptors: 02_vector_model.md, R30, R41, R45. -/
def Obligations.VectorInstructionsIssue : Prop :=
  ∀ (s : State) (c : Instr) (o : VOpc) (v : VSyl),
    ((∃ p ∈ vecForms, c = p.1 v ∧ o = p.2) ∨ (∃ k, c = .recipe k v ∧ o = .recipe k ∧ recipeBad (s.recipeOf v.seq o) v.een = false)) →
    SeqReady s v.seq → FetchOk s v.seq 2 → v.stop = true → vecIllegal o v = false → (s.seq v.seq).sb = [] →
    let q := s.seq v.seq
    let len := issueLength (s.issueStreams v.seq q.arch o v)
    ∃ t ins g, exec c s = .next t ∧
      Retired s t v.seq { q with
        arch := { q.arch with pc := q.arch.pc + 8 }
        gateEntered := false
        outs := ins
        openGrp := g
        nextId := q.nextId + 1 } ∧
      (len = 0 → ins = []) ∧
      (len ≠ 0 → ∃ x, ins = [x] ∧ x.id = q.nextId ∧ x.op = o ∧ x.syl = v ∧ x.n = len ∧
        x.streams = s.issueStreams v.seq q.arch o v ∧ x.world = q.arch.world ∧ x.sup = q.arch.sup ∧ x.ct = q.arch.ct ∧ x.done = 0)

/-- VSYNC retires when all is done, and VRESTART resumes or discards the record: 02_vector_model.md, R54, R55;
06_ordering_and_runahead.md, R198. -/
def Obligations.VectorSyncAndRestart : Prop :=
  ∀ (s : State) (v : VSyl), SeqReady s v.seq → FetchOk s v.seq 2 → v.stop = true →
    let q := s.seq v.seq
    let past : Seq := { q with
      arch := { q.arch with pc := q.arch.pc + 8 }
      gateEntered := false }
    let quiet := ∀ e ∈ q.vrec.entries, e.sends = [] ∧ e.unacked = []
    (vecIllegal .vsync v = false → q.sb = [] → q.cbuf = [] → quiet → ∃ t, exec (.vsync v) s = .next t ∧ Retired s t v.seq past) ∧
    (vecIllegal .vrestart v = false → q.arch.sup = true → quiet → q.vrec.valid = true →
      (∃ t, exec (.vrestartDiscard v) s = .next t ∧ Retired s t v.seq { past with
        vrec := VRec.reset
        openGrp := none }) ∧
      (q.cbuf = [] → q.vrec.entries.length ≤ 8 → ∃ t os, exec (.vrestartResume v) s = .next t ∧ Retired s t v.seq { past with
          vrec := VRec.reset
          openGrp := none
          outs := os
          nextId := q.nextId + q.vrec.entries.length } ∧
        os.map (fun x => (x.id, x.op, x.syl, x.n, x.done)) = q.vrec.entries.map (fun x => (x.id, x.op, x.syl, x.n, x.done)))) ∧
    (vecIllegal .vrestart v = false → q.arch.sup = false →
      ∃ t, exec (.vrestartDiscard v) s = .next t ∧ ((s.mayTake v.seq) → TakesException s t v.seq q.arch.world exPrivilege 5 0 q.arch.pc))

/-- An integer element's result fits the type of D: 03_vector_instructions.md, R75. -/
def Obligations.IntegerElementsFit : Prop :=
  ∀ (td ta : ETy) (mod a b c : Nat), ta.isIU = true → td.isIU = true →
    let fits := fun (t : ETy) (r : ERes) (z : Int) =>
      r.d < 2 ^ t.width ∧
      (t.minInt ≤ z ∧ z ≤ t.maxInt → t.toInt r.d = z ∧ r.st = 0 ∧ r.fl = 0) ∧
      (¬ (t.minInt ≤ z ∧ z ≤ t.maxInt) → r.st = stOF ∧ r.fl = flIOVF ∧
        (bitAt mod 3 = true → t.toInt r.d = if z < t.minInt then t.minInt else t.maxInt) ∧
        (bitAt mod 3 = false → ∃ k : Int, t.toInt r.d = z + k * (2 ^ t.width : Nat)))
    let x : EIn := { mod := mod, td := ta, ta := ta, tb := ta, a := a, b := b, c := c }
    let m := 2 ^ ta.width
    (∀ p ∈ intForms, fits ta (elemOp p.1 x) (p.2 (ta.toInt a) (ta.toInt b) (ta.toInt c))) ∧
    fits td (elemOp .vcvt { x with td := td }) (ta.toInt a) ∧
    fits ta (redCombine .vrsum ta mod a b) (ta.toInt a + ta.toInt b) ∧
    (let r := elemOp .vaddc x
     r.d + m * r.e = a % m + b % m + c % 2 ∧ r.d < m ∧ r.st = 0 ∧ r.fl = 0) ∧
    (let r := elemOp .vsubb x
     r.d + b % m + c % 2 = a % m + m * r.e ∧ r.d < m ∧ r.st = 0 ∧ r.fl = 0)

/-- Integer division of elements and its corners: R76. -/
def Obligations.DivisionElements : Prop :=
  ∀ (t : ETy) (mod a b : Nat), t.isIU = true →
    let x : EIn := { mod := mod, td := t, ta := t, tb := t, a := a, b := b }
    let za := t.toInt a
    let zb := t.toInt b
    let q := elemOp .vdiv x
    let r := elemOp .vrem x
    (zb = 0 → t.toInt q.d = (if 0 ≤ za then t.maxInt else t.minInt) ∧ q.st = stDZ ∧ q.fl = flDZ ∧
      t.toInt q.e = za ∧ t.toInt r.d = za ∧ r.st = stDZ ∧ r.fl = flDZ) ∧
    (t.isI = true → za = t.minInt → zb = -1 → t.toInt q.d = t.minInt ∧ q.st = stOF ∧ q.fl = flIOVF ∧ q.e = 0 ∧
      r.d = 0 ∧ r.st = 0 ∧ r.fl = 0) ∧
    (zb ≠ 0 → ¬ (t.isI = true ∧ za = t.minInt ∧ zb = -1) →
      za = zb * t.toInt q.d + t.toInt r.d ∧ (t.toInt r.d).natAbs < zb.natAbs ∧ 0 ≤ za * t.toInt r.d ∧ q.e = r.d ∧
      q.st = 0 ∧ q.fl = 0 ∧ r.st = 0 ∧ r.fl = 0)

/-- Logic, shift, compare and packed-decimal elements: 03_vector_instructions.md, R77, R84 to R86; 02_vector_model.md, R37. -/
def Obligations.BitCompareDecimalElements : Prop :=
  (∀ (t : ETy) (mod : Nat) (a b : BitVec t.width), t.isIU = true →
      let x : EIn := { mod := mod, td := t, ta := t, tb := t, a := a.toNat, b := b.toNat }
      let n := b.toNat % t.width
      let gives := fun (o : VOpc) (v : BitVec t.width) => (elemOp o x).d = v.toNat
      let za := t.toInt a.toNat
      let zb := t.toInt b.toNat
      gives .vand (a &&& b) ∧ gives .vor (a ||| b) ∧ gives .vxor (a ^^^ b) ∧ gives .vandn (a &&& ~~~b) ∧ gives .vnot (~~~a) ∧
      gives .vshl (a <<< n) ∧ gives .vshr (a >>> n) ∧ gives .vsra (a.sshiftRight n) ∧ gives .vrol (a.rotateLeft n) ∧
      (elemOp .vpopc x).d = (List.range t.width).countP (fun i => a.getLsbD i) ∧
      gives .vmin (if zb < za then b else a) ∧ gives .vmax (if za < zb then b else a) ∧
      gives .vmulh (BitVec.ofInt t.width (za * zb / (2 ^ t.width : Nat))) ∧
      (∀ c : Nat, (elemOp .vsel { x with c := c }).d = if c % 2 = 1 then a.toNat else b.toNat) ∧
      (∀ p ∈ [(0, decide (za = zb)), (1, decide (za ≠ zb)), (2, decide (za < zb)), (3, decide (za ≤ zb)), (4, decide (zb < za)),
          (5, decide (zb ≤ za))], ∀ m, m % 8 = p.1 → (elemOp .vcmp { x with mod := m }).d = if p.2 then 1 else 0)) ∧
  (∀ (ta tb td : ETy) (mod a b : Nat), ta.isP = true → tb.isP = true → td.isP = true →
      let x : EIn := { mod := mod, td := td, ta := ta, tb := tb, a := a, b := b }
      let fits := fun (r : ERes) (z : Int) =>
        (z.natAbs < 10 ^ td.digits → pdValue td r.d = some z ∧ r.st = 0 ∧ r.fl = 0) ∧
        (10 ^ td.digits ≤ z.natAbs → r.st = stOF ∧ r.fl = flDOVF ∧
          (bitAt mod 0 = false → r.d = 10) ∧
          (bitAt mod 0 = true → ∃ y, pdValue td r.d = some y ∧ y.natAbs = z.natAbs % 10 ^ td.digits))
      let bad : ERes := { d := 10, st := stNV, fl := flDINV }
      pdValue td 10 = none ∧
      (∀ p q, pdValue ta a = some p → pdValue tb b = some q →
        fits (elemOp .vdadd x) (p + q) ∧ fits (elemOp .vdsub x) (p - q) ∧ fits (elemOp .vdneg x) (-p) ∧
        (elemOp .vdchk x).d = 0) ∧
      (pdValue ta a = none → elemOp .vdadd x = bad ∧ elemOp .vdsub x = bad ∧ elemOp .vdneg x = bad ∧ (elemOp .vdchk x).d = stNV) ∧
      (pdValue tb b = none → elemOp .vdadd x = bad ∧ elemOp .vdsub x = bad))

/-- The events that carry an instruction from its issue to its completion: 02_vector_model.md, R45, R46;
03_vector_instructions.md, R99; 04_pipes_and_chaining.md, R122, R127. -/
def Obligations.VectorEventsProceed : Prop :=
  ∀ (s : State) (n : Fin 9) (v : VIns),
    let q := s.seq n
    SeqIdle s n → q.vrec.entries = [] →
    (∀ (p : Nat) (st : Stream), q.outs = [v] → q.cbuf = [] → v.fault = none → v.syl.men = false → v.op ≠ .vexpd → v.op ≠ .vsha256 →
      v.done = 0 → 0 < v.n → v.stream (.data p) = some st → vdAmode st.desc ≠ 2 → s.mayFetch n [v] v st 0 = true →
      s.tgtOf n st = .vm →
      (∀ i, i < min v.n 32 → segCheck st.seg .rd v.sup (st.off i 0) (vdEty st.desc).size (vdEty st.desc == .bit) = none ∧
        s.vmOk (st.at (st.off i 0)) (vdEty st.desc).size = true ∧ elemAligned st.desc st.seg (st.off i 0) = true ∧
        ∀ g ∈ granules (st.at (st.off i 0)) (vdEty st.desc).size, s.gcls g = .clean) →
      ∃ t, exec (.streamDataArrival n v.id (.data p) 0) s = .next t ∧ t = { s with seqs := t.seqs, vm := t.vm } ∧
        t.vm.bytes = s.vm.bytes ∧ (∀ g, t.gcls g = s.gcls g) ∧ (∀ m, m ≠ n → t.seq m = s.seq m) ∧
        t.seq n = { q with outs := [{ v with bufs := v.bufs ++ [{
          key := .data p
          slice := 0
          lanes := (upTo 32).map (fun i => if i < min v.n 32 then
              some { v := elemBits (vdEty st.desc) (st.off i 0)
                            (memRead s.vm.bytes (st.at (st.off i 0)) (vdEty st.desc).size), psn := false }
            else none) }] }] }) ∧
    (∀ (st : Stream) (pipe : Nat) (x : Nat → LaneIn),
      let ty := vdEty st.desc
      let hi := min v.n 32
      q.outs = [v] → v.op.writesG = false → v.op.isAtomic = false → v.op ≠ .vscan → (∀ k, v.op ≠ .recipe k) → v.syl.form ≠ 6 →
      v.stores = [st] → st.key = .data 0 → v.syl.men = false → v.syl.een = false → v.unpred = false → v.fault = none → v.wait = [] →
      v.done = 0 → 0 < v.n → vdAmode st.desc ≠ 2 → (∀ z ∈ v.streams, (vdEty z.desc).size < 16) → ty.width = 8 * ty.size →
      s.slicePipe (s.ovenOf n) 0 = some pipe → s.unitPaired (pipeUnit pipe) = false → s.flag (PIPE_CTL pipe) PIPE_CTL.OVF_IE = false →
      s.tgtOf n st = .vm →
      (∀ i, i < hi → segCheck st.seg .wr v.sup (st.off i 0) ty.size (ty == .bit) = none ∧
        s.vmOk (st.at (st.off i 0)) ty.size = true ∧ elemAligned st.desc st.seg (st.off i 0) = true ∧
        v.laneIn (fun k => v.bufOf k 0) i = some (x i) ∧ (x i).psn = false) →
      ∃ t w e, exec (.sliceCommit n v.id .pass) s = .next t ∧ t.seq n = { q with outs := [w], cbuf := q.cbuf ++ [e] } ∧
        w.id = v.id ∧ w.op = v.op ∧ w.n = v.n ∧ w.done = hi ∧ e.vid = v.id ∧ e.pos = 0 ∧ e.tgt = .vm ∧ e.missing = [] ∧ e.sent = none ∧
        e.writes = (upTo hi).map (fun i =>
          EWrite.bytes (st.at (st.off i 0)) (toBytes ty.size ((v.lane i v.acc (x i)).d.getD 0)) false) ∧
        t.regNat (PIPE_PERF_COMMIT pipe) 2 = (s.regNat (PIPE_PERF_COMMIT pipe) 2 + 1) % 2 ^ 64 ∧ t.vm.bytes = s.vm.bytes ∧
        (∀ m, m ≠ n → t.seq m = s.seq m) ∧ t = { s with seqs := t.seqs, vm := t.vm, regs := t.regs }) ∧
    (∀ (e : StoreEntry) (a : Nat) (d : List Byte), q.cbuf = [e] → e.missing = [] → e.sent = none → e.tgt = .vm →
      e.writes = [.bytes a d false] → d ≠ [] → a % 128 + d.length ≤ 128 → s.vmOk a d.length = true →
      (∀ g ∈ granules a d.length, s.gcls g = .clean) →
      ∃ t, exec (.storeEntryDrain n 0 false) s = .next t ∧ t = { s with seqs := t.seqs, vm := t.vm } ∧
        t.seq n = { q with cbuf := [] } ∧ (∀ m, m ≠ n → t.seq m = s.seq m) ∧ t.vm.bytes = memWrite s.vm.bytes a d ∧
        ∀ g, t.gcls g = s.gcls g) ∧
    (q.outs = [v] → q.complete v = true →
      ∃ t, exec (.vectorComplete n v.id) s = .next t ∧ (∀ m, m ≠ n → t.seq m = s.seq m) ∧
        t.seq n = { q with arch := q.arch.setResult v, outs := [] } ∧
        (∀ a, a ≠ SEQ_VFLAGS n.val → a ≠ SEQ_VSTAT n.val → t.reg a = s.reg a) ∧ t = { s with seqs := t.seqs, regs := t.regs }) ∧
    (∀ (f : VFault), q.outs = [v] → v.fault = some f → f.atIssue = true → v.done = f.k → v.wait = [] → q.vrec.valid = false →
      exec (.vectorFaultRecord n) s = .next (s.setSeq n { q with
        outs := []
        openGrp := none
        vrec := { q.vrec with
          valid := true
          pending := true
          first := some f
          fent := 0
          world := v.world
          sup := v.sup
          entries := [{ v with bufs := [], replays := 0, wait := [] }] } }))

/-- An atomic element is admitted, applied at its location, and acknowledged: 03_vector_instructions.md, R99;
05_vector_memory.md, R164 to R166. -/
def Obligations.AtomicUnitsApply : Prop :=
  ∀ (s : State),
    (∀ (n : Fin 9) (id : Nat) (v : VIns) (x : AtomSend) (rest : List AtomSend),
      let q := s.seq n
      SeqIdle s n → q.vins id = some v → v.sends = x :: rest → x.tgt = .vm →
      (s.vm.atomQ.filter (fun e => e.unit == s.atomUnitOf x.addr)).length < 64 →
      ∃ e, exec (.atomicQueueAdmit n id) s = .next (({ s with vm := { s.vm with atomQ := s.vm.atomQ ++ [e] } } : State).setSeq n
          (q.setVins { v with sends := rest })) ∧
        e.unit = s.atomUnitOf x.addr ∧ e.addr = x.addr ∧ e.op = .vec v.op ∧ e.v = x.v ∧ e.psn = x.psn ∧
        e.src = .vec n v.id x.elem ∧ e.world = v.world) ∧
    (∀ (u : Fin 2048) (e : AtomEl), Still s → s.vm.atomQ = [e] → s.vm.atomWait = [] → e.unit = u.val → e.size ≠ 0 →
      s.vmOk e.addr e.size = true → (∀ g ∈ granules e.addr e.size, s.gcls g = .clean) → e.psn = false →
      let old := ofBytes (memRead s.vm.bytes e.addr e.size)
      let w := 2 ^ (8 * e.size)
      let r := atomValue e old
      ∃ t, exec (.atomicOperation u 0 0) s = .next t ∧ t = { s with vm := t.vm } ∧ t.vm.atomQ = [] ∧
        (∀ y, memByte t.vm.bytes y = if e.addr ≤ y ∧ y < e.addr + e.size then BitVec.ofNat 8 (r.d / 256 ^ (y - e.addr))
          else memByte s.vm.bytes y) ∧
        t.vm.atomAcks = s.vm.atomAcks ++ [{ unit := u.val, src := e.src, st := r.st, fl := r.fl, old := old, psn := false,
                                            merge := false, err := false }] ∧
        (e.op = .add → r.d = (old + e.v) % w) ∧ (e.op = .swap → r.d = e.v % w) ∧
        (∀ c, e.op = .cas c → r.d = if old % w = c % w then e.v % w else old)) ∧
    (∀ (u : Fin 2048) (a : AtomAck) (n : Fin 9) (v : VIns) (elem : Nat), SeqIdle s n → (s.seq n).vrec.entries = [] → s.vm.atomAcks = [a] → a.unit = u.val →
      a.src = .vec n v.id elem → (s.seq n).outs = [v] → elem ∈ v.unacked → a.err = false → a.merge = false → v.syl.een = false →
      ∃ t, exec (.atomicAck u) s = .next t ∧ t.vm = { s.vm with atomAcks := [] } ∧
        t.seq n = { s.seq n with outs := [{ v with unacked := v.unacked.erase elem }] } ∧ (∀ m, m ≠ n → t.seq m = s.seq m) ∧
        t.fld (SEQ_VFLAGS n.val) (if v.world then SEQ_VFLAGS.S else SEQ_VFLAGS.G)
          = s.fld (SEQ_VFLAGS n.val) (if v.world then SEQ_VFLAGS.S else SEQ_VFLAGS.G) ||| a.fl % 256 ∧
        t = { s with seqs := t.seqs, vm := t.vm, regs := t.regs } ∧ (∀ x, x ≠ SEQ_VFLAGS n.val → t.reg x = s.reg x))

/-- A bank's requests, its lines, its rows and the scrubber: 05_vector_memory.md, R153, R161 to R164. -/
def Obligations.BanksServeAndScrub : Prop :=
  ∀ (s : State) (addr : BitVec 37) (size : Fin 129),
    let a := addr.toNat
    let q := fun (d : Option (List Byte)) (ra : Bool) =>
      ({ bank := s.vmBank (a / 128), addr := a, size := size.val, data := d, ra := ra } : BankReq)
    let clean := s.vmOk a size.val = true ∧ (∀ g ∈ granules a size.val, s.gcls g = .clean)
    (∀ d ra remap, bankReqOk addr size d = true → s.vmOk a size.val = true →
      (remap = true → s.fld (VM_REGION (a / 2 ^ 30)) VM_REGION.MSTATE ≠ 1) →
      exec (.bankRequest addr size d ra remap) s = .next { s with vm := { s.vm with bankQ := s.vm.bankQ ++ [q d ra] } }) ∧
    (∀ (b : Fin 32768) ra rest, s.vm.bankQ = q none ra :: rest → b.val = s.vmBank (a / 128) → clean →
      ∃ t, exec (.bankAccess b) s = .next t ∧ t = { s with vm := t.vm } ∧ t.vm.bankQ = rest ∧ t.vm.bytes = s.vm.bytes ∧
        t.vm.bankResp = s.vm.bankResp ++ [{ addr := a, data := memRead s.vm.bytes a size.val, psn := false, remap := false,
                                            err := false }]) ∧
    (∀ (b : Fin 32768) d rest, s.vm.bankQ = q (some d) false :: rest → b.val = s.vmBank (a / 128) → clean → d.length = size.val →
      ∃ t, exec (.bankAccess b) s = .next t ∧ t = { s with vm := t.vm } ∧ t.vm.bankQ = rest ∧
        t.vm.bytes = memWrite s.vm.bytes a d ∧
        t.vm.bankResp = s.vm.bankResp ++ [{ addr := a, data := [], psn := false, remap := false, err := false }]) ∧
    (∀ (u : Fin 2048) (g : BitVec 30), exec (.lineIdleWriteback u g) s = .next { s with vm := { s.vm with
      lines := s.vm.lines.map (fun l => if l.unit = u.val ∧ l.granule = g.toNat then { l with dirty := false } else l) } }) ∧
    (∀ (b : Fin 33280) (row : Fin 1536),
      let k := b.val * 1536 + row.val
      ∃ t, exec (.rowRefresh b row) s = .next t ∧ t = { s with vm := { s.vm with act := t.vm.act } } ∧
        (∀ x, cget t.vm.act x = if x = k then 0 else cget s.vm.act x) ∧
        (16384 ≤ cget s.vm.act k → ∃ u, exec (.neighbourRefresh b row) s = .next u ∧ u.vm = t.vm ∧
          u.regNat VM_PERF_NBR 2 = (s.regNat VM_PERF_NBR 2 + (if row.val = 0 ∨ row.val = 1535 then 1 else 2)) % 2 ^ 64 ∧
          (∀ x, x ≠ VM_PERF_NBR → x ≠ VM_PERF_NBR + 4 → x ≠ VM_STATUS → u.reg x = s.reg x) ∧
          u = { s with vm := u.vm, regs := u.regs })) ∧
    (∀ (r : Fin 96), EventPlain s vmScrubLate svInfo → ∃ t, exec (.scrubLate r) s = .next t ∧ EventRaised s t vmScrubLate) ∧
    (∀ (t : Fin 4), s.vmRuns = true → s.vmTad = false →
      let p := cget s.vm.patrol t.val
      let g := s.granuleAt (t.val * 8192 + p / 24576) (p % 24576)
      p + 1 < 8192 * 24576 → s.gcls g = .clean → ∃ u, exec (.patrolScrub t) s = .next u ∧ u = { s with vm := u.vm } ∧
        cget u.vm.patrol t.val = p + 1 ∧ u.vm.bytes = s.vm.bytes ∧ ∀ x, u.gcls x = s.gcls x) ∧
    (∀ (t : Fin 4) (g : Nat) (rest : List Nat), s.vmRuns = true → s.vm.scrubQ = g :: rest → g ∉ rest → s.tierOf g = t.val →
      (s.gcls g = .clean ∨ s.gcls g = .poisoned → exec (.scrubRewrite t) s = .next { s with vm := { s.vm with scrubQ := rest } }) ∧
      (s.gcls g = .corrected → EventPlain s vmCE svCorrected → s.winOpen vmCE = false →
        2 ≤ s.fld VM_REPAIR_CTL VM_REPAIR_CTL.ROW_CE → 2 ≤ s.fld VM_REPAIR_CTL VM_REPAIR_CTL.BANK_ROWS →
        ∃ u, exec (.scrubRewrite t) s = .next u ∧ EventRaised s { u with vm := s.vm } vmCE ∧ u.gcls g = .clean ∧
          (∀ x, x ≠ g → u.gcls x = s.gcls x) ∧ u.vm.bytes = s.vm.bytes ∧ u.vm.scrubQ = rest))

/-- Placement windows, migration of a region, and repairs: 05_vector_memory.md, R170 to R180; 04_pipes_and_chaining.md, R133.
-/
def Obligations.PlacementAndRepair : Prop :=
  (∀ (s : State),
      (∀ (r : Fin 96) (conflicts : Nat),
        let acc := cget s.vm.placeAcc r.val
        let hold := s.fld (VM_REGSTAT r.val) VM_REGSTAT.HOLD
        2 ^ (12 + min 10 (s.fld VM_PLACE_CTL VM_PLACE_CTL.WINDOW)) ≤ acc → 0 < hold →
        ∃ t, exec (.placeWindowClose r conflicts) s = .next t ∧ cget t.vm.placeAcc r.val = 0 ∧
          t.regNat VM_PERF_CONFLICT 2 = (s.regNat VM_PERF_CONFLICT 2 + min conflicts acc) % 2 ^ 64 ∧
          t.fld (VM_REGSTAT r.val) VM_REGSTAT.HOLD = hold - 1 ∧ t = { s with regs := t.regs, vm := t.vm }) ∧
      (∀ (r : Fin 96) (who : Master) (value : Word),
        let a := VM_REGION r.val
        let k := bitsOf value.toNat 36 4
        who.ok = true → CtlGo s who a 8 → who.secSup = true → bitAt value.toNat 40 = true → s.fld a VM_REGION.MSTATE = 0 →
        ∃ t, exec (.regionMigrationReq r who value) s = .next t ∧ t.fld a VM_REGION.ALLOW = bitsOf value.toNat 8 16 ∧
          t = { s with regs := t.regs, vm := { s.vm with migQ := t.vm.migQ }, fab := t.fab } ∧
          (if bitAt value.toNat (8 + k) = true ∧ k ≠ s.fld a VM_REGION.KEY then
            t.fld a VM_REGION.MSTATE = 2 ∧ t.vm.migQ = s.vm.migQ.filter (fun j => j.software)
              ++ [{ region := r.val, key := k, software := true }] ++ s.vm.migQ.filter (fun j => !j.software)
          else t.fld a VM_REGION.MSTATE = 0 ∧ t.fld a VM_REGION.REJ = 1 ∧ t.vm = s.vm)) ∧
      (∀ (j : MigJob) (rest : List MigJob),
        let a := VM_REGION j.region
        s.vmRuns = true → s.vmTad = false → s.flag VM_STATUS VM_STATUS.MIG_ACTIVE = false → s.vm.migQ = j :: rest →
        j.software = true → j.region < 96 → j.key < 16 → vmHash j.region 0 (s.fld a VM_REGION.KEY) ≠ vmHash j.region 0 j.key →
        ∃ t, exec .migrationStart s = .next t ∧ t.fld a VM_REGION.MSTATE = 1 ∧ t.fld a VM_REGION.KEY_NEW = j.key ∧
          t.fld a VM_REGION.BOUNDARY = 0 ∧ t.flag VM_STATUS VM_STATUS.MIG_ACTIVE = true ∧
          t.fld VM_STATUS VM_STATUS.MIG_REGION = j.region ∧ t.vm = { s.vm with migQ := rest, swapped := [] } ∧
          t = { s with regs := t.regs, vm := t.vm }) ∧
      (∀ (b : Fin 32768),
        let r := s.fld VM_STATUS VM_STATUS.MIG_REGION
        let st := s.fld (VM_REGION r) VM_REGION.BOUNDARY
        let d := s.migDelta r st
        let lo := min b.val (b.val ^^^ d)
        let hi := max b.val (b.val ^^^ d)
        s.vmRuns = true → s.flag VM_STATUS VM_STATUS.MIG_ACTIVE = true → st < 256 → d ≠ 0 → lo ∉ s.vm.swapped →
        (∀ t, t < 4 → s.flag (VM_REGROW t) VM_REGROW.ACTIVE = false) → s.vm.swapped.length < 16383 →
        s.gcls (s.granuleAt lo (r * 256 + st)) = .clean → s.gcls (s.granuleAt hi (r * 256 + st)) = .clean → s.vm.lines = [] →
        exec (.swapPair b) s = .next { s with vm := { s.vm with swapped := lo :: s.vm.swapped } })) ∧
  (∀ (s : State),
      (∀ (b : Fin 32768) (row : Fin 1536) (rest : List (Nat × Nat)),
        let p := s.physBank b.val
        s.vm.rowDue = (b.val, row.val) :: rest → (b.val, row.val) ∉ rest → (∀ r ∈ s.vm.rows, r.bank ≠ p) →
        s.flag (VM_REGROW (b.val / 8192)) VM_REGROW.ACTIVE = false → EventPlain s vmRowRepair svDegraded →
        ∃ t, exec (.rowRepair b row) s = .next t ∧ t.vm = { s.vm with
            rowDue := rest
            rows := s.vm.rows ++ [{ bank := p, spare := 0, row := row.val, fused := false }] } ∧
          t.fld (FJ_SRC_STAT vmRowRepair) FJ_SRC_STAT.EVENTS
            = satInc (2 ^ 32 - 1) (s.fld (FJ_SRC_STAT vmRowRepair) FJ_SRC_STAT.EVENTS)) ∧
      (∀ (t : Fin 4),
        let reg := VM_REGROW t.val
        let b := t.val * 8192 + s.fld reg VM_REGROW.BANK
        let new := t.val * 8320 + 8192 + s.fld reg VM_REGROW.SPARE
        Still s → s.flag reg VM_REGROW.ACTIVE = true → s.vm.bankDue = [] → s.vm.rows = [] → s.physBank b ≠ new →
        s.unitState (bankUnit new) = usRegrow → (s.freeSpares t.val).length ≠ 8 →
        ∃ u, exec (.bankRegrowEnd t) s = .next u ∧ (∀ x, u.physBank x = if x = b then new else s.physBank x) ∧
          u.vm.bytes = s.vm.bytes ∧ u.vm.cls = s.vm.cls) ∧
      (∀ (p : Fin 18), Still s → s.unitState (pipeUnit p.val) = usRegrow →
        ∃ u, exec (.pipeSpareAccept p) s = .next u ∧ u.unitState (pipeUnit p.val) = usBound ∧ u.seqs = s.seqs ∧ u.vm = s.vm ∧
          (s.fj.regrows = [] → (∀ a, u.ustEntry a = if a = pipeUnit p.val then BitVec.ofNat 32 (setBits (s.ustEntry a).toNat 0 3 usBound)
            else s.ustEntry a))))

/-- What queue commands, context writes and doorbells do: 09_queue_engine.md, R289 to R291, R296, R322. -/
def Obligations.QueuesAndDoorbells : Prop :=
  (∀ (s : State) (q : BitVec 16) (who : Master),
      let k := q.toNat
      who.ok = true → who.secSup = true → s.flag QE_STATUS QE_STATUS.READY = true →
      (CtlGo s who QE_QCMD 4 → s.flag QE_STATUS QE_STATUS.QCMD_BUSY = false →
        (s.qState k = qsDisabled → s.qf k QCTX.SQ_LOG < 13 → s.qf k QCTX.CQ_LOG < 13 → s.qf k QCTX.LOC ≠ 3 →
          ∃ f r, RegsOnly s r [QE_QCMD] ∧ exec (.queueEnable q who) s = .next { ((((((r.setQf k QCTX.SQ_HEAD 0).setQf k QCTX.SQ_TAIL 0).setQf k
            QCTX.CQ_HEAD 0).setQf k QCTX.CQ_TAIL 0).setQf k QCTX.SEQNO 0).setQf k QCTX.CQ_PHASE 1).setQf k QCTX.STATE qsEnabled with
              fab := f }) ∧
        (s.qState k = qsEnabled →
          ∃ f r, RegsOnly s r [QE_QCMD] ∧ exec (.queuePause q who) s = .next { r.setQf k QCTX.STATE qsPaused with fab := f }) ∧
        (s.qState k = qsPaused → s.qe.tkts = [] →
          ∃ f r, RegsOnly s r [QE_QCMD] ∧ exec (.queueResume q who) s = .next { r.setQf k QCTX.STATE qsEnabled with fab := f }) ∧
        (∀ (t : Tkt) (o k' : Fin 8), s.qState k = qsEnabled ∨ s.qState k = qsPaused ∨ s.qState k = qsStalled →
          s.qe.tkts.filter (fun x => x.queue == k) = [t] → t.at_ = .slot o k' → s.qf k QCTX.INFLIGHT ≠ 0 → s.qe.pools = [] →
          ∃ f r, RegsOnly s r [QE_QCMD] ∧ exec (.queueReset q who) s = .next
            { (((r.setFld QE_STATUS QE_STATUS.QCMD_BUSY 1).setQf k QCTX.STATE qsResetting).setFld (QE_OVEN o)
                (QE_OVEN.ABANDON.1 + k', 1) 1) with
              fab := f
              qe := { s.qe with
                parked := s.qe.parked.filter (fun x => x.1 != k)
                moved := s.qe.moved.filter (fun x => x.1 != k)
                tkts := s.qe.tkts.map (fun x => if x.is k t.seqno then { t with buf := none, gone := true } else x) } }) ∧
        (s.qState k = qsDisabled →
          ∀ i ∈ [Instr.queuePause q who, .queueResume q who, .queueReset q who],
            ∃ f r, RegsOnly s r [QE_QCMD] ∧ exec i s = .next { r.setFld QE_STATUS QE_STATUS.QCMD_REJ 1 with fab := f })) ∧
      (s.qState k = qsResetting → s.qf k QCTX.INFLIGHT = 0 → s.qf k QCTX.RSV = 0 →
        let u : State := { s.setQf k QCTX.STATE qsDisabled with qe := { s.qe with cpls := s.qe.cpls.filter (fun c => c.1 != k) } }
        exec (.queueResetEnd q) s = .next (if s.flag QE_STATUS QE_STATUS.QCMD_BUSY = true ∧ s.fld QE_QCMD QE_QCMD.QUEUE = k then
          u.setFld QE_STATUS QE_STATUS.QCMD_BUSY 0 else u)) ∧
      (∀ (w : Fin 16) (wide : Bool) (v : Word), CtlGo s who (QCTX k + 4 * w) (if wide then 8 else 4) →
        (wide = true → w.val % 2 = 0) → s.qState k = qsDisabled →
        ∃ f, exec (.queueContextWrite q who w wide v) s = .next { (if wide then
            (s.wordWrite (QCTX k + 4 * w) (v.toNat % 2 ^ 32)).wordWrite (QCTX k + 4 * w + 4) (v.toNat / 2 ^ 32)
          else s.wordWrite (QCTX k + 4 * w) (v.toNat % 2 ^ 32)) with fab := f })) ∧
  (∀ (s : State) (q : BitVec 16) (i : Fin 4) (f : Fin 257) (v : Word),
      let k := q.toNat
      let tail := v.toNat % 65536
      let head := bitsOf v.toNat 32 16
      let old := s.qf k QCTX.CQ_HEAD
      let n := s.cqSize k
      s.flag QE_STATUS QE_STATUS.READY = true → s.st.wipe = none → s.dbAccepts k (.host i f) = true →
      s.qState k = qsEnabled ∨ s.qState k = qsPaused →
      (s.dbError k (some tail) none = true → EventPlain s qeDbErr svInfo →
        ∃ t, exec (.doorbell q (.host i f) true false v) s = .next t ∧ EventRaised (s.setQf k QCTX.STATE qsStalled) t qeDbErr) ∧
      (s.st.base ≠ 4 → s.st.quiesce ≠ some 4 → s.st.quiesce ≠ some 20 → s.now < s.qe.ffAt + 1000 →
        (s.classOvens (s.qf k QCTX.CLASS)).1.any (fun o => (s.seqOf o).isSome && !s.dozing o) = true →
        (s.dbError k (some tail) none = false →
          exec (.doorbell q (.host i f) true false v) s = .next (s.setQf k QCTX.SQ_TAIL tail)) ∧
        (s.dbError k none (some head) = false →
          exec (.doorbell q (.host i f) false true v) s = .next { s.setQf k QCTX.CQ_HEAD head with qe := { s.qe with
            cpls := s.qe.cpls.filter (fun c => !(c.1 == k && decide ((c.2.1 + n - old % n) % n < (head + n - old % n) % n))) } })))

/-- A Ticket is fetched, dispatched, read, completed and dispatched again: 09_queue_engine.md, R299, R304, R307, R308, R316.
-/
def Obligations.TicketsFlow : Prop :=
  ∀ (s : State),
    (∀ (q : Nat),
      let i := s.qf q QCTX.SQ_HEAD
      let n := s.qf q QCTX.SEQNO
      s.qeRuns = true → s.st.quiesce = none → s.liveQueues.filter (fun x => s.eligible x) = [q] → s.now < s.qe.ffAt + 1000 →
      ∃ t, exec .ticketFetch s = .next t ∧
        t = { ((s.setQf q QCTX.RSV (s.qf q QCTX.RSV + 1)).setQf q QCTX.SQ_HEAD ((i + 1) % s.sqSize q)).setQf q QCTX.SEQNO
          ((n + 1) % 2 ^ 32) with qe := { s.qe with
            tkts := t.qe.tkts
            deficit := t.qe.deficit
            lastClass := t.qe.lastClass
            lastQueue := t.qe.lastQueue } } ∧
        t.qe.tkts = s.qe.tkts ++ [⟨q, n, i, .reading, 0, none, 0, false, 0⟩]) ∧
    (∀ (q : BitVec 16) (d : BitVec 512) (t : Tkt) (o : Nat) (n : Fin 9) (l : Nat),
      let k := q.toNat
      let w := s.qWorld k
      let u := { t with data := d }
      let e := s.pmNat n.val (entryAddr w u.opcode) 4
      s.qe.tkts = [t] → t.queue = k → t.at_ = .reading → t.rcount = 0 → t.buf = none → s.qf k QCTX.LOC < 2 → u.bufReq = false →
      s.qeRuns = true → s.st.quiesce = none → s.qState k = qsEnabled → (s.classOvens (s.qf k QCTX.CLASS)).2 = false → o < 8 →
      s.leastBusy (((s.classOvens (s.qf k QCTX.CLASS)).1.filter (fun x => (s.seqOf x).isSome)).filter
        (fun x => s.ovenFit x w && !s.dozing x)) = some o →
      s.seqOf o = some n.val → s.lsOf o = some l → s.pmBadAt n.val (entryAddr w u.opcode) = false → bitAt e 0 = true →
      s.qf k QCTX.INFLIGHT < 255 → s.lsCheck l true (slotOff w 0) 128 = none →
      ∃ t', exec (.ticketArrival q (some d)) s = .next t' ∧
        t'.qe = { s.qe with
          tkts := [{ t with data := d, at_ := .slot o 0, unit := n.val }]
          unread := s.qe.unread ++ [(o, w, 0)] } ∧
        t'.fld (QE_OVEN o) QE_OVEN.INFLIGHT = s.fld (QE_OVEN o) QE_OVEN.INFLIGHT + 1 ∧
        t'.qf k QCTX.INFLIGHT = s.qf k QCTX.INFLIGHT + 1 ∧
        t'.ls = memWrite s.ls (lsAddr l (slotOff w 0)) (toBytes 64 d.toNat ++ toBytes 64 (k + u.opcode * 2 ^ 16 + bit01 w * 2 ^ 26
          + bitsOf e 1 1 * 2 ^ 27 + t.seqno * 2 ^ 32 + bitsOf e 2 17 * 4 * 2 ^ 64))) ∧
    (∀ (o : Fin 8) (w : Bool) (who : Master) (d : Nat × Bool × Nat),
      let a := if w then QE_DISP_S o else QE_DISP_G o
      who.ok = true → CtlGo s who a 8 → s.ovenSup who o = true → (w = true → who.world = true) → s.dispHead o w = some d →
      ∃ f, exec (.dispatchRead o w who) s = .next { s with fab := f, qe := { s.qe with unread := s.qe.unread.erase d } } ∧
        f.waiting = [] ∧ f.answers = s.fab.answers ++ [(⟨who, false, .ctl, 0, a, 8, none⟩, 0, bitsOf (1 + d.2.2 * 2) 0 64)]) ∧
    (∀ (o : Fin 8) (w : Bool) (who : Master) (v : W32) (t : Tkt) (k : Fin 8),
      let q := t.queue
      let res := s.regNat (if w then QE_CPL_RES_S o else QE_CPL_RES_G o) 2
      let i := s.qf q QCTX.CQ_TAIL
      let a := s.qf q QCTX.CQ_BASE + i * 16
      let e := toBytes 4 t.tag ++ toBytes 2 (s.qf q QCTX.SQ_HEAD) ++ toBytes 1 (bitsOf v.toNat 4 7)
        ++ toBytes 1 (bit01 (decide (0 < t.rcount)) + 128 * s.qf q QCTX.CQ_PHASE) ++ toBytes 8 res
      who.ok = true → CtlGo s who (if w then QE_CPL_POST_S o else QE_CPL_POST_G o) 4 → s.flag QE_STATUS QE_STATUS.READY = true →
      s.ovenSup who o = true → (w = true → who.world = true) → bitsOf v.toNat 0 4 = k → s.qe.tkts = [t] → t.at_ = .slot o k →
      t.buf = none → q < 65536 → s.qWorld q = w → s.qState q ≠ qsResetting → s.flag QE_STATUS QE_STATUS.HOLD = false →
      s.qf q QCTX.LOC = 2 → s.qf q QCTX.CQ_LOG < 13 → s.vmOk a 16 = true → (∀ g ∈ granules a 16, s.gcls g = .clean) → i + 1 < s.cqSize q →
      ∃ t', exec (.completionPost o w who v) s = .next t' ∧ t'.vm.bytes = memWrite s.vm.bytes a e ∧
        t'.qe.tkts = [] ∧ t'.qe.cpls = s.qe.cpls ++ [(q, i, BitVec.ofNat 128 (ofBytes e))] ∧
        t'.qf q QCTX.CQ_TAIL = i + 1 ∧ t'.qf q QCTX.RSV = s.qf q QCTX.RSV - 1 ∧
        t'.qf q QCTX.INFLIGHT = s.qf q QCTX.INFLIGHT - 1 ∧
        t'.fld (QE_OVEN o) QE_OVEN.INFLIGHT = s.fld (QE_OVEN o) QE_OVEN.INFLIGHT - 1 ∧
        t' = { s with regs := t'.regs, qe := t'.qe, vm := t'.vm, fab := t'.fab }) ∧
    (∀ (t : Tkt), s.qe.tkts = [t] → t.at_ = .lost → s.fj.reactions = [] → t.rcount < max 1 (s.fld QE_CTL QE_CTL.REDISP_MAX) →
      s.flag QE_CTL QE_CTL.EN = false → EventPlain s qeRedisp svDegraded → t.queue < 65536 →
      ∃ u, exec .ticketRedispatch s = .next u ∧
        EventRaised ({ s.countSat (QCTX t.queue) QCTX.REDISP QCTX.REDISP_SAT with qe := { s.qe with
          tkts := [{ t with at_ := .waiting, rcount := t.rcount + 1 }] } }) u qeRedisp)

/-- A buffer pool is put in service, grants and frees its buffers, and leaves service: 09_queue_engine.md, R311 to R314. -/
def Obligations.PoolsGrantBuffers : Prop :=
  ∀ (s : State) (p : BitVec 8) (who : Master),
    let k := p.toNat
    let x := s.pool k
    let scribbled := fun (t : State) => ∀ y, y < s.regNat (QE_POOL_RING k) 2 ∨ s.regNat (QE_POOL_RING k) 2 + s.poolTotal k * 8 ≤ y →
      memByte t.vm.bytes y = memByte s.vm.bytes y
    who.ok = true → s.flag QE_STATUS QE_STATUS.READY = true → s.qe.poolWait = [] →
    (∀ no, who.isHost = false → poolNo who = some no → s.poolEn k = true → s.poolInit k = false → x.next < s.poolTotal k →
      (s.flag (QE_POOL_CFG k) QE_POOL_CFG.WORLD = true → poolWorld who = true) →
      s.fld (QE_POOL_STAT k) QE_POOL_STAT.FREE = s.poolFree k → s.poolFree k ≠ s.fld (QE_POOL_LOW k) QE_POOL_LOW.LOW + 1 →
      ∃ t, exec (.bufferAlloc p [who]) s = .next t ∧ scribbled t ∧
        t.pool k = { x with next := x.next + 1, held := x.held ++ [(x.next, masterHolder who)], last := no } ∧
        (∀ j, j ≠ k → t.pool j = s.pool j) ∧ t.fld (QE_POOL_STAT k) QE_POOL_STAT.FREE = s.poolFree k - 1 ∧
        t.fab.answers = s.fab.answers ++ [(allocReq k who (masterHolder who), 0, s.bufAddr k x.next + 1)] ∧
        (∀ a, a ≠ QE_POOL_STAT k → t.reg a = s.reg a) ∧
        t = { s with regs := t.regs, qe := { s.qe with pools := t.qe.pools }, vm := t.vm, fab := t.fab, freeCtr := t.freeCtr }) ∧
    (∀ (addr : Word) (b : Nat) (h : Nat × Holder), CtlGo s who (QE_FREE k) 8 → s.bufAt k addr.toNat = some b →
      x.held.find? (fun h => h.1 == b) = some h → who.secSup = true ∨ h.2 = masterHolder who →
      s.fld (QE_POOL_STAT k) QE_POOL_STAT.FREE = s.poolFree k → 0 < s.poolFree k → s.poolFree k < s.poolTotal k →
      ∃ t, exec (.bufferFree p who addr) s = .next t ∧ scribbled t ∧
        t.pool k = { x with held := x.held.filter (fun h => h.1 != b), ring := x.ring ++ [b] } ∧
        (∀ j, j ≠ k → t.pool j = s.pool j) ∧ t.fld (QE_POOL_STAT k) QE_POOL_STAT.FREE = s.poolFree k + 1 ∧
        (∀ a, a ≠ QE_POOL_STAT k → t.reg a = s.reg a) ∧
        t = { s with regs := t.regs, qe := { s.qe with pools := t.qe.pools }, vm := t.vm, fab := t.fab, freeCtr := t.freeCtr }) ∧
    (∀ (v : W32), CtlGo s who (QE_POOL_CFG k) 4 → who.secSup = true → bitAt v.toNat 6 = false → bitAt v.toNat 31 = false →
      (s.poolEn k = false → x.held = [] → ∃ t f, exec (.poolEnable p who v) s = .next { t with fab := f } ∧
        RegsOnly s t [QE_POOL_CFG k, QE_POOL_STAT k] ∧ t.poolEn k = true ∧ t.poolInit k = true ∧
        t.fld (QE_POOL_STAT k) QE_POOL_STAT.FREE = 0 ∧
        ∀ g ∈ [QE_POOL_CFG.BSIZE, QE_POOL_CFG.WORLD, QE_POOL_CFG.TOTAL], t.fld (QE_POOL_CFG k) g = bitsOf v.toNat g.1 g.2) ∧
      (s.poolEn k = true → bitsOf v.toNat 1 30 = bitsOf (s.reg (QE_POOL_CFG k)).toNat 1 30 →
        ∃ f, exec (.poolDisable p who v) s = .next { (s.setFld (QE_POOL_CFG k) QE_POOL_CFG.EN 0).setFld (QE_POOL_STAT k)
            QE_POOL_STAT.INIT 0 with
          fab := f
          qe := { s.qe with parked := s.qe.parked.filter (fun y => y.2 != k) } })) ∧
    (s.poolInit k = true → s.fld (QE_POOL_STAT k) QE_POOL_STAT.FREE = 0 → 0 < s.poolTotal k →
      ∃ t, exec (.poolInitDone p) s = .next t ∧ scribbled t ∧ t.pool k = { Pool.reset with last := x.last } ∧
        (∀ j, j ≠ k → t.pool j = s.pool j) ∧ t.poolInit k = false ∧
        t.fld (QE_POOL_STAT k) QE_POOL_STAT.FREE = s.poolTotal k ∧ (∀ a, a ≠ QE_POOL_STAT k → t.reg a = s.reg a) ∧
        t.qe.parked = s.qe.parked.filter (fun y => y.2 != k))

/-- Requests at one port are granted one at a time, and a time-out is answered: 10_local_stores_and_fabric.md, R347, R351,
R353. -/
def Obligations.FabricGrantsAndTimesOut : Prop :=
  ∀ (s : State) (a b : FabReq),
    let p := s.parkedOn (fabPort a)
    let turn := fun (r : FabReq) => (r.who.id + 15 - p) % 16
    (∀ (m : Master) (x size v : Nat) (t : State), CtlGo s m x size → v < 2 ^ (8 * size) → m.ok = true →
      s.ctlPut m none x size v = (t, none) →
      ∃ f, exec (.fabricRequest [⟨m, false, .ctl, 0, x, size, some v⟩]) s = .next { t with pending := s.pending, fab := f } ∧
        f.waiting = t.fab.waiting ∧ f.answers = t.fab.answers ++ [(⟨m, false, .ctl, 0, x, size, some v⟩, 0, 0)]) ∧
    (∀ s1 c v, s.fab.waiting = [] → a.ok = true → b.ok = true → a.who.id ≠ b.who.id → a.who.isHost = false →
      fabPort a = fabPort b → b.vc2 = false →
      a.vc2 = true ∨
        (s.flag FAB_CTL FAB_CTL.PARK_DIS = false ∧ a.who.id = p) ∨
        ((s.flag FAB_CTL FAB_CTL.PARK_DIS = true ∨ b.who.id ≠ p) ∧ turn a < turn b) →
      s.fabServe a = (s1, some (c, v)) → s1.pending = s.pending → s1.fab.waiting = [] →
      let s2 : State := { s1 with fab := { s1.fab with
        parked := mput (fun _ => 13) s1.fab.parked (fabPort a) a.who.id
        answers := s1.fab.answers ++ [(a, c, v)] } }
      exec (.fabricRequest [a, b]) s = exec (.fabricRequest [b]) s2 ∧
      exec (.fabricRequest [b, a]) s = exec (.fabricRequest [b]) s2) ∧
    (a.ok = true → a.who.id = 13 → EventPlain s 0xFB svSevere →
      ∃ u t, exec (.fabricTimeout a) s = .next t ∧ RegsOnly s u [FAB_ERR, FAB_ERR + 4] ∧
        EventRaised u { t with fab := s.fab } 0xFB ∧
        t.fab = { s.fab with
          waiting := s.fab.waiting.erase a
          answers := s.fab.answers ++ [(a, erTimeout, 0)] } ∧
        (if s.flag FAB_ERR FAB_ERR.VALID then u = s.setFld FAB_ERR FAB_ERR.MULTI 1 else
          u.fld FAB_ERR FAB_ERR.ADDR = a.addr % 2 ^ 32 ∧ u.fld FAB_ERR FAB_ERR.MASTER = 13 ∧ u.fld FAB_ERR FAB_ERR.CODE = erTimeout ∧
          u.fld FAB_ERR FAB_ERR.KIND = fabKindNo a.kind ∧
          u.fld FAB_ERR FAB_ERR.UNIT = (if a.kind = .ctl then 0 else a.unit.val) ∧
          u.flag FAB_ERR FAB_ERR.WRITE = a.data.isSome ∧ u.flag FAB_ERR FAB_ERR.VALID = true))

/-- An Oven dozes and wakes, and the Queue Engine feeds forward: 01_ticket_path.md, R19; 09_queue_engine.md, R309, R310. -/
def Obligations.OvensDozeAndWake : Prop :=
  ∀ (s : State) (o : Fin 8),
    let others := ∃ x : Fin 8, x ≠ o ∧ (s.seqOf x).isSome = true ∧ s.dozing x = false
    (s.dozing o = true → o.val ∉ s.qe.waking → exec (.ovenWake o) s = .next { s with qe := { s.qe with
      wakes := s.qe.wakes.filter (fun x => x != o)
      waking := s.qe.waking ++ [o.val] } }) ∧
    (o.val ∈ s.qe.waking → others → s.modeName = s.mode → s.qe.tkts = [] → Still s →
      ∃ t, exec (.ovenWakeDone o) s = .next t ∧
        RegsOnly { s with qe := { s.qe with waking := s.qe.waking.filter (fun x => x != o) } } t [ST_MODE, QE_OVEN o, QE_STATUS] ∧
        t.fld ST_MODE ST_MODE.DOZE_OVENS = setBits (s.fld ST_MODE ST_MODE.DOZE_OVENS) o 1 0 ∧
        t.flag (QE_OVEN o) QE_OVEN.DOZE = false ∧ t.fld QE_STATUS QE_STATUS.AWAKE = setBits (s.fld QE_STATUS QE_STATUS.AWAKE) o 1 1) ∧
    (∀ n : Fin 9, s.seqOf o = some n.val → s.fld QE_CTL QE_CTL.DOZE_IDLE ≠ 0 → s.objNat 0x2000 8 ≠ 0 →
      s.qe.tkts.all (fun t => !t.inSlot o && !s.awaits o t) = true → (s.seq n).outs = [] → s.st.base = 3 ∨ s.st.base = 6 →
      o.val ∉ s.qe.waking → others → s.modeName = s.mode →
      ∃ t, exec (.dozeHint o) s = .next t ∧ RegsOnly s t [ST_MODE, QE_OVEN o, QE_STATUS] ∧
        t.fld ST_MODE ST_MODE.DOZE_OVENS = setBits (s.fld ST_MODE ST_MODE.DOZE_OVENS) o 1 1 ∧
        t.flag (QE_OVEN o) QE_OVEN.DOZE = true ∧ t.fld QE_STATUS QE_STATUS.AWAKE = setBits (s.fld QE_STATUS QE_STATUS.AWAKE) o 1 0) ∧
    (∃ t, exec .feedForward s = .next t ∧ t = { s with st := { s.st with dict := t.st.dict }, qe := { s.qe with ffAt := s.now } } ∧
      t.objNat 0x5010 1 = s.backlog ∧ t.objNat 0x5010 2 = (s.qe.tkts.filter (fun x => x.dispatched)).length % 256 ∧
      ∀ i sub, i ≠ 0x5010 → i < 65536 → sub < 256 → t.obj i sub = s.obj i sub)

/-- The secure part of a local store, its clear, and its march engine: 10_local_stores_and_fabric.md, R337 to R343. -/
def Obligations.LocalStoresWipeAndMarch : Prop :=
  ∀ (s : State) (n : Fin 9) (who : Master) (v : W32) (fails : List (Fin 65536)),
    let c := LS_MARCH_CTL n
    let st := LS_MARCH_STATUS n
    let old := s.fld (LS_SEC n) LS_SEC.SIZE
    let new := bitsOf v.toNat 0 5
    let zeroed := fun (t : State) (hit : Nat → Bool) => (∀ a, memByte t.ls a = if hit a then 0 else memByte s.ls a) ∧
      t.lsBad = s.lsBad.filter (fun w => !hit (w * 8))
    let part := fun (lo hi a : Nat) => decide (lsAddr n lo ≤ a) && decide (a < lsAddr n hi)
    let lines := fun (m : March) => (fails.map Fin.val).filter (fun l => bitAt m.banks (l % 16))
    (who.ok = true → lsMayWrite who n = true →
      (CtlGo s who (LS_SEC n) 4 → s.flag (LS_SEC n) LS_SEC.LOCK = false → bitsOf v.toNat 6 26 = 0 →
        (bitAt v.toNat 5 = false → min 16 old ≤ min 16 new → ∃ t f, exec (.secureSizeWrite n who v) s = .next { t with fab := f } ∧
          RegsOnly s t [LS_SEC n] ∧ t.fld (LS_SEC n) LS_SEC.SIZE = new) ∧
        (bitAt v.toNat 5 = false → min 16 new < min 16 old → ∃ t f, exec (.secureSizeWrite n who v) s = .next { t with fab := f } ∧
          RegsOnly { s with lsWipes := s.lsWipes ++ [⟨n, min 16 new * 65536, min 16 old * 65536, some new⟩] } t
            [LS_SEC n, LS_STATUS n] ∧
          t.fld (LS_SEC n) LS_SEC.SIZE = old ∧ t.flag (LS_STATUS n) LS_STATUS.SEC_WIPING = true) ∧
        (new = old → ∃ t f, exec (.secureWipe n who v) s = .next { t with fab := f } ∧
          RegsOnly { s with lsWipes := s.lsWipes ++ [⟨n, 0, s.lsSecure n, none⟩] } t [LS_SEC n, LS_STATUS n] ∧
          t.fld (LS_SEC n) LS_SEC.SIZE = old ∧ t.flag (LS_SEC n) LS_SEC.WIPE = true ∧
          t.flag (LS_STATUS n) LS_STATUS.SEC_WIPING = true)) ∧
      (CtlGo s who c 4 →
        (bitsOf v.toNat 22 10 = 0 → bitsOf v.toNat 0 2 ≠ 3 → bitsOf v.toNat 2 2 ≠ 3 → bitsOf v.toNat 5 16 ≠ 0 →
          (∀ m ∈ s.marches, m.store ≠ n.val) → bitAt v.toNat 4 = true ∨ s.marchFree n = true →
          ∃ t f, exec (.marchStart n who v) s = .next { t with fab := f } ∧
            RegsOnly { s with marches := s.marches ++ [⟨n, bitAt v.toNat 4, bitsOf v.toNat 5 16⟩] } t
              [c, st, st + 4, LS_STATUS n] ∧
            t.flag st LS_MARCH_STATUS.BUSY = true ∧ t.flag (LS_STATUS n) LS_STATUS.MARCH_BUSY = true ∧
            t.flag c LS_MARCH_CTL.START = false ∧
            ∀ g ∈ [LS_MARCH_STATUS.FAIL_BANKS, LS_MARCH_STATUS.FIRST_LINE, LS_MARCH_STATUS.FAIL_COUNT], t.fld st g = 0) ∧
        (∀ m : March, Still s → s.marches.find? (fun m => m.store == n.val) = some m → lines m = [] → bitsOf v.toNat 21 11 = 0 →
          ∃ t f, exec (.marchAbort n who v fails) s = .next { t with fab := f } ∧
            RegsOnly { s with
              marches := s.marches.filter (fun x => x.store != n.val)
              ls := t.ls
              lsBad := t.lsBad } t [c, st, LS_STATUS n] ∧
            zeroed t (fun a => !m.preserve && decide (a / 2 ^ 22 = m.store) && bitAt m.banks (a / 64 % 16)) ∧
            t.flag st LS_MARCH_STATUS.BUSY = false ∧ t.flag (LS_STATUS n) LS_STATUS.MARCH_BUSY = false ∧
            t.flag st LS_MARCH_STATUS.DONE = true ∧ t.flag st LS_MARCH_STATUS.ABORTED = true ∧
            t.flag c LS_MARCH_CTL.ABORT = false))) ∧
    (Still s →
      (∀ w, s.lsWipes.filter (fun x => x.store == n.val) = [w] → ∃ t, exec (.secureWipeDone n) s = .next t ∧
        zeroed t (part w.lo w.hi) ∧ t.flag (LS_STATUS n) LS_STATUS.SEC_WIPING = false ∧ t.flag (LS_SEC n) LS_SEC.WIPE = false ∧
        t.fld (LS_SEC n) LS_SEC.SIZE = (match w.size with
          | some k => k % 32
          | none => old) ∧
        RegsOnly { s with
          lsWipes := s.lsWipes.filter (fun x => x.store != n.val)
          ls := t.ls
          lsBad := t.lsBad } t [LS_SEC n, LS_STATUS n]) ∧
      (∃ t, exec (.lsClearDone n) s = .next t ∧ zeroed t (part 0 0x400000) ∧ t.flag (LS_STATUS n) LS_STATUS.CLEARING = false ∧
        t.flag (LS_STATUS n) LS_STATUS.READY = true ∧ RegsOnly { s with
          ls := t.ls
          lsBad := t.lsBad } t [LS_STATUS n]) ∧
      (∀ m : March, s.marches.find? (fun m => m.store == n.val) = some m → s.flag c LS_MARCH_CTL.ABORT = false →
        ∃ u, RegsOnly { s with
            marches := s.marches.filter (fun x => x.store != n.val)
            ls := u.ls
            lsBad := u.lsBad } u [c, st, st + 4, LS_STATUS n] ∧
          zeroed u (fun a => !m.preserve && decide (a / 2 ^ 22 = m.store) && bitAt m.banks (a / 64 % 16)) ∧
          u.flag st LS_MARCH_STATUS.BUSY = false ∧ u.flag (LS_STATUS n) LS_STATUS.MARCH_BUSY = false ∧
          u.flag st LS_MARCH_STATUS.DONE = true ∧
          (lines m = [] → exec (.marchDone n fails) s = .next u) ∧
          (∀ l rest, lines m = l :: rest → EventPlain s (0x0B4 + n.val * 8) svDegraded →
            ∃ t, exec (.marchDone n fails) s = .next t ∧ EventRaised u t (0x0B4 + n.val * 8) ∧
              u.flag st LS_MARCH_STATUS.FAIL = true ∧ u.fld st LS_MARCH_STATUS.FIRST_LINE = l ∧
              u.fld st LS_MARCH_STATUS.FAIL_COUNT = min 0xFFFF (lines m).length ∧
              ∀ b < 16, bitAt (u.fld st LS_MARCH_STATUS.FAIL_BANKS) b = (lines m).any (fun l => l % 16 == b))))

/-- What commands and errors do to the Block Mover's channels: 11_block_mover.md, R367, R370, R372, R375. -/
def Obligations.BlockMoverCommands : Prop :=
  ∀ (s : State) (c : Fin 32) (who : Master),
    let x := s.bmChan c
    let a := bitsOf (s.regNat (BM_DESC c) 2) 6 42 * 64
    let inVm := bitAt (s.regNat (BM_DESC c) 2) 0 = false ∧ x.descErr = false ∧ s.vmOk (a + 60) 4 = true ∧
      (∀ g ∈ granules (a + 60) 4, s.gcls g = .clean)
    let killed := fun (t : State) (code : Nat) => t.vm.bytes = memWrite s.vm.bytes (a + 60) (toBytes 4 (1 + code * 2
        + bit01 x.spoison * 16 + bit01 x.pmerge * 32)) ∧ (∀ g, t.gcls g = s.gcls g) ∧
      t.bmState c = bsStopped ∧ t.flag (BM_CHST c) BM_CHST.ERRED = false ∧ t.fld (BM_CHST c) BM_CHST.LAST = code ∧
      t.flag (BM_CHST c) BM_CHST.PAUSE_PEND = false ∧ (t.bmChan c).phase = .idle ∧
      t.regNat (BM_DESC c) 2 = s.regNat (BM_DESC c) 2 ∧ (∀ k, k ≠ c.val → t.bmChan k = s.bmChan k) ∧
      t = { s with regs := t.regs, vm := t.vm, bm := t.bm }
    let released := fun (t : State) => RegsOnly s t ([BM_CTL, BM_STATUS] ++ (upTo 32).map BM_CHST) ∧
      t.flag BM_STATUS BM_STATUS.HALTED = false ∧ ∀ k < 32, t.bmState k
        = if s.bmState k = bsHalted ∧ s.flag (BM_CHST k) BM_CHST.ERRED = false then bsRunning else s.bmState k
    (who.ok = true → CtlGo s who (BM_CMD c) 4 → s.bmMaster who c = true → s.flag BM_STATUS BM_STATUS.READY = true →
      s.flag BM_STATUS BM_STATUS.FENCED = false → s.flag BM_STATUS BM_STATUS.HOLD = false → s.st.base ≠ 3 ∨ c.val < 8 →
      (s.flag BM_STATUS BM_STATUS.HALTED = false → s.bmState c = bsIdle ∨ s.bmState c = bsStopped →
        ∃ f, exec (.bmStart c who) s = .next { s.setFld (BM_CHST c) BM_CHST.STATE bsRunning with
          fab := f
          bm := s.bm.set c { BmChan.reset with phase := .fetch } }) ∧
      (s.bmState c = bsRunning ∨ s.bmState c = bsHalted ∨ s.bmState c = bsParked →
        ∃ f, exec (.bmPause c who) s = .next { s.setFld (BM_CHST c) BM_CHST.PAUSE_PEND 1 with fab := f }) ∧
      (s.flag BM_STATUS BM_STATUS.HALTED = false → s.bmState c = bsHalted → s.flag (BM_CHST c) BM_CHST.ERRED = true →
        ∃ f, exec (.bmResume c who) s = .next { ((s.setFld (BM_CHST c) BM_CHST.STATE bsRunning).setFld (BM_CHST c) BM_CHST.ERRED 0) with
          fab := f
          bm := s.bm.set c { x with descErr := false, asked := false, got := [], gotPsn := false } }) ∧
      (s.bmState c = bsHalted → s.flag (BM_CHST c) BM_CHST.ERRED = true → inVm →
        ∃ t f, exec (.bmAbort c who) s = .next { t with fab := f } ∧ killed t bcAborted)) ∧
    (who.ok = true → CtlGo s who BM_CTL 4 → who.secSup = true → s.flag BM_STATUS BM_STATUS.HALTED = true →
      ∃ t f, exec (.bmRelease who) s = .next { t with fab := f } ∧ released t) ∧
    (s.flag BM_STATUS BM_STATUS.HALTED = true → EventPlain s bmHaltAutoSrc svInfo →
      ∃ u t, exec .bmHaltAuto s = .next t ∧ released u ∧ EventRaised u t bmHaltAutoSrc) ∧
    (∀ (code : Fin 8) (side : Fin 3) (addr : Word), s.flag BM_STATUS BM_STATUS.HALTED = false →
      EventPlain s bmBusErr (if code.val = erDefault ∨ code.val = erDenied then svInfo else svDegraded) →
      ∃ u t, exec (.bmHalt c code side addr) s = .next t ∧ EventRaised u t bmBusErr ∧
        RegsOnly { s with bm := if side.val = sdDesc then s.bm.set c { x with descErr := true } else s.bm } u
          ([BM_STATUS, BM_ERR, BM_ERR_ADDR, BM_ERR_ADDR + 4] ++ (upTo 32).map BM_CHST) ∧
        u.flag BM_STATUS BM_STATUS.HALTED = true ∧ u.regNat BM_ERR_ADDR 2 = addr.toNat ∧
        u.fld BM_ERR BM_ERR.CHAN = c ∧ u.fld BM_ERR BM_ERR.CODE = code ∧ u.fld BM_ERR BM_ERR.SIDE = side ∧
        u.flag BM_ERR BM_ERR.VALID = true ∧ u.flag BM_ERR BM_ERR.MULTI = false ∧
        ∀ k < 32, u.bmState k = (if k = c.val ∨ s.bmState k = bsRunning then bsHalted else s.bmState k) ∧
          u.flag (BM_CHST k) BM_CHST.ERRED = (s.flag (BM_CHST k) BM_CHST.ERRED || decide (k = c.val))) ∧
    (s.st.quiesce.isSome = true → s.bmState c = bsRunning ∨ s.bmState c = bsHalted → inVm →
      EventPlain s bmPowerAbortSrc svInfo →
      ∃ u t, exec (.bmPowerAbort c) s = .next t ∧ killed u bcPower ∧ EventRaised u t bmPowerAbortSrc)

/-- A channel fetches a descriptor, moves its elements and ends it: 11_block_mover.md, R359, R361, R365 to R367. -/
def Obligations.BlockMoverMoves : Prop :=
  ∀ (s : State) (c : Fin 32),
    let x := s.bmChan c
    let a := bitsOf (s.regNat (BM_DESC c) 2) 6 42 * 64
    let clean := fun (p n : Nat) => s.vmOk p n = true ∧ ∀ g ∈ granules p n, s.gcls g = .clean
    s.bmRuns = true → s.bmState c = bsRunning →
    (bitAt (s.regNat (BM_DESC c) 2) 0 = false → clean a 64 → x.phase = .fetch →
      let y : BmChan := { BmChan.reset with
        desc := BitVec.ofNat 512 (ofBytes (memRead s.vm.bytes a 64))
        phase := .move }
      y.bad = false → y.cnt0 ≠ 0 → y.cnt1 ≠ 0 → y.cnt2 ≠ 0 →
      ∃ t, exec (.bmDescriptorFetch c) s = .next t ∧ t.bmChan c = y ∧ (∀ k, k ≠ c.val → t.bmChan k = s.bmChan k) ∧
        t.regNat (BM_POS c) 2 = 0 ∧
        t.regNat (BM_CHK c) 1 = (if y.chk && decide (y.ctl 10 1 = 0) then 0xFFFFFFFF else s.regNat (BM_CHK c) 1) ∧
        t.vm.bytes = s.vm.bytes ∧ (∀ g, t.gcls g = s.gcls g) ∧ t = { s with regs := t.regs, vm := t.vm, bm := t.bm }) ∧
    (∀ p q : Nat,
      let i0 := s.fld (BM_POS c) BM_POS.I0
      let i1 := s.fld (BM_POS c) BM_POS.I1
      let i2 := s.fld (BM_POS c) BM_POS.I2
      let d := memRead s.vm.bytes p x.esize
      x.phase = .move → x.op = 0 → x.sspace = 0 → x.dspace = 0 → x.overlap = false → i2 < x.cnt2 →
      x.srcAddr i2 i1 i0 = p → x.dstAddr i2 i1 i0 = q → clean p x.esize → clean q x.esize →
      ∃ t, exec (.bmElement c none) s = .next t ∧ t.vm.bytes = memWrite s.vm.bytes q d ∧ (∀ g, t.gcls g = s.gcls g) ∧
        t.regNat (BM_CHK c) 1 = (if x.chk then crc32c (s.regNat (BM_CHK c) 1) (d.map BitVec.toNat) % 2 ^ 32
          else s.regNat (BM_CHK c) 1) ∧
        t.regNat BM_PERF_BYTES 2 = (s.regNat BM_PERF_BYTES 2 + x.esize) % 2 ^ 64 ∧
        (t.fld (BM_POS c) BM_POS.I2, t.fld (BM_POS c) BM_POS.I1, t.fld (BM_POS c) BM_POS.I0)
          = (if i0 + 1 < x.cnt0 then (i2, i1, i0 + 1) else if i1 + 1 < x.cnt1 then (i2, i1 + 1, 0) else ((i2 + 1) % 65536, 0, 0)) ∧
        t.bmChan c = (if x.cnt0 ≤ i0 + 1 ∧ x.cnt1 ≤ i1 + 1 ∧ i2 + 1 = x.cnt2 then { x with phase := .finish } else x) ∧
        (∀ k, k ≠ c.val → t.bmChan k = s.bmChan k) ∧ t = { s with regs := t.regs, vm := t.vm, bm := t.bm }) ∧
    (x.phase = .finish → x.writes = [] → bitAt (s.regNat (BM_DESC c) 2) 0 = false →
      x.ctl 13 1 = 0 ∨ s.flag (BM_CFG c) BM_CFG.MSIX_EN = false →
      (x.chk = false → x.ctl 12 1 = 0 → clean (a + 60) 4 →
        ∃ t, exec (.bmDescriptorEnd c) s = .next t ∧ (∀ g, t.gcls g = s.gcls g) ∧
          t.vm.bytes = memWrite s.vm.bytes (a + 60) (toBytes 4 (1 + bit01 x.spoison * 16 + bit01 x.pmerge * 32)) ∧
          t.bmState c = bsIdle ∧ t.fld (BM_CHST c) BM_CHST.LAST = bcOk ∧ (t.bmChan c).phase = .idle ∧
          t.regNat (BM_DESC c) 2 = s.regNat (BM_DESC c) 2 ∧ t = { s with regs := t.regs, vm := t.vm, bm := t.bm }) ∧
      (x.chk = true → x.ctl 11 1 = 0 → x.ctl 12 1 = 1 → x.ctl 14 1 = 0 → s.flag (BM_CHST c) BM_CHST.PAUSE_PEND = false →
        s.st.quiesce = none → clean (a + 56) 8 →
        ∃ t, exec (.bmDescriptorEnd c) s = .next t ∧ (∀ g, t.gcls g = s.gcls g) ∧
          t.vm.bytes = memWrite s.vm.bytes (a + 56) (toBytes 4 (s.regNat (BM_CHK c) 1 ^^^ 0xFFFFFFFF)
            ++ toBytes 4 (1 + bit01 x.spoison * 16 + bit01 x.pmerge * 32)) ∧
          t.bmState c = bsRunning ∧ t.fld (BM_CHST c) BM_CHST.LAST = bcOk ∧ (t.bmChan c).phase = .fetch ∧
          t.regNat (BM_DESC c) 2 = x.next ∧ t = { s with regs := t.regs, vm := t.vm, bm := t.bm }))

/-- A chain port trains, loses lanes and its link, and takes flits in order: 12_chain_ports.md, R383 to R388. -/
def Obligations.ChainLinksTrain : Prop :=
  ∀ (s : State) (p : Fin 8) (who : Master),
    let x := s.chPort p
    let retrained := fun (t : State) => t = { s with regs := t.regs, ch := { s.ch with ports := t.ch.ports }, fab := t.fab } ∧
      t.chPort p = { x with train := .again } ∧ (∀ k, k ≠ p.val → t.chPort k = s.chPort k) ∧ t.lstate p = lsTraining
    let down := fun (t : State) => ∃ u, EventRaised u t (chSrc p ckPartition) ∧ u.lstate p = lsDown ∧
      RegsOnly { s with ch := { s.ch with ports := s.ch.ports.set p ChPort.reset } } u [CH_STATUS p, CH_CTL p]
    s.ch.inbox = [] →
    (s.flag (CH_CTL p) CH_CTL.EN = true → s.lstate p = lsDown ∨ s.lstate p = lsTraining → x.train = .start → x.failed = [] →
      s.chPowered = true → s.ch.dead = none → s.flag (CH_CTL p) CH_CTL.DATELINE = false →
      (∀ c ∈ [Instr.linkTrain p true, .repairedLinkUp p], ∃ t, exec c s = .next t ∧ t.lstate p = lsUp ∧ t.flag (CH_CTL p) CH_CTL.RETRAIN = false ∧
        RegsOnly { s with ch := { s.ch with ports := s.ch.ports.set p { ChPort.reset with queue := [s.nbrMsg p] } } } t
          [CH_STATUS p, CH_CTL p]) ∧
      (∃ t, exec (.linkTrain p false) s = .next t ∧ t.lstate p = lsDown ∧
        RegsOnly { s with ch := { s.ch with ports := s.ch.ports.set p { x with train := .none } } } t [CH_STATUS p, CH_CTL p])) ∧
    (who.ok = true → CtlGo s who (CH_CTL p) 4 → who.secSup = true → s.chUp p = true → s.flag (CH_CTL p) CH_CTL.EN = true →
      ∃ t, exec (.chRetrain p who) s = .next t ∧ retrained t) ∧
    (s.lstate p = lsTraining ∨ s.chUp p = true → x.train ≠ .start → s.chTraffic = true → s.flag CH_RING CH_RING.EN = false →
      x.replay = [] → x.sending = none → x.queue = [] → EventPlain s (chSrc p ckPartition) (srcSev (chSrc p ckPartition)) →
      (s.lstate p = lsTraining → ∃ t, exec (.retrainTimeout p) s = .next t ∧ down t) ∧
      (∃ t, exec (.linkDown p true) s = .next t ∧ down t)) ∧
    (s.chUp p = true →
      (∃ t, exec (.linkDown p false) s = .next t ∧ retrained t) ∧
      (x.replay ≠ [] → ∃ t, exec (.flitAckTimeout p) s = .next t ∧ retrained t) ∧
      (∀ (errs : List (BitVec 16)) (ce : BitVec 31) (ue : BitVec 15), errs.length = 9 →
        (∀ l < 8, (errs.getD l 0).toNat ≤ 2 ^ s.fld (CH_LANE p) CH_LANE.SPARE_EXP) →
        ∃ t, exec (.laneErrorWindow p errs ce ue) s = .next t ∧ RegsOnly s t [CH_ERRS p, CH_ERRS p + 4] ∧
          t.fld (CH_ERRS p) CH_ERRS.FEC_CE = min (2 ^ 31 - 1) (s.fld (CH_ERRS p) CH_ERRS.FEC_CE + ce.toNat) ∧
          t.fld (CH_ERRS p) CH_ERRS.FEC_UE = min (2 ^ 15 - 1) (s.fld (CH_ERRS p) CH_ERRS.FEC_UE + ue.toNat)) ∧
      (∀ l : BitVec 4, l.toNat < 8 → who.ok = true → CtlGo s who (CH_LANE p) 4 → who.secSup = true → s.spareFree p = true →
        s.fj.regrows = [] → EventPlain s (chSrc p ckLaneSpare) svDegraded →
        (s.fj.jq.filter (fun r => decide (recKind r ≠ kFlush))).length + 4 < 64 →
        ∃ t, exec (.laneForce p who l) s = .next t ∧ t.flag (CH_STATUS p) CH_STATUS.SPARE_USED = true ∧
          t.fld (CH_STATUS p) CH_STATUS.SPARE_OF = l.toNat ∧ bitAt (t.fld (CH_LANE p) CH_LANE.LANE_FAIL) l.toNat = true ∧
          t.flag (CH_LANE p) CH_LANE.FORCE = false ∧ t.unitState (laneUnit p l.toNat) = usFenced ∧
          t.unitState (laneUnit p 8) = usBound ∧ t.chPort p = { x with swapReq := some l.toNat }) ∧
      (∀ l : Fin 9, l.val < 8 → 2 ≤ s.st.base → s.flag (CH_LANE p) (12 + l.val, 1) = false → l.val ∉ x.failed → s.spareFree p = true →
        s.fj.regrows = [] → EventPlain s (chSrc p ckLaneSpare) svDegraded →
        (s.fj.jq.filter (fun r => decide (recKind r ≠ kFlush))).length + 4 < 64 →
        ∃ t, exec (.laneLoss p l) s = .next t ∧ t.flag (CH_STATUS p) CH_STATUS.SPARE_USED = true ∧
          t.fld (CH_STATUS p) CH_STATUS.SPARE_OF = l.val ∧ bitAt (t.fld (CH_LANE p) CH_LANE.LANE_FAIL) l.val = true ∧
          t.unitState (laneUnit p l.val) = usFenced ∧ t.unitState (laneUnit p 8) = usBound ∧
          t.chPort p = { x with swapReq := some l.val }) ∧
      (∀ f : FlitIn, f.nak = false → f.swap = none → f.slots = List.replicate 15 0 → x.part = [] → x.queue = [] →
        x.sending = none → x.replay.length < 512 →
        let z := List.replicate 15 (0 : BitVec 128)
        let sent := fun (t : State) (seq : Nat) (replay : List SentFlit) (nak : Bool) => ∃ g, t.ch.out = s.ch.out ++ [g] ∧
          g.port = p.val ∧ g.seq = x.txSeq ∧ g.ack = seq ∧ g.nak = nak ∧ g.slots = z ∧
          (t.chPort p).rxSeq = seq ∧ (t.chPort p).txSeq = (x.txSeq + 1) % 4096 ∧ (t.chPort p).nakDue = false ∧
          (t.chPort p).queue = [] ∧ (t.chPort p).replay = replay ++ [⟨x.txSeq, z, []⟩] ∧
          t.regNat (CH_PERF_TX p) 2 = (s.regNat (CH_PERF_TX p) 2 + 1) % 2 ^ 64 ∧
          t = { s with regs := t.regs, ch := { s.ch with ports := t.ch.ports, out := t.ch.out } }
        (f.intact = false → ∃ t, exec (.flitReceive p f) s = .next t ∧ sent t x.rxSeq x.replay true) ∧
        (f.intact = true → f.seq.toNat = (x.rxSeq + 1) % 4096 → (∀ r ∈ x.replay, r.seq ≠ f.ack.toNat) →
          ∃ t, exec (.flitReceive p f) s = .next t ∧ sent t f.seq.toNat x.replay x.nakDue ∧
            t.regNat (CH_PERF_RX p) 2 = (s.regNat (CH_PERF_RX p) 2 + 1) % 2 ^ 64)))

/-- Requests of another device that a window admits are performed and answered: 12_chain_ports.md, R392, R401, R402. -/
def Obligations.ChainRequestsServed : Prop :=
  ∀ (s : State) (p : Fin 8) (m : ChMsg) (b : Nat), ChainIn s p m → ChainTo s m.src b →
    let vm := fun (u : State) => u = { s with vm := u.vm } ∧ ∀ g, u.gcls g = s.gcls g
    ((upTo 8).any (fun w => s.winAdmits w m) = true → m.store = 15 → s.vmOk m.addr m.bytes = true →
      (∀ g ∈ granules m.addr m.bytes, s.gcls g = .clean) → m.poison = false →
      (m.isType 1 = true → ∃ u, vm u ∧ u.vm.bytes = s.vm.bytes ∧
        exec (.rd p m) s = .next (u.withQueued b (s.chReply m mtRDRSP m.bytes 0 (memRead s.vm.bytes m.addr m.bytes)))) ∧
      (m.isType 2 = true → ∃ u, vm u ∧ u.vm.bytes = memWrite s.vm.bytes m.addr (m.data.take m.bytes) ∧
        exec (.wr p m) s = .next (u.withQueued b (s.chReply m mtWRACK 1 0 []))) ∧
      (m.isType 3 = true → (s.vm.atomQ.filter (fun e => e.unit == s.atomUnitOf m.addr)).length < 64 →
        ∃ e, exec (.atom p m) s = .next { s with vm := { s.vm with atomQ := s.vm.atomQ ++ [e] } } ∧
          e.unit = s.atomUnitOf m.addr ∧ e.addr = m.addr ∧ e.op = .vec (atomSub m.sub) ∧
          e.v = ofBytes (m.data.take (etyOf m.ety).size) ∧ e.src = .chain p m.src m.tag)) ∧
    (m.isType 4 = true →
      let q := m.addr % 65536
      let tail := bitsOf m.addr 32 16
      (s.flag CH_CFG CH_CFG.DB_EN = false ∨ s.qf q QCTX.LOC ≠ 2 ∨ s.qWorld q = true →
        exec (.db p m) s = .next (s.withQueued b ((s.errAnswer m xrDenied)))) ∧
      (s.flag CH_CFG CH_CFG.DB_EN = true → s.qf q QCTX.LOC = 2 → s.qWorld q = false → bitAt m.addr 16 = false →
        s.flag QE_STATUS QE_STATUS.READY = true → s.qState q = qsEnabled ∨ s.qState q = qsPaused →
        s.dbError q (some tail) none = false → s.st.quiesce = none → s.now < s.qe.ffAt + 1000 →
        (s.classOvens (s.qf q QCTX.CLASS)).1.any (fun o => (s.seqOf o).isSome && !s.dozing o) = true →
        exec (.db p m) s = .next ((s.setQf q QCTX.SQ_TAIL tail).withQueued b (s.chReply m mtWRACK 1 0 []))))

/-- A response frees its tag and reaches who waits for it: 12_chain_ports.md, R393, R403, R404. -/
def Obligations.ChainResponsesReturn : Prop :=
  ∀ (s : State) (p : Fin 8) (m : ChMsg) (tg : ChTag),
    let freed : ChainState := { s.ch with tags := s.ch.tags.filter (fun x => x.tag != tg.tag) }
    (ChainIn s p m → s.ch.tags.find? (fun t => t.tag == m.tag) = some tg →
      (∀ c, tg.who = .bmRead c → m.isType 8 = true → c < 32 → exec (.rdrsp p m) s = .next ({ s with ch := freed }.setBmChan c { s.bmChan c with
          asked := false
          got := (s.bmChan c).got ++ m.data.take m.bytes
          gotPsn := (s.bmChan c).gotPsn || m.poison })) ∧
      (∀ c elem w, tg.who = .bmWrite c elem → m.isType 9 = true → bitAt m.stat 0 = false → c < 32 →
        (s.bmChan c).writes.find? (fun w => w.1 == elem) = some w →
        exec (.wrack p m) s = .next ({ s with ch := freed }.setBmChan c { s.bmChan c with writes := (s.bmChan c).writes.erase w })) ∧
      (∀ n id ck lp x, tg.who = .scalar n → m.isType 10 = true → m.poison = false → (s.seq n).spec = [⟨id, ck, lp, 1, .access x none true false⟩] →
        (∃ d a, x.tgt = .remote d a) → x.isPld = false → x.misaligned = false → x.op = .aaddD → x.size = 8 → (s.seq n).waiting = [] →
        (s.seq n).tail = none → (s.seq n).outs = [] →
        ∃ t, exec (.atomrsp p m) s = .next t ∧ Retired { s with ch := freed } t n { s.seq n with
          arch := (s.seq n).arch.setReg x.dst (BitVec.ofNat 64 (ofBytes (m.data.take m.bytes)))
          spec := [] }) ∧
      (tg.who = .bell → m.isType 11 = true → EventPlain s (chSrc tg.port ckDbErr) (srcSev (chSrc tg.port ckDbErr)) →
        ∃ t, exec (.errrsp p m) s = .next t ∧ EventRaised { s with ch := freed } t (chSrc tg.port ckDbErr)) ∧
      (m.isType 12 = true → exec (.waking p m) s = .next { s with ch := { s.ch with
        tags := s.ch.tags.map (fun x => if x.tag = m.tag then { x with waking := true } else x) } })) ∧
    (∀ (tag : BitVec 12) (c : Nat), s.mode ≠ mTransit → s.ch.tags.find? (fun t => t.tag == tag.toNat) = some tg → tg.who = .bmRead c →
      c < 32 → s.flag BM_STATUS BM_STATUS.HALTED = true →
      EventPlain s (chSrc tg.port ckRspTimeout) (srcSev (chSrc tg.port ckRspTimeout)) →
      ∃ u, EventRaised s u (chSrc tg.port ckRspTimeout) ∧ exec (.tagTimeout tag) s = .next
        ((({ u with ch := freed }.setBmChan c { s.bmChan c with asked := false, got := [], gotPsn := false }).setFld (BM_CHST c)
          BM_CHST.ERRED 1).setFld (BM_CHST c) BM_CHST.STATE bsHalted |>.setFld BM_ERR BM_ERR.MULTI 1))

/-- The messages that keep the chain itself: 12_chain_ports.md, R395 to R416; 17_dictionary_and_ownership.md, R561. -/
def Obligations.ChainKeepsItself : Prop :=
  ∀ (s : State) (p : Fin 8) (m : ChMsg) (who : Master),
    let tell := fun (q : Nat) (m : ChMsg) => if s.flag (CH_CTL q) CH_CTL.DATELINE then m.set 8 1 1 else m
    let timed := fun (t1 t2 t3 t4 : Int) (t : State) => t.regNat CH_TOFFSET 2 = ofInt 64 (((t2 - t1) - (t4 - t3)).tdiv 2) ∧
      t.regNat CH_TDELAY 1 = ofInt 24 (((t4 - t1) - (t3 - t2)).tdiv 2) % 2 ^ 32 ∧ t.flag CH_TIMING CH_TIMING.VALID = true
    let up := s.fld CH_TIMING CH_TIMING.UPPORT
    let entered := fun (t : State) => t.flag CH_RING CH_RING.TRANSIT = true ∧
      t.ch.marks = [(0, false), (0, true), (1, false), (1, true)] ∧ (s.st.base = 6 → t.flag ST_MODE ST_MODE.TRANSIT = true)
    let ringUp := ∃ e w : Fin 8, s.ringPort false = some e.val ∧ s.ringPort true = some w.val ∧ s.chUp e = true ∧ s.chUp w = true
    (ChainIn s p m → m.isType 32 = true → s.wiringOk p (m.d 13 2) (m.d 15 4) = true → bitAt (m.d 0 13) 12 = true →
      ∃ t, exec (.nbr p m) s = .next t ∧ RegsOnly s t [CH_STATUS p] ∧ t.fld (CH_STATUS p) CH_STATUS.PEER_ID = m.d 0 12 ∧
        t.flag (CH_STATUS p) CH_STATUS.PEER_VALID = true ∧ t.flag (CH_STATUS p) CH_STATUS.WIRING = false) ∧
    (∃ t, exec .nbrPeriod s = .next t ∧ t = { s with ch := { s.ch with ports := t.ch.ports } } ∧ ∀ q < 8, t.chPort q
      = if s.chUp q then { s.chPort q with queue := (s.chPort q).queue ++ [tell q (s.nbrMsg q)] } else s.chPort q) ∧
    (ChainIn s p m → m.isType 33 = true → m.sub = 0 → exec (.time p m) s = .next (s.withQueued p (tell p
      (ChMsg.make mtTIME 2 4095 s.chId 0 1 0 0 1 0 0 false (toBytes 8 s.st.tb ++ toBytes 8 s.st.tb))))) ∧
    (s.timeRuns = true →
      exec (.timeExchange none) s = .next ({ s with ch := { s.ch with t1 := some s.st.tb } }.withQueued up (tell up
        (ChMsg.make mtTIME 2 4095 s.chId 0 0 0 0 1 0 0 false (toBytes 16 s.st.tb)))) ∧
      (s.flag TB_CTL TB_CTL.STEER_EN = false → ∀ (t2 t3 : Word) (fl : W32), ∃ t,
        exec (.timeExchange (some (t2, t3, fl))) s = .next t ∧ timed (s.st.tb - fl.toNat) t2.toNat t3.toNat s.st.tb t ∧
        RegsOnly s t [CH_TOFFSET, CH_TOFFSET + 4, CH_TDELAY, CH_TIMING]) ∧
      (s.flag TB_CTL TB_CTL.STEER_EN = false → ∀ t1, ChainIn s p m → m.isType 33 = true → m.sub ≠ 0 → p.val = up → s.ch.t1 = some t1 →
        ∃ t, exec (.time p m) s = .next t ∧ timed t1 (m.d 0 64) (m.d 64 64) s.st.tb t ∧
          RegsOnly { s with ch := { s.ch with t1 := none } } t [CH_TOFFSET, CH_TOFFSET + 4, CH_TDELAY, CH_TIMING])) ∧
    (ChainIn s p m → m.isType 34 = true → (m.src, m.tag) ∉ s.ch.seen → s.flag CH_RING CH_RING.EN = true →
      bitAt (m.d 0 5) 4 = false → s.flag CH_RING CH_RING.FAIL_A_V = false → s.flag CH_RING CH_RING.TRANSIT = false → ringUp →
      ∃ t, exec (.linkdownFlood p m) s = .next t ∧ t.fld CH_RING CH_RING.FAIL_A = m.d 0 4 ∧
        t.flag CH_RING CH_RING.FAIL_A_V = true ∧ entered t ∧ t.ch.seen = s.ch.seen ++ [(m.src, m.tag)]) ∧
    (∀ (vc : Nat) (h : ChHeld) (b : Nat) (west : Bool), ChainIn s p m → m.isType 16 = true → m.src = s.chId →
      s.ringDir p = some west → m.vc = vc →
      let dir := if m.turned then west else !west
      let mine := fun (h : ChHeld) => h.msg.vc == vc && h.west == dir
      let u : State := { s with ch := { s.ch with
        marks := s.ch.marks.erase (vc, dir)
        held := s.ch.held.filter (fun h => !mine h) } }
      (vc, dir) ∈ s.ch.marks → s.ch.marks.erase (vc, dir) ≠ [] → s.ch.held.filter mine = [h] → u.chRoute h.msg 8 = .port b →
      u.heldDir h.msg = none → exec (.mark p m) s = .next (u.withQueued b (tell b h.msg))) ∧
    (∀ (d b : Fin 8) (q : ChMsg), ChainIn s p m → m.isType 35 = true → s.ch.dead = some d.val → s.ch.recDone = false →
      (s.chPort d).unreceived (m.d 0 12) = [] → (s.chPort d).queue = [q] → s.ch.deadQ = [] → s.ch.marks ≠ [] → q.ty ≠ mtMARK →
      q.turned = false → b ≠ d → s.ringPort (decide (s.ringPort false = some d.val)) = some b.val → s.chUsable b = true →
      exec (.reconcile p m) s = .next (({ s with ch := { s.ch with deadQ := [], recDone := true } }.setChPort d { s.chPort d with
        replay := []
        queue := []
        sending := none
        left := [] }).withQueued b (tell b (q.set 9 1 1)))) ∧
    (∀ r : Relay, ChainIn s p m → m.isType 36 = true → s.st.canTx = [] →
      let dst := m.addr % 2 ^ 13
      let src := m.addr / 2 ^ 13 % 2 ^ 13
      let d := m.data.take m.bytes
      m.addr / 2 ^ 26 % 8 = 3 → s.st.relays.find? (fun r => r.src == dst && r.dst == src && (r.tid == ofBytes ((d.drop 1).take 1)
        || r.tid == ofBytes ((d.drop 3).take 1))) = some r → r.path < 2 →
      exec (.mgmt p m) s = .next { s with st := { s.st with
        relays := s.st.relays.map (fun x => if x = r then { x with answered := true } else x)
        canTx := [{ path := r.path, func := 3, dst := dst, src := src, data := d }] } }) ∧
    (s.flag CH_RING CH_RING.TRANSIT = true → s.ch.dead = none → s.ch.held = [] → s.ch.inbox = [] →
      let k := chSrc ((s.ringPort false).getD 0) ckTransitLong
      EventPlain s k (srcSev k) → (s.fj.jq.filter (fun r => decide (recKind r ≠ kFlush))).length + 1 < 64 →
      ∃ u t, exec .transitTimeout s = .next t ∧ EventRaised u t k ∧ u.ch = { s.ch with marks := [] } ∧
        u.flag CH_RING CH_RING.TRANSIT = false ∧ u.flag CH_RING CH_RING.RESTORE = false ∧
        u.flag ST_MODE ST_MODE.TRANSIT = false ∧ ∀ a, a ≠ CH_RING → a ≠ ST_MODE → u.reg a = s.reg a) ∧
    (who.ok = true → CtlGo s who CH_RING 4 → who.secSup = true → s.flag CH_RING CH_RING.TRANSIT = false →
      s.flag CH_RING CH_RING.EN = true → ringUp → ∃ t, exec (.ringRestore who) s = .next t ∧
        t.flag CH_RING CH_RING.FAIL_A_V = false ∧ t.flag CH_RING CH_RING.FAIL_B_V = false ∧
        t.flag CH_RING CH_RING.RESTORE = true ∧ entered t) ∧
    (∀ (v : Word) (b : Nat), who.ok = true → CtlGo s who CH_DBSEND 8 → who.anySup = true → s.chValid = true → s.chTraffic = true →
      s.ch.tags = [] → ChainTo s (bitsOf v.toNat 0 12) b →
      ∃ f g, exec (.doorbellSend who v) s = .next ({ s with
          fab := f
          ch := { s.ch with tags := [⟨0, .bell, b, false⟩] } }.withQueued b g) ∧
        g.ty = mtDB ∧ g.vc = 0 ∧ g.dst = bitsOf v.toNat 0 12 ∧ g.src = s.chId ∧ g.tag = 0 ∧ g.ttl = s.chTtl % 16 ∧
        g.addr = bitsOf v.toNat 12 16 + bitsOf v.toNat 28 1 * 2 ^ 16 + bitsOf v.toNat 32 16 * 2 ^ 32)

/-- A host's accesses to Vector Memory, its MSI-X messages and its mailbox: 06_ordering_and_runahead.md, R206;
13_host_ports.md, R427 to R433. -/
def Obligations.HostPortsServe : Prop :=
  ∀ (s : State) (i : Fin 4) (f : Fin 257) (who : Master),
    let e := s.hostEp i
    let ready := s.epUp i = true ∧ s.epExists i = true ∧ s.hostFuncOn i f = true ∧ s.hostBehind i = false ∧ s.st.holdup = false ∧
      s.st.base ≠ mBrum
    let sends := fun (f v : Nat) => s.epUp i = true ∧ f ∈ e.bme ∧ f ∈ e.msixOn ∧ f ∉ e.fmask ∧ (f = 0 ∨ v < 64)
    let message := fun (f v : Nat) => HostOut.msix i f v (e.tabNat f (v * 16) 8) (e.tabNat f (v * 16 + 8) 4)
    (∀ (off : Word) (d : List Byte) (a : Nat), hostDataOk d = true → ready →
      s.hostWindow ⟨i, f, 2, off.toNat, d.length, some d, false⟩ = some a → s.vmOk a d.length = true → a + d.length ≤ 0x1800000000 →
      (∀ g ∈ granules a d.length, s.gcls g = .clean) →
      ∃ t, exec (.hostPostedWrite i f 2 off d false) s = .next t ∧ t = { s with vm := t.vm, regs := t.regs } ∧
        t.vm.bytes = memWrite s.vm.bytes a d ∧ ∀ g, t.gcls g = s.gcls g) ∧
    (∀ (off : Word) (n : BitVec 13) (a : Nat), 0 < n.toNat → n.toNat ≤ 4096 → ready →
      s.hostWindow ⟨i, f, 2, off.toNat, n.toNat, none, false⟩ = some a → s.vmOk a n.toNat = true → a + n.toNat ≤ 0x1800000000 →
      (∀ g ∈ granules a n.toNat, s.gcls g = .clean) →
      ∃ t, exec (.hostRead i f 2 off n) s = .next t ∧ t = { s with vm := t.vm, regs := t.regs, hp := { s.hp with
          resp := s.hp.resp ++ [⟨i, off.toNat, 0, memRead s.vm.bytes a n.toNat, false⟩] } } ∧ t.vm.bytes = s.vm.bytes) ∧
    (∀ (v : Fin 2048), e.pend.filter (fun x => x.1 == f.val) = [(f.val, v.val)] → sends f v →
      ∃ t, exec (.msixUnmask i f (some v)) s = .next t ∧ t.hp.out = s.hp.out ++ [message f v] ∧
        t = { s with hp := { s.hp with eps := t.hp.eps, out := t.hp.out } } ∧ (∀ k, k ≠ i.val → t.hostEp k = s.hostEp k) ∧
        (t.hostEp i).pend = e.pend.filter (fun x => x.1 != f.val) ∧
        ∀ g o, o < 32768 → (t.hostEp i).tab g o = if g = f.val ∧ o = v.val * 16 + 12 then e.tab g o &&& 0xFE else e.tab g o) ∧
    (∀ (n : BitVec 9), s.mbBusy i = false → s.epUp i = true →
      ∃ t, exec (.mailboxGo i true n) s = .next t ∧ t = { s with regs := t.regs, hp := { s.hp with eps := t.hp.eps } } ∧
        (t.hostEp i) = { e with hctl := (t.hostEp i).hctl } ∧ t.mbFld i MB_HCTL.LEN = n.toNat ∧ t.mbFld i MB_HCTL.DEST = 1 ∧
        t.mbFld i MB_HCTL.BUSY = 1 ∧ t.mbFld i MB_HCTL.DONE = 0 ∧ t.flag (hpMbctl i) HP_MBCTL.PEND = true ∧
        ∀ a, a ≠ hpMbctl i → t.reg a = s.reg a) ∧
    (∃ t, exec (.mailboxAbort i) s = .next t ∧ t = { s with regs := t.regs, hp := { s.hp with eps := t.hp.eps } } ∧
      (t.hostEp i) = { e with hctl := (t.hostEp i).hctl } ∧ t.mbBusy i = false ∧ t.flag (hpMbctl i) HP_MBCTL.PEND = false ∧
      ∀ a, a ≠ hpMbctl i → t.reg a = s.reg a) ∧
    (∀ (n : BitVec 9), who.ok = true → CtlGo s who (hpMbctl i) 4 → who.secSup = true → s.flag (hpMbctl i) HP_MBCTL.PEND = true →
      s.mbBusy i = true →
      let v := s.fld (hpCtl i) HP_CTL.MB_VEC
      sends 0 v → e.tabNat 0 (v * 16 + 12) 1 % 2 = 0 →
      ∃ t, exec (.mailboxAnswer i who n) s = .next t ∧
        t = { s with regs := t.regs, fab := t.fab, hp := { s.hp with eps := t.hp.eps, out := s.hp.out ++ [message 0 v] } } ∧
        t.mbFld i MB_HCTL.RLEN = n.toNat ∧ t.mbFld i MB_HCTL.DONE = 1 ∧ t.mbBusy i = false ∧
        t.flag (hpMbctl i) HP_MBCTL.PEND = false ∧ ∀ a, a ≠ hpMbctl i → t.reg a = s.reg a)

/-- A host link comes up and is lost, and functions are reset: 13_host_ports.md, R423, R434, R435. -/
def Obligations.HostPortsReset : Prop :=
  ∀ (s : State) (i : Fin 4),
    let e := s.hostEp i
    let st := hpStatus i
    let ended := fun (t : State) => t.fld st HP_STATUS.NUMVF = 0 ∧ t.flag st HP_STATUS.VFE = false ∧ t.flag st HP_STATUS.BME = false ∧
      ∀ k, k ≠ i.val → t.hostEp k = s.hostEp k
    s.qe.pools = [] →
    (∀ c ∈ [Instr.hostLinkDown i, .perst i], s.fld st HP_STATUS.LSTATE ≠ 0 → s.mbBusy i = false →
      EventPlain s (hpLinkDown i) svDegraded → (∀ q ∈ s.hostQueues i none, s.mayMove i q = false) →
      ∃ t, exec c s = .next t ∧ ended t ∧ t.hostEp i = { e.clearAll with hctl := 0 } ∧
        (∀ g ∈ [HP_STATUS.LSTATE, HP_STATUS.WIDTH, HP_STATUS.RATE, HP_STATUS.FLIT], t.fld st g = 0) ∧
        t.fld (FJ_SRC_STAT (hpLinkDown i)) FJ_SRC_STAT.EVENTS
          = satInc (2 ^ FJ_SRC_STAT.EVENTS.2 - 1) (s.fld (FJ_SRC_STAT (hpLinkDown i)) FJ_SRC_STAT.EVENTS) ∧
        ∀ q < 65536, t.qState q = if q ∈ s.hostQueues i none ∧ (s.qState q = qsEnabled ∨ s.qState q = qsPaused) then qsStalled
          else s.qState q) ∧
    (∀ (v : Fin 257) (q : Nat), 0 < v.val → s.hostQueues i (some v) = [q] → s.qState q = qsEnabled → s.qe.tkts = [] →
      s.qf q QCTX.RSV = 0 → s.qf q QCTX.INFLIGHT = 0 → s.flag QE_STATUS QE_STATUS.QCMD_BUSY = false →
      ∃ t, exec (.vfFlr i v) s = .next t ∧ t.qState q = qsDisabled ∧ t.qf q QCTX.LASTERR = 0xFF ∧ t.hostEp i = e.clearFunc v ∧
        (∀ k, k ≠ i.val → t.hostEp k = s.hostEp k) ∧
        t = { s with regs := t.regs, qe := t.qe, hp := { s.hp with eps := t.hp.eps } }) ∧
    (s.hostQueues i none = [] →
      ∃ t, exec (.pfFlr i) s = .next t ∧ ended t ∧ t.hostEp i = e.clearAll ∧ (∀ a, a ≠ st → t.reg a = s.reg a) ∧
        t = { s with regs := t.regs, hp := { s.hp with eps := t.hp.eps } }) ∧
    ((∀ v, s.hostQueues i (some v) = []) →
      ∃ t, exec (.vfEnableClear i) s = .next t ∧ t.flag st HP_STATUS.VFE = false ∧ (∀ a, a ≠ st → t.reg a = s.reg a) ∧
        t = { s with regs := t.regs, hp := { s.hp with eps := t.hp.eps } } ∧ (∀ k, k ≠ i.val → t.hostEp k = s.hostEp k) ∧
        let off := fun (v : Nat) => 1 ≤ v ∧ v ≤ s.fld st HP_STATUS.NUMVF
        (∀ v, v ∈ (t.hostEp i).bme ↔ v ∈ e.bme ∧ ¬ off v) ∧ (∀ v, v ∈ (t.hostEp i).msixOn ↔ v ∈ e.msixOn ∧ ¬ off v) ∧
        (∀ x, x ∈ (t.hostEp i).pend ↔ x ∈ e.pend ∧ ¬ off x.1)) ∧
    (s.epUp i = true → s.mbBusy i = false → s.hostQueues i none = [] →
      ∃ t, exec (.hotReset i) s = .next t ∧ ended t ∧ t.hostEp i = { e.clearAll with hctl := 0 } ∧
        t.fld st HP_STATUS.LSTATE = s.fld st HP_STATUS.LSTATE ∧ (∀ a, a ≠ st → t.reg a = s.reg a) ∧
        t = { s with regs := t.regs, hp := { s.hp with eps := t.hp.eps } }) ∧
    (∀ cfg : HostCfg, s.hostMayTrain i = true → s.epUp i = false →
      let vfs := min cfg.numVf.val (s.totalVfs i)
      let ports := fun (l : List (Fin 257)) (m : List Nat) => ∀ f, f ∈ m ↔ f ≤ vfs ∧ ∃ x ∈ l, x.val = f
      ∃ t, exec (.hostLinkUp i cfg) s = .next t ∧ t.fld st HP_STATUS.LSTATE = 2 ∧
        t.fld st HP_STATUS.WIDTH = min cfg.width.val (s.maxWidth i) ∧ t.fld st HP_STATUS.RATE = cfg.rate.val ∧
        t.flag st HP_STATUS.FLIT = cfg.flit ∧ t.fld st HP_STATUS.NUMVF = vfs ∧
        t.flag st HP_STATUS.VFE = (cfg.vfe && decide (0 < vfs)) ∧ t.flag st HP_STATUS.BME = decide (0 ∈ (t.hostEp i).bme) ∧
        ports cfg.bme (t.hostEp i).bme ∧ ports cfg.msix (t.hostEp i).msixOn ∧ ports cfg.fmask (t.hostEp i).fmask ∧
        (t.hostEp i).table = [] ∧ (t.hostEp i).pend = [] ∧ (∀ k, k ≠ i.val → t.hostEp k = s.hostEp k) ∧
        (∀ a, a ≠ st → t.reg a = s.reg a) ∧ t = { s with regs := t.regs, hp := { s.hp with eps := t.hp.eps } }) ∧
    (∀ f : Fin 257, exec (.busMasterEnableClear i f) s = .next
      (let t := s.setHostEp i { e with bme := e.bme.filter (fun x => x != f.val) }
       if f.val = 0 then t.setFld st HP_STATUS.BME 0 else t))

/-- Events are counted and recorded; the alert pin, the first record and the Journal: 14_faults_journal_repair.md, R446 to
R481; 20_register_behaviour.md, R617. -/
def Obligations.FaultsAreRecorded : Prop :=
  ∀ (s : State) (who : Master) (k : Fin 512),
    let only := fun (t : State) (as : List Nat) => ∀ a, a ∉ as → t.reg a = s.reg a
    let outside := fun (t : State) => ∀ a, a < 0xC00000 ∨ 0xC10000 ≤ a → t.reg a = s.reg a
    let go := fun (a size : Nat) => who.ok = true ∧ who.secSup = true ∧ CtlGo s who a size
    let stat := FJ_SRC_STAT k
    (∀ f : FaultIn, f.spec = false → EventPlain s f.src f.sev →
      ∃ t, exec (.faultEvent [f]) s = .next t ∧ EventRaised s t f.src) ∧
    (∃ t, exec (.faultWindowClose k) s = .next t ∧ only t [stat] ∧ t.flag stat FJ_SRC_STAT.WOPEN = false ∧
      (∀ f ∈ [FJ_SRC_STAT.LATCHED, FJ_SRC_STAT.PRESENT, FJ_SRC_STAT.TRIPPED, FJ_SRC_STAT.SAT, FJ_SRC_STAT.WCOUNT],
        t.fld stat f = s.fld stat f) ∧
      t = { s with regs := t.regs, fj := { s.fj with wclose := t.fj.wclose, tripped := t.fj.tripped } } ∧
      (∀ j, cget t.fj.wclose j = if j = k.val then 0 else cget s.fj.wclose j) ∧
      ∀ j, j ∈ t.fj.tripped ↔ j ∈ s.fj.tripped ∧ j ≠ k.val) ∧
    (∀ v : W32, go (FJ_SRC_CFG k) 4 → s.flag FJ_CTL FJ_CTL.FORCE_EN = true → EventPlain s k 0 →
      v.toNat % 2 ^ 31 = (s.reg (FJ_SRC_CFG k)).toNat → s.reg (FJ_SRC_CFG k) &&& 0x40000000 = 0 →
      ∃ u f, exec (.faultForce k who v) s = .next { u with fab := f } ∧ EventRaised s u k ∧
        u.flag FJ_STATUS FJ_STATUS.FORCED = true) ∧
    (go FJ_FIRST 8 →
      ∃ t, exec (.firstRecordClear who) s = .next t ∧ t.flag FJ_FIRST FJ_FIRST.VALID = false ∧ (∀ i < 16, t.reg (FJ_ALSO i) = 0) ∧
        (∀ a, a ≠ FJ_FIRST → (∀ i < 16, a ≠ FJ_ALSO i) → t.reg a = s.reg a) ∧ t.reg FJ_FIRST = s.reg FJ_FIRST &&& ~~~0x1000 ∧
        t = { s with regs := t.regs, fab := t.fab, wideWr := t.wideWr, fj := { s.fj with
          firstSeq := 0
          running := s.fj.running.map (fun r => { r with first := false })
          queued := s.fj.queued.map (fun r => { r with first := false })
          onSource := s.fj.onSource.map (fun r => { r with first := false }) } }) ∧
    (s.fj.alertOpen = true →
      let up := fun (t : State) => t.flag FJ_PIN_CTL FJ_PIN_CTL.LOW = false ∧ t.flag FJ_STATUS FJ_STATUS.ALERT = false ∧
        t.flag FJ_PIN_CTL FJ_PIN_CTL.ACK = false ∧ t.fld FJ_PIN_CTL FJ_PIN_CTL.MODE = s.fld FJ_PIN_CTL FJ_PIN_CTL.MODE ∧
        only t [FJ_PIN_CTL, FJ_STATUS]
      (s.fld FJ_PIN_CTL FJ_PIN_CTL.MODE = 0 →
        ∃ t, exec .alertPulseEnd s = .next t ∧ up t ∧
          t = { s with regs := t.regs, fj := { s.fj with alertOpen := false, alertMin := false, alertHigh := true } }) ∧
      (s.fld FJ_PIN_CTL FJ_PIN_CTL.MODE = 1 → s.fj.alertMin = true → go FJ_PIN_CTL 4 →
        ∃ t, exec (.alertAck who) s = .next t ∧ up t ∧
          t = { s with regs := t.regs, fab := t.fab, fj := { s.fj with alertOpen := false, alertMin := false, alertHigh := false } })) ∧
    (∀ r rest, s.fj.jq = r :: rest → s.fjRuns = true → s.st.holdup = false → s.fj.firstSeq = 0 →
      (∀ h ∈ [s.nv.ja, s.nv.jb], h.failed = false ∧ h.bad.length ≤ 4096 ∧ h.passes + h.bad.length + 1 < 9000000000) →
      ∃ t, exec (.journalWrite 0 0) s = .next t ∧ outside t ∧
        t = { s with regs := t.regs, fj := { s.fj with jq := rest }, nv := { s.nv with
          ja := s.nv.ja.write .ring (recStored false r)
          jb := s.nv.jb.write .ring (recStored false r) } }) ∧
    (∀ (q : Word), go FJ_JRD_SEQ 8 →
      ∃ t, exec (.journalRead who q) s = .next t ∧ t = { s with regs := t.regs, fab := t.fab } ∧ outside t ∧
        t.regNat FJ_JRD_SEQ 2 = q.toNat ∧
        (∀ r, s.nv.ja.lookup q.toNat = some r → t.regNat FJ_JRD_DATA 16 = r.toNat ∧ t.reg FJ_JRD_STAT = 2) ∧
        (∀ r, s.nv.ja.lookup q.toNat = none → s.nv.jb.lookup q.toNat = some r →
          t.regNat FJ_JRD_DATA 16 = r.toNat ∧ t.reg FJ_JRD_STAT = 6) ∧
        (s.nv.ja.lookup q.toNat = none → s.nv.jb.lookup q.toNat = none →
          t.regNat FJ_JRD_DATA 16 = s.regNat FJ_JRD_DATA 16 ∧ t.reg FJ_JRD_STAT = 8)) ∧
    (∀ (u : BitVec 20) (a b c : W32), s.unitState u.toNat ≠ 7 →
      let v := (a &&& b) ||| (a &&& c) ||| (b &&& c)
      v.toNat % 8 ≠ 5 → v.toNat % 8 ≠ 6 →
      (v = a → v = b → v = c → exec (.ustCheck u a b c v v) s = .next (s.setUst u.toNat v)) ∧
      (¬ (v = a ∧ v = b ∧ v = c) → EventPlain s 0x007 svCorrected →
        ∃ t, exec (.ustCheck u a b c v v) s = .next t ∧ EventRaised (s.setUst u.toNat v) t 0x007)) ∧
    (go ST_LG_CTL 4 → (∀ p ∈ s.st.posted, p.master ≠ who.id ∨ 0xE00000 ≤ p.addr) →
      ∃ t p, exec (.lastGaspClear who) s = .next t ∧
        t = { s with fab := t.fab, st := { s.st with posted := s.st.posted ++ [p] } } ∧
        p.master = who.id ∧ p.addr = ST_LG_CTL ∧ p.size = 4 ∧ bitAt p.data 31 = true)

/-- Units leave service and spares take their places: 14_faults_journal_repair.md, R450, R471 to R479. -/
def Obligations.UnitsLeaveAndReturn : Prop :=
  ∀ (s : State) (who : Master),
    let outside := fun (t : State) (as : List Nat) => ∀ a, a < 0xC00000 ∨ 0xC10000 ≤ a → a ∉ as → t.reg a = s.reg a
    let units := fun (t : State) (us : List Nat) => ∀ u, u ∉ us → t.ustEntry u = s.ustEntry u
    let ends := fun (t : State) => { s with
      regs := t.regs
      fj := t.fj
      nv := t.nv
      st := { s.st with
        valve := t.st.valve
        dict := t.st.dict
        canTx := t.st.canTx
        emcySent := t.st.emcySent } }
    let fences := fun (t : State) => { ends t with ustA := t.ustA, ustB := t.ustB, ustC := t.ustC, ustMgmt := t.ustMgmt, ustData := t.ustData }
    s.jLost = false →
    (∀ r rest, s.fj.queued = r :: rest → s.fj.running.length < 4 → s.fj.onSource = [] → r.unit = bmUnit → r.action ≠ 3 →
      (∀ g ∈ s.fj.regrows, g.spare ≠ bmUnit) → (∀ c < 32, s.bmState c ∉ [bsRunning, bsHalted, bsParked]) →
      ∃ t, exec .reactionStart s = .next t ∧ t.fj = { s.fj with running := s.fj.running ++ [r], queued := rest } ∧
        t.unitState bmUnit = usFenced ∧ t.flag BM_STATUS BM_STATUS.FENCED = true ∧ units t [bmUnit] ∧ outside t [BM_STATUS] ∧
        t = fences t) ∧
    (∀ (u : BitVec 20) (r : Reaction), s.fj.reactions = [r] → s.fj.running = [r] → r.covers u.toNat = true → r.action = 1 →
      recSeq r.bits = 0 → s.fj.regrows = [] →
      (Still s → 0 < r.unit / 65536 → s.flag ST_MODE ST_MODE.MOULT = false → s.modeName = s.mode →
        (s.fj.jq.filter (fun x => decide (recKind x ≠ kFlush))).length < 64 →
        ∃ t x, exec (.autotomyEnd u) s = .next t ∧ t = ends t ∧ outside t [] ∧ t.fj = { s.fj with running := [], jq := s.fj.jq ++ [x] } ∧
          recSeq x = s.nv.jnext % 2 ^ 64 ∧ recUnit x = recUnit r.bits ∧ recKind x = recKind r.bits ∧
          t.nv = { s.nv with jnext := s.nv.jnext + 1 }) ∧
      (Still s → 1 < r.unit / 65536 → s.fjRuns = true → s.fld (FJ_SRC_CFG 0x00A) FJ_SRC_CFG.THRESH = 0 →
        s.fld (FJ_SRC_CFG 0x00A) FJ_SRC_CFG.SEV < svFatal → s.fj.fatal = none →
        ∃ t, exec (.autotomyTimeout u) s = .next t ∧ t = ends t ∧ outside t [ST_MODE] ∧ t.fj.running = [] ∧
          t.fld (FJ_SRC_STAT 0x00A) FJ_SRC_STAT.EVENTS
            = satInc (2 ^ FJ_SRC_STAT.EVENTS.2 - 1) (s.fld (FJ_SRC_STAT 0x00A) FJ_SRC_STAT.EVENTS))) ∧
    (∀ g, Still s → s.fj.regrows = [g] →
      (g.spare = seqUnit 8 → s.flag (LS_STATUS 8) LS_STATUS.READY = true →
        ∃ t, exec (.sequencerRegrowEnd true) s = .next t ∧ t.unitState (seqUnit 8) = usBound ∧ t.unitState (lsUnit 8) = usBound ∧
          t.flag (SEQ_CTL 8) SEQ_CTL.REMAP = true ∧ t.fj = { s.fj with regrows := [], jq := t.fj.jq } ∧ units t [seqUnit 8, lsUnit 8] ∧
          outside t [SEQ_CTL 8, ST_MODE] ∧ t = { fences t with pm := t.pm, pmImg := t.pmImg, pmBad := t.pmBad } ∧
          ∀ a, a / 0x40000 ≠ 8 → memByte t.pm a = memByte s.pm a) ∧
      (∀ p < 18, g.spare = pipeUnit p → EventPlain s 0x009 svSevere → 2 ≤ s.st.base →
        (s.fj.jq.filter (fun x => decide (recKind x ≠ kFlush))).length + 3 < 64 →
        ∃ t, exec (.regrowTimeout (BitVec.ofNat 20 g.spare)) s = .next t ∧ t.unitState g.spare = usFenced ∧ t.fj.regrows = [] ∧
          units t [g.spare] ∧ outside t [ST_MODE] ∧ t = fences t ∧
          t.fld (FJ_SRC_STAT 0x009) FJ_SRC_STAT.EVENTS
            = satInc (2 ^ FJ_SRC_STAT.EVENTS.2 - 1) (s.fld (FJ_SRC_STAT 0x009) FJ_SRC_STAT.EVENTS))) ∧
    (∀ (u : BitVec 20), who.ok = true → who.secSup = true → CtlGo s who FJ_REQ 4 → fenceable u.toNat = true →
      (∀ r ∈ s.fj.reactions, r.covers u.toNat = false) → s.fj.queued.length < 32 →
      let queuedFor := fun (t : State) (unit act : Nat) => ∃ bits, t.fj.queued = s.fj.queued ++ [⟨0, unit, act, bits, false⟩] ∧
        recKind bits = kAutotomy ∧ recUnit bits = unit ∧ t.fj = { s.fj with queued := t.fj.queued, jq := t.fj.jq, repairs := t.fj.repairs } ∧
        outside t [ST_MODE] ∧ t = { ends t with fab := t.fab }
      (∀ p ∈ [((Instr.fjReqAutotomy who u), 1), (.fjReqAutotomyRegrow who u, 2)], s.unitState u.toNat ≠ 7 →
        ∃ t, exec p.1 s = .next t ∧ queuedFor t (actUnit u.toNat) p.2 ∧ t.fj.repairs = s.fj.repairs) ∧
      (s.unitState u.toNat ∉ [usFenced, usLost, 7] → s.fj.repairs.find? (fun x => x % 2 ^ 20 == u.toNat) = some (2 ^ 20 + u.toNat) →
        ∃ t, exec (.fjReqRepair who u) s = .next t ∧ queuedFor t u.toNat 1 ∧
          t.fj.repairs = s.fj.repairs.filter (fun x => x % 2 ^ 20 != u.toNat)))

/-- The Starter boots, starts run, and requests for a mode are taken and refused: 15_modes_and_start.md, R487 to R502. -/
def Obligations.ModesChange : Prop :=
  ∀ (s : State) (via : ModeVia) (run : ProofRun),
    let free := s.st.holdup = false ∧ s.st.wipe = none
    let starts := s.objNat 0x2000 4 ≠ 0 ∧ s.st.extest = false ∧ run.okA = true ∧ run.okB = true ∧ s.st.lc ≠ 5 ∧ run.reach = 0 ∧
      run.fail = none
    let flags := s.flag ST_MODE ST_MODE.MOULT = false ∧ s.flag ST_MODE ST_MODE.TRANSIT = false ∧
      s.flag ST_MODE ST_MODE.PAIRED = false
    let admitted := s.flag ST_HU_STATUS ST_HU_STATUS.ENOUGH = true ∧ s.objNat 0x2010 3 = 0 ∧
      s.flag (FJ_SRC_STAT 0x1FB) FJ_SRC_STAT.PRESENT = false
    let noPark := ∀ c < 32, s.bmState c ≠ bsParked
    let only := fun (t : State) (as : List Nat) => ∀ a, a ∉ as → t.reg a = s.reg a
    (s.st.base = 0 → s.nv.wipePend = false → s.nv.lc ≠ 5 →
      ∃ t, exec (.starterBoot true true) s = .next t ∧ t = { s with regs := t.regs, st := t.st, nv := t.nv, freeCtr := t.freeCtr } ∧
        t.st.base = mStarter ∧ t.mode = mStarter ∧ t.flag ST_BOOT ST_BOOT.FALLBACK = false ∧
        t.fld ST_BOOT ST_BOOT.IMAGE = (if s.bootObj obTries % 4 ≤ 1 then s.bootObj obPref % 2 else 1 - s.bootObj obPref % 2)) ∧
    (free → s.st.base = mStarter → starts →
      (s.st.restart = false → s.st.barred = false → ∃ t, exec (.proofingStart run) s = .next t ∧ StartBegun s t) ∧
      (s.st.restart = true → ∃ t, exec (.restartDelayExpiry run) s = .next t ∧ StartBegun s t) ∧
      (s.mayAsk via → s.mode = mStarter → s.st.quiesce = none →
        ∃ t, exec (.modeReqProofing via run) s = .next t ∧ StartBegun s t ∧ t.flag ST_MODE_REQ ST_MODE_REQ.DONE = true)) ∧
    (∀ k, free → s.st.base = mProof → s.flag ST_BOOT ST_BOOT.TADPOLE = false → k < 8 → s.fld ST_BOOT ST_BOOT.STAGE = 0x10 + k →
      s.bootTries < 3 →
      ∃ t, exec .proofingStageTimeout s = .next t ∧ StarterOnly t s.nv.lastEnd ∧
        t.st.restart = decide (s.objNat 0x2000 4 ≠ 0) ∧ t.bootTries = s.bootTries ∧
        t.regNat ST_BOOT_REASON 1
          = 0x10 + k + 0x1F8 * 2 ^ 8 + s.fld ST_BOOT ST_BOOT.IMAGE * 2 ^ 17 + 2 * 2 ^ 18 + s.bootTries * 2 ^ 24) ∧
    (mBrum ≤ s.st.base → s.st.triesOpen = true →
      ∃ t, exec .bootTriesClear s = .next t ∧ t = { s.setFld ST_MODE ST_MODE.BOOT_TRIES 0 with
          nv := { s.nv with boot := t.nv.boot }, st := { s.st with triesOpen := false } } ∧ t.bootTries = 0 ∧ t.bootObj obTries = 0 ∧
        ∀ k, k ≠ obTries → t.bootObj k = s.bootObj k) ∧
    (free → s.st.base = mProof → s.flag ST_BOOT ST_BOOT.TADPOLE = false → 0x19 ≤ s.fld ST_BOOT ST_BOOT.STAGE →
      s.minOvens ≤ s.readyOvens → admitted → flags → s.fld ST_MODE ST_MODE.DOZE_OVENS = 0 → s.boundOvens ≠ [] → s.jLost = false →
      s.qe.tkts = [] → Still s →
      ∃ t, exec .runAdmission s = .next t ∧ t.st = { s.st with base := mRun } ∧ t.mode = mRun ∧
        t.flag ST_MODE ST_MODE.ADMIT = true ∧ t.flag ST_MODE ST_MODE.BYPASS = false ∧ t.fld ST_BOOT ST_BOOT.STAGE = 0x1A ∧
        only t [ST_MODE, ST_BOOT] ∧ t = { s with regs := t.regs, st := t.st, nv := { s.nv with jnext := t.nv.jnext }, fj := { s.fj with
          jq := t.fj.jq } }) ∧
    (s.mayAsk via → s.st.base ≠ 0 → free → s.st.quiesce = none →
      ∀ p ∈ [((Instr.modeReqRun via), 6, [mPaired, mBrum]), (.modeReqPairedRun via, 7, [mRun, mDoze]),
          (.modeReqBrumation via, 4, [mRun, mDoze]),
          (.modeReqStarterOnly via, 1, [mTadpole, mBrum, mDoze, mRun, mPaired, mMoult, mTransit])],
        (s.mode ∈ p.2.2 →
          ∃ t, exec p.1 s = .next t ∧ only t [ST_MODE_REQ] ∧ t = { s with regs := t.regs, st := { s.st with
            quiesce := some p.2.1
            wake := s.st.wake || (decide (p.2.1 = 6) && decide (s.st.base = mBrum)) } } ∧
            t.flag ST_MODE_REQ ST_MODE_REQ.REJ = s.flag ST_MODE_REQ ST_MODE_REQ.REJ) ∧
        (s.mode ∉ p.2.2 →
          ∃ t, exec p.1 s = .next t ∧ only t [ST_MODE_REQ] ∧ t = { s with regs := t.regs } ∧
            t.flag ST_MODE_REQ ST_MODE_REQ.REJ = true)) ∧
    (free → s.quiet = true →
      (s.st.quiesce = some 1 →
        ∃ t, exec .quiesceDone s = .next t ∧ StarterOnly t 0 ∧ t.flag ST_MODE_REQ ST_MODE_REQ.DONE = true) ∧
      (s.st.quiesce = some 4 → s.allDoze = true → flags → s.jLost = false → Still s →
        ∃ t, exec .quiesceDone s = .next t ∧ t.st = { s.st with base := mBrum, quiesce := none } ∧ t.mode = mBrum ∧
          t.flag ST_MODE_REQ ST_MODE_REQ.DONE = true ∧ only t [ST_MODE, ST_MODE_REQ, hpStatus 0, hpStatus 1, hpStatus 2, hpStatus 3] ∧
          t = { s with regs := t.regs, st := t.st, vm := { s.vm with lines := [] }, nv := { s.nv with jnext := t.nv.jnext }, fj := { s.fj
            with jq := t.fj.jq } }) ∧
      (s.mode = mRun ∨ s.mode = mDoze → s.st.quiesce = none → s.objNat 0x2000 9 ≠ 0 → s.allDoze = true →
        exec .brumIdleExpiry s = .next { s with st := { s.st with quiesce := some 20 } })) ∧
    (∀ n < 16, s.st.quiesce = some n → (n = 6 → s.st.base ≠ mBrum) → noPark → s.qe.tkts = [] → Still s →
      ∃ t, exec .quiesceTimeout s = .next t ∧ only t [ST_MODE_REQ] ∧ t.flag ST_MODE_REQ ST_MODE_REQ.REJ = true ∧
        t = { s with regs := t.regs, st := { s.st with quiesce := none } }) ∧
    (s.st.base = mBrum → free → admitted → flags → noPark → s.boundOvens ≠ [] → s.jLost = false → s.qe.tkts = [] → Still s →
      ∃ t, exec (.brumationWake []) s = .next t ∧ t.st = { s.st with base := mRun, wake := false, quiesce := none } ∧ t.mode = mRun ∧
        (∀ o ∈ s.boundOvens, t.dozing o = false ∧ t.flag (QE_OVEN o) QE_OVEN.DOZE = false) ∧
        (s.st.quiesce = some 6 → t.flag ST_MODE_REQ ST_MODE_REQ.DONE = true) ∧
        (∀ i < 4, s.epUp i = true → t.fld (hpStatus i) HP_STATUS.LSTATE = 2) ∧
        t = { s with regs := t.regs, st := t.st, nv := { s.nv with jnext := t.nv.jnext }, fj := { s.fj with jq := t.fj.jq } })

/-- Hold-up and its flush, the loss of every supply, and the request for Wipe: 15_modes_and_start.md, R504 to R509;
19_security_lifecycle.md, R602, R603. -/
def Obligations.SupplyEndsTheRun : Prop :=
  ∀ (s : State) (via : ModeVia) (mainFail p12v : Bool),
    let halted := fun (t : State) => ∀ n, t.seq n = { s.seq n with
      btb := (t.seq n).btb
      asm := []
      delayOf := none
      waiting := []
      div := none
      tail := none
      spec := []
      outs := []
      openGrp := (t.seq n).openGrp }
    s.st.wipe = none →
    (2 ≤ s.st.base → s.st.holdup = false → (mainFail || p12v) = true → s.fld (FJ_SRC_CFG 0x1FA) FJ_SRC_CFG.THRESH = 0 →
      s.fld (FJ_SRC_CFG 0x1FA) FJ_SRC_CFG.SEV < svFatal → s.fj.fatal = none →
      ∃ t r rest, exec (.holdupEntry mainFail p12v) s = .next t ∧ t.st.holdup = true ∧ t.mode = mHoldup ∧ t.st.base = s.st.base ∧
        t.st.quiesce = none ∧ t.st.wake = false ∧ t.fj.jq = r :: rest ∧ recKind r = kFlush ∧ bitsOf r.toNat 256 8 = 1 ∧
        bitsOf r.toNat 264 2 = bit01 mainFail + 2 * bit01 p12v ∧ bitsOf r.toNat 272 4 = s.mode % 16 ∧
        t.bootObj obFlushSeq = recSeq r ∧ halted t ∧ (∀ n, (t.seq n).openGrp = none) ∧
        t.vm = { VMem.reset with bankMap := s.vm.bankMap, rows := s.vm.rows } ∧ t.bm = Vector.replicate 32 BmChan.reset ∧
        t.flag QE_STATUS QE_STATUS.HOLD = true ∧ t.flag BM_STATUS BM_STATUS.HOLD = true ∧ t.pm = s.pm ∧ t.fab = s.fab ∧
        t.qe = s.qe ∧ t.ustA = s.ustA) ∧
    (s.st.holdup = true →
      (∃ t, exec .flushEnd s = .next t ∧ StarterOnly t 1 ∧
        (s.fj.jq = [] → s.fj.flA + s.fj.flB < 4096 → s.fjRuns = true →
          (∀ h ∈ [s.nv.ja, s.nv.jb], h.failed = false ∧ h.bad.length ≤ 4096 ∧ h.passes + h.bad.length + 1 < 9000000000) →
          ∃ r m, recKind r = kFlush ∧ recSeq r = s.nv.jnext % 2 ^ 64 ∧ bitsOf r.toNat 256 8 = 3 ∧ recKind m = kMode ∧
            t.nv.ja = (s.nv.ja.write .ring (recStored false r)).write .ring (recStored false m) ∧
            t.nv.jb = (s.nv.jb.write .ring (recStored false r)).write .ring (recStored false m))) ∧
      (∃ t, exec .flushWatchdog s = .next t ∧ StarterOnly t 2 ∧
        t.flag (ST_LG (s.fld ST_LG_CTL ST_LG_CTL.NEXT)) ST_LG.VALID = true)) ∧
    (∃ t, exec .auxLoss s = .next t ∧ t.st.base = mOff ∧ t.mode = mOff ∧ BaseCold t ∧ (∀ a, a ≠ ST_MODE → t.reg a = regReset a) ∧
      t.nv = { s.nv with lastEnd := 5 } ∧ t.fj = FaultUnit.reset) ∧
    (s.mayAsk via → s.st.base ≠ 0 → s.st.holdup = false →
      let full := match via with
        | .dict _ _ => s.objNat 0xA000 4 == 1
        | .reg _ => s.flag SEC_CTL SEC_CTL.WIPE_FULL
      ∃ t, exec (.modeReqWipe via) s = .next t ∧ t.st.wipe = some (full, decide (2 ≤ s.st.base)) ∧ t.mode = mWipe ∧
        t.st.base = s.st.base ∧ t.st.quiesce = none ∧ t.st.own.owner = none ∧ t.nv.wipePend = true ∧
        (t.nv.keys = if full then Vector.replicate 4 0 else s.nv.keys) ∧ (2 ≤ s.st.base → halted t ∧ ∀ n, (t.seq n).btb = []) ∧
        t.vm = s.vm ∧ t.pm = s.pm ∧ t.ustA = s.ustA)

/-- Rails, clocks, voltage, frequency, the thermal trip and clock references: 16_power_clocks_holdup_cooling.md, R516 to R525.
-/
def Obligations.PowerAndClocks : Prop :=
  ∀ (s : State),
    let only := fun (t : State) (as : List Nat) => ∀ a, a ∉ as → t.reg a = s.reg a
    let serving := s.fjRuns = true ∧ mBrum ≤ s.st.base ∧ s.st.triesOpen = false ∧ s.st.wipe = none
    let fatal := fun (k : Nat) => s.fld (FJ_SRC_CFG k) FJ_SRC_CFG.THRESH = 0 ∧ s.fld (FJ_SRC_CFG k) FJ_SRC_CFG.SEV ≤ svFatal
    let stops := fun (t : State) => StarterOnly t 3 ∧ t.st.restart = decide (s.objNat 0x2000 4 ≠ 0)
    let vf := fun (t : State) (f : Fld) => t.fld ST_VF_STATUS f
    let ck := fun (t : State) (f : Fld) => t.fld ST_CLK_STATUS f
    let steady := ck s ST_CLK_STATUS.STATE = ckLocked ∧ s.objNat 0x3010 2 = 0 ∧ s.objNat 0x3010 3 = 0
    (serving →
      (fatal 0x1F0 → ∃ t, exec .railFault s = .next t ∧ stops t) ∧
      (fatal 0x1F1 → ∃ t, exec .sensorLossTrip s = .next t ∧ stops t) ∧
      (∃ t, exec .thermalTrip s = .next t ∧ stops t ∧ t.flag (ST_LG (s.fld ST_LG_CTL ST_LG_CTL.NEXT)) ST_LG.VALID = true ∧
        t.fld (ST_LG (s.fld ST_LG_CTL ST_LG_CTL.NEXT)) ST_LG.SOURCE = 0x1F1)) ∧
    (∀ (u : BitVec 20), EventPlain s 0x1F0 svDegraded → fenceable (actUnit u.toNat) = true →
      s.unitState (actUnit u.toNat) ∉ [usFenced, usLost] →
      ∃ t bits, exec (.domainGateTimeout u) s = .next t ∧ t.fj.queued = [⟨0x1F0, actUnit u.toNat, 1, bits, false⟩] ∧
        recKind bits = kAutotomy ∧ recUnit bits = actUnit u.toNat ∧ t.fj.running = [] ∧
        t.fld (FJ_SRC_STAT 0x1F0) FJ_SRC_STAT.EVENTS
          = satInc (2 ^ FJ_SRC_STAT.EVENTS.2 - 1) (s.fld (FJ_SRC_STAT 0x1F0) FJ_SRC_STAT.EVENTS) ∧
        (∀ a, a < 0xC00000 ∨ 0xC10000 ≤ a → a ≠ ST_MODE → t.reg a = s.reg a) ∧
        t = { s with regs := t.regs, fj := t.fj, nv := t.nv, st := { s.st with
          valve := t.st.valve
          dict := t.st.dict
          canTx := t.st.canTx
          emcySent := t.st.emcySent } }) ∧
    (∀ (c : BitVec 32), ∃ t, exec (.clockStretch c) s = .next t ∧ t = { s with regs := t.regs } ∧
      only t [ST_STRETCH, ST_STRETCH + 4, ST_VF_STATUS] ∧ t.regNat ST_STRETCH 2 = (s.regNat ST_STRETCH 2 + c.toNat) % 2 ^ 64 ∧
      t.flag ST_VF_STATUS ST_VF_STATUS.STRETCHED = (decide (c ≠ 0) || s.flag ST_VF_STATUS ST_VF_STATUS.STRETCHED) ∧
      (2 ^ 64 ≤ s.regNat ST_STRETCH 2 + c.toNat → t.flag ST_VF_STATUS ST_VF_STATUS.OVF_STRETCH = true) ∧
      ∀ f ∈ [ST_VF_STATUS.VNOW, ST_VF_STATUS.FNOW, ST_VF_STATUS.LIMIT, ST_VF_STATUS.PINNED], vf t f = vf s f) ∧
    (∀ (low high : Bool),
      let v := vf s ST_VF_STATUS.VNOW
      ∃ t, exec (.voltageLoop low high) s = .next t ∧ t = { s with regs := t.regs } ∧ only t [ST_VF_STATUS] ∧
        vf t ST_VF_STATUS.VNOW = (if low = true then (if v < s.vmax then v + 5 else v)
          else if high = true ∧ s.vmin < v then v - 5 else v) ∧
        ∀ f ∈ [ST_VF_STATUS.FNOW, ST_VF_STATUS.LIMIT, ST_VF_STATUS.PINNED, ST_VF_STATUS.STRETCHED, ST_VF_STATUS.OVF_STRETCH],
          vf t f = vf s f) ∧
    (∀ (stretch allow : Bool) (pin tj : W32),
      let f := vf s ST_VF_STATUS.FNOW
      let atVmax := stretch = true ∧ vf s ST_VF_STATUS.VNOW = s.vmax
      let overP := s.pcap * 65536 < pin.toNat
      let overT := (s.tjLimit * 65536 : Int) < tj.toInt
      let f' := if atVmax ∨ overP ∨ overT then (if 250 < f then f - 25 else f)
        else if f < s.fceil ∧ (f < s.ffloor ∨ allow = true) then f + 25 else f
      f ≤ 1500 → s.ffloor ≤ f' → s.flag (FJ_SRC_STAT 0x1F2) FJ_SRC_STAT.PRESENT = false →
      ∃ t, exec (.frequencyLoop stretch pin tj allow) s = .next t ∧ only t [ST_VF_STATUS] ∧ vf t ST_VF_STATUS.FNOW = f' ∧
        vf t ST_VF_STATUS.LIMIT
          = (if atVmax then 1 else if overP then 2 else if overT then 3 else if s.fceil ≤ f' then 4 else 0) ∧
        vf t ST_VF_STATUS.STRETCHED = 0 ∧ vf t ST_VF_STATUS.PINNED = 0 ∧ vf t ST_VF_STATUS.VNOW = vf s ST_VF_STATUS.VNOW ∧
        t.objNat 0x3000 1 = pin.toNat ∧ t.objNat 0x3000 8 = tj.toNat ∧
        t = { s with regs := t.regs, st := { s.st with dict := t.st.dict } } ∧
        ∀ i sub, i < 65536 → sub < 256 → ¬ (i = 0x3000 ∧ (sub = 1 ∨ sub = 8)) → t.obj i sub = s.obj i sub) ∧
    (∀ (signal beyond stable : BitVec 3) (second : Bool),
      let ok := fun r => bitAt signal.toNat r && !bitAt beyond.toNat r && (decide (r ≠ 2) || s.flag CH_TIMING CH_TIMING.FREQ_C)
      let sel := ck s ST_CLK_STATUS.SEL
      steady → ok sel = true → s.refQual sel = true → sel < 3 →
      ∃ t, exec (.referenceMeasure signal beyond stable second) s = .next t ∧ t = { s with regs := t.regs } ∧
        only t [ST_CLK_STATUS] ∧ (∀ r < 3, t.refQual r = (ok r && (bitAt stable.toNat r || s.refQual r))) ∧
        ck t ST_CLK_STATUS.LOS = 7 - signal.toNat ∧ ck t ST_CLK_STATUS.STATE = ckLocked ∧ ck t ST_CLK_STATUS.SEL = sel) ∧
    (∀ (r : Fin 3),
      let sel := ck s ST_CLK_STATUS.SEL
      let lost := fun (t : State) => t.refQual r = false ∧ bitAt (ck t ST_CLK_STATUS.LOS) r = true ∧
        (∀ x < 3, x ≠ r.val → t.refQual x = s.refQual x) ∧ ck t ST_CLK_STATUS.SEL = sel
      steady →
      (r.val ≠ sel → s.refQual sel = true →
        ∃ t, exec (.referenceLos r) s = .next t ∧ t = { s with regs := t.regs } ∧ only t [ST_CLK_STATUS] ∧ lost t ∧
          ck t ST_CLK_STATUS.STATE = ckLocked) ∧
      (r.val = sel → (∀ x < 3, x ≠ r.val → s.refQual x = false) → s.st.locked = true →
        s.flag (FJ_SRC_STAT 0x1F3) FJ_SRC_STAT.PRESENT = false → EventPlain s 0x1F3 svDegraded →
        ∃ u t, exec (.referenceLos r) s = .next t ∧ EventRaised u t 0x1F3 ∧ u = { s with regs := u.regs } ∧ lost t ∧
          only u [ST_CLK_STATUS, FJ_SRC_STAT 0x1F3] ∧ ck t ST_CLK_STATUS.STATE = ckHoldover ∧ ck t ST_CLK_STATUS.HO_TIME = 0)) ∧
    (ck s ST_CLK_STATUS.STATE = ckSwitching → s.refBest = some (ck s ST_CLK_STATUS.SEL) →
      ∃ t, exec .referenceSwitchEnd s = .next t ∧ only t [ST_CLK_STATUS] ∧ ck t ST_CLK_STATUS.STATE = ckLocked ∧
        ck t ST_CLK_STATUS.REVERT_PEND = 0 ∧ ck t ST_CLK_STATUS.SEL = ck s ST_CLK_STATUS.SEL ∧
        ck t ST_CLK_STATUS.QUAL = ck s ST_CLK_STATUS.QUAL ∧
        t = { s with regs := t.regs, st := { s.st with locked := true, switchTo := none } })

/-- The hold-up store's charger, estimate and test, and the coolant valve: 16_power_clocks_holdup_cooling.md, R527 to R536. -/
def Obligations.StoreAndCoolant : Prop :=
  ∀ (s : State),
    let only := fun (t : State) (as : List Nat) => ∀ a, a ∉ as → t.reg a = s.reg a
    let hu := fun (t : State) (f : Fld) => t.fld ST_HU_STATUS f
    let cap := s.objNat 0x3020 1 = 0
    (∀ (v amp : W32),
      let vt := s.objNat 0x3020 2
      let c := hu s ST_HU_STATUS.CHG
      let c' := if c = 0 then 1
        else if c = 1 then (if vt ≤ v.toNat then 2 else 1)
        else if c = 2 then (if amp.toInt * 20 ≤ (s.objNat 0x3020 5 : Int) then 3 else 2)
        else if v.toNat + s.objNat 0x3020 4 ≤ vt then 1 else 3
      cap → s.st.holdup = false → s.st.base ≠ 0 → hu s ST_HU_STATUS.TEST = 0 → hu s ST_HU_STATUS.CHG_FAULT = 0 →
      v.toNat * 100 ≤ vt * 105 →
      ∃ t, exec (.chargerLoop v amp) s = .next t ∧ only t [ST_HU_STATUS, ST_HU_STATUS + 4] ∧ hu t ST_HU_STATUS.CHG = c' ∧
        hu t ST_HU_STATUS.V_NOW = min 0xFFFF (v.toNat * 100 / 65536) ∧
        (∀ f ∈ [ST_HU_STATUS.E_NET, ST_HU_STATUS.WARN, ST_HU_STATUS.ENOUGH, ST_HU_STATUS.TEST, ST_HU_STATUS.CHG_FAULT],
          hu t f = hu s f) ∧
        t = { s with regs := t.regs, st := { s.st with
          chgPin := if c' = c then s.st.chgPin else c' == 1 || c' == 2
          tested := s.st.tested || (c == 2 && c' == 3)
          testDue := s.st.testDue || (c == 2 && c' == 3 && !s.st.tested) } }) ∧
    (hu s ST_HU_STATUS.CHG = 1 → EventPlain s 0x1F4 svDegraded →
      ∃ t, exec .chargerCcTimeout s = .next t ∧ EventRaised { s.setFld ST_HU_STATUS ST_HU_STATUS.CHG 0 with
        st := { s.st with chgPin := false } } t 0x1F4) ∧
    (∀ (v : W32),
      let a := s.eAvail v.toNat
      let net := a - s.eErr v.toNat
      let warn := decide (net * 5 < s.objNat 0x2010 1 * 6)
      let enough := decide (s.objNat 0x2010 1 ≤ net)
      let bypass := decide (s.objNat 0x2010 3 ≠ 0)
      (warn = true → hu s ST_HU_STATUS.WARN = 1) → s.flag (FJ_SRC_STAT 0x1FB) FJ_SRC_STAT.PRESENT = (!enough || bypass) →
      ∃ t, exec (.energyEstimate v) s = .next t ∧ only t [ST_HU_STATUS, ST_HU_STATUS + 4, ST_MODE] ∧
        t = { s with regs := t.regs, st := { s.st with dict := t.st.dict } } ∧ t.objNat 0x3020 0xF = a % 2 ^ 32 ∧
        t.objNat 0x3020 0x10 = s.eErr v.toNat % 2 ^ 32 ∧ hu t ST_HU_STATUS.V_NOW = min 0xFFFF (v.toNat * 100 / 65536) ∧
        hu t ST_HU_STATUS.E_NET = min 0xFFFF (net * 10 / 65536) ∧ t.flag ST_HU_STATUS ST_HU_STATUS.WARN = warn ∧
        t.flag ST_HU_STATUS ST_HU_STATUS.ENOUGH = enough ∧ t.flag ST_MODE ST_MODE.ADMIT = (enough || bypass) ∧
        t.flag ST_MODE ST_MODE.BYPASS = bypass ∧ hu t ST_HU_STATUS.CHG = hu s ST_HU_STATUS.CHG ∧ t.mode = s.mode ∧
        ∀ i sub, i < 65536 → sub < 256 → ¬ (i = 0x3020 ∧ (sub = 0xF ∨ sub = 0x10)) → t.obj i sub = s.obj i sub) ∧
    (∀ (path : Fin 7) (src : BitVec 13), s.isOwner src.toNat path = true → s.st.holdup = false → s.st.wipe = none →
      ∀ c ∈ [Instr.capacitanceTest, .testNow path src],
        (s.testMayStart = true →
          ∃ t, exec c s = .next t ∧ only t [ST_HU_STATUS, ST_HU_STATUS + 4] ∧ hu t ST_HU_STATUS.TEST = 1 ∧ hu t ST_HU_STATUS.CHG = 0 ∧
            hu t ST_HU_STATUS.V_NOW = hu s ST_HU_STATUS.V_NOW ∧
            t = { s with regs := t.regs, st := { s.st with chgPin := false, testPin := true, testDue := false, tested := true } }) ∧
        (s.testMayStart = false → exec c s = .next { s with st := { s.st with testDue := true } })) ∧
    (∀ (v0 v1 v2 dt : W32),
      let i := s.objNat 0x3020 6
      let esr := (v0.toNat - v1.toNat) * 65536 / i
      cap → hu s ST_HU_STATUS.TEST = 1 → v2.toNat < v1.toNat → i ≠ 0 → esr < 2 ^ 32 → esr ≤ s.objNat 0x3020 0xA → s.jLost = false →
      ∃ t, exec (.capacitanceTestEnd v0 v1 v2 dt) s = .next t ∧ t.objNat 0x3020 0xE = esr ∧
        t.objNat 0x3020 0xC = i * dt.toNat * 65536 / 1000000 / (v1.toNat - v2.toNat) % 2 ^ 32 ∧
        mget (fun _ => []) t.nv.saved (objKey 0x3020 0xE) = toBytes 4 esr ∧ hu t ST_HU_STATUS.TEST = 0 ∧
        hu t ST_HU_STATUS.CHG = 1 ∧ (∀ a, a < 0xC00000 ∨ 0xC10000 ≤ a → a ≠ ST_HU_STATUS → a ≠ ST_HU_STATUS + 4 → t.reg a = s.reg a) ∧
        t = { s with regs := t.regs, nv := t.nv, st := { s.st with dict := t.st.dict, chgPin := true, testPin := false } }) ∧
    (∀ (v : W32), cap → s.st.holdup = true → s.st.wipe = none →
      (v.toNat ≤ s.objNat 0x3020 3 → ∃ t, exec (.holdupStoreSample v) s = .next t ∧ StarterOnly t 2) ∧
      (s.objNat 0x3020 3 < v.toNat → exec (.holdupStoreSample v) s = .next s)) ∧
    (∀ (high : W32) (valid : Fin 33), mTadpole ≤ s.mode → s.mode ≤ mTransit → 24 ≤ valid.val → s.st.valveOpen = false →
      let g := fun sub => (s.objNat 0x3030 sub : Int)
      let e := high.toInt - toSigned 32 (s.objNat 0x3030 1)
      let target := g 6 * (g 7 + g 8 * (popCount 8 (s.objNat 0x5010 3) : Int)) / 65536
      ∃ t, exec (.coolantLoop high valid false) s = .next t ∧
        t.st.coolFF = (if s.st.coolFF ≤ target then target
          else target + (s.st.coolFF - target) * (ffDecay (s.objNat 0x3030 9) : Int) / 4294967296) ∧
        (let u := t.st.coolFF + g 2 * e / 65536 + s.st.coolI
         t.st.coolI = (if g 4 < u ∧ u < 6553600 then s.st.coolI + g 3 * e / 655360 else s.st.coolI) ∧
         (t.st.valve : Int) = max 0 (max (s.st.valve - g 5 / 10) (min (s.st.valve + g 5 / 10) (max (g 4) (min 6553600 u))))) ∧
        t.objNat 0x3000 8 = high.toNat ∧ (∀ i sub, i < 65536 → sub < 256 → ¬ (i = 0x3000 ∧ sub = 8) → t.obj i sub = s.obj i sub) ∧
        t = { s with st := { s.st with
          coolI := t.st.coolI
          coolFF := t.st.coolFF
          valve := t.st.valve
          coolBad := false
          dict := t.st.dict } }) ∧
    (EventPlain s 0x1F6 svSevere →
      ∀ c ∈ [Instr.valvePositionFault, .lossOfFlow], (c = .valvePositionFault → s.objNat 0x3030 0xA ≠ 0) →
        ∃ t, exec c s = .next t ∧ EventRaised { s with st := { s.st with valveOpen := true, valve := 6553600 } } t 0x1F6)

/-- Requests of the dictionary are answered, segments pass, and what times out ends: 17_dictionary_and_ownership.md, R543 to
R555, R562. -/
def Obligations.RequestsAreServed : Prop :=
  ∀ (s : State) (r : JenziaReq) (v : List Byte),
    let path := r.path.val
    let src := r.src.toNat
    let tid := r.tid.toNat
    let index := r.index.toNat
    let sub := r.sub.toNat
    let addr := s.jenziaAddr
    let sends := fun (u t : State) (data : List Byte) => t = { u with st := { u.st with
      canTx := u.st.canTx ++ [⟨path, 3, src, addr, data⟩]
      served := t.st.served } }
    let mine := fun (x : Xfer) => x.src = src ∧ x.tid = tid ∧ x.path = path
    let others := s.st.xfers.filter (fun x => !(x.src == src && x.tid == tid))
    path < 2 → s.pathOpen path = true → r.dst.toNat = addr → addr < 0x1000 → r.ok = true → s.st.wipe = none →
    (∀ f ∈ s.st.canTx, f.path < 2) →
    (r.flags = 0 → (∀ e ∈ s.st.served, e.src ≠ src ∨ e.tid ≠ tid) →
      (r.len = 0 →
        (∀ ty val, s.dictRead src path index sub false = .value ty val → val.length ≤ 48 →
          ∃ t, exec (.read r) s = .next t ∧ sends s t (respBytes 0x81 tid index sub ty val.length 0 val.length val)) ∧
        (∀ code, s.dictRead src path index sub false = .abort code →
          ∃ t, exec (.read r) s = .next t ∧ sends s t (refusal tid index sub code)) ∧
        (∀ ty size acc pers, s.dictInfo src path index sub = .inr (ty, size, acc, pers) →
          ∃ t, exec (.info r) s = .next t ∧
            sends s t (respBytes 0x83 tid index sub ty 2 0 size (toBytes 1 acc ++ toBytes 1 pers)))) ∧
      (r.len.toNat = r.data.length → r.total.toNat = r.data.length → r.data.length ≤ 48 →
        (∀ u code, s.dictWrite src path index sub r.data = (u, code) → code ≠ 0 → (∀ f ∈ u.st.canTx, f.path < 2) →
          ∃ t, exec (.write r) s = .next t ∧ sends u t (refusal tid index sub code)) ∧
        (∀ o, 0 < sub → index < 0xF000 → dictFind index sub = some o → o.home = .stored → o.pers = 1 → index ∉ [0x2010, 0x3000, 0x3010] →
          s.writeCheck src path o index sub r.data false = none → isKeySlot index sub = false → s.jLost = false →
          ∃ t, exec (.write r) s = .next t ∧ (r.data ≠ [] → t.obj index sub = r.data) ∧
            mget (fun _ => []) t.nv.saved (objKey index sub) = r.data ∧
            t.st.canTx = s.st.canTx ++ [⟨path, 3, src, addr, respBytes 0x82 tid index sub o.ty 0 0 0 []⟩] ∧
            (∀ a, a < 0xC00000 ∨ 0xC10000 ≤ a → t.reg a = s.reg a) ∧
            (∀ k, k ≠ objKey index sub → mget (fun _ => []) t.st.dict k = mget (fun _ => []) s.st.dict k ∧
              mget (fun _ => []) t.nv.saved k = mget (fun _ => []) s.nv.saved k) ∧
            t = { s with regs := t.regs, nv := t.nv, st := { s.st with
              dict := t.st.dict
              canTx := t.st.canTx
              served := t.st.served } }))) ∧
    (∀ x, s.st.xfers.find? (fun y => y.is src tid) = some x → mine x →
      (x.sending = false → 2 ≤ v.length → v.length ≤ 64 → (v.headD 0).toNat = x.next % 128 → (v.getD 1 0) = r.tid → (x.next + 1) % 16 ≠ 0 →
        ∃ t, exec (.segment r.path r.src r.dst v) s = .next t ∧ t = { s with st := { s.st with xfers := t.st.xfers } } ∧
          t.st.xfers = s.st.xfers.map (fun y => if y.src = src ∧ y.tid = tid then { x with
            data := x.data ++ (v.drop 2).take (x.total - x.data.length)
            next := x.next + 1
            resent := false } else y)) ∧
      (x.sending = true → x.base ≤ x.count → x.next = x.count → x.count < x.base + 128 → r.offset.toNat % 128 = x.count % 128 →
        exec (.segAck r) s = .next { s with st := { s.st with xfers := others } }) ∧
      exec (.abort r) s = .next { s with st := { s.st with xfers := others } } ∧
      (x.sending = true → x.resent = true → x.base < x.next →
        exec (.segmentTimeout r.src r.tid) s = .next { s with st := { s.st with
          xfers := others
          canTx := s.st.canTx ++ [⟨path, 3, src, addr, refusal tid x.index x.sub abTimeout⟩] } })) ∧
    (∀ x, s.st.relays.find? (fun y => y.src == src && y.tid == tid && !y.answered) = some x → x.path = path →
      exec (.relayTimeout r.src r.tid) s = .next { s with st := { s.st with
        relays := s.st.relays.filter (fun y => y != x)
        canTx := s.st.canTx ++ [⟨path, 3, src, addr, refusal tid x.index x.sub abUnreachable⟩] } })

/-- Claims of the device, the end of ownership, and the Starter's own frames: 17_dictionary_and_ownership.md, R557 to R572;
18_timers.md, R576. -/
def Obligations.OwnershipMoves : Prop :=
  ∀ (s : State) (path : Fin 7) (src : BitVec 13) (p : List Byte),
    let c : ClaimIn := ⟨path, src.toNat, p⟩
    let own := s.st.own
    let answers := fun (t : State) (cmd result : Nat) => ∃ data, t.st.canTx = s.st.canTx ++ [⟨path, 3, src.toNat, s.jenziaAddr, data⟩] ∧
      data.take 4 = toBytes 1 (0x80 + cmd) ++ toBytes 1 result ++ [0] ++ toBytes 1 c.tid
    let free := fun (o : Claimant) => ∀ x ∈ s.st.xfers, x.src ≠ o.src ∨ x.path ≠ o.path
    let ended := fun (o : Claimant) (ev : Nat) (t : State) => t.st.own = { own with owner := none, leaseEnd := 0, succ := none } ∧
      t.objNat 0x1F00 0x10 = (o.src % 2 ^ 13 + o.path % 8 * 2 ^ 13 + ev * 2 ^ 16 + s.st.tb / 2 ^ 20 * 2 ^ 20) % 2 ^ 64 ∧
      (∀ a, a < 0xC00000 ∨ 0xC10000 ≤ a → t.reg a = s.reg a) ∧
      t = { s with regs := t.regs, nv := t.nv, freeCtr := s.freeCtr + 1, st := { s.st with
        own := t.st.own
        dict := t.st.dict
        canTx := t.st.canTx
        challenge := BitVec.ofNat 64 (Config.freeValue s.freeCtr) } }
    (∀ f ∈ s.st.canTx, f.path < 2) →
    (path.val < 2 → s.pathOpen path = true → s.st.wipe = none → s.claimCheck c = none →
      (claimOk path p 1 = true → own.owner = none → own.succ = none → own.electing = false → own.cands = [] →
        ∃ t, exec (.claim path src p) s = .next t ∧ answers t 1 1 ∧ t = { s with st := { s.st with
          canTx := t.st.canTx
          own := { own with electing := true, electEnd := s.now + s.objNat 0x1F00 6 * 1000000, cands := [c.claimant] } } }) ∧
      (claimOk path p 2 = true →
        ∃ t, exec (.renew path src p) s = .next t ∧ answers t 2 3 ∧ t = { s with st := { s.st with
          canTx := t.st.canTx
          own := { own with leaseEnd := s.now + c.lease * 1000000, counter := c.at_ 16 4 } } }) ∧
      (∀ o, claimOk path p 3 = true → own.owner = some o → free o →
        ∃ t, exec (.release path src p) s = .next t ∧ answers t 3 3 ∧ ended o 3 t) ∧
      (claimOk path p 4 = true →
        ∃ t, exec (.handover path src p) s = .next t ∧ answers t 4 4 ∧ t = { s with st := { s.st with
          canTx := t.st.canTx
          own := { own with
            succ := some (c.at_ 6 3 % 2 ^ 13, c.at_ 6 3 / 2 ^ 16)
            succEnd := s.now + s.objNat 0x1F00 8 * 1000000
            counter := c.at_ 16 4 } } })) ∧
    (∀ w, own.electing = true → s.rngOk = true → own.cands = [w] → own.owner = none → w.path < 2 →
      ∃ t, exec .electionClose s = .next t ∧ t.st.own = { own with
          owner := some w
          leaseEnd := s.now + w.lease * 1000000
          counter := 0
          succ := none
          electing := false
          cands := [] } ∧
        (∃ data, t.st.canTx = s.st.canTx ++ [⟨w.path, 3, w.src, s.jenziaAddr, data⟩] ∧
          data.take 4 = toBytes 1 0x81 ++ [0, 0] ++ toBytes 1 w.tid) ∧
        t = { s with regs := t.regs, nv := t.nv, freeCtr := s.freeCtr + 1, st := { s.st with
          own := t.st.own
          dict := t.st.dict
          canTx := t.st.canTx
          challenge := BitVec.ofNat 64 (Config.freeValue s.freeCtr) } }) ∧
    (∀ o, own.owner = some o → free o →
      ∃ t, exec .leaseLapse s = .next t ∧ ended o 4 t ∧ t.st.canTx = s.st.canTx) ∧
    exec .handoverExpiry s = .next { s with st := { s.st with own := { own with succ := none } } } ∧
    (s.objNat 0x1010 4 ≠ 0 → s.st.base ≠ 0 →
      ∃ d, exec .heartbeat s = .next { s with st := { s.st with
          canTx := s.st.canTx ++ ((upTo 2).filter s.pathOpen).map (fun b => ⟨b, 5, 0x1FFF, s.jenziaAddr, d⟩) } } ∧
        d.take 2 = toBytes 2 (s.mode + bit01 (s.flag ST_MODE ST_MODE.ADMIT) * 2 ^ 8 + bit01 (s.flag ST_MODE ST_MODE.MOULT) * 2 ^ 9
          + bit01 (s.flag ST_MODE ST_MODE.TRANSIT) * 2 ^ 10 + bit01 (s.flag ST_MODE ST_MODE.PAIRED) * 2 ^ 11
          + s.fld FJ_PIN_CTL FJ_PIN_CTL.LOW * 2 ^ 12) ∧ d.length = 24) ∧
    (∀ (b : Fin 2), cget s.st.canState b = 2 →
      ∃ t, exec (.canBusOffRecovery b) s = .next t ∧ cget t.st.canState b = 0 ∧
        (∀ x, x ≠ b.val → cget t.st.canState x = cget s.st.canState x) ∧
        t = { s with st := { s.st with canState := t.st.canState } }) ∧
    (s.flag TB_CTL TB_CTL.STEER_EN = true → s.flag CH_TIMING CH_TIMING.EN = true → s.flag CH_TIMING CH_TIMING.SOURCE = false →
      s.flag (FJ_SRC_STAT 0x1F7) FJ_SRC_STAT.PRESENT = false → EventPlain s 0x1F7 svDegraded →
      ∃ u t, exec .syncLost s = .next t ∧ EventRaised u t 0x1F7 ∧ u = { s with regs := u.regs, st := { s.st with offs := [] } } ∧
        (∀ a, a ≠ TMR_STATUS → a ≠ FJ_SRC_STAT 0x1F7 → u.reg a = s.reg a) ∧ t.flag TMR_STATUS TMR_STATUS.SYNC = false)

/-- The time base, the sixteen timers and posted writes: 18_timers.md, R573 to R589; 20_register_behaviour.md, R614, R617. -/
def Obligations.TimersCount : Prop :=
  ∀ (s : State) (n : Fin 16) (k : Fin 4) (who : Master) (v : W32),
    let ctl := fun (f : Fld) => s.fld (TMR_CTL n) f
    let c := (s.reg (TMR_COUNT n)).toNat
    let top := max 1 (s.reg (TMR_TOP n)).toNat
    let same := fun (t : State) (as : List Nat) => ∀ a, a ∉ as → t.reg a = s.reg a
    let stat := fun (t : State) (f : Fld) => t.fld (TMR_STAT n) f
    let reads := fun (a x : Nat) (t : State) => t.fab.waiting = [] ∧
      t.fab.answers = s.fab.answers ++ [(⟨who, decide (who.id = 14), .ctl, 0, a, 8, none⟩, 0, x)]
    (∀ x : Word,
      (s.st.tb ≤ x.toNat →
        exec (.tbSetWrite x) s = .next (({ s with st := { s.st with tb := x.toNat } } : State).setFld TMR_STATUS TMR_STATUS.TB_VALID 1)) ∧
      (x.toNat < s.st.tb → EventPlain s 0x1F7 svInfo →
        ∃ t, exec (.tbSetWrite x) s = .next t ∧
          EventRaised (({ s with st := { s.st with tb := x.toNat } } : State).setFld TMR_STATUS TMR_STATUS.TB_VALID 1) t 0x1F7)) ∧
    (s.fld TB_CTL TB_CTL.TBCAP_SRC = k.val + 1 →
      (s.flag TMR_STATUS TMR_STATUS.TBCAP_VALID = false →
        ∃ t, exec (.tbcapEdge k) s = .next t ∧ t = { s with regs := t.regs } ∧ same t [TB_CAP, TB_CAP + 4, TMR_STATUS] ∧
          t.regNat TB_CAP 2 = s.st.tb % 2 ^ 64 ∧ t.flag TMR_STATUS TMR_STATUS.TBCAP_VALID = true ∧
          t.flag TMR_STATUS TMR_STATUS.TBCAP_OVR = s.flag TMR_STATUS TMR_STATUS.TBCAP_OVR) ∧
      (s.flag TMR_STATUS TMR_STATUS.TBCAP_VALID = true →
        exec (.tbcapEdge k) s = .next (s.setFld TMR_STATUS TMR_STATUS.TBCAP_OVR 1))) ∧
    (who.ok = true → CtlGo s who TB_CAP 8 →
      ∃ t, exec (.tbCapRead who) s = .next t ∧ t = { s with regs := t.regs, fab := t.fab } ∧ reads TB_CAP (s.regNat TB_CAP 2) t ∧
        same t [TMR_STATUS] ∧
        t.flag TMR_STATUS TMR_STATUS.TBCAP_VALID = (s.flag TMR_STATUS TMR_STATUS.TBCAP_VALID && decide (who.id = 13))) ∧
    (ctl TMR_CTL.EN = 1 → s.reg (TMR_ACT n) = 0 →
      let moved := fun (t : State) (c' ev : Nat) (down : Bool) => t = { s with regs := t.regs } ∧ same t [TMR_COUNT n, TMR_STAT n] ∧
        (t.reg (TMR_COUNT n)).toNat = c' ∧ t.flag (TMR_STAT n) TMR_STAT.DOWN = down ∧
        stat t TMR_STAT.FLAGS = stat s TMR_STAT.FLAGS ||| (ev + bit01 (decide (c' = (s.reg (TMR_CMP0 n)).toNat))
          + 2 * bit01 (decide (c' = (s.reg (TMR_CMP1 n)).toNat)))
      let down := s.flag (TMR_STAT n) TMR_STAT.DOWN
      ∃ t, exec (.timerTick n) s = .next t ∧
        (ctl TMR_CTL.DIR = 0 ∧ c = top → moved t 0 4 down) ∧
        (ctl TMR_CTL.DIR = 0 ∧ c ≠ top → moved t ((c + 1) % 2 ^ 32) (if c + 1 = 2 ^ 32 then 4 else 0) down) ∧
        (ctl TMR_CTL.DIR = 1 ∧ c = 0 → moved t top 4 down) ∧
        (ctl TMR_CTL.DIR = 1 ∧ c ≠ 0 → moved t (c - 1) 0 down) ∧
        (ctl TMR_CTL.DIR = 2 ∧ down = false ∧ c + 1 < top → moved t (c + 1) 0 false) ∧
        (ctl TMR_CTL.DIR = 2 ∧ down = false ∧ c + 1 = top → moved t top 8 true) ∧
        (ctl TMR_CTL.DIR = 2 ∧ down = true ∧ 1 < c → moved t (c - 1) 0 true) ∧
        (ctl TMR_CTL.DIR = 2 ∧ down = true ∧ c = 1 → moved t 0 4 false)) ∧
    (∀ code ∈ [1, 2], s.st.links.filter (fun a => a.target == n) = [⟨n, code⟩] →
      exec (.linkAction n) s = .next (({ s with st := { s.st with links := s.st.links.filter (fun a => a.target != n) } } : State).setFld
        (TMR_CTL n) TMR_CTL.EN (code - 1))) ∧
    (∀ (rising : Bool), ctl TMR_CTL.INSEL = k.val → ctl TMR_CTL.SRC ≠ 3 → ctl TMR_CTL.CAPSRC = (if rising then 1 else 2) →
      (s.timer n).caps.length < 4 →
      (∀ m : Fin 16, m ≠ n → s.fld (TMR_CTL m) TMR_CTL.INSEL ≠ k.val ∨
        (s.fld (TMR_CTL m) TMR_CTL.SRC ≠ 3 ∧ s.fld (TMR_CTL m) TMR_CTL.CAPSRC = 0)) →
      ∃ t, exec (.timerCaptureEdge k rising) s = .next t ∧
        t = (s.setTimer n { s.timer n with
          caps := (s.timer n).caps ++ [(s.reg (TMR_COUNT n), (s.timer n).gapNext)]
          gapNext := false }).setFld (TMR_STAT n) TMR_STAT.QCOUNT ((s.timer n).caps.length + 1)) ∧
    (∀ x g rest, who.ok = true → CtlGo s who (TMR_CAP n) 8 → (s.timer n).caps = (x, g) :: rest → rest.length < 4 →
      s.flag (TMR_CTL n) TMR_CTL.WORLD = false ∨ who.world = true →
      ∃ t, exec (.captureRead n who) s = .next t ∧ reads (TMR_CAP n) (x.toNat + 2 ^ 32 + bit01 g * 2 ^ 33) t ∧
        t = { s with regs := t.regs, fab := t.fab, st := { s.st with timers := t.st.timers } } ∧
        (∀ m, m ≠ n → t.timer m = s.timer m) ∧ same t [TMR_STAT n] ∧
        (if who.id = 13 then t.timer n = s.timer n ∧ t.reg (TMR_STAT n) = s.reg (TMR_STAT n)
         else t.timer n = { s.timer n with caps := rest } ∧ stat t TMR_STAT.QCOUNT = rest.length)) ∧
    (∀ second : Bool,
      let a := if second then TMR_CMP1 n else TMR_CMP0 n
      let f := if second then TMR_STAT.CMPPAST1 else TMR_STAT.CMPPAST0
      let falls := ctl TMR_CTL.DIR = 1 ∨ (ctl TMR_CTL.DIR = 2 ∧ s.flag (TMR_STAT n) TMR_STAT.DOWN = true)
      ∃ t, exec (.compareWrite n second v) s = .next t ∧ t = { s with regs := t.regs } ∧ same t [a, TMR_STAT n] ∧ t.reg a = v ∧
        stat t f = (if (if falls then c ≤ v.toNat else v.toNat ≤ c) ∨ top < v.toNat then 1 else stat s f) ∧
        ∀ g ∈ [TMR_STAT.FLAGS, TMR_STAT.DOWN, TMR_STAT.OUT, TMR_STAT.QCOUNT, TMR_STAT.OVR, TMR_STAT.DROPS], stat t g = stat s g) ∧
    (exec (.countWrite n v) s = .next (s.setReg (TMR_COUNT n) v)) ∧
    (∃ t, exec (.prescaleWrite n v) s = .next t ∧ t = (s.setTimer n { s.timer n with acc := 0 }).setReg (TMR_PSC n) v) ∧
    (∀ p ps, s.st.posted = p :: ps → p.size = 4 →
      let u : State := { s with st := { s.st with posted := ps } }
      (p.addr = ST_LG_CTL → bitAt p.data 31 = true → p.data < 2 ^ 32 →
        ∃ t, exec .postedWriteApply s = .next t ∧ t = { u with regs := t.regs } ∧ (∀ i < 16, t.regNat (ST_LG i) 4 = 0) ∧
          t.reg ST_LG_CTL = 0 ∧ ∀ a, a ≠ ST_LG_CTL → (∀ i < 16, ∀ w < 4, a ≠ ST_LG i + 4 * w) → t.reg a = s.reg a) ∧
      (p.addr = TMR_COUNT n → exec .postedWriteApply s = .next (u.setReg (TMR_COUNT n) (BitVec.ofNat 32 p.data))))

/-- The life cycle, the vault, tamper responses, Wipe and the SEC block: 19_security_lifecycle.md, R590 to R608. -/
def Obligations.SecurityActs : Prop :=
  ∀ (s : State) (path : Fin 7) (src : BitVec 13) (who : Master),
    let shut := s.st.holdup = true ∨ s.st.wipe ≠ none ∨ s.st.base = 0
    let owns := s.isOwner src.toNat path.val = true
    let only := fun (t : State) (as : List Nat) => ∀ a, a ∉ as → t.reg a = s.reg a
    let wiping := fun (full : Bool) (t : State) => t.st.wipe = some (full, decide (2 ≤ s.st.base)) ∧ t.mode = mWipe ∧
      t.st.base = s.st.base ∧ t.st.quiesce = none ∧ t.st.own.owner = none ∧ t.nv.wipePend = true ∧
      t.nv.keys = (if full then Vector.replicate 4 0 else s.nv.keys) ∧ t.vm = s.vm ∧ t.pm = s.pm ∧
      (2 ≤ s.st.base → ∀ n, (t.seq n).outs = [] ∧ (t.seq n).waiting = [] ∧ (t.seq n).spec = [] ∧ (t.seq n).btb = [])
    let go := fun (a size : Nat) => who.ok = true ∧ who.secSup = true ∧ CtlGo s who a size
    let calm := ∀ f ∈ s.st.canTx, f.path < 2
    (∀ token : List Byte, token.length ≤ 116 → ¬ shut → calm → EventPlain s 0x1FD svInfo → s.lcMode = true → s.nv.lc = 3 → owns →
      ∃ t, exec (.lcToken path src token) s = .next t ∧
        (s.tokenOk token = true → ofBytes (token.take 4) = 4 → t.nv.lc = 4 ∧ wiping true t) ∧
        (s.tokenOk token = false → EventRaised s t 0x1FD)) ∧
    (∀ x : Byte, ¬ shut → owns → s.lcMode = true → (s.nv.lc = 2 ∧ x = 3) ∨ (s.nv.lc ≠ 5 ∧ x = 5) →
      ∃ t, exec (.lcReq path src x) s = .next t ∧ t.nv.lc = x.toNat ∧ wiping true t) ∧
    (∀ x : Byte, ¬ shut → owns → calm →
      let now := s.nv.revoked ||| x.toNat
      let verifies := fun (r : Nat) => ∃ k ∈ lcKeys s.st.lc, (k = 4 ∨ bitAt r k = false) ∧
        Config.imageSigned (s.fld ST_BOOT ST_BOOT.IMAGE) k = true
      (s.nv.epoch ≤ x.toNat → x.toNat ≤ 63 → x.toNat ≤ s.imageEpoch →
        exec (.epochWrite path src x) s = .next { s with nv := { s.nv with epoch := x.toNat } }) ∧
      (x.toNat ≤ 15 → now ≠ 15 → (verifies s.nv.revoked → verifies now) →
        exec (.keyRevoke path src x) s = .next { s with nv := { s.nv with revoked := now } })) ∧
    (∀ (slot : Fin 4) (key : BitVec 256), ¬ shut → calm → owns ∨ (s.keySlots = 0 ∧ 2 ≤ path.val ∧ path.val ≤ 5) →
      exec (.claimKeyWrite path src slot key) s = .next { s with nv := { s.nv with keys := s.nv.keys.set slot key } }) ∧
    (let g := min 1024 (s.st.rngGood + 1)
     let u : State := { s with st := { s.st with rngGood := g } }
     exec (.rngBlock true) s = .next (if g = 1024 then u.setFld SEC_STATUS SEC_STATUS.RNG_OK 1 else u)) ∧
    (EventPlain s 0x1FF svSevere →
      ∃ t, exec (.rngBlock false) s = .next t ∧
        EventRaised (({ s with st := { s.st with rngGood := 0 } } : State).setFld SEC_STATUS SEC_STATUS.RNG_OK 0) t 0x1FF) ∧
    (∀ v : W32, go SEC_BTB_RENEW 4 →
      let d := s.st.secDraw + 1
      let named := fun (key : Nat) => ∃ n < 9, bitAt v.toNat (11 + n) = true ∧ ∃ sup ctx, ctx < 256 ∧
        key = secretKey n (bitAt v.toNat 9) sup ctx ∧ (bitAt v.toNat 10 = true ∨ (sup = bitAt v.toNat 8 ∧ ctx = v.toNat % 256))
      ∃ t, exec (.btbRenew who v) s = .next t ∧ only t [SEC_BTB_RENEW] ∧ t.flag SEC_BTB_RENEW SEC_BTB_RENEW.GO = false ∧
        t.st.secDraw = d ∧ (∀ key, named key → cget t.st.secrets key = d) ∧
        (∀ key, ¬ named key → cget t.st.secrets key = cget s.st.secrets key) ∧
        t = { s with regs := t.regs, fab := t.fab, st := { s.st with secDraw := d, secrets := t.st.secrets } }) ∧
    (∀ (k : Fin 7) (present : Bool), s.st.base ≠ 0 → s.st.wipe = none → calm →
      let resp := s.fld SEC_TAMPER_CFG (2 * k.val, 2)
      let u := s.setFld SEC_TAMPER_STAT (8 + k.val, 1) (bit01 present)
      (resp = 0 → exec (.tamperDetect k present) s = .next u) ∧
      (resp = 1 → EventPlain s 0x1FC svSevere →
        ∃ t, exec (.tamperDetect k present) s = .next t ∧ EventRaised (u.setFld SEC_TAMPER_STAT (k.val, 1) 1) t 0x1FC) ∧
      (resp = 3 → EventPlain s 0x1FC svSevere →
        ∃ t, exec (.tamperDetect k present) s = .next t ∧ wiping true t ∧
          bitAt (t.fld SEC_TAMPER_STAT SEC_TAMPER_STAT.LATCHED) k = true)) ∧
    (∀ (d : BitVec 4), s.st.base ≠ 0 → calm →
      let loop := s.fld SEC_TAMPER_CFG SEC_TAMPER_CFG.LOOP
      let miss := cget s.st.tamperMiss
      (∀ i < 4, bitAt loop i = true → bitAt d.toNat i = true → miss i < 2) →
      ∃ t, exec (.tamperSample d) s = .next t ∧ only t [SEC_TAMPER_STAT] ∧
        (∀ i, cget t.st.tamperMiss i
          = if i < 4 ∧ bitAt loop i = true then (if bitAt d.toNat i = true then miss i + 1 else 0) else miss i) ∧
        (∀ i < 4, bitAt (t.fld SEC_TAMPER_STAT SEC_TAMPER_STAT.PRESENT) i
          = (bitAt (s.fld SEC_TAMPER_STAT SEC_TAMPER_STAT.PRESENT) i && (!bitAt loop i || bitAt d.toNat i))) ∧
        t.fld SEC_TAMPER_STAT SEC_TAMPER_STAT.LATCHED = s.fld SEC_TAMPER_STAT SEC_TAMPER_STAT.LATCHED ∧
        t = { s with regs := t.regs, st := { s.st with tamperMiss := t.st.tamperMiss } }) ∧
    (∀ (sec : Bool) (ovens : Byte),
      let a := if sec then SEC_NOTIFY_S else SEC_NOTIFY_G
      let pend := fun (t : State) => t.fld a SEC_NOTIFY_G.PEND
      go a 4 →
      (∃ t, exec (.secNotifySet who sec ovens) s = .next t ∧ only t [a] ∧ t = { s with regs := t.regs, fab := t.fab } ∧
        pend t = pend s ||| ovens.toNat) ∧
      (∃ t, exec (.secNotifyClr who sec ovens) s = .next t ∧ only t [a] ∧ t = { s with regs := t.regs, fab := t.fab } ∧
        pend t = pend s &&& (255 - ovens.toNat))) ∧
    (go SEC_RNG 8 →
      let x := if s.rngOk then Config.freeValue s.freeCtr % 2 ^ 64 else 0
      ∃ t, exec (.secRngRead who) s = .next t ∧
        t = { s with fab := t.fab, freeCtr := if s.rngOk then s.freeCtr + 1 else s.freeCtr } ∧
        t.fab.answers = s.fab.answers ++ [(⟨who, decide (who.id = 14), .ctl, 0, SEC_RNG, 8, none⟩, 0, x)]) ∧
    (∀ full : Bool, s.st.base ≠ 0 → s.st.wipe = none → ∃ t, exec (.wipeEntry full) s = .next t ∧ wiping full t) ∧
    (∀ full powered, s.st.wipe = some (full, powered) →
      ∃ t, exec .wipeEnd s = .next t ∧ StarterOnly t 4 ∧ t.nv.wipePend = false ∧ (∀ n, t.timer n = Timer.reset) ∧ t.st.links = [] ∧
        t.st.tb = s.st.tb ∧ (∀ k, full = true → keptKey k = false → mget (fun _ => []) t.nv.saved k = []) ∧
        (full = false → t.nv.saved = s.nv.saved)) ∧
    (∀ code : TapCode, (code = .priv → s.st.lc = 1 ∨ s.st.lc = 4) →
      ∃ t, exec (.tapInstructionLoad code) s = .next t ∧ t = { s with st := { s.st with tap := t.st.tap, extest := code == .extest } } ∧
        t.st.tap = match code with
          | .bypass => 0
          | .idcode => 1
          | .sample => 2
          | .extest => 3
          | .priv => 4)

/-- A register's write by its access types, a wide register's read, and further events: 20_register_behaviour.md, R612, R613;
05_vector_memory.md, R162; 14_faults_journal_repair.md, R456; 17_dictionary_and_ownership.md, R557. -/
def Obligations.RegistersAndLastRows : Prop :=
  ∀ (s : State) (who : Master),
    (∀ (a v : W32) (r : RegDesc) (i j w : Nat), who.ok = true → CtlGo s who a.toNat 4 → who.secSup = true → a.toNat / 0x10000 = 0x70 →
      regFind a.toNat = some (r, i, j, w) →
      let m := r.mask w
      let stored := m.rw ||| (if s.locked r i j = true then 0 else m.rwl)
      bitsIn v.toNat m.rsv = 0 →
      ∃ t, exec (.registerWrite who a false (v.zeroExtend 64)) s = .next t ∧ t = { s with regs := t.regs, fab := t.fab } ∧
        (∀ x, x ≠ a.toNat → t.reg x = s.reg x) ∧ ∀ b < 32, (t.reg a.toNat).getLsbD b
          = (if bitAt m.w1s b = true ∧ v.getLsbD b = true then true
             else if bitAt m.w1c b = true ∧ v.getLsbD b = true then false
             else if bitAt stored b = true then v.getLsbD b else (s.reg a.toNat).getLsbD b)) ∧
    (∀ (a : W32) (n : Nat), who.ok = true → CtlGo s who a.toNat 4 → a.toNat < 0x800000 ∨ a.toNat / 0x10000 = 0xC0 →
      fjReadOk who a.toNat = true → wideOf a.toNat = some (a.toNat, n) →
      ∃ t x, exec (.wideRegisterRead who a) s = .next t ∧ t = { s with fab := t.fab, wideRd := t.wideRd } ∧
        t.wideRd = (wideKey a.toNat who, x) :: s.wideRd.filter (fun p => p.1 != wideKey a.toNat who) ∧
        (∀ i < n, bitsOf x (32 * i) 32 = s.ctlView who (a.toNat + 4 * i) % 2 ^ 32) ∧
        t.fab.answers = s.fab.answers ++
          [(⟨who, decide (who.id = 14), .ctl, 0, a.toNat, 4, none⟩, 0, s.ctlView who a.toNat % 2 ^ 32)]) ∧
    (∀ tier : Fin 4, EventPlain s vmTsense svDegraded →
      ∃ t, exec (.tierSensorLoss tier) s = .next t ∧ EventRaised (({ s with vm := { s.vm with
        tsense := tier.val :: s.vm.tsense.filter (fun x => x != tier.val) } } : State).setFld VM_STATUS VM_STATUS.TSENSE_FAIL 1) t vmTsense) ∧
    (∀ (b : Fin 2) (off : Bool) (unsent : Nat), s.pathOpen b = true →
      ∃ t, exec (.canBusError b off unsent) s = .next t ∧ cget t.st.canState b = (if off then 2 else 1) ∧
        (∀ x, x ≠ b.val → cget t.st.canState x = cget s.st.canState x) ∧
        t = { s with st := { s.st with canState := t.st.canState, canTx := t.st.canTx } } ∧
        (off = false → t.st.canTx = s.st.canTx) ∧
        t.st.canTx.filter (fun f => f.path != b.val) = s.st.canTx.filter (fun f => f.path != b.val) ∧
        (off = true → t.st.canTx.filter (fun f => f.path == b.val)
          = (s.st.canTx.filter (fun f => f.path == b.val)).take ((s.st.canTx.filter (fun f => f.path == b.val)).length - unsent))) ∧
    (s.fj.alertNext = false →
      exec .alertHighTimeEnd s = .next { s with fj := { s.fj with alertHigh := false } }) ∧
    (s.fj.alertNext = true →
      ∃ t, exec .alertHighTimeEnd s = .next t ∧ t.flag FJ_PIN_CTL FJ_PIN_CTL.LOW = true ∧ t.flag FJ_STATUS FJ_STATUS.ALERT = true ∧
        (∀ a, a ≠ FJ_PIN_CTL → a ≠ FJ_STATUS → t.reg a = s.reg a) ∧ t = { s with regs := t.regs, fj := { s.fj with
          alertHigh := false
          alertNext := false
          alertOpen := true
          alertMin := false } })
end

