-- ==== Sys2Proof/Laws/Maps.lean ====
section
/-! SUPPORT. Sys2Proof/Laws/Maps.lean: sparse maps and memories: a read after a write, and the canonical form that every
write keeps. -/
namespace Sys2Proof.Machine

variable {β : Type} [DecidableEq β] {d : Nat → β} {m : List (Nat × β)}

omit [DecidableEq β] in
theorem mget_filter_ne (m : List (Nat × β)) (k j : Nat) :
    mget d (m.filter (fun p => p.1 != k)) j = if j = k then d j else mget d m j := by
  induction m with
  | nil => simp [mget]
  | cons x m ih =>
    obtain ⟨a, w⟩ := x
    by_cases h : a = k
    · subst h
      simp only [List.filter_cons, bne_self_eq_false, Bool.false_eq_true, if_false, ih, mget]
      by_cases hj : j = a
      · simp [hj]
      · simp [hj, Ne.symm hj]
    · have : (a != k) = true := by simpa using h
      simp only [List.filter_cons, this, if_true, mget, ih]
      by_cases ha : a = j
      · subst ha; simp [h]
      · simp [ha]

theorem mget_mcons (m : List (Nat × β)) (k : Nat) (v : β) (j : Nat) :
    mget d (mcons d k v m) j = if j = k then v else mget d m j := by
  unfold mcons
  by_cases h : v = d k
  · rw [if_pos h, mget_filter_ne]
    by_cases hj : j = k
    · simp [hj, h]
    · simp [hj]
  · rw [if_neg h]
    simp only [mget]
    by_cases hj : j = k
    · simp [hj]
    · simp [hj, Ne.symm hj]

/-- A map with key `k` holding `v` holds it there and is unchanged everywhere else. -/
@[simp] theorem mget_mput (m : List (Nat × β)) (k : Nat) (v : β) (j : Nat) :
    mget d (mput d m k v) j = if j = k then v else mget d m j := by
  induction m with
  | nil => exact mget_mcons [] k v j
  | cons x m ih =>
    obtain ⟨a, w⟩ := x
    unfold mput
    by_cases h1 : k < a
    · rw [if_pos h1, mget_mcons]
    · rw [if_neg h1]
      by_cases h2 : a = k
      · rw [if_pos h2, mget_mcons]
        subst h2
        by_cases hj : j = a
        · simp [hj]
        · simp [hj, mget, Ne.symm hj]
      · rw [if_neg h2]
        simp only [mget, ih]
        by_cases ha : a = j
        · subst ha; simp [h2]
        · simp [ha]

/-! ### The canonical form -/

theorem mwfFrom_mono {lo lo' : Nat} (h : lo' ≤ lo) : mwfFrom d lo m = true → mwfFrom d lo' m = true := by
  cases m with
  | nil => simp [mwfFrom]
  | cons x m =>
    obtain ⟨a, w⟩ := x
    simp only [mwfFrom, Bool.and_eq_true, decide_eq_true_eq]
    rintro ⟨⟨h1, h2⟩, h3⟩
    exact ⟨⟨Nat.le_trans h h1, h2⟩, h3⟩

theorem mwfFrom_filter (p : Nat × β → Bool) {lo : Nat} : mwfFrom d lo m = true → mwfFrom d lo (m.filter p) = true := by
  induction m generalizing lo with
  | nil => simp
  | cons x m ih =>
    obtain ⟨a, w⟩ := x
    simp only [mwfFrom, Bool.and_eq_true, decide_eq_true_eq, List.filter_cons]
    rintro ⟨⟨h1, h2⟩, h3⟩
    cases p (a, w) with
    | true => simpa [mwfFrom] using ⟨⟨h1, h2⟩, ih h3⟩
    | false => exact mwfFrom_mono (Nat.le_succ_of_le h1) (ih h3)

theorem mwfFrom_mput {lo : Nat} (k : Nat) (v : β) (hk : lo ≤ k) (h : mwfFrom d lo m = true) :
    mwfFrom d lo (mput d m k v) = true := by
  have cons : ∀ {lo : Nat} {m : List (Nat × β)}, lo ≤ k → mwfFrom d lo m = true → mwfFrom d (k + 1) m = true →
      mwfFrom d lo (mcons d k v m) = true := by
    intro lo m hk h0 h1
    unfold mcons
    by_cases hv : v = d k
    · rw [if_pos hv]; exact mwfFrom_filter _ h0
    · rw [if_neg hv]; simp [mwfFrom, hk, hv, h1]
  induction m generalizing lo with
  | nil => exact cons hk rfl rfl
  | cons x m ih =>
    obtain ⟨a, w⟩ := x
    have h' := h
    simp only [mwfFrom, Bool.and_eq_true, decide_eq_true_eq] at h'
    obtain ⟨⟨h1, h2⟩, h3⟩ := h'
    unfold mput
    by_cases hka : k < a
    · rw [if_pos hka]
      exact cons hk h (by simpa [mwfFrom] using ⟨⟨hka, h2⟩, h3⟩)
    · rw [if_neg hka]
      by_cases hak : a = k
      · rw [if_pos hak]
        subst hak
        exact cons hk (mwfFrom_mono (Nat.le_succ_of_le h1) h3) h3
      · rw [if_neg hak]
        simpa [mwfFrom] using ⟨⟨h1, h2⟩, ih (by omega) h3⟩

/-- Writing a map keeps its canonical form. -/
theorem mwf_mput (k : Nat) (v : β) (h : mwf d m = true) : mwf d (mput d m k v) = true :=
  mwfFrom_mput k v (Nat.zero_le k) h

/-- Leaving entries out keeps it. -/
theorem mwf_filter (p : Nat × β → Bool) (h : mwf d m = true) : mwf d (m.filter p) = true := mwfFrom_filter p h

/-- A key below every listed one reads as an unlisted key. -/
theorem mget_below {lo k : Nat} (h : mwfFrom d lo m = true) (hk : k < lo) : mget d m k = d k := by
  induction m generalizing lo with
  | nil => rfl
  | cons x m ih =>
    obtain ⟨a, w⟩ := x
    simp only [mwfFrom, Bool.and_eq_true, decide_eq_true_eq] at h
    have : a ≠ k := by omega
    simp only [mget, this, if_false]
    exact ih h.2 (by omega)

/-! ### Memories -/

@[simp] theorem memByte_memPut (m : List Host.Cell) (a : Nat) (b : Byte) (x : Nat) :
    memByte (memPut m a b) x = if x = a then b else memByte m x := mget_mput m a b x

theorem memPut_wf {m : List Host.Cell} (a : Nat) (b : Byte) (h : Memory.wf m = true) : Memory.wf (memPut m a b) = true :=
  mwf_mput a b h

/-- Every write of bytes keeps a memory's canonical form. -/
theorem memWrite_wf {m : List Host.Cell} (a : Nat) (bs : List Byte) (h : Memory.wf m = true) :
    Memory.wf (memWrite m a bs) = true := by
  induction bs generalizing m a with
  | nil => exact h
  | cons b bs ih => exact ih (a + 1) (memPut_wf a b h)

/-- What a byte reads as after a write of bytes: the byte written there, or what it read as before. -/
theorem memByte_memWrite (m : List Host.Cell) (a : Nat) (bs : List Byte) (x : Nat) :
    memByte (memWrite m a bs) x = if a ≤ x ∧ x < a + bs.length then bs.getD (x - a) 0 else memByte m x := by
  induction bs generalizing m a with
  | nil =>
    have : ¬ (a ≤ x ∧ x < a + ([] : List Byte).length) := by simp
    rw [if_neg this]; rfl
  | cons b bs ih =>
    rw [memWrite, ih, memByte_memPut]
    simp only [List.length_cons]
    by_cases hx : x = a
    · subst hx
      rw [if_neg (by omega), if_pos rfl, if_pos (by omega)]
      simp
    · rw [if_neg hx]
      by_cases h1 : a + 1 ≤ x ∧ x < a + 1 + bs.length
      · rw [if_pos h1, if_pos (by omega)]
        have : x - a = (x - (a + 1)) + 1 := by omega
        rw [this, List.getD_cons_succ]
      · rw [if_neg h1, if_neg (by omega)]

/-- A byte outside the bytes written reads as before. -/
theorem memByte_memWrite_of_outside (m : List Host.Cell) (a : Nat) (bs : List Byte) (x : Nat) (h : x < a ∨ a + bs.length ≤ x) :
    memByte (memWrite m a bs) x = memByte m x := by
  rw [memByte_memWrite, if_neg (by omega)]

theorem memRead_length (m : List Host.Cell) (a n : Nat) : (memRead m a n).length = n := by
  induction n generalizing a with
  | zero => rfl
  | succ n ih => simp [memRead, ih]

theorem memRead_getD (m : List Host.Cell) (a n i : Nat) (h : i < n) : (memRead m a n).getD i 0 = memByte m (a + i) := by
  induction n generalizing a i with
  | zero => omega
  | succ n ih =>
    cases i with
    | zero => simp [memRead]
    | succ i =>
      rw [memRead, List.getD_cons_succ, ih (a + 1) i (by omega)]
      congr 1; omega

/-- A read after a write to the same place gives the bytes written. -/
theorem memRead_memWrite (m : List Host.Cell) (a : Nat) (bs : List Byte) : memRead (memWrite m a bs) a bs.length = bs := by
  apply List.ext_getElem
  · exact memRead_length _ _ _
  · intro i h1 h2
    have e1 : (memRead (memWrite m a bs) a bs.length).getD i 0 = (memRead (memWrite m a bs) a bs.length)[i] := by simp [h1]
    have e2 : bs.getD i 0 = bs[i] := by simp [h2]
    rw [← e1, ← e2, memRead_getD _ _ _ _ h2, memByte_memWrite, if_pos (by omega)]
    congr 1; omega

end Sys2Proof.Machine
end

