-- ==== Sys2Proof/Laws/State.lean ====
section
/-! SUPPORT. Sys2Proof/Laws/State.lean: each named update of the state, field by field: what it changes and what it leaves. -/
namespace Sys2Proof.Machine

/-! ### after -/

@[simp] theorem State.after_pending (s : State) (t : State) : (s.after t).pending = s.pending := rfl
@[simp] theorem State.after_freeCtr (s : State) (t : State) : (s.after t).freeCtr = t.freeCtr := rfl
@[simp] theorem State.after_now (s : State) (t : State) : (s.after t).now = t.now := rfl
@[simp] theorem State.after_regs (s : State) (t : State) : (s.after t).regs = t.regs := rfl
@[simp] theorem State.after_seqs (s : State) (t : State) : (s.after t).seqs = t.seqs := rfl
@[simp] theorem State.after_vm (s : State) (t : State) : (s.after t).vm = t.vm := rfl
@[simp] theorem State.after_ls (s : State) (t : State) : (s.after t).ls = t.ls := rfl
@[simp] theorem State.after_lsBad (s : State) (t : State) : (s.after t).lsBad = t.lsBad := rfl
@[simp] theorem State.after_lsWipes (s : State) (t : State) : (s.after t).lsWipes = t.lsWipes := rfl
@[simp] theorem State.after_marches (s : State) (t : State) : (s.after t).marches = t.marches := rfl
@[simp] theorem State.after_fab (s : State) (t : State) : (s.after t).fab = t.fab := rfl
@[simp] theorem State.after_qe (s : State) (t : State) : (s.after t).qe = t.qe := rfl
@[simp] theorem State.after_hp (s : State) (t : State) : (s.after t).hp = t.hp := rfl
@[simp] theorem State.after_ch (s : State) (t : State) : (s.after t).ch = t.ch := rfl
@[simp] theorem State.after_bm (s : State) (t : State) : (s.after t).bm = t.bm := rfl
@[simp] theorem State.after_pm (s : State) (t : State) : (s.after t).pm = t.pm := rfl
@[simp] theorem State.after_pmImg (s : State) (t : State) : (s.after t).pmImg = t.pmImg := rfl
@[simp] theorem State.after_pmBad (s : State) (t : State) : (s.after t).pmBad = t.pmBad := rfl
@[simp] theorem State.after_ustA (s : State) (t : State) : (s.after t).ustA = t.ustA := rfl
@[simp] theorem State.after_ustB (s : State) (t : State) : (s.after t).ustB = t.ustB := rfl
@[simp] theorem State.after_ustC (s : State) (t : State) : (s.after t).ustC = t.ustC := rfl
@[simp] theorem State.after_ustMgmt (s : State) (t : State) : (s.after t).ustMgmt = t.ustMgmt := rfl
@[simp] theorem State.after_ustData (s : State) (t : State) : (s.after t).ustData = t.ustData := rfl
@[simp] theorem State.after_fj (s : State) (t : State) : (s.after t).fj = t.fj := rfl
@[simp] theorem State.after_nv (s : State) (t : State) : (s.after t).nv = t.nv := rfl
@[simp] theorem State.after_st (s : State) (t : State) : (s.after t).st = t.st := rfl
@[simp] theorem State.after_wideRd (s : State) (t : State) : (s.after t).wideRd = t.wideRd := rfl
@[simp] theorem State.after_wideWr (s : State) (t : State) : (s.after t).wideWr = t.wideWr := rfl

/-! ### setReg -/

@[simp] theorem State.setReg_pending (s : State) (a : Nat) (v : W32) : (s.setReg a v).pending = s.pending := rfl
@[simp] theorem State.setReg_freeCtr (s : State) (a : Nat) (v : W32) : (s.setReg a v).freeCtr = s.freeCtr := rfl
@[simp] theorem State.setReg_now (s : State) (a : Nat) (v : W32) : (s.setReg a v).now = s.now := rfl
@[simp] theorem State.setReg_regs (s : State) (a : Nat) (v : W32) : (s.setReg a v).regs = mput regReset s.regs a v := rfl
@[simp] theorem State.setReg_seqs (s : State) (a : Nat) (v : W32) : (s.setReg a v).seqs = s.seqs := rfl
@[simp] theorem State.setReg_vm (s : State) (a : Nat) (v : W32) : (s.setReg a v).vm = s.vm := rfl
@[simp] theorem State.setReg_ls (s : State) (a : Nat) (v : W32) : (s.setReg a v).ls = s.ls := rfl
@[simp] theorem State.setReg_lsBad (s : State) (a : Nat) (v : W32) : (s.setReg a v).lsBad = s.lsBad := rfl
@[simp] theorem State.setReg_lsWipes (s : State) (a : Nat) (v : W32) : (s.setReg a v).lsWipes = s.lsWipes := rfl
@[simp] theorem State.setReg_marches (s : State) (a : Nat) (v : W32) : (s.setReg a v).marches = s.marches := rfl
@[simp] theorem State.setReg_fab (s : State) (a : Nat) (v : W32) : (s.setReg a v).fab = s.fab := rfl
@[simp] theorem State.setReg_qe (s : State) (a : Nat) (v : W32) : (s.setReg a v).qe = s.qe := rfl
@[simp] theorem State.setReg_hp (s : State) (a : Nat) (v : W32) : (s.setReg a v).hp = s.hp := rfl
@[simp] theorem State.setReg_ch (s : State) (a : Nat) (v : W32) : (s.setReg a v).ch = s.ch := rfl
@[simp] theorem State.setReg_bm (s : State) (a : Nat) (v : W32) : (s.setReg a v).bm = s.bm := rfl
@[simp] theorem State.setReg_pm (s : State) (a : Nat) (v : W32) : (s.setReg a v).pm = s.pm := rfl
@[simp] theorem State.setReg_pmImg (s : State) (a : Nat) (v : W32) : (s.setReg a v).pmImg = s.pmImg := rfl
@[simp] theorem State.setReg_pmBad (s : State) (a : Nat) (v : W32) : (s.setReg a v).pmBad = s.pmBad := rfl
@[simp] theorem State.setReg_ustA (s : State) (a : Nat) (v : W32) : (s.setReg a v).ustA = s.ustA := rfl
@[simp] theorem State.setReg_ustB (s : State) (a : Nat) (v : W32) : (s.setReg a v).ustB = s.ustB := rfl
@[simp] theorem State.setReg_ustC (s : State) (a : Nat) (v : W32) : (s.setReg a v).ustC = s.ustC := rfl
@[simp] theorem State.setReg_ustMgmt (s : State) (a : Nat) (v : W32) : (s.setReg a v).ustMgmt = s.ustMgmt := rfl
@[simp] theorem State.setReg_ustData (s : State) (a : Nat) (v : W32) : (s.setReg a v).ustData = s.ustData := rfl
@[simp] theorem State.setReg_fj (s : State) (a : Nat) (v : W32) : (s.setReg a v).fj = s.fj := rfl
@[simp] theorem State.setReg_nv (s : State) (a : Nat) (v : W32) : (s.setReg a v).nv = s.nv := rfl
@[simp] theorem State.setReg_st (s : State) (a : Nat) (v : W32) : (s.setReg a v).st = s.st := rfl
@[simp] theorem State.setReg_wideRd (s : State) (a : Nat) (v : W32) : (s.setReg a v).wideRd = s.wideRd := rfl
@[simp] theorem State.setReg_wideWr (s : State) (a : Nat) (v : W32) : (s.setReg a v).wideWr = s.wideWr := rfl

/-! ### setSeq -/

@[simp] theorem State.setSeq_pending (s : State) (n : Fin 9) (q : Seq) : (s.setSeq n q).pending = s.pending := rfl
@[simp] theorem State.setSeq_freeCtr (s : State) (n : Fin 9) (q : Seq) : (s.setSeq n q).freeCtr = s.freeCtr := rfl
@[simp] theorem State.setSeq_now (s : State) (n : Fin 9) (q : Seq) : (s.setSeq n q).now = s.now := rfl
@[simp] theorem State.setSeq_regs (s : State) (n : Fin 9) (q : Seq) : (s.setSeq n q).regs = s.regs := rfl
@[simp] theorem State.setSeq_seqs (s : State) (n : Fin 9) (q : Seq) : (s.setSeq n q).seqs = s.seqs.set n q := rfl
@[simp] theorem State.setSeq_vm (s : State) (n : Fin 9) (q : Seq) : (s.setSeq n q).vm = s.vm := rfl
@[simp] theorem State.setSeq_ls (s : State) (n : Fin 9) (q : Seq) : (s.setSeq n q).ls = s.ls := rfl
@[simp] theorem State.setSeq_lsBad (s : State) (n : Fin 9) (q : Seq) : (s.setSeq n q).lsBad = s.lsBad := rfl
@[simp] theorem State.setSeq_lsWipes (s : State) (n : Fin 9) (q : Seq) : (s.setSeq n q).lsWipes = s.lsWipes := rfl
@[simp] theorem State.setSeq_marches (s : State) (n : Fin 9) (q : Seq) : (s.setSeq n q).marches = s.marches := rfl
@[simp] theorem State.setSeq_fab (s : State) (n : Fin 9) (q : Seq) : (s.setSeq n q).fab = s.fab := rfl
@[simp] theorem State.setSeq_qe (s : State) (n : Fin 9) (q : Seq) : (s.setSeq n q).qe = s.qe := rfl
@[simp] theorem State.setSeq_hp (s : State) (n : Fin 9) (q : Seq) : (s.setSeq n q).hp = s.hp := rfl
@[simp] theorem State.setSeq_ch (s : State) (n : Fin 9) (q : Seq) : (s.setSeq n q).ch = s.ch := rfl
@[simp] theorem State.setSeq_bm (s : State) (n : Fin 9) (q : Seq) : (s.setSeq n q).bm = s.bm := rfl
@[simp] theorem State.setSeq_pm (s : State) (n : Fin 9) (q : Seq) : (s.setSeq n q).pm = s.pm := rfl
@[simp] theorem State.setSeq_pmImg (s : State) (n : Fin 9) (q : Seq) : (s.setSeq n q).pmImg = s.pmImg := rfl
@[simp] theorem State.setSeq_pmBad (s : State) (n : Fin 9) (q : Seq) : (s.setSeq n q).pmBad = s.pmBad := rfl
@[simp] theorem State.setSeq_ustA (s : State) (n : Fin 9) (q : Seq) : (s.setSeq n q).ustA = s.ustA := rfl
@[simp] theorem State.setSeq_ustB (s : State) (n : Fin 9) (q : Seq) : (s.setSeq n q).ustB = s.ustB := rfl
@[simp] theorem State.setSeq_ustC (s : State) (n : Fin 9) (q : Seq) : (s.setSeq n q).ustC = s.ustC := rfl
@[simp] theorem State.setSeq_ustMgmt (s : State) (n : Fin 9) (q : Seq) : (s.setSeq n q).ustMgmt = s.ustMgmt := rfl
@[simp] theorem State.setSeq_ustData (s : State) (n : Fin 9) (q : Seq) : (s.setSeq n q).ustData = s.ustData := rfl
@[simp] theorem State.setSeq_fj (s : State) (n : Fin 9) (q : Seq) : (s.setSeq n q).fj = s.fj := rfl
@[simp] theorem State.setSeq_nv (s : State) (n : Fin 9) (q : Seq) : (s.setSeq n q).nv = s.nv := rfl
@[simp] theorem State.setSeq_st (s : State) (n : Fin 9) (q : Seq) : (s.setSeq n q).st = s.st := rfl
@[simp] theorem State.setSeq_wideRd (s : State) (n : Fin 9) (q : Seq) : (s.setSeq n q).wideRd = s.wideRd := rfl
@[simp] theorem State.setSeq_wideWr (s : State) (n : Fin 9) (q : Seq) : (s.setSeq n q).wideWr = s.wideWr := rfl

/-! ### tick -/

@[simp] theorem State.tick_pending (s : State)  : (s.tick).pending = s.pending := rfl
@[simp] theorem State.tick_freeCtr (s : State)  : (s.tick).freeCtr = s.freeCtr + 1 := rfl
@[simp] theorem State.tick_now (s : State)  : (s.tick).now = s.now := rfl
@[simp] theorem State.tick_regs (s : State)  : (s.tick).regs = s.regs := rfl
@[simp] theorem State.tick_seqs (s : State)  : (s.tick).seqs = s.seqs := rfl
@[simp] theorem State.tick_vm (s : State)  : (s.tick).vm = s.vm := rfl
@[simp] theorem State.tick_ls (s : State)  : (s.tick).ls = s.ls := rfl
@[simp] theorem State.tick_lsBad (s : State)  : (s.tick).lsBad = s.lsBad := rfl
@[simp] theorem State.tick_lsWipes (s : State)  : (s.tick).lsWipes = s.lsWipes := rfl
@[simp] theorem State.tick_marches (s : State)  : (s.tick).marches = s.marches := rfl
@[simp] theorem State.tick_fab (s : State)  : (s.tick).fab = s.fab := rfl
@[simp] theorem State.tick_qe (s : State)  : (s.tick).qe = s.qe := rfl
@[simp] theorem State.tick_hp (s : State)  : (s.tick).hp = s.hp := rfl
@[simp] theorem State.tick_ch (s : State)  : (s.tick).ch = s.ch := rfl
@[simp] theorem State.tick_bm (s : State)  : (s.tick).bm = s.bm := rfl
@[simp] theorem State.tick_pm (s : State)  : (s.tick).pm = s.pm := rfl
@[simp] theorem State.tick_pmImg (s : State)  : (s.tick).pmImg = s.pmImg := rfl
@[simp] theorem State.tick_pmBad (s : State)  : (s.tick).pmBad = s.pmBad := rfl
@[simp] theorem State.tick_ustA (s : State)  : (s.tick).ustA = s.ustA := rfl
@[simp] theorem State.tick_ustB (s : State)  : (s.tick).ustB = s.ustB := rfl
@[simp] theorem State.tick_ustC (s : State)  : (s.tick).ustC = s.ustC := rfl
@[simp] theorem State.tick_ustMgmt (s : State)  : (s.tick).ustMgmt = s.ustMgmt := rfl
@[simp] theorem State.tick_ustData (s : State)  : (s.tick).ustData = s.ustData := rfl
@[simp] theorem State.tick_fj (s : State)  : (s.tick).fj = s.fj := rfl
@[simp] theorem State.tick_nv (s : State)  : (s.tick).nv = s.nv := rfl
@[simp] theorem State.tick_st (s : State)  : (s.tick).st = s.st := rfl
@[simp] theorem State.tick_wideRd (s : State)  : (s.tick).wideRd = s.wideRd := rfl
@[simp] theorem State.tick_wideWr (s : State)  : (s.tick).wideWr = s.wideWr := rfl

/-! ### setRegNat, setFld and setFlag -/

/-- Writing registers changes the register file and nothing else. -/
theorem State.setRegNat_eq (s : State) (a w v : Nat) : s.setRegNat a w v = { s with regs := (s.setRegNat a w v).regs } := by
  induction w generalizing s a v with
  | zero => rfl
  | succ w ih => rw [State.setRegNat, ih]; rfl

theorem State.setFld_eq (s : State) (a : Nat) (f : Fld) (v : Nat) : s.setFld a f v = { s with regs := (s.setFld a f v).regs } :=
  State.setRegNat_eq s _ _ _

theorem State.setFlag_eq (s : State) (a : Nat) (f : Fld) (b : Bool) : s.setFlag a f b = { s with regs := (s.setFlag a f b).regs } :=
  State.setFld_eq s a f _

@[simp] theorem State.setRegNat_pending (s : State) (a w v : Nat) : (s.setRegNat a w v).pending = s.pending := by rw [State.setRegNat_eq]
@[simp] theorem State.setRegNat_freeCtr (s : State) (a w v : Nat) : (s.setRegNat a w v).freeCtr = s.freeCtr := by rw [State.setRegNat_eq]
@[simp] theorem State.setRegNat_now (s : State) (a w v : Nat) : (s.setRegNat a w v).now = s.now := by rw [State.setRegNat_eq]
@[simp] theorem State.setRegNat_seqs (s : State) (a w v : Nat) : (s.setRegNat a w v).seqs = s.seqs := by rw [State.setRegNat_eq]
@[simp] theorem State.setRegNat_vm (s : State) (a w v : Nat) : (s.setRegNat a w v).vm = s.vm := by rw [State.setRegNat_eq]
@[simp] theorem State.setRegNat_ls (s : State) (a w v : Nat) : (s.setRegNat a w v).ls = s.ls := by rw [State.setRegNat_eq]
@[simp] theorem State.setRegNat_lsBad (s : State) (a w v : Nat) : (s.setRegNat a w v).lsBad = s.lsBad := by rw [State.setRegNat_eq]
@[simp] theorem State.setRegNat_lsWipes (s : State) (a w v : Nat) : (s.setRegNat a w v).lsWipes = s.lsWipes := by rw [State.setRegNat_eq]
@[simp] theorem State.setRegNat_marches (s : State) (a w v : Nat) : (s.setRegNat a w v).marches = s.marches := by rw [State.setRegNat_eq]
@[simp] theorem State.setRegNat_fab (s : State) (a w v : Nat) : (s.setRegNat a w v).fab = s.fab := by rw [State.setRegNat_eq]
@[simp] theorem State.setRegNat_qe (s : State) (a w v : Nat) : (s.setRegNat a w v).qe = s.qe := by rw [State.setRegNat_eq]
@[simp] theorem State.setRegNat_hp (s : State) (a w v : Nat) : (s.setRegNat a w v).hp = s.hp := by rw [State.setRegNat_eq]
@[simp] theorem State.setRegNat_ch (s : State) (a w v : Nat) : (s.setRegNat a w v).ch = s.ch := by rw [State.setRegNat_eq]
@[simp] theorem State.setRegNat_bm (s : State) (a w v : Nat) : (s.setRegNat a w v).bm = s.bm := by rw [State.setRegNat_eq]
@[simp] theorem State.setRegNat_pm (s : State) (a w v : Nat) : (s.setRegNat a w v).pm = s.pm := by rw [State.setRegNat_eq]
@[simp] theorem State.setRegNat_pmImg (s : State) (a w v : Nat) : (s.setRegNat a w v).pmImg = s.pmImg := by rw [State.setRegNat_eq]
@[simp] theorem State.setRegNat_pmBad (s : State) (a w v : Nat) : (s.setRegNat a w v).pmBad = s.pmBad := by rw [State.setRegNat_eq]
@[simp] theorem State.setRegNat_ustA (s : State) (a w v : Nat) : (s.setRegNat a w v).ustA = s.ustA := by rw [State.setRegNat_eq]
@[simp] theorem State.setRegNat_ustB (s : State) (a w v : Nat) : (s.setRegNat a w v).ustB = s.ustB := by rw [State.setRegNat_eq]
@[simp] theorem State.setRegNat_ustC (s : State) (a w v : Nat) : (s.setRegNat a w v).ustC = s.ustC := by rw [State.setRegNat_eq]
@[simp] theorem State.setRegNat_ustMgmt (s : State) (a w v : Nat) : (s.setRegNat a w v).ustMgmt = s.ustMgmt := by rw [State.setRegNat_eq]
@[simp] theorem State.setRegNat_ustData (s : State) (a w v : Nat) : (s.setRegNat a w v).ustData = s.ustData := by rw [State.setRegNat_eq]
@[simp] theorem State.setRegNat_fj (s : State) (a w v : Nat) : (s.setRegNat a w v).fj = s.fj := by rw [State.setRegNat_eq]
@[simp] theorem State.setRegNat_nv (s : State) (a w v : Nat) : (s.setRegNat a w v).nv = s.nv := by rw [State.setRegNat_eq]
@[simp] theorem State.setRegNat_st (s : State) (a w v : Nat) : (s.setRegNat a w v).st = s.st := by rw [State.setRegNat_eq]
@[simp] theorem State.setRegNat_wideRd (s : State) (a w v : Nat) : (s.setRegNat a w v).wideRd = s.wideRd := by rw [State.setRegNat_eq]
@[simp] theorem State.setRegNat_wideWr (s : State) (a w v : Nat) : (s.setRegNat a w v).wideWr = s.wideWr := by rw [State.setRegNat_eq]

@[simp] theorem State.setFld_pending (s : State) (a : Nat) (f : Fld) (v : Nat) : (s.setFld a f v).pending = s.pending := by rw [State.setFld_eq]
@[simp] theorem State.setFld_freeCtr (s : State) (a : Nat) (f : Fld) (v : Nat) : (s.setFld a f v).freeCtr = s.freeCtr := by rw [State.setFld_eq]
@[simp] theorem State.setFld_now (s : State) (a : Nat) (f : Fld) (v : Nat) : (s.setFld a f v).now = s.now := by rw [State.setFld_eq]
@[simp] theorem State.setFld_seqs (s : State) (a : Nat) (f : Fld) (v : Nat) : (s.setFld a f v).seqs = s.seqs := by rw [State.setFld_eq]
@[simp] theorem State.setFld_vm (s : State) (a : Nat) (f : Fld) (v : Nat) : (s.setFld a f v).vm = s.vm := by rw [State.setFld_eq]
@[simp] theorem State.setFld_ls (s : State) (a : Nat) (f : Fld) (v : Nat) : (s.setFld a f v).ls = s.ls := by rw [State.setFld_eq]
@[simp] theorem State.setFld_lsBad (s : State) (a : Nat) (f : Fld) (v : Nat) : (s.setFld a f v).lsBad = s.lsBad := by rw [State.setFld_eq]
@[simp] theorem State.setFld_lsWipes (s : State) (a : Nat) (f : Fld) (v : Nat) : (s.setFld a f v).lsWipes = s.lsWipes := by rw [State.setFld_eq]
@[simp] theorem State.setFld_marches (s : State) (a : Nat) (f : Fld) (v : Nat) : (s.setFld a f v).marches = s.marches := by rw [State.setFld_eq]
@[simp] theorem State.setFld_fab (s : State) (a : Nat) (f : Fld) (v : Nat) : (s.setFld a f v).fab = s.fab := by rw [State.setFld_eq]
@[simp] theorem State.setFld_qe (s : State) (a : Nat) (f : Fld) (v : Nat) : (s.setFld a f v).qe = s.qe := by rw [State.setFld_eq]
@[simp] theorem State.setFld_hp (s : State) (a : Nat) (f : Fld) (v : Nat) : (s.setFld a f v).hp = s.hp := by rw [State.setFld_eq]
@[simp] theorem State.setFld_ch (s : State) (a : Nat) (f : Fld) (v : Nat) : (s.setFld a f v).ch = s.ch := by rw [State.setFld_eq]
@[simp] theorem State.setFld_bm (s : State) (a : Nat) (f : Fld) (v : Nat) : (s.setFld a f v).bm = s.bm := by rw [State.setFld_eq]
@[simp] theorem State.setFld_pm (s : State) (a : Nat) (f : Fld) (v : Nat) : (s.setFld a f v).pm = s.pm := by rw [State.setFld_eq]
@[simp] theorem State.setFld_pmImg (s : State) (a : Nat) (f : Fld) (v : Nat) : (s.setFld a f v).pmImg = s.pmImg := by rw [State.setFld_eq]
@[simp] theorem State.setFld_pmBad (s : State) (a : Nat) (f : Fld) (v : Nat) : (s.setFld a f v).pmBad = s.pmBad := by rw [State.setFld_eq]
@[simp] theorem State.setFld_ustA (s : State) (a : Nat) (f : Fld) (v : Nat) : (s.setFld a f v).ustA = s.ustA := by rw [State.setFld_eq]
@[simp] theorem State.setFld_ustB (s : State) (a : Nat) (f : Fld) (v : Nat) : (s.setFld a f v).ustB = s.ustB := by rw [State.setFld_eq]
@[simp] theorem State.setFld_ustC (s : State) (a : Nat) (f : Fld) (v : Nat) : (s.setFld a f v).ustC = s.ustC := by rw [State.setFld_eq]
@[simp] theorem State.setFld_ustMgmt (s : State) (a : Nat) (f : Fld) (v : Nat) : (s.setFld a f v).ustMgmt = s.ustMgmt := by rw [State.setFld_eq]
@[simp] theorem State.setFld_ustData (s : State) (a : Nat) (f : Fld) (v : Nat) : (s.setFld a f v).ustData = s.ustData := by rw [State.setFld_eq]
@[simp] theorem State.setFld_fj (s : State) (a : Nat) (f : Fld) (v : Nat) : (s.setFld a f v).fj = s.fj := by rw [State.setFld_eq]
@[simp] theorem State.setFld_nv (s : State) (a : Nat) (f : Fld) (v : Nat) : (s.setFld a f v).nv = s.nv := by rw [State.setFld_eq]
@[simp] theorem State.setFld_st (s : State) (a : Nat) (f : Fld) (v : Nat) : (s.setFld a f v).st = s.st := by rw [State.setFld_eq]
@[simp] theorem State.setFld_wideRd (s : State) (a : Nat) (f : Fld) (v : Nat) : (s.setFld a f v).wideRd = s.wideRd := by rw [State.setFld_eq]
@[simp] theorem State.setFld_wideWr (s : State) (a : Nat) (f : Fld) (v : Nat) : (s.setFld a f v).wideWr = s.wideWr := by rw [State.setFld_eq]

@[simp] theorem State.setFlag_pending (s : State) (a : Nat) (f : Fld) (b : Bool) : (s.setFlag a f b).pending = s.pending := by rw [State.setFlag_eq]
@[simp] theorem State.setFlag_freeCtr (s : State) (a : Nat) (f : Fld) (b : Bool) : (s.setFlag a f b).freeCtr = s.freeCtr := by rw [State.setFlag_eq]
@[simp] theorem State.setFlag_now (s : State) (a : Nat) (f : Fld) (b : Bool) : (s.setFlag a f b).now = s.now := by rw [State.setFlag_eq]
@[simp] theorem State.setFlag_seqs (s : State) (a : Nat) (f : Fld) (b : Bool) : (s.setFlag a f b).seqs = s.seqs := by rw [State.setFlag_eq]
@[simp] theorem State.setFlag_vm (s : State) (a : Nat) (f : Fld) (b : Bool) : (s.setFlag a f b).vm = s.vm := by rw [State.setFlag_eq]
@[simp] theorem State.setFlag_ls (s : State) (a : Nat) (f : Fld) (b : Bool) : (s.setFlag a f b).ls = s.ls := by rw [State.setFlag_eq]
@[simp] theorem State.setFlag_lsBad (s : State) (a : Nat) (f : Fld) (b : Bool) : (s.setFlag a f b).lsBad = s.lsBad := by rw [State.setFlag_eq]
@[simp] theorem State.setFlag_lsWipes (s : State) (a : Nat) (f : Fld) (b : Bool) : (s.setFlag a f b).lsWipes = s.lsWipes := by rw [State.setFlag_eq]
@[simp] theorem State.setFlag_marches (s : State) (a : Nat) (f : Fld) (b : Bool) : (s.setFlag a f b).marches = s.marches := by rw [State.setFlag_eq]
@[simp] theorem State.setFlag_fab (s : State) (a : Nat) (f : Fld) (b : Bool) : (s.setFlag a f b).fab = s.fab := by rw [State.setFlag_eq]
@[simp] theorem State.setFlag_qe (s : State) (a : Nat) (f : Fld) (b : Bool) : (s.setFlag a f b).qe = s.qe := by rw [State.setFlag_eq]
@[simp] theorem State.setFlag_hp (s : State) (a : Nat) (f : Fld) (b : Bool) : (s.setFlag a f b).hp = s.hp := by rw [State.setFlag_eq]
@[simp] theorem State.setFlag_ch (s : State) (a : Nat) (f : Fld) (b : Bool) : (s.setFlag a f b).ch = s.ch := by rw [State.setFlag_eq]
@[simp] theorem State.setFlag_bm (s : State) (a : Nat) (f : Fld) (b : Bool) : (s.setFlag a f b).bm = s.bm := by rw [State.setFlag_eq]
@[simp] theorem State.setFlag_pm (s : State) (a : Nat) (f : Fld) (b : Bool) : (s.setFlag a f b).pm = s.pm := by rw [State.setFlag_eq]
@[simp] theorem State.setFlag_pmImg (s : State) (a : Nat) (f : Fld) (b : Bool) : (s.setFlag a f b).pmImg = s.pmImg := by rw [State.setFlag_eq]
@[simp] theorem State.setFlag_pmBad (s : State) (a : Nat) (f : Fld) (b : Bool) : (s.setFlag a f b).pmBad = s.pmBad := by rw [State.setFlag_eq]
@[simp] theorem State.setFlag_ustA (s : State) (a : Nat) (f : Fld) (b : Bool) : (s.setFlag a f b).ustA = s.ustA := by rw [State.setFlag_eq]
@[simp] theorem State.setFlag_ustB (s : State) (a : Nat) (f : Fld) (b : Bool) : (s.setFlag a f b).ustB = s.ustB := by rw [State.setFlag_eq]
@[simp] theorem State.setFlag_ustC (s : State) (a : Nat) (f : Fld) (b : Bool) : (s.setFlag a f b).ustC = s.ustC := by rw [State.setFlag_eq]
@[simp] theorem State.setFlag_ustMgmt (s : State) (a : Nat) (f : Fld) (b : Bool) : (s.setFlag a f b).ustMgmt = s.ustMgmt := by rw [State.setFlag_eq]
@[simp] theorem State.setFlag_ustData (s : State) (a : Nat) (f : Fld) (b : Bool) : (s.setFlag a f b).ustData = s.ustData := by rw [State.setFlag_eq]
@[simp] theorem State.setFlag_fj (s : State) (a : Nat) (f : Fld) (b : Bool) : (s.setFlag a f b).fj = s.fj := by rw [State.setFlag_eq]
@[simp] theorem State.setFlag_nv (s : State) (a : Nat) (f : Fld) (b : Bool) : (s.setFlag a f b).nv = s.nv := by rw [State.setFlag_eq]
@[simp] theorem State.setFlag_st (s : State) (a : Nat) (f : Fld) (b : Bool) : (s.setFlag a f b).st = s.st := by rw [State.setFlag_eq]
@[simp] theorem State.setFlag_wideRd (s : State) (a : Nat) (f : Fld) (b : Bool) : (s.setFlag a f b).wideRd = s.wideRd := by rw [State.setFlag_eq]
@[simp] theorem State.setFlag_wideWr (s : State) (a : Nat) (f : Fld) (b : Bool) : (s.setFlag a f b).wideWr = s.wideWr := by rw [State.setFlag_eq]

/-! ### Reading back -/

@[simp] theorem State.reg_setReg (s : State) (a : Nat) (v : W32) (x : Nat) : (s.setReg a v).reg x = if x = a then v else s.reg x :=
  mget_mput s.regs a v x

@[simp] theorem State.seq_setSeq_self (s : State) (n : Fin 9) (q : Seq) : (s.setSeq n q).seq n = q := by
  simp [State.seq, State.setSeq]

theorem State.seq_setSeq_ne (s : State) (n m : Fin 9) (q : Seq) (h : m ≠ n) : (s.setSeq n q).seq m = s.seq m := by
  have : n.val ≠ m.val := fun e => h (Fin.ext e.symm)
  simp [State.seq, State.setSeq, this]

theorem State.seq_setSeq (s : State) (n m : Fin 9) (q : Seq) : (s.setSeq n q).seq m = if m = n then q else s.seq m := by
  by_cases h : m = n
  · subst h; simp
  · rw [if_neg h, State.seq_setSeq_ne s n m q h]

@[simp] theorem State.setSeq_setSeq (s : State) (n : Fin 9) (q r : Seq) : (s.setSeq n q).setSeq n r = s.setSeq n r := by
  simp [State.setSeq, Vector.set_set]

@[simp] theorem State.setSeq_seq (s : State) (n : Fin 9) : s.setSeq n (s.seq n) = s := by
  simp [State.setSeq, State.seq]

@[simp] theorem State.seq_setReg (s : State) (a : Nat) (v : W32) (n : Fin 9) : (s.setReg a v).seq n = s.seq n := rfl
@[simp] theorem State.seq_setRegNat (s : State) (a w v : Nat) (n : Fin 9) : (s.setRegNat a w v).seq n = s.seq n := by
  rw [State.setRegNat_eq]; rfl
@[simp] theorem State.seq_setFld (s : State) (a : Nat) (f : Fld) (v : Nat) (n : Fin 9) : (s.setFld a f v).seq n = s.seq n := by
  rw [State.setFld_eq]; rfl
@[simp] theorem State.seq_after (s t : State) (n : Fin 9) : (s.after t).seq n = t.seq n := rfl
@[simp] theorem State.reg_setSeq (s : State) (n : Fin 9) (q : Seq) (a : Nat) : (s.setSeq n q).reg a = s.reg a := rfl
@[simp] theorem State.reg_after (s t : State) (a : Nat) : (s.after t).reg a = t.reg a := rfl
@[simp] theorem State.reg_tick (s : State) (a : Nat) : s.tick.reg a = s.reg a := rfl

/-- A register of several words is its words, lowest first. -/
theorem State.reg_setRegNat (s : State) (a w v x : Nat) :
    (s.setRegNat a w v).reg x =
      if a ≤ x ∧ x < a + 4 * w ∧ (x - a) % 4 = 0 then BitVec.ofNat 32 (v / 2 ^ (32 * ((x - a) / 4))) else s.reg x := by
  induction w generalizing s a v with
  | zero =>
    rw [State.setRegNat, if_neg (by omega)]
  | succ w ih =>
    rw [State.setRegNat, ih, State.reg_setReg]
    by_cases h1 : a + 4 ≤ x ∧ x < a + 4 + 4 * w ∧ (x - (a + 4)) % 4 = 0
    · rw [if_pos h1, if_pos (by omega)]
      have e : (x - a) / 4 = (x - (a + 4)) / 4 + 1 := by omega
      rw [e, Nat.div_div_eq_div_mul, ← Nat.pow_add]
      congr 3; omega
    · rw [if_neg h1]
      by_cases h2 : x = a
      · subst h2; simp
      · rw [if_neg h2]
        rw [if_neg (by omega)]

/-- A word that a write of other words does not touch reads as before. -/
theorem State.reg_setRegNat_of_outside (s : State) (a w v x : Nat) (h : x < a ∨ a + 4 * w ≤ x) :
    (s.setRegNat a w v).reg x = s.reg x := by
  rw [State.reg_setRegNat, if_neg (by omega)]

theorem State.regNat_congr {s t : State} (a w : Nat) (h : ∀ i, i < w → t.reg (a + 4 * i) = s.reg (a + 4 * i)) :
    t.regNat a w = s.regNat a w := by
  induction w generalizing a with
  | zero => rfl
  | succ w ih =>
    simp only [State.regNat]
    have h0 := h 0 (by omega)
    simp only [Nat.mul_zero, Nat.add_zero] at h0
    rw [h0, ih (a + 4) (fun i hi => by
      have := h (i + 1) (by omega)
      rw [show a + 4 * (i + 1) = a + 4 + 4 * i by omega] at this
      exact this)]

/-- A register written as a number reads as that number, at its width. -/
theorem State.regNat_setRegNat_self (s : State) (a w v : Nat) : (s.setRegNat a w v).regNat a w = v % 2 ^ (32 * w) := by
  induction w generalizing s a v with
  | zero => simp [State.regNat, Nat.mod_one]
  | succ w ih =>
    rw [State.setRegNat, State.regNat, ih, State.reg_setRegNat_of_outside _ _ _ _ _ (by omega), State.reg_setReg, if_pos rfl,
      BitVec.toNat_ofNat]
    rw [show 32 * (w + 1) = 32 + 32 * w by omega, Nat.pow_add, Nat.mod_mul]

theorem State.regNat_setRegNat_of_outside (s : State) (a w v b k : Nat) (h : b + 4 * k ≤ a ∨ a + 4 * w ≤ b) :
    (s.setRegNat a w v).regNat b k = s.regNat b k :=
  State.regNat_congr b k (fun i hi => State.reg_setRegNat_of_outside s a w v _ (by omega))

theorem State.regNat_lt (s : State) (a w : Nat) : s.regNat a w < 2 ^ (32 * w) := by
  induction w generalizing a with
  | zero => simp [State.regNat]
  | succ w ih =>
    have h1 := (s.reg a).isLt
    have h2 := ih (a + 4)
    rw [State.regNat, show 32 * (w + 1) = 32 + 32 * w by omega, Nat.pow_add]
    have : 2 ^ 32 * (s.regNat (a + 4) w + 1) ≤ 2 ^ 32 * 2 ^ (32 * w) := Nat.mul_le_mul_left _ h2
    omega

@[simp] theorem State.fld_setSeq (s : State) (n : Fin 9) (q : Seq) (a : Nat) (f : Fld) : (s.setSeq n q).fld a f = s.fld a f := by
  unfold State.fld
  rw [State.regNat_congr (s := s) (t := s.setSeq n q) _ _ (fun _ _ => rfl)]

@[simp] theorem State.fld_after (s t : State) (a : Nat) (f : Fld) : (s.after t).fld a f = t.fld a f := by
  unfold State.fld
  rw [State.regNat_congr (s := t) (t := s.after t) _ _ (fun _ _ => rfl)]

theorem State.fld_congr {s t : State} (h : t.regs = s.regs) (a : Nat) (f : Fld) : t.fld a f = s.fld a f := by
  unfold State.fld
  rw [State.regNat_congr (s := s) (t := t) _ _ (fun i _ => by simp [State.reg, h])]

/-- A field reads as the low bits of what was written to it. -/
theorem bitsOf_setBits (v lo len x : Nat) : bitsOf (setBits v lo len x) lo len = x % 2 ^ len := by
  unfold bitsOf setBits
  have h0 : 0 < 2 ^ lo := Nat.two_pow_pos lo
  have h1 : v % 2 ^ lo < 2 ^ lo := Nat.mod_lt _ h0
  rw [Nat.pow_add,
    show v / (2 ^ lo * 2 ^ len) * (2 ^ lo * 2 ^ len) + x % 2 ^ len * 2 ^ lo + v % 2 ^ lo
      = v % 2 ^ lo + 2 ^ lo * (x % 2 ^ len + 2 ^ len * (v / (2 ^ lo * 2 ^ len))) by ring,
    Nat.add_mul_div_left _ _ h0, Nat.div_eq_of_lt h1, Nat.zero_add, Nat.add_mul_mod_self_left, Nat.mod_mod]

theorem setBits_lt (v lo len x n : Nat) (hv : v < 2 ^ n) (h : lo + len ≤ n) : setBits v lo len x < 2 ^ n := by
  unfold setBits
  have h1 : v % 2 ^ lo < 2 ^ lo := Nat.mod_lt _ (Nat.two_pow_pos lo)
  have h2 : x % 2 ^ len < 2 ^ len := Nat.mod_lt _ (Nat.two_pow_pos len)
  have h3 : x % 2 ^ len * 2 ^ lo + v % 2 ^ lo < 2 ^ (lo + len) := by
    rw [Nat.pow_add]
    nlinarith [Nat.two_pow_pos lo]
  have h4 : v / 2 ^ (lo + len) < 2 ^ (n - (lo + len)) := by
    rw [Nat.div_lt_iff_lt_mul (Nat.two_pow_pos _), ← Nat.pow_add]
    rwa [show n - (lo + len) + (lo + len) = n by omega]
  have h5 : 2 ^ n = 2 ^ (n - (lo + len)) * 2 ^ (lo + len) := by
    rw [← Nat.pow_add]; congr 1; omega
  rw [h5]
  nlinarith [Nat.two_pow_pos (lo + len)]

/-- A field reads back what was written to it. -/
theorem State.fld_setFld_self (s : State) (a : Nat) (f : Fld) (v : Nat) : (s.setFld a f v).fld a f = v % 2 ^ f.2 := by
  unfold State.fld State.setFld
  simp only
  rw [State.regNat_setRegNat_self, Nat.mod_eq_of_lt, bitsOf_setBits]
  apply setBits_lt _ _ _ _ _ (State.regNat_lt s _ _)
  unfold fldWords
  omega

/-- A field whose words are others reads as before. -/
theorem State.fld_setFld_of_outside (s : State) (a : Nat) (f : Fld) (v b : Nat) (g : Fld)
    (h : b + 4 * (g.1 / 32) + 4 * fldWords g ≤ a + 4 * (f.1 / 32)
      ∨ a + 4 * (f.1 / 32) + 4 * fldWords f ≤ b + 4 * (g.1 / 32)) :
    (s.setFld a f v).fld b g = s.fld b g := by
  unfold State.fld State.setFld
  simp only
  rw [State.regNat_setRegNat_of_outside _ _ _ _ _ _ h]

/-- What setting a field leaves in the register file. -/
theorem State.reg_setFld_of_outside (s : State) (a : Nat) (f : Fld) (v x : Nat)
    (h : x < a + 4 * (f.1 / 32) ∨ a + 4 * (f.1 / 32) + 4 * fldWords f ≤ x) : (s.setFld a f v).reg x = s.reg x :=
  State.reg_setRegNat_of_outside _ _ _ _ _ h

/-- R621: a counter that saturates writes registers only. -/
theorem State.countSat_eq (s : State) (a : Nat) (f sat : Fld) :
    s.countSat a f sat = { s with regs := (s.countSat a f sat).regs } := by
  unfold State.countSat
  simp only
  split
  · rw [State.setFld_eq, State.setFld_eq s]
  · rw [State.setFld_eq]

theorem State.countWrap_eq (s : State) (a k r : Nat) (f : Fld) :
    s.countWrap a k r f = { s with regs := (s.countWrap a k r f).regs } := by
  unfold State.countWrap
  simp only
  split
  · rw [State.setFld_eq, State.setRegNat_eq s]
  · rw [State.setRegNat_eq]

/-- The register file keeps its canonical form under every register write. -/
theorem State.setReg_wf (s : State) (a : Nat) (v : W32) (h : mwf regReset s.regs = true) :
    mwf regReset (s.setReg a v).regs = true := mwf_mput a v h

theorem State.setRegNat_wf (s : State) (a w v : Nat) (h : mwf regReset s.regs = true) :
    mwf regReset (s.setRegNat a w v).regs = true := by
  induction w generalizing s a v with
  | zero => exact h
  | succ w ih => exact ih _ _ _ (State.setReg_wf s a _ h)

theorem State.setFld_wf (s : State) (a : Nat) (f : Fld) (v : Nat) (h : mwf regReset s.regs = true) :
    mwf regReset (s.setFld a f v).regs = true := State.setRegNat_wf s _ _ _ h

end Sys2Proof.Machine
end

