-- ==== Sys2Proof/Laws/Events.lean ====
section
/-! SUPPORT. Sys2Proof/Laws/Events.lean: what a plain event makes (R446): it is counted and recorded, and of the rest of the
machine only what reports it changes. -/
namespace Sys2Proof.Machine

theorem mput_filter {β : Type} [DecidableEq β] (d : Nat → β) (P : Nat × β → Bool) (m : List (Nat × β)) (k : Nat) (v : β)
    (hP : ∀ x, P (k, x) = false) : (mput d m k v).filter P = m.filter P := by
  have hc : ∀ l : List (Nat × β), (mcons d k v l).filter P = l.filter P := by
    intro l
    unfold mcons
    have hf : (l.filter (fun p => p.1 != k)).filter P = l.filter P := by
      rw [List.filter_filter]
      apply List.filter_congr
      intro x _
      obtain ⟨y, z⟩ := x
      by_cases h : y = k
      · subst h; simp [hP]
      · simp [h]
    split
    · exact hf
    · rw [List.filter_cons_of_neg (by simp [hP])]
  induction m with
  | nil => exact hc []
  | cons x m ih =>
    obtain ⟨a, w⟩ := x
    unfold mput
    split
    · exact hc _
    split
    · rename_i h
      subst h
      rw [hc, List.filter_cons_of_neg (by simp [hP])]
    · simp only [List.filter_cons, ih]

/-- A register outside the queue contexts leaves the queues that are live as they are. -/
theorem live_setRegNat (s : State) (a w v : Nat) (h : a + 4 * w ≤ 0x1000000 ∨ 0x1400000 ≤ a) :
    (s.setRegNat a w v).liveQueues = s.liveQueues := by
  induction w generalizing s a v with
  | zero => rfl
  | succ w ih =>
    rw [State.setRegNat, ih _ _ _ (by omega)]
    unfold State.liveQueues State.setReg
    simp only
    rw [mput_filter _ _ _ _ _ (by intro x; simp; omega)]

/-- A step of what an event makes: registers outside the Fault and Journal Unit's block, and those of `keep`, are unchanged. -/
structure FjStep (keep : Nat → Prop) (s t : State) : Prop where
  regs : ∀ a, a < 0xC00000 ∨ 0xC10000 ≤ a ∨ keep a → t.reg a = s.reg a
  live : t.liveQueues = s.liveQueues
  rest : t = { s with
    regs := t.regs
    fj := t.fj
    st := { s.st with
      dict := t.st.dict
      canTx := t.st.canTx
      emcySent := t.st.emcySent }
    nv := { s.nv with jnext := t.nv.jnext } }

theorem FjStep.refl (keep : Nat → Prop) (s : State) : FjStep keep s s := ⟨fun _ _ => rfl, rfl, rfl⟩

theorem FjStep.trans {keep : Nat → Prop} {s t u : State} (h : FjStep keep s t) (g : FjStep keep t u) : FjStep keep s u := by
  refine ⟨fun a ha => (g.regs a ha).trans (h.regs a ha), g.live.trans h.live, ?_⟩
  have h1 := h.rest
  have h2 := g.rest
  generalize t.regs = r at *
  generalize t.fj = f at *
  generalize t.st.dict = d at *
  generalize t.st.canTx = c at *
  generalize t.st.emcySent = e at *
  generalize t.nv.jnext = j at *
  subst h1
  exact h2

theorem FjStep.fld (keep : Nat → Prop) (s : State) (a : Nat) (f : Fld) (v : Nat)
    (hb : 0xC00000 ≤ a + 4 * (f.1 / 32) ∧ a + 4 * (f.1 / 32) + 4 * fldWords f ≤ 0xC10000)
    (hk : ∀ x, keep x → x < a + 4 * (f.1 / 32) ∨ a + 4 * (f.1 / 32) + 4 * fldWords f ≤ x) : FjStep keep s (s.setFld a f v) := by
  refine ⟨fun x hx => State.reg_setFld_of_outside _ _ _ _ _ ?_, live_setRegNat _ _ _ _ (by omega), by rw [State.setFld_eq]⟩
  rcases hx with h | h | h
  · omega
  · omega
  · exact hk x h

theorem FjStep.nat (keep : Nat → Prop) (s : State) (a w : Nat) (v : Nat)
    (hb : 0xC00000 ≤ a ∧ a + 4 * w ≤ 0xC10000)
    (hk : ∀ x, keep x → x < a ∨ a + 4 * w ≤ x) : FjStep keep s (s.setRegNat a w v) := by
  refine ⟨fun x hx => State.reg_setRegNat_of_outside _ _ _ _ _ ?_, live_setRegNat _ _ _ _ (by omega), by rw [State.setRegNat_eq]⟩
  rcases hx with h | h | h
  · omega
  · omega
  · exact hk x h

theorem FjStep.unit (keep : Nat → Prop) (s : State) (f : FaultUnit) : FjStep keep s { s with fj := f } := ⟨fun _ _ => rfl, rfl, rfl⟩

theorem fjStep_fold {α : Type} (keep : Nat → Prop) (l : List α) (f : State → α → State) (hf : ∀ s x, x ∈ l → FjStep keep s (f s x)) (s : State) :
    FjStep keep s (l.foldl f s) := by
  induction l generalizing s with
  | nil => exact FjStep.refl _ _
  | cons x l ih =>
    exact (hf s x (by simp)).trans (ih (fun s y hy => hf s y (by simp [hy])) _)

/-- The words of a source's status register. -/
def statWords (k : Nat) (x : Nat) : Prop := x = FJ_SRC_STAT k ∨ x = FJ_SRC_STAT k + 4
/-- Its word that counts events. -/
def countWord (k : Nat) (x : Nat) : Prop := x = FJ_SRC_STAT k + 4

theorem srcKnown_lt {k : Nat} (h : srcKnown k = true) : k < 512 := by
  unfold srcKnown at h
  simp only [Bool.or_eq_true, Bool.and_eq_true, decide_eq_true_eq] at h
  omega


theorem fjStep_ite (keep : Nat → Prop) (s : State) (c : Bool) (t : State) (h : FjStep keep s t) : FjStep keep s (if c then t else s) := by
  cases c
  · exact FjStep.refl _ _
  · exact h

theorem fjStep_notify (k : Nat) (hk : k < 512) (s : State) (j : Nat) : FjStep (statWords k) s (s.notify j) := by
  unfold State.notify
  apply fjStep_fold
  intro s n hn
  have hn9 : n < 9 := by simpa [upTo] using hn
  have key : ∀ (s : State) (m : Nat), m < 32 → FjStep (statWords k) s (s.setFld FJ_NOTICE (m, 1) 1) := by
    intro s m hm
    have h1 : (m + 32) / 32 = 1 + m / 32 := by omega
    refine FjStep.fld _ _ _ _ _ ?_ ?_ <;> simp only [FJ_NOTICE, fldWords, statWords, FJ_SRC_STAT] <;> intros <;> omega
  split
  · exact (fjStep_ite _ s _ _ (key s n (by omega))).trans (fjStep_ite _ _ _ _ (key _ _ (by omega)))
  · exact FjStep.refl _ _

theorem fjStep_alert (k : Nat) (s : State) : FjStep (statWords k) s s.alertEvent := by
  unfold State.alertEvent State.alertFall
  split
  · exact FjStep.refl _ _
  split
  · exact FjStep.unit _ _ _
  · refine FjStep.trans (FjStep.trans (FjStep.fld _ s FJ_PIN_CTL FJ_PIN_CTL.LOW 1 ?_ ?_)
      (FjStep.fld _ _ FJ_STATUS FJ_STATUS.ALERT 1 ?_ ?_)) (FjStep.unit _ _ _)
    all_goals simp only [FJ_PIN_CTL, FJ_PIN_CTL.LOW, FJ_STATUS, FJ_STATUS.ALERT, fldWords, statWords, FJ_SRC_STAT]
    all_goals intros
    all_goals omega

theorem fjStep_first (k : Nat) (s : State) (e : Event) (sev : Nat) (he : e.src < 512) :
    FjStep (statWords k) s (s.firstCapture e sev same).1 := by
  unfold State.firstCapture
  simp only
  repeat' split
  · exact FjStep.refl _ _
  · refine FjStep.nat _ s FJ_FIRST 4 _ ?_ ?_
    all_goals simp only [FJ_FIRST, statWords, FJ_SRC_STAT]
    all_goals intros
    all_goals omega
  · have h1 : e.src % 32 / 32 = 0 := by omega
    refine FjStep.fld _ s (FJ_ALSO (e.src / 32)) (e.src % 32, 1) 1 ?_ ?_
    all_goals simp only [FJ_ALSO, fldWords, statWords, FJ_SRC_STAT]
    all_goals intros
    all_goals omega
  · exact FjStep.refl _ _

theorem fjStep_severity (keep : Nat → Prop) (s : State) (sev : Nat) : FjStep keep s (s.countSeverity sev) := ⟨fun _ _ => rfl, rfl, rfl⟩

theorem fjStep_emergency (keep : Nat → Prop) (s : State) (e : Event) (sev : Nat) (tr : Bool) (q a : Nat) :
    FjStep keep s (s.emergency e sev tr q a) := by
  unfold State.emergency
  apply fjStep_fold
  intro s b _
  simp only
  split
  · exact ⟨fun _ _ => rfl, rfl, rfl⟩
  · exact FjStep.refl _ _

theorem fjStep_place (keep : Nat → Prop) (s : State) (v : Nat) (hl : s.jLost = false)
    (hr : (s.fj.jq.filter (fun r => decide (recKind r ≠ kFlush))).length < 64) :
    FjStep keep s (s.jPlace v).1 ∧ (s.jPlace v).2.1 = none := by
  unfold State.jPlace
  simp only [hl, hr, if_true, Bool.false_eq_true, if_false]
  exact ⟨⟨fun _ _ => rfl, rfl, rfl⟩, trivial⟩

/-- R446: the counting of an event. -/
theorem countEvent_plain (k : Nat) (s : State) :
    (s.countEvent k).fld (FJ_SRC_STAT k) FJ_SRC_STAT.EVENTS = satInc (2 ^ FJ_SRC_STAT.EVENTS.2 - 1) (s.fld (FJ_SRC_STAT k) FJ_SRC_STAT.EVENTS)
    ∧ (s.countEvent k).flag (FJ_SRC_STAT k) FJ_SRC_STAT.LATCHED = true
    ∧ (k < 512 → FjStep (fun _ => False) s (s.countEvent k)) := by
  have hsat : satInc (2 ^ FJ_SRC_STAT.EVENTS.2 - 1) (s.fld (FJ_SRC_STAT k) FJ_SRC_STAT.EVENTS) % 2 ^ FJ_SRC_STAT.EVENTS.2
      = satInc (2 ^ FJ_SRC_STAT.EVENTS.2 - 1) (s.fld (FJ_SRC_STAT k) FJ_SRC_STAT.EVENTS) := by
    apply Nat.mod_eq_of_lt
    have : ∀ n x : Nat, satInc (2 ^ n - 1) x < 2 ^ n := by
      intro n x
      have := Nat.two_pow_pos n
      unfold satInc
      by_cases h : x < 2 ^ n - 1
      · rw [if_pos h]; omega
      · rw [if_neg h]; omega
    exact this _ _
  refine ⟨?_, ?_, ?_⟩
  · unfold State.countEvent State.countSat
    simp only
    rw [State.fld_setFld_of_outside _ _ _ _ _ _ (by simp [FJ_SRC_STAT.LATCHED, FJ_SRC_STAT.EVENTS, fldWords])]
    split
    · rw [State.fld_setFld_of_outside _ _ _ _ _ _ (by simp [FJ_SRC_STAT.SAT, FJ_SRC_STAT.EVENTS, fldWords]), State.fld_setFld_self, hsat]
    · rw [State.fld_setFld_self, hsat]
  · unfold State.countEvent State.flag
    rw [State.fld_setFld_self]; rfl
  · intro hk
    unfold State.countEvent State.countSat
    simp only
    have a1 : ∀ (f : Fld) (v : Nat) (s : State), f.1 + f.2 ≤ 64 → FjStep (fun _ => False) s (s.setFld (FJ_SRC_STAT k) f v) := by
      intro f v s hf
      refine FjStep.fld _ _ _ _ _ ?_ (by simp)
      simp only [FJ_SRC_STAT, fldWords]
      omega
    refine FjStep.trans ?_ (a1 _ _ _ (by decide))
    split
    · exact (a1 _ _ _ (by decide)).trans (a1 _ _ _ (by decide))
    · exact a1 _ _ _ (by decide)

/-- A field of the word that counts events reads as before. -/
theorem FjStep.events {k : Nat} {s t : State} {keep : Nat → Prop} (h : FjStep keep s t) (hk : keep (FJ_SRC_STAT k + 4)) :
    t.fld (FJ_SRC_STAT k) FJ_SRC_STAT.EVENTS = s.fld (FJ_SRC_STAT k) FJ_SRC_STAT.EVENTS := by
  unfold State.fld
  rw [State.regNat_congr]
  intro i hi
  have : i = 0 := by
    simp only [FJ_SRC_STAT.EVENTS, fldWords] at hi; omega
  subst this
  exact h.regs _ (.inr (.inr hk))

theorem FjStep.latched {k : Nat} {s t : State} {keep : Nat → Prop} (h : FjStep keep s t) (hk : keep (FJ_SRC_STAT k)) :
    t.flag (FJ_SRC_STAT k) FJ_SRC_STAT.LATCHED = s.flag (FJ_SRC_STAT k) FJ_SRC_STAT.LATCHED := by
  unfold State.flag State.fld
  rw [State.regNat_congr]
  intro i hi
  have : i = 0 := by
    simp only [FJ_SRC_STAT.LATCHED, fldWords] at hi; omega
  subst this
  exact h.regs _ (.inr (.inr hk))

theorem FjStep.weaken {keep keep' : Nat → Prop} {s t : State} (h : FjStep keep s t) (hk : ∀ x, keep' x → keep x) : FjStep keep' s t :=
  ⟨fun a ha => h.regs a (ha.imp id (Or.imp id (hk a))), h.live, h.rest⟩

/-- R446: what counting an event in its window leaves of the unit. -/
structure Counted (s t : State) (k : Nat) : Prop where
  step : FjStep (fun x => x = FJ_SRC_CFG k) s t
  count : t.fld (FJ_SRC_STAT k) FJ_SRC_STAT.EVENTS = satInc (2 ^ FJ_SRC_STAT.EVENTS.2 - 1) (s.fld (FJ_SRC_STAT k) FJ_SRC_STAT.EVENTS)
  latched : t.flag (FJ_SRC_STAT k) FJ_SRC_STAT.LATCHED = true
  unit : t.fj.reactions = s.fj.reactions ∧ t.fj.fatal = s.fj.fatal ∧ t.fj.jq = s.fj.jq

theorem countEvent_counted (k : Nat) (hk : k < 512) (s : State) : Counted s (s.countEvent k) k := by
  obtain ⟨h1, h2, _⟩ := countEvent_plain k s
  have a1 : ∀ (f : Fld) (v : Nat) (s : State), f.1 + f.2 ≤ 64 → FjStep (fun x => x = FJ_SRC_CFG k) s (s.setFld (FJ_SRC_STAT k) f v) := by
    intro f v s hf
    refine FjStep.fld _ _ _ _ _ ?_ ?_
    · simp only [FJ_SRC_STAT, fldWords]
      omega
    · simp only [FJ_SRC_STAT, FJ_SRC_CFG, fldWords]
      intro x hx; omega
  have h3 : FjStep (fun x => x = FJ_SRC_CFG k) s (s.countEvent k) := by
    unfold State.countEvent State.countSat
    simp only
    refine FjStep.trans ?_ (a1 _ _ _ (by decide))
    split
    · exact (a1 _ _ _ (by decide)).trans (a1 _ _ _ (by decide))
    · exact a1 _ _ _ (by decide)
  have h4 : (s.countEvent k).fj = s.fj := by
    unfold State.countEvent
    rw [State.setFld_fj, State.countSat_eq]
  exact ⟨h3, h1, h2, by rw [h4]; exact ⟨rfl, rfl, rfl⟩⟩

theorem countWindow_counted (k : Nat) (hk : k < 512) (s : State) (hth : s.fld (FJ_SRC_CFG k) FJ_SRC_CFG.THRESH = 0) :
    (s.countWindow k).2.2 = false ∧ Counted s (s.countWindow k).1 k := by
  let keep := fun x => x = FJ_SRC_CFG k ∨ x = FJ_SRC_STAT k + 4
  have a1 : ∀ (f : Fld) (v : Nat) (s : State), f.1 < 32 → f.1 + f.2 ≤ 32 → FjStep keep s (s.setFld (FJ_SRC_STAT k) f v) := by
    intro f v s h0 hf
    refine FjStep.fld _ _ _ _ _ ?_ ?_
    · simp only [FJ_SRC_STAT, fldWords]
      omega
    · simp only [FJ_SRC_STAT, FJ_SRC_CFG, fldWords, keep]
      intro x hx; omega
  let s0 : State := if !s.winOpen k then
      let s := ((s.winClose k).setFld (FJ_SRC_STAT k) FJ_SRC_STAT.WOPEN 1).setFld (FJ_SRC_STAT k) FJ_SRC_STAT.WCOUNT 0
      let w := windowNs (s.fld (FJ_SRC_CFG k) FJ_SRC_CFG.WINDOW)
      { s with fj := { s.fj with wclose := cput s.fj.wclose k (s.now + w) } }
    else s
  have h0 : FjStep keep s s0 ∧ s0.fj.reactions = s.fj.reactions ∧ s0.fj.fatal = s.fj.fatal ∧ s0.fj.jq = s.fj.jq := by
    simp only [s0]
    split
    · refine ⟨FjStep.trans (FjStep.trans (FjStep.trans ?_ (a1 _ _ _ (by decide) (by decide))) (a1 _ _ _ (by decide) (by decide)))
        (FjStep.unit _ _ _), ?_⟩
      · unfold State.winClose
        exact (a1 _ _ _ (by decide) (by decide)).trans (FjStep.unit _ _ _)
      · simp [State.winClose, FaultUnit.reactions]
    · exact ⟨FjStep.refl _ _, rfl, rfl, rfl⟩
  let s1 := s0.setFld (FJ_SRC_STAT k) FJ_SRC_STAT.WCOUNT (satInc 0xFFFF (s0.fld (FJ_SRC_STAT k) FJ_SRC_STAT.WCOUNT))
  have h1 : FjStep keep s s1 := h0.1.trans (a1 _ _ _ (by decide) (by decide))
  have c := countEvent_counted k hk s1
  have hall : FjStep (fun x => x = FJ_SRC_CFG k) s (s1.countEvent k) := (h1.weaken (fun x hx => .inl hx)).trans c.step
  have hcfg : (s1.countEvent k).fld (FJ_SRC_CFG k) FJ_SRC_CFG.THRESH = 0 := by
    rw [← hth]
    unfold State.fld
    rw [State.regNat_congr]
    intro i hi
    have : i = 0 := by
      simp only [FJ_SRC_CFG.THRESH, fldWords] at hi; omega
    subst this
    exact hall.regs _ (.inr (.inr rfl))
  have e : s.countWindow k = (s1.countEvent k, !s.winOpen k, false) := by
    unfold State.countWindow
    simp only
    change ((if (decide ((s1.countEvent k).fld (FJ_SRC_CFG k) FJ_SRC_CFG.THRESH ≠ 0) && _ && _) = true then _ else s1.countEvent k), _, (decide ((s1.countEvent k).fld (FJ_SRC_CFG k) FJ_SRC_CFG.THRESH ≠ 0) && _ && _)) = _
    rw [hcfg]
    simp
  rw [e]
  refine ⟨rfl, hall, ?_, c.latched, ?_⟩
  · rw [c.count, h1.events (by simp [keep])]
  · have := c.unit
    simp only [s1, State.setFld_fj] at this
    exact ⟨this.1.trans h0.2.1, this.2.1.trans h0.2.2.1, this.2.2.trans h0.2.2.2⟩

/-- What the parts of an event after its counting leave of the unit: its record queue and what it holds of reactions. -/
structure SameUnit (s t : State) : Prop where
  reactions : t.fj.reactions = s.fj.reactions
  fatal : t.fj.fatal = s.fj.fatal
  jq : t.fj.jq = s.fj.jq

theorem SameUnit.of_fj {s t : State} (h : t.fj = s.fj) : SameUnit s t := ⟨by rw [h], by rw [h], by rw [h]⟩

theorem SameUnit.trans {s t u : State} (h : SameUnit s t) (g : SameUnit t u) : SameUnit s u :=
  ⟨g.reactions.trans h.reactions, g.fatal.trans h.fatal, g.jq.trans h.jq⟩

theorem sameUnit_ite {s t : State} (c : Prop) [Decidable c] (h : SameUnit s t) : SameUnit s (if c then t else s) := by
  split
  · exact h
  · exact .of_fj rfl

theorem fjStep_iteP (keep : Nat → Prop) {s t : State} (c : Prop) [Decidable c] (h : FjStep keep s t) :
    FjStep keep s (if c then t else s) := by
  split
  · exact h
  · exact FjStep.refl _ _

theorem fold_fj {α : Type} (l : List α) (u : State) (f : State → α → State) (hf : ∀ u b, (f u b).fj = u.fj) :
    (l.foldl f u).fj = u.fj := by
  induction l generalizing u with
  | nil => rfl
  | cons b l ih => rw [List.foldl_cons, ih, hf]

theorem notify_fj (s : State) (j : Nat) : (s.notify j).fj = s.fj := by
  unfold State.notify
  apply fold_fj
  intro u b
  repeat' split
  all_goals simp

theorem first_fj (s : State) (e : Event) (sev : Nat) (same : Bool) : (s.firstCapture e sev same).1.fj = s.fj := by
  unfold State.firstCapture
  simp only
  repeat' split
  all_goals simp

theorem sameUnit_alert (s : State) : SameUnit s s.alertEvent := by
  unfold State.alertEvent State.alertFall
  split
  · exact .of_fj rfl
  split
  · exact ⟨rfl, rfl, rfl⟩
  · constructor <;> simp [FaultUnit.reactions]

theorem emergency_fj (s : State) (e : Event) (sev : Nat) (tr : Bool) (q a : Nat) : (s.emergency e sev tr q a).fj = s.fj := by
  unfold State.emergency
  apply fold_fj
  intro u b
  simp only
  split <;> rfl

theorem FjStep.jLost {keep : Nat → Prop} {s t : State} (h : FjStep keep s t) : t.jLost = s.jLost := by
  unfold State.jLost
  rw [h.rest]

theorem fld_same {s t : State} (a : Nat) (f : Fld) (hf : f.1 + f.2 ≤ 32) (h0 : f.1 < 32) (h : t.reg a = s.reg a) : t.fld a f = s.fld a f := by
  unfold State.fld
  rw [State.regNat_congr]
  intro i hi
  have : i = 0 := by unfold fldWords at hi; omega
  subst this
  have : f.1 / 32 = 0 := by omega
  simp only [this]
  exact h

theorem raiseCore_eq (s : State) (e : Event) (same : Bool) (c1 : State) (op : Bool)
    (hcc : (if e.spec = true then (s.countEvent e.src, false, false) else s.countWindow e.src) = (c1, op, false))
    (hf : e.forced = false) (own : Nat) (hown : c1.sevOf e = own) (hlt : own < svFatal) (f : State × Bool)
    (hfc : (c1.countSeverity own).firstCapture e own same = f) (s5 : State)
    (hs5 : (if svSevere ≤ own then (f.1.notify e.src).alertEvent else f.1.notify e.src) = s5) (hre : s5.fj.reactions = []) :
    ∃ (wanted : Bool) (bits : Nat) (u : State),
      let p := if wanted then s5.jPlace bits else (s5, none, 0)
      u = (if f.2 then { p.1 with fj := { p.1.fj with firstSeq := p.2.2 } } else p.1) ∧
      s.raiseCore e same = (if u.objNat 0x1010 5 ≤ own then u.emergency e own false p.2.2 u.jenziaAddr else u, f.2,
        match p.2.1 with
        | some k => if k = 0x004 then [] else [{ src := 0x004, unit := fjUnit, sev := svInfo }]
        | none => []) := by
  have hno : ¬ own = svFatal := Nat.ne_of_lt hlt
  unfold State.raiseCore
  rw [hcc]
  simp only [hown, hf, Bool.false_eq_true, if_false, hfc, if_pos hlt, hs5, hno, false_and, hre, List.any_nil, Bool.false_and]
  exact ⟨_, _, _, rfl, rfl⟩

/-- R446, R448, R459: what one plain event makes. -/
theorem raiseCore_plain (s : State) (e : Event) (same : Bool) (hf : e.forced = false) (h : EventPlain s e.src e.sev) :
    EventRaised s (s.raiseCore e same).1 e.src ∧ (s.raiseCore e same).2.2 = [] ∧ (s.raiseCore e same).1.fj.fatal = none := by
  have hk := srcKnown_lt h.known
  -- the counting
  let c : State × Bool × Bool := if e.spec then (s.countEvent e.src, false, false) else s.countWindow e.src
  have hc : Counted s c.1 e.src ∧ c.2.2 = false := by
    simp only [c]
    split
    · exact ⟨countEvent_counted _ hk s, rfl⟩
    · exact (countWindow_counted _ hk s h.noTrip).symm
  have hsev : c.1.sevOf e = s.sevOf e := by
    unfold State.sevOf
    rw [fld_same (s := s) (t := c.1) (FJ_SRC_CFG e.src) FJ_SRC_CFG.SEV (by decide) (by decide)
      (hc.1.step.regs _ (.inr (.inr rfl)))]
  have hlt : s.sevOf e < svFatal := by
    unfold State.sevOf
    split
    · decide
    · exact h.low
  let own := s.sevOf e
  let s2 := c.1.countSeverity own
  let f := s2.firstCapture e own same
  let s4 := f.1.notify e.src
  let s5 := if svSevere ≤ own then s4.alertEvent else s4
  have j5 : FjStep (statWords e.src) c.1 s5 := by
    refine FjStep.trans (FjStep.trans (FjStep.trans (fjStep_severity _ _ _) (fjStep_first _ _ _ _ hk)) (fjStep_notify _ hk _ _))
      (fjStep_iteP _ _ (fjStep_alert _ _))
  have u5 : SameUnit c.1 s5 := by
    refine SameUnit.trans (t := s4) ?_ (sameUnit_ite _ (sameUnit_alert _))
    apply SameUnit.of_fj
    show (f.1.notify e.src).fj = _
    rw [notify_fj, first_fj]
    rfl
  have hre : s5.fj.reactions = [] := by rw [u5.reactions, hc.1.unit.1, h.calm]
  have hfa : s5.fj.fatal = none := by rw [u5.fatal, hc.1.unit.2.1, h.noFatal]
  have hjq : (s5.fj.jq.filter (fun r => decide (recKind r ≠ kFlush))).length < 64 := by rw [u5.jq, hc.1.unit.2.2]; exact h.room
  have hjl : s5.jLost = false := by rw [j5.jLost, hc.1.step.jLost]; exact h.kept
  have hcc : (if e.spec = true then (s.countEvent e.src, false, false) else s.countWindow e.src) = (c.1, c.2.1, false) := by
    show c = _
    conv_rhs => rw [← hc.2]
  obtain ⟨wanted, bits, u, hu, he⟩ := raiseCore_eq s e same c.1 c.2.1 hcc hf own hsev hlt f rfl s5 rfl hre
  let p := if wanted then s5.jPlace bits else (s5, none, 0)
  have hp : FjStep (statWords e.src) s5 p.1 ∧ p.2.1 = none ∧ p.1.fj.fatal = none ∧ p.1.fj.reactions = [] := by
    simp only [p]
    split
    · refine ⟨(fjStep_place _ s5 bits hjl hjq).1, (fjStep_place (statWords e.src) s5 bits hjl hjq).2, ?_⟩
      unfold State.jPlace
      simp only [hjl, hjq, if_true, Bool.false_eq_true, if_false]
      exact ⟨hfa, hre⟩
    · exact ⟨FjStep.refl _ _, rfl, hfa, hre⟩
  have hus : FjStep (statWords e.src) p.1 u ∧ u.fj.fatal = none ∧ u.fj.reactions = [] := by
    rw [hu]
    split
    · exact ⟨FjStep.unit _ _ _, hp.2.2⟩
    · exact ⟨FjStep.refl _ _, hp.2.2⟩
  rw [he]
  let v := if u.objNat 0x1010 5 ≤ own then u.emergency e own false p.2.2 u.jenziaAddr else u
  have hv : FjStep (statWords e.src) u v ∧ v.fj.fatal = none ∧ v.fj.reactions = [] := by
    simp only [v]
    split
    · exact ⟨fjStep_emergency _ _ _ _ _ _ _, by rw [emergency_fj]; exact hus.2⟩
    · exact ⟨FjStep.refl _ _, hus.2⟩
  have hall : FjStep (statWords e.src) c.1 v := ((j5.trans hp.1).trans hus.1).trans hv.1
  have hout : FjStep (fun _ => False) s v :=
    (hc.1.step.weaken (fun _ h => h.elim)).trans (hall.weaken (fun _ h => h.elim))
  refine ⟨⟨?_, ?_, fun a ha => hout.regs a (ha.imp id .inl), hv.2.2, hout.live, hout.rest⟩, ?_, hv.2.1⟩
  · show v.fld _ _ = _
    rw [hall.events (.inr rfl), hc.1.count]
  · show v.flag _ _ = _
    rw [hall.latched (.inl rfl), hc.1.latched]
  · show (match p.2.1 with | some k => _ | none => _) = _
    rw [hp.2.1]

/-- R446: a plain event is counted. -/
theorem raise_plain (s : State) (k unit sev detail : Nat) (spec : Bool) (h : EventPlain s k sev) :
    EventRaised s (s.raise k unit sev spec detail) k := by
  obtain ⟨h1, h2, h3⟩ := raiseCore_plain s { src := k, unit := unit, sev := sev, spec := spec, detail := detail } false rfl h
  have : s.raise k unit sev spec detail
      = (s.raiseCore { src := k, unit := unit, sev := sev, spec := spec, detail := detail } false).1 := by
    unfold State.raise State.raise0
    simp only [h.known, h.runs, Bool.not_true, Bool.false_eq_true, if_false, if_true]
    unfold raiseAll
    simp only [h2, List.append_nil]
    rw [show ∀ t, raiseAll 7 t [] = t from fun _ => rfl]
    unfold State.fatalSettle
    rw [h3]
  rw [this]
  exact h1

end Sys2Proof.Machine
end

