-- ==== Sys2Proof/Laws/Loaf.lean ====
section
/-! SUPPORT. Sys2Proof/Laws/Loaf.lean: what a Loaf of one syllable does at a sequencer that is ready for it: the way from
`State.syllable` through the boundary (R268) to the Loaf's execution. -/
namespace Sys2Proof.Machine

/-- The state in which a Loaf of one syllable waits at sequencer `n`. -/
def State.queued (s : State) (n : Fin 9) (y : Syl) : State := s.setSeq n { s.seq n with asm := [], waiting := [[y]] }

theorem syllable_stop (s : State) (n : Fin 9) (y : Syl) (hr : SeqReady s n) :
    s.syllable n y true = (s.queued n y).pump n := by
  unfold State.syllable State.queued
  simp [hr.runs, hr.asm, hr.waiting]

theorem fetchCause_setSeq (s : State) (n m : Fin 9) (q : Seq) (a : Arch) (l : List Syl) (d : Bool) :
    (s.setSeq m q).fetchCause n a l d = s.fetchCause n a l d := rfl

theorem seqRuns_setSeq (s : State) (n m : Fin 9) (q : Seq) : (s.setSeq m q).seqRuns n = s.seqRuns n := rfl

theorem eligibleLine_queued (s : State) (n : Fin 9) (y : Syl) : (s.queued n y).eligibleLine n = s.eligibleLine n := by
  unfold State.eligibleLine State.queued
  simp only [State.seq_setSeq_self]
  rfl

theorem boundary_queued (s : State) (n : Fin 9) (y : Syl) (hr : SeqReady s n) : (s.queued n y).boundary n = .clear := by
  have hl := eligibleLine_queued s n y
  rw [hr.line] at hl
  unfold State.boundary
  simp only [hl]
  have h2 : ((s.queued n y).seq n).div = none := by simp [State.queued, hr.div]
  have h3 : ((s.queued n y).seq n).late ((s.queued n y).seq n).arch.world = none := by
    have := hr.late
    simp only [State.queued, State.seq_setSeq_self]
    exact this
  simp [h2, h3]

theorem pairAt_none {q : Seq} (h : q.delayOf = none) : q.pairAt = none := by simp [Seq.pairAt, h]

/-- A Loaf of one syllable that nothing faults and nothing holds is executed. -/
theorem tryLoaf_queued (s : State) (n : Fin 9) (y : Syl) (hr : SeqReady s n)
    (hf : s.fetchCause n (s.seq n).arch [y] false = none)
    (ho : (s.queued n y).ownCause n (s.seq n).arch [y] = none)
    (hg : (s.queued n y).regHold n (s.seq n).arch [y] = false)
    (hh : (s.queued n y).loafHold n (s.seq n).arch none [y] = false)
    (hd : y.isDiv = false) :
    (s.queued n y).tryLoaf n [y] =
      ((s.queued n y).execLoaf n [y]).map (fun t => t.setSeq n { t.seq n with waiting := (t.seq n).waiting.drop 1 }) := by
  have hp : ((s.queued n y).seq n).pairAt = none := by
    apply pairAt_none; simp [State.queued, hr.delayOf]
  have ha : ((s.queued n y).seq n).arch = (s.seq n).arch := by simp [State.queued]
  unfold State.tryLoaf
  simp only [boundary_queued s n y hr, hp, Option.map_none]
  unfold State.tryLoaf.rest
  simp only [ha, Option.isSome_none]
  have hf' : (s.queued n y).fetchCause n (s.seq n).arch [y] false = none := hf
  simp only [hf', hg, ho, State.pairStores, hh]
  simp [hd]

/-- A sequencer with no Loaf waiting, no record failed and no C operation open has nothing to do of itself. -/
theorem pumpOne_idle (t : State) (n : Fin 9) (hw : (t.seq n).waiting = []) (ht : (t.seq n).tail = none) (hf : t.failTake n = none) :
    t.pumpOne n = none := by
  unfold State.pumpOne
  simp [hf, ht, hw]

theorem pumpN_of_none (k : Nat) (t : State) (n : Fin 9) (h : t.pumpOne n = none) : pumpN k t n = t := by
  cases k with
  | zero => rfl
  | succ k => simp [pumpN, h]

theorem failTake_nil (t : State) (n : Fin 9) (h : (t.seq n).spec = []) : t.failTake n = none := by
  unfold State.failTake; simp [h]

theorem pump_queued (s : State) (n : Fin 9) (y : Syl) (hr : SeqReady s n) (t : State)
    (h : (s.queued n y).tryLoaf n [y] = some t) : (s.queued n y).pump n = pumpN 5 t n := by
  have hw : ((s.queued n y).seq n).waiting = [[y]] := by simp [State.queued]
  have ht : ((s.queued n y).seq n).tail = none := by simp [State.queued, hr.tail]
  have hd : ((s.queued n y).seq n).div = none := by simp [State.queued, hr.div]
  have hs : ((s.queued n y).seq n).spec = [] := by simp [State.queued, hr.spec]
  have hrun : (s.queued n y).seqRuns n = true := hr.runs
  unfold State.pump
  rw [hw]
  show pumpN 6 _ n = _
  rw [pumpN]
  have : (s.queued n y).pumpOne n = some t := by
    unfold State.pumpOne
    simp only [failTake_nil _ _ hs, ht, hd, hw, hrun]
    simpa using h
  rw [this]

theorem ownCause_queued_plain (s : State) (n : Fin 9) (y : Syl) (a : Arch) (hv : (s.seq n).vecPending = false) (h3 : y.slot ≠ 3) (h7 : y.slot ≠ 7)
    (he : s.dataEcc n a [y] = none) (hp : s.loafPriv n a [y] = none) (hs : s.segCause n a [y] = none) (hz : divCause a [y] = none) :
    (s.queued n y).ownCause n a [y] = none := by
  have e1 : (s.queued n y).dataEcc n a [y] = none := he
  have e2 : (s.queued n y).loafPriv n a [y] = none := hp
  have e4 : slotOf [y] 7 = none := by simp [slotOf, h7]
  have e5 : slotOf [y] 3 = none := by simp [slotOf, h3]
  have e3 : (s.queued n y).segCause n a [y] = none := hs
  have e6 : (s.queued n y).vecCause n a [y] = none := by
    unfold State.vecCause
    have : ((s.queued n y).seq n).vecPending = false := by simp only [State.queued, State.seq_setSeq_self]; exact hv
    simp [this]
  unfold State.ownCause State.recipeCause State.gateCause stackCause
  simp [e1, e2, e3, e4, e5, e6, hz]
end Sys2Proof.Machine

namespace Sys2Proof
/-- Syllables whose Loaf changes nothing but registers of the sequencer. -/
def Syl.regOnly : Syl → Bool
  | .alu .. | .alui .. | .movi .. | .movk .. | .vdset .. | .vdget .. | .mfs .. | .mts .. => true
  | _ => false

theorem Syl.regOnly_slot {y : Syl} (h : y.regOnly = true) : y.slot = 0 ∨ y.slot = 1 ∨ y.slot = 2 := by
  cases y <;> simp_all [Syl.regOnly, Syl.slot, Machine.bit01] <;> (split <;> simp)
end Sys2Proof
namespace Sys2Proof.Machine
theorem regHold_queued (s : State) (n : Fin 9) (y : Syl) (a : Arch) (hs : (s.seq n).spec = []) (ho : (s.seq n).outs = []) :
    (s.queued n y).regHold n a [y] = false := by
  have h1 : ((s.queued n y).seq n).spec = [] := by simp [State.queued, hs]
  have h2 : ((s.queued n y).seq n).outs = [] := by simp [State.queued, ho]
  have hv : ((s.queued n y).seq n).pendVd = [] := by simp [Seq.pendVd, h1]
  have hg : ((s.queued n y).seq n).pendSg = [] := by simp [Seq.pendSg, h1]
  have hp : ((s.queued n y).seq n).pendG ((s.queued n y).seq n).nextId = [] := by simp [Seq.pendG, h1, h2]
  unfold State.regHold
  simp only [hv, hg, hp]
  cases y <;> simp

theorem loafRegs_queued (s : State) (n : Fin 9) (y z : Syl) (a : Arch) : (s.queued n y).loafRegs n a [z] = s.loafRegs n a [z] := by
  have : (s.queued n y).sylRegs n a a z = s.sylRegs n a a z := by
    cases z <;> try rfl
    simp only [State.sylRegs, State.mfs, State.queued, State.seq_setSeq_self]
    rfl
  unfold State.loafRegs
  simp only [List.foldl, this]
  rfl

/-- What a slot of a one-syllable Loaf holds. -/
theorem slotOf_single (y : Syl) (k : Nat) : slotOf [y] k = if y.slot = k then some y else none := by
  unfold slotOf; by_cases h : y.slot = k <;> simp [h]

theorem bit01_le (b : Bool) : bit01 b ≤ 1 := by cases b <;> simp [bit01]

theorem bit01_ne_two (b : Bool) : bit01 b ≠ 2 := by have := bit01_le b; omega

theorem regOnly_segCause (s : State) (n : Fin 9) (a : Arch) (y : Syl) (h : y.regOnly = true) : s.segCause n a [y] = none := by
  unfold State.segCause; rw [slotOf_single]; revert h
  cases y <;> simp [Syl.regOnly, Syl.slot, bit01_ne_two]

theorem regOnly_divCause (a : Arch) (y : Syl) (h : y.regOnly = true) (hd : y.isDiv = false) : divCause a [y] = none := by
  unfold divCause; revert h hd
  cases y <;> simp [Syl.regOnly, Syl.isDiv]
  intro h1 h2; simp [h1] at h2

theorem regOnly_dataEcc (s : State) (n : Fin 9) (a : Arch) (y : Syl) (h : y.regOnly = true) : s.dataEcc n a [y] = none := by
  revert h; cases y <;> simp [State.dataEcc, Syl.regOnly]

theorem regOnly_loafHold (s : State) (n : Fin 9) (a : Arch) (y : Syl) (h : y.regOnly = true) : s.loafHold n a none [y] = false := by
  have h3 : slotOf [y] 3 = none := by rw [slotOf_single, if_neg (by have := Syl.regOnly_slot h; omega)]
  have h7 : slotOf [y] 7 = none := by rw [slotOf_single, if_neg (by have := Syl.regOnly_slot h; omega)]
  unfold State.loafHold
  simp only [h3, h7, slotOf_single]
  revert h
  cases y <;> simp [Syl.regOnly, Syl.slot, bit01_ne_two, State.memHold]

theorem regOnly_runMem (s : State) (n : Fin 9) (a : Arch) (y : Syl) (h : y.regOnly = true) : s.runMem n a none [y] = s := by
  unfold State.runMem
  rw [slotOf_single]; revert h
  cases y <;> simp [Syl.regOnly, Syl.slot, bit01_ne_two, State.memDo]

theorem regOnly_memOdd (s : State) (n : Fin 9) (a : Arch) (y : Syl) (h : y.regOnly = true) : s.memOdd n a [y] = false := by
  unfold State.memOdd
  rw [slotOf_single]; revert h
  cases y <;> simp [Syl.regOnly, Syl.slot, bit01_ne_two]

theorem runVec_none (s : State) (n : Fin 9) (a : Arch) (y : Syl) (h : y.slot ≠ 7) : s.runVec n a [y] = s := by
  unfold State.runVec; rw [slotOf_single, if_neg h]

theorem loafDone_nil (t : State) (n : Fin 9) (k : Nat) (h : (t.seq n).spec = []) : t.loafDone n k = t.loafCount n k := by
  unfold State.loafDone; simp [h]

@[simp] theorem seq_loafCount (t : State) (n m : Fin 9) (k : Nat) : (t.loafCount n k).seq m = t.seq m := by
  unfold State.loafCount; rw [State.countWrap_eq]; rfl

/-- A register write and a change of a sequencer do not meet. -/
theorem setSeq_setReg (s : State) (m : Fin 9) (q : Seq) (a : Nat) (v : W32) : (s.setSeq m q).setReg a v = (s.setReg a v).setSeq m q := rfl

theorem setSeq_setRegNat (s : State) (m : Fin 9) (q : Seq) (a w v : Nat) :
    (s.setSeq m q).setRegNat a w v = (s.setRegNat a w v).setSeq m q := by
  induction w generalizing s a v with
  | zero => rfl
  | succ w ih => rw [State.setRegNat, State.setRegNat, setSeq_setReg, ih]

theorem regNat_setSeq (s : State) (m : Fin 9) (q : Seq) (a w : Nat) : (s.setSeq m q).regNat a w = s.regNat a w :=
  State.regNat_congr a w (fun _ _ => rfl)

theorem setSeq_setFld (s : State) (m : Fin 9) (q : Seq) (a : Nat) (f : Fld) (v : Nat) :
    (s.setSeq m q).setFld a f v = (s.setFld a f v).setSeq m q := by
  unfold State.setFld
  simp only [regNat_setSeq, setSeq_setRegNat]

theorem setSeq_loafCount (t : State) (n m : Fin 9) (q : Seq) (k : Nat) :
    (t.loafCount n k).setSeq m q = (t.setSeq m q).loafCount n k := by
  unfold State.loafCount State.countWrap
  simp only [regNat_setSeq, setSeq_setRegNat]
  split
  · rw [setSeq_setFld]
  · rfl

/-- R223, R257: a Loaf of one register syllable writes its registers, moves the pc past it and retires. -/
theorem syllable_reg (s : State) (n : Fin 9) (y : Syl) (hr : SeqReady s n) (hq : y.regOnly = true) (hd : y.isDiv = false)
    (hf : s.fetchCause n (s.seq n).arch [y] false = none)
    (hp : s.loafPriv n (s.seq n).arch [y] = none) :
    s.syllable n y true =
      ({ s with freeCtr := s.freeCtr + loafDraws (s.seq n).arch [y] }.setSeq n
        { s.seq n with arch := s.loafRegs n (s.seq n).arch [y], gateEntered := false }).loafCount n 1 := by
  have hslot := Syl.regOnly_slot hq
  have h3 : y.slot ≠ 3 := by omega
  have h7 : y.slot ≠ 7 := by omega
  have ho : (s.queued n y).ownCause n (s.seq n).arch [y] = none :=
    ownCause_queued_plain s n y _ hr.vec h3 h7 (regOnly_dataEcc s n _ y hq) hp (regOnly_segCause s n _ y hq)
      (regOnly_divCause _ y hq hd)
  have ha : ((s.queued n y).seq n).arch = (s.seq n).arch := by simp [State.queued]
  have hpa : ((s.queued n y).seq n).pairAt = none := by
    apply pairAt_none; simp [State.queued, hr.delayOf]
  have ht := tryLoaf_queued s n y hr hf ho (regHold_queued s n y _ hr.spec hr.outs) (regOnly_loafHold _ n _ y hq) hd
  have he : (s.queued n y).execLoaf n [y] = some (((s.queued n y).runLoaf n none [y]).loafDone n 1) := by
    unfold State.execLoaf
    simp only [hpa, slotOf_single, if_neg h3]
  have hrun : (s.queued n y).runLoaf n none [y] =
      { s with freeCtr := s.freeCtr + loafDraws (s.seq n).arch [y] }.setSeq n
        { s.seq n with asm := [], waiting := [[y]], arch := s.loafRegs n (s.seq n).arch [y], gateEntered := false } := by
    unfold State.runLoaf
    simp only [ha, regOnly_memOdd _ n _ y hq, regOnly_runMem _ n _ y hq, runVec_none _ n _ y h7, loafRegs_queued]
    simp [State.queued, State.setSeq, State.seq, Vector.set_set]
  rw [he, hrun, loafDone_nil _ _ _ (by simp [hr.spec]), Option.map_some, seq_loafCount, State.seq_setSeq_self,
    setSeq_loafCount, State.setSeq_setSeq] at ht
  rw [syllable_stop s n y hr, pump_queued s n y hr _ ht]
  have hq' : ({ s.seq n with asm := [], waiting := [], arch := s.loafRegs n (s.seq n).arch [y], gateEntered := false } : Seq)
      = { s.seq n with arch := s.loafRegs n (s.seq n).arch [y], gateEntered := false } := by
    have e1 := hr.asm; have e2 := hr.waiting
    generalize s.seq n = q at *
    cases q; simp_all
  rw [pumpN_of_none]
  · simpa using congrArg (fun q => (({ s with freeCtr := s.freeCtr + loafDraws (s.seq n).arch [y] }.setSeq n q).loafCount n 1)) hq'
  · apply pumpOne_idle
    · simp
    · simp [hr.tail]
    · apply failTake_nil; simp [hr.spec]

theorem loafSize_single (y : Syl) : loafSize [y] = y.size := by simp [loafSize]

theorem Syl.size_cases (y : Syl) : y.size = 4 ∨ y.size = 8 := by unfold Syl.size; split <;> simp

/-- R222, R246, R247: a legal syllable in good words of its world raises nothing at its fetch. -/
theorem fetchCause_ok (s : State) (n : Fin 9) (y : Syl) (hf : FetchOk s n (y.size / 4)) (hb : y.bad = false)
    (hd : ((y.dests (s.seq n).arch.vd).filter (fun d => d != 0)).Nodup) :
    s.fetchCause n (s.seq n).arch [y] false = none := by
  have hw : ∀ w ∈ loafWords (s.seq n).arch.pc [y], s.pmBadAt n.val w = false ∧ s.pmSecure n w = (s.seq n).arch.world := by
    intro w hw
    simp only [loafWords, loafSize_single, upTo, List.mem_map, List.mem_range] at hw
    obtain ⟨i, hi, rfl⟩ := hw
    exact ⟨hf.good i hi, hf.world i hi⟩
  have h1 : (loafWords (s.seq n).arch.pc [y]).find? (fun w => s.pmBadAt n.val w) = none := by
    rw [List.find?_eq_none]; intro w h; simp [(hw w h).1]
  have h2 : (loafWords (s.seq n).arch.pc [y]).find? (fun w => s.pmSecure n w != (s.seq n).arch.world) = none := by
    rw [List.find?_eq_none]; intro w h; simp [(hw w h).2]
  have h3 : loafIllegal (s.seq n).arch.pc [y] false (s.seq n).arch.vd = false := by
    have hp := hf.part; have hro := hf.room
    unfold loafIllegal
    rw [loafSize_single]
    have hsz := Syl.size_cases y
    simp only [List.any_cons, List.any_nil, hb, List.map_cons, List.map_nil, List.nodup_singleton, List.flatMap_cons, List.flatMap_nil,
      List.append_nil, hd]
    simp only [Bool.or_false, decide_true, Bool.not_true, Bool.false_and, Bool.or_eq_false_iff, Bool.and_eq_false_iff, decide_eq_false_iff_not]
    refine ⟨⟨by simp, ?_⟩, ?_⟩ <;> omega
  unfold State.fetchCause
  simp only [h1, h2, h3]
  simp

theorem regNat_two (s : State) (a : Nat) : s.regNat a 2 = (s.reg a).toNat + 2 ^ 32 * (s.reg (a + 4)).toNat := by
  simp [State.regNat]

/-- A Loaf counted (R257) after the sequencer is left as `q`. -/
theorem retired_count (s : State) (n : Fin 9) (k : Nat) (q : Seq) :
    Retired s (({ s with freeCtr := s.freeCtr + k }.setSeq n q).loafCount n 1) n q := by
  have hfar : SEQ_PERF_LOAF n.val + 4 * 2 ≤ 0x200000 ∧ SEQ_STATUS n.val + 4 < SEQ_PERF_LOAF n.val := by
    unfold SEQ_PERF_LOAF SEQ_STATUS; omega
  let u : State := { s with freeCtr := s.freeCtr + k }.setSeq n q
  have hu : ∀ a, u.reg a = s.reg a := fun _ => rfl
  have hreg : ∀ (t : State) (a : Nat), (if 2 ^ 64 ≤ u.regNat (SEQ_PERF_LOAF n.val) 2 + 1 then
      t.setFld (SEQ_STATUS n.val) SEQ_STATUS.OVF_LOAF 1 else t).reg a = if a = SEQ_STATUS n.val then
        (if 2 ^ 64 ≤ u.regNat (SEQ_PERF_LOAF n.val) 2 + 1 then t.setFld (SEQ_STATUS n.val) SEQ_STATUS.OVF_LOAF 1 else t).reg a
      else t.reg a := by
    intro t a
    by_cases ha : a = SEQ_STATUS n.val
    · rw [if_pos ha]
    · rw [if_neg ha]
      split
      · unfold State.setFld
        simp only [fldWords, SEQ_STATUS.OVF_LOAF]
        show ((t.setReg _ _)).reg a = _
        rw [State.reg_setReg, if_neg (by simpa using ha)]
      · rfl
  have hl : ∀ a, a ≠ SEQ_STATUS n.val → (u.loafCount n 1).reg a =
      (u.setRegNat (SEQ_PERF_LOAF n.val) 2 ((u.regNat (SEQ_PERF_LOAF n.val) 2 + 1) % 2 ^ 64)).reg a := by
    intro a ha
    unfold State.loafCount State.countWrap
    simp only
    rw [hreg, if_neg ha]
  constructor
  · simp
  · intro m hm; simp only [seq_loafCount]; exact State.seq_setSeq_ne _ _ _ _ hm
  · show (u.loafCount n 1).regNat _ 2 = _
    have := State.regNat_congr (s := u.setRegNat (SEQ_PERF_LOAF n.val) 2 ((u.regNat (SEQ_PERF_LOAF n.val) 2 + 1) % 2 ^ 64))
      (t := u.loafCount n 1) (SEQ_PERF_LOAF n.val) 2 (fun i _ => hl _ (by omega))
    rw [this, State.regNat_setRegNat_self, Nat.mod_mod]
    have : u.regNat (SEQ_PERF_LOAF n.val) 2 = s.regNat (SEQ_PERF_LOAF n.val) 2 := State.regNat_congr _ _ (fun _ _ => rfl)
    rw [this]
  · intro a h1 h2 h3
    show (u.loafCount n 1).reg a = _
    rw [hl a h3, State.reg_setRegNat, if_neg (by omega)]
    rfl
  · unfold State.loafCount; rw [State.countWrap_eq]; rfl

/-- R223: a register syllable in good words, alone in its Loaf, retires with its results. -/
theorem syllable_reg_retired (s : State) (h : SylHdr) (y : Syl) (hr : SeqReady s h.seq) (hf : FetchOk s h.seq 1) (hq : y.regOnly = true)
    (hd : y.isDiv = false) (hb : y.bad = false) (hdn : y.dests (s.seq h.seq).arch.vd = [] ∨ ∃ d, y.dests (s.seq h.seq).arch.vd = [d])
    (hp : s.loafPriv h.seq (s.seq h.seq).arch [y] = none) :
    Retired s (s.syllable h.seq y true) h.seq
      { s.seq h.seq with arch := s.loafRegs h.seq (s.seq h.seq).arch [y], gateEntered := false } := by
  have hs := Syl.regOnly_slot hq
  have hsz : y.size = 4 := by unfold Syl.size; rw [if_neg (by omega)]
  rw [syllable_reg s h.seq y hr hq hd _ hp]
  · exact retired_count _ _ _ _
  · apply fetchCause_ok s h.seq y (by rw [hsz]; exact hf) hb
    rcases hdn with e | ⟨d, e⟩ <;> rw [e]
    · simp
    · by_cases hd0 : d = 0 <;> simp [hd0]

end Sys2Proof.Machine
end

