-- ==== Sys2Proof/Laws/LoafControl.lean ====
section
/-! SUPPORT. Sys2Proof/Laws/LoafControl.lean: a Loaf whose cause is taken (R268, R269), and a Loaf of one C operation that
finishes after it. -/
namespace Sys2Proof.Machine

/-- R269: the registers with an event entered, for a sequencer in which no event is in progress. -/
def State.entered (s : State) (n : Fin 9) (e : Exc) (w : Bool) (ret : BitVec 19) : State :=
  s.setSeq n { (s.seq n).flush with arch := (s.seq n).arch.enter w e ret }

theorem take_plain (s : State) (n : Fin 9) (e : Exc) (w : Bool) (ret : BitVec 19) (hc : e.code ≠ exVector)
    (hd : (s.seq n).arch.dfault = false) (he : (s.seq n).arch.eip = false) :
    s.take n e false w ret = s.entered n e w ret := by
  have h1 : (s.seq n).doubles e false = false := by simp [Seq.doubles, he, hc]
  have h2 : (s.seq n).delivered e = s.seq n := by simp [Seq.delivered, hc]
  unfold State.take State.entered
  simp [hd, h1, h2]
  rfl

theorem deliver_same (s : State) (n : Fin 9) (e : Exc) (ret : BitVec 19) (hc : e.code ≠ exVector)
    (hd : (s.seq n).arch.dfault = false) (he : (s.seq n).arch.eip = false) :
    s.deliver n e false (s.seq n).arch.world ret = some (s.entered n e (s.seq n).arch.world ret) := by
  have h1 : (s.seq n).doubles e false = false := by simp [Seq.doubles, he, hc]
  unfold State.deliver
  simp [h1, hd, take_plain s n e _ ret hc hd he]

theorem pump_entered (s : State) (n : Fin 9) (e : Exc) (w : Bool) (ret : BitVec 19) (k : Nat) (hs : (s.seq n).spec = []) :
    pumpN k (s.entered n e w ret) n = s.entered n e w ret := by
  apply pumpN_of_none
  apply pumpOne_idle
  · simp [State.entered, Seq.flush]
  · simp [State.entered, Seq.flush]
  · apply failTake_nil; simp [State.entered, Seq.flush, hs]

theorem entered_queued (s : State) (n : Fin 9) (y : Syl) (e : Exc) (w : Bool) (ret : BitVec 19) :
    (s.queued n y).entered n e w ret = s.entered n e w ret := by
  simp [State.entered, State.queued, Seq.flush]

/-- R268: a cause of the next Loaf is taken in the running world before the Loaf executes, ERA naming the Loaf. -/
theorem syllable_cause (s : State) (n : Fin 9) (y : Syl) (e : Exc) (hr : SeqReady s n)
    (hc : e.code ≠ exVector) (hp : e.code ≠ exProgEcc) (hd : (s.seq n).arch.dfault = false) (he : (s.seq n).arch.eip = false)
    (h : s.fetchCause n (s.seq n).arch [y] false = some e ∨
      (s.fetchCause n (s.seq n).arch [y] false = none ∧ (s.queued n y).ownCause n (s.seq n).arch [y] = some e)) :
    s.syllable n y true = s.entered n e (s.seq n).arch.world (s.seq n).arch.pc := by
  have hpa : ((s.queued n y).seq n).pairAt = none := by
    apply pairAt_none; simp [State.queued, hr.delayOf]
  have ha : ((s.queued n y).seq n).arch = (s.seq n).arch := by simp [State.queued]
  have hsp : ((s.queued n y).seq n).spec = [] := by simp [State.queued, hr.spec]
  have htk : (s.queued n y).takeOwn n none e = some ((s.queued n y).entered n e (s.seq n).arch.world (s.seq n).arch.pc) := by
    unfold State.takeOwn
    simp only [hp, if_false, hsp, ha, List.isEmpty_nil, if_true]
    have := deliver_same (s.queued n y) n e (s.seq n).arch.pc hc (by rw [ha]; exact hd) (by rw [ha]; exact he)
    rwa [ha] at this
  have hfc : ∀ d, (s.queued n y).fetchCause n (s.seq n).arch [y] d = s.fetchCause n (s.seq n).arch [y] d := fun _ => rfl
  have ht : (s.queued n y).tryLoaf n [y] = some (s.entered n e (s.seq n).arch.world (s.seq n).arch.pc) := by
    rw [← entered_queued s n y, ← htk]
    unfold State.tryLoaf
    simp only [boundary_queued s n y hr, hpa, Option.map_none]
    unfold State.tryLoaf.rest
    simp only [ha, Option.isSome_none, hfc]
    rcases h with h | ⟨h1, h2⟩
    · simp [h]
    · simp [h1, h2, regHold_queued s n y _ hr.spec hr.outs]
  rw [syllable_stop s n y hr, pump_queued s n y hr _ ht, pump_entered _ _ _ _ _ _ hr.spec]
end Sys2Proof.Machine
namespace Sys2Proof.Machine

theorem Syl.last_slot {y : Syl} (h : y.last = true) : y.slot = 3 ∧ y.delayed = false ∧ y.isDiv = false := by
  revert h; cases y <;> simp [Syl.last, Syl.slot, Syl.delayed, Syl.isDiv]

theorem last_loafRegs (s : State) (n : Fin 9) (a : Arch) (y : Syl) (h : y.last = true) :
    s.loafRegs n a [y] = { a with pc := a.pc + 4 } := by
  have hs : y.size = 4 := by have := (Syl.last_slot h).1; unfold Syl.size; rw [if_neg (by omega)]
  have hn : BitVec.ofNat 19 4 = 4 := rfl
  unfold State.loafRegs State.sylStack
  rw [loafSize_single, hs, slotOf_single, if_pos (Syl.last_slot h).1, hn]
  revert h; cases y <;> simp [Syl.last, State.sylRegs, Syl.setsRs]

theorem last_loafDraws (a : Arch) (y : Syl) (h : y.last = true) : loafDraws a [y] = 0 := by
  revert h; cases y <;> simp [Syl.last, loafDraws, Syl.setsRs, Syl.loose]

/-- A sequencer whose Loaf of one C operation has taken effect, with the operation open. -/
def Seq.opened (q : Seq) (t : Tail) : Seq :=
  { q with arch := { q.arch with pc := q.arch.pc + 4 }, gateEntered := false, tail := some t }

/-- A Loaf of one C operation that finishes after it: the Loaf retires, and the operation is open. -/
theorem syllable_last (s : State) (n : Fin 9) (y : Syl) (hr : SeqReady s n) (hl : y.last = true)
    (hf : s.fetchCause n (s.seq n).arch [y] false = none)
    (ho : (s.queued n y).ownCause n (s.seq n).arch [y] = none)
    (hh : (s.changesWorld n (s.seq n).arch [y] && !(s.seq n).quiet) = false) :
    s.syllable n y true = pumpN 5 ((s.setSeq n ((s.seq n).opened (s.tailOf n (s.seq n).arch y))).loafCount n 1) n := by
  obtain ⟨h3, hdel, hdiv⟩ := Syl.last_slot hl
  have h2 : y.slot ≠ 2 := by omega
  have h7 : y.slot ≠ 7 := by omega
  have ha : ((s.queued n y).seq n).arch = (s.seq n).arch := by simp [State.queued]
  have hpa : ((s.queued n y).seq n).pairAt = none := by
    apply pairAt_none; simp [State.queued, hr.delayOf]
  have hsp : ((s.queued n y).seq n).spec = [] := by simp [State.queued, hr.spec]
  have hq : ((s.queued n y).seq n).quiet = (s.seq n).quiet := by simp [State.queued, Seq.quiet]
  have hhold : (s.queued n y).loafHold n (s.seq n).arch none [y] = false := by
    have hcw : (s.queued n y).changesWorld n (s.seq n).arch [y] = s.changesWorld n (s.seq n).arch [y] := rfl
    unfold State.loafHold
    simp only [slotOf_single, if_neg h2, if_neg h7, if_pos h3, hcw, hq, Seq.older, hsp]
    simp [hh]
  have ht := tryLoaf_queued s n y hr hf ho (regHold_queued s n y _ hr.spec hr.outs) hhold hdiv
  have htail : (s.queued n y).tailOf n (s.seq n).arch y = s.tailOf n (s.seq n).arch y := by cases y <;> rfl
  have hrun : (s.queued n y).runLoaf n none [y] = s.setSeq n
      { s.seq n with asm := [], waiting := [[y]], arch := { (s.seq n).arch with pc := (s.seq n).arch.pc + 4 }, gateEntered := false } := by
    have hm : ∀ (t : State) (a : Arch), t.runMem n a none [y] = t := by
      intro t a; unfold State.runMem; rw [slotOf_single, if_neg h2]
    have hodd : (s.queued n y).memOdd n (s.seq n).arch [y] = false := by
      unfold State.memOdd; rw [slotOf_single, if_neg h2]
    unfold State.runLoaf
    simp only [ha, hodd, hm, runVec_none _ n _ y h7, last_loafRegs _ n _ y hl, last_loafDraws _ y hl]
    simp [State.queued, State.setSeq, State.seq, Vector.set_set]
  have he : (s.queued n y).execLoaf n [y] = some ((s.setSeq n
      { (s.seq n).opened (s.tailOf n (s.seq n).arch y) with asm := [], waiting := [[y]] }).loafCount n 1) := by
    unfold State.execLoaf
    simp only [hpa, slotOf_single, if_pos h3, hdel, ha, htail, hrun]
    rw [loafDone_nil]
    · simp [Seq.opened]
    · simp [hr.spec]
  rw [he, Option.map_some, seq_loafCount, State.seq_setSeq_self, setSeq_loafCount, State.setSeq_setSeq] at ht
  rw [syllable_stop s n y hr, pump_queued s n y hr _ ht]
  have hq' : ({ (s.seq n).opened (s.tailOf n (s.seq n).arch y) with asm := [], waiting := [] } : Seq)
      = (s.seq n).opened (s.tailOf n (s.seq n).arch y) := by
    have e1 := hr.asm; have e2 := hr.waiting
    unfold Seq.opened
    generalize s.tailOf n (s.seq n).arch y = tt
    generalize s.seq n = q at *
    cases q; simp_all
  simpa using congrArg (fun q => pumpN 5 ((s.setSeq n q).loafCount n 1) n) hq'

/-- The one step that finishes a C operation, after which the sequencer has nothing to do of itself. -/
theorem pumpN_tail (k : Nat) (s u t : State) (n : Fin 9) (x : Tail) (hrun : s.seqRuns n = true) (hs : (s.seq n).spec = [])
    (ht : (s.seq n).tail = some x) (h : s.runTail n x = some u) (hu : u.pumpOne n = none) (htu : t = u) : pumpN (k + 1) s n = t := by
  have : s.pumpOne n = some u := by
    unfold State.pumpOne
    simp [hrun, failTake_nil _ _ hs, ht, h]
  rw [pumpN, this, htu]
  exact pumpN_of_none k u n hu

theorem seqRuns_loafCount (s : State) (n : Fin 9) (k : Nat) : (s.loafCount n k).seqRuns n = s.seqRuns n := by
  have hreg : ∀ a, 0x200000 ≤ a → (s.loafCount n k).reg a = s.reg a := by
    intro a ha
    unfold State.loafCount State.countWrap
    simp only
    have hn := n.isLt
    split
    · rw [State.reg_setFld_of_outside, State.reg_setRegNat_of_outside]
      · right; unfold SEQ_PERF_LOAF; omega
      · right; simp only [SEQ_STATUS, SEQ_STATUS.OVF_LOAF, fldWords]; omega
    · rw [State.reg_setRegNat_of_outside]
      right; unfold SEQ_PERF_LOAF; omega
  have hfld : ∀ f : Fld, (s.loafCount n k).fld ST_MODE f = s.fld ST_MODE f := by
    intro f
    unfold State.fld
    rw [State.regNat_congr]
    intro i _
    apply hreg
    unfold ST_MODE; omega
  have he : ∀ u, (s.loafCount n k).ustEntry u = s.ustEntry u := by
    intro u; unfold State.loafCount; rw [State.countWrap_eq]; rfl
  unfold State.seqRuns State.unitState State.ovenOf State.unitOven State.mode
  simp only [hfld, he]
end Sys2Proof.Machine
end

