-- ==== Sys2Proof/Laws/Exceptions.lean ====
section
/-! SUPPORT. Sys2Proof/Laws/Exceptions.lean: what taking an exception leaves, field by field (R269). -/
namespace Sys2Proof.Machine

/-- SSR's masked bits replaced, as bits. -/
theorem ssrWith_eq (ssr : W32) (m v : Nat) :
    ssrWith ssr m v = (ssr &&& ~~~(BitVec.ofNat 32 m)) ||| (BitVec.ofNat 32 v &&& BitVec.ofNat 32 m) := by
  unfold ssrWith
  have h1 : ∀ x k : W32, x = (x &&& k) + (x &&& ~~~k) := by
    intro x k
    rw [BitVec.add_eq_or_of_and_eq_zero]
    · ext i hi; simp; cases x[i] <;> cases k[i] <;> rfl
    · ext i hi; simp; cases x[i] <;> cases k[i] <;> simp
  have hle : ssr.toNat &&& m ≤ ssr.toNat := Nat.and_le_left
  have h2 : BitVec.ofNat 32 (ssr.toNat - (ssr.toNat &&& m) + (v &&& m))
      = ssr - (ssr &&& BitVec.ofNat 32 m) + (BitVec.ofNat 32 v &&& BitVec.ofNat 32 m) := by
    rw [← BitVec.ofNat_and, BitVec.ofNat_add]
    congr 1
    rw [eq_sub_iff_add_eq]
    have : ssr &&& BitVec.ofNat 32 m = BitVec.ofNat 32 (ssr.toNat &&& m) := by
      rw [BitVec.ofNat_and, BitVec.ofNat_toNat, BitVec.setWidth_eq]
    rw [this, ← BitVec.ofNat_add, Nat.sub_add_cancel hle, BitVec.ofNat_toNat, BitVec.setWidth_eq]
  rw [h2]
  have h3 : ssr - (ssr &&& BitVec.ofNat 32 m) = ssr &&& ~~~(BitVec.ofNat 32 m) := by
    rw [sub_eq_iff_eq_add, add_comm]; exact h1 _ _
  rw [h3, BitVec.add_eq_or_of_and_eq_zero]
  ext i hi; simp
  intros; simp_all

/-- R269, field by field. -/
theorem entered_takes (s : State) (n : Fin 9) (e : Exc) (ret : BitVec 19) :
    TakesException s (s.entered n e (s.seq n).arch.world ret) n (s.seq n).arch.world e.code e.sub e.eaddr ret := by
  generalize hw : (s.seq n).arch.world = w
  have hq : ((s.entered n e w ret).seq n) = { (s.seq n).flush with arch := (s.seq n).arch.enter w e ret } := by
    simp [State.entered]
  have hs : ((s.seq n).arch.enter w e ret).ssr = ssrWith (s.seq n).arch.ssr 0x17 (0x12 + bit01 w) := rfl
  constructor
  · rw [hq]; cases w <;> simp [Arch.enter, Arch.setCtx, Arch.ctx, mul_comm]
  · rw [hq]; cases w <;> simp [Arch.enter, Arch.setCtx, Arch.ctx]
  · rw [hq]; show Arch.world _ = w
    rw [Arch.world, hs, ssrWith_eq]; cases w <;> simp [bit01]
  · rw [hq]; rw [Arch.sup, hs, ssrWith_eq]; cases w <;> simp [bit01]
  · rw [hq]; rw [Arch.ie, hs, ssrWith_eq]; cases w <;> simp [bit01]
  · rw [hq]; rw [Arch.eip, hs, ssrWith_eq]; cases w <;> simp [bit01]
  · rw [hq]; show ((s.seq n).arch.enter w e ret).ssr &&& _ = _
    rw [hs, ssrWith_eq]
    have h : ∀ a m v : W32, ((a &&& ~~~m) ||| (v &&& m)) &&& ~~~m = a &&& ~~~m := by
      intro a m v
      ext i hi
      simp only [BitVec.getElem_and, BitVec.getElem_or, BitVec.getElem_not]
      cases a[i] <;> cases m[i] <;> cases v[i] <;> rfl
    exact h _ _ _
  · rw [hq]; cases w <;> simp [Arch.enter, vectorBase, mul_comm]
  · rw [hq]; cases w <;> simp [Arch.enter, Arch.setCtx]
  · rw [hq]; cases w <;> simp [Arch.enter, Arch.setCtx]
  · rw [hq]; rfl
end Sys2Proof.Machine
end

