-- ==== Sys2Proof/Laws/LoafMem.lean ====
section
/-! SUPPORT. Sys2Proof/Laws/LoafMem.lean: a Loaf of one M syllable: a store enters the store buffer (R194), an access opens a
shadow (R271), a fence retires (R198). -/
namespace Sys2Proof
/-- The M syllables that are not register syllables. -/
def Syl.isMem : Syl → Bool
  | .mem .. | .pld .. | .pst .. | .fence .. => true
  | _ => false
end Sys2Proof

namespace Sys2Proof.Machine

theorem memDo_congr (s t : State) (n : Fin 9) (a : Arch) (own : Option Nat) (y : Syl) (hsb : (t.seq n).sb = (s.seq n).sb)
    (hsp : (t.seq n).spec = (s.seq n).spec) (ho : t.ovenOf n = s.ovenOf n) (hf : t.freeCtr = s.freeCtr) :
    t.memDo n a own y = s.memDo n a own y := by
  cases y <;> simp only [State.memDo, State.memRef, Seq.heldStores, State.freshAt, hsb, hsp, ho, hf]
  rfl

/-- A sequencer past a Loaf of one syllable that leaves its registers alone. -/
def Seq.past (q : Seq) : Seq := { q with arch := { q.arch with pc := q.arch.pc + 4 }, gateEntered := false }

theorem Syl.isMem_slot {y : Syl} (h : y.isMem = true) : y.slot = 2 ∧ y.isDiv = false ∧ y.setsRs = false ∧ y.usesRs = false := by
  revert h; cases y <;> simp [Syl.isMem, Syl.slot, Syl.isDiv, Syl.setsRs, Syl.usesRs]

theorem mem_loafRegs (s : State) (n : Fin 9) (a : Arch) (y : Syl) (h : y.isMem = true) :
    s.loafRegs n a [y] = { a with pc := a.pc + 4 } := by
  have hs : y.size = 4 := by have := (Syl.isMem_slot h).1; unfold Syl.size; rw [if_neg (by omega)]
  have hn : BitVec.ofNat 19 4 = 4 := rfl
  have h3 : y.slot ≠ 3 := by have := (Syl.isMem_slot h).1; omega
  have hrs := (Syl.isMem_slot h).2.2.1
  unfold State.loafRegs State.sylStack
  simp only [loafSize_single, hs, slotOf_single, if_neg h3, hn, List.any_cons, List.any_nil, hrs]
  revert h; cases y <;> simp [Syl.isMem, State.sylRegs]

/-- How many free values a Loaf of one syllable draws. -/
def State.sylDraws (s : State) (n : Fin 9) (y : Syl) : Nat :=
  if s.memOdd n (s.seq n).arch [y] then 21 else loafDraws (s.seq n).arch [y]

/-- The state in which an M syllable's access is made: its Loaf is past, and still at the head of those that wait. -/
def State.atMem (s : State) (n : Fin 9) (y : Syl) : State :=
  s.setSeq n { (s.seq n).past with asm := [], waiting := [[y]] }

/-- A Loaf of one M syllable that nothing faults and nothing holds: its access is made, and the pump goes on. -/
theorem syllable_mem (s : State) (n : Fin 9) (y : Syl) (hr : SeqReady s n) (hm : y.isMem = true)
    (hf : s.fetchCause n (s.seq n).arch [y] false = none)
    (ho : (s.queued n y).ownCause n (s.seq n).arch [y] = none)
    (hh : (s.queued n y).loafHold n (s.seq n).arch none [y] = false) (t : State)
    (ht : (fun u : State => ({ u with freeCtr := u.freeCtr + s.sylDraws n y } : State).loafDone n 1)
      ((s.atMem n y).runMem n (s.seq n).arch none [y]) = t) :
    s.syllable n y true = pumpN 5 (t.setSeq n { t.seq n with waiting := (t.seq n).waiting.drop 1 }) n := by
  obtain ⟨h2, hdiv, -, -⟩ := Syl.isMem_slot hm
  have h3 : y.slot ≠ 3 := by omega
  have h7 : y.slot ≠ 7 := by omega
  have ha : ((s.queued n y).seq n).arch = (s.seq n).arch := by simp [State.queued]
  have hpa : ((s.queued n y).seq n).pairAt = none := by
    apply pairAt_none; simp [State.queued, hr.delayOf]
  have htl := tryLoaf_queued s n y hr hf ho (regHold_queued s n y _ hr.spec hr.outs) hh hdiv
  have hodd : (s.queued n y).memOdd n (s.seq n).arch [y] = s.memOdd n (s.seq n).arch [y] := rfl
  have hat : (s.queued n y).setSeq n
      { (s.queued n y).seq n with arch := { (s.seq n).arch with pc := (s.seq n).arch.pc + 4 }, gateEntered := false } = s.atMem n y := by
    simp [State.queued, State.atMem, Seq.past]
  have hrun : (s.queued n y).runLoaf n none [y] =
      (fun u : State => ({ u with freeCtr := u.freeCtr + s.sylDraws n y } : State)) ((s.atMem n y).runMem n (s.seq n).arch none [y]) := by
    unfold State.runLoaf
    simp only [ha, hodd, runVec_none _ n _ y h7, mem_loafRegs _ n _ y hm, hat]
    rfl
  have he : (s.queued n y).execLoaf n [y] = some t := by
    unfold State.execLoaf
    simp only [hpa, slotOf_single, if_neg h3, hrun]
    rw [← ht]
  rw [he, Option.map_some] at htl
  rw [syllable_stop s n y hr, pump_queued s n y hr _ htl]

theorem seq_atMem (s : State) (n : Fin 9) (y : Syl) : (s.atMem n y).seq n = { (s.seq n).past with asm := [], waiting := [[y]] } := by
  simp [State.atMem]

theorem memDo_atMem (s : State) (n : Fin 9) (y z : Syl) (a : Arch) : (s.atMem n y).memDo n a none z = s.memDo n a none z :=
  memDo_congr s _ n a none z (by simp [seq_atMem, Seq.past]) (by simp [seq_atMem, Seq.past]) rfl rfl

/-- Clearing the Loaf that has left the head. -/
theorem clearLoafs (q : Seq) (h1 : q.asm = []) (h2 : q.waiting = []) : ({ q with asm := [], waiting := [] } : Seq) = q := by
  cases q; simp_all

/-- R194: a store enters the store buffer, and its Loaf retires. -/
theorem syllable_store (s : State) (n : Fin 9) (y : Syl) (e : SbEntry) (hr : SeqReady s n) (hm : y.isMem = true)
    (hf : s.fetchCause n (s.seq n).arch [y] false = none)
    (ho : (s.queued n y).ownCause n (s.seq n).arch [y] = none)
    (hh : (s.queued n y).loafHold n (s.seq n).arch none [y] = false)
    (he : s.memDo n (s.seq n).arch none y = .store e) :
    Retired s (s.syllable n y true) n { (s.seq n).past with sb := (s.seq n).sb ++ [e] } := by
  have h2 := (Syl.isMem_slot hm).1
  have hrm : (s.atMem n y).runMem n (s.seq n).arch none [y] =
      s.setSeq n { (s.seq n).past with asm := [], waiting := [[y]], sb := (s.seq n).sb ++ [e] } := by
    unfold State.runMem
    rw [slotOf_single, if_pos h2]
    simp only [memDo_atMem, he, seq_atMem]
    simp [State.atMem, Seq.past]
  rw [syllable_mem s n y hr hm hf ho hh _ rfl, hrm]
  simp only
  rw [loafDone_nil _ _ _ (by simpa [State.seq, State.setSeq, Seq.past] using hr.spec)]
  simp only [seq_loafCount, setSeq_loafCount]
  have e1 := hr.asm; have e2 := hr.waiting
  have key : ({ (s.setSeq n { (s.seq n).past with asm := [], waiting := [[y]], sb := (s.seq n).sb ++ [e] }) with
        freeCtr := s.freeCtr + s.sylDraws n y } : State).setSeq n
        { (s.seq n).past with asm := [], waiting := [], sb := (s.seq n).sb ++ [e] }
      = ({ s with freeCtr := s.freeCtr + s.sylDraws n y } : State).setSeq n { (s.seq n).past with sb := (s.seq n).sb ++ [e] } := by
    have : ({ (s.seq n).past with asm := [], waiting := [], sb := (s.seq n).sb ++ [e] } : Seq)
        = { (s.seq n).past with sb := (s.seq n).sb ++ [e] } := by
      unfold Seq.past
      generalize s.seq n = q at *
      cases q; simp_all
    rw [this]
    simp [State.setSeq, Vector.set_set]
  have hseq : ∀ (u : State) (q : Seq), ({ (u.setSeq n q) with freeCtr := (u.setSeq n q).freeCtr + s.sylDraws n y } : State).seq n = q := by
    intro u q; simp [State.seq, State.setSeq]
  rw [hseq]
  simp only [List.drop_one, List.tail_cons]
  show Retired s (pumpN 5 (State.loafCount _ n 1) n) n _
  rw [show ({ (s.setSeq n { (s.seq n).past with asm := [], waiting := [[y]], sb := (s.seq n).sb ++ [e] }) with
        freeCtr := (s.setSeq n { (s.seq n).past with asm := [], waiting := [[y]], sb := (s.seq n).sb ++ [e] }).freeCtr + s.sylDraws n y } : State).setSeq n
        { (s.seq n).past with asm := [], waiting := [], sb := (s.seq n).sb ++ [e] } = _ from key]
  rw [pumpN_of_none]
  · exact retired_count _ _ _ _
  · apply pumpOne_idle
    · simpa [Seq.past] using e2
    · simpa [Seq.past] using hr.tail
    · apply failTake_nil; simpa [Seq.past] using hr.spec

/-- R271: an access that leaves the sequencer opens a shadow, under which its Loaf stands; `s'` is the state in which the
access has been sent. -/
theorem syllable_access (s : State) (n : Fin 9) (y : Syl) (x : Access) (hr : SeqReady s n) (hm : y.isMem = true)
    (hf : s.fetchCause n (s.seq n).arch [y] false = none)
    (ho : (s.queued n y).ownCause n (s.seq n).arch [y] = none)
    (hh : (s.queued n y).loafHold n (s.seq n).arch none [y] = false)
    (he : s.memDo n (s.seq n).arch none y = .access x) (hx : x.op.isAtomic = false) (hp : ∀ d k, x.tgt ≠ .remote d k) :
    s.syllable n y true = ({ s with freeCtr := s.freeCtr + s.sylDraws n y } : State).setSeq n
      { (s.seq n).past with
        spec := [⟨(s.seq n).nextId, (s.seq n).arch, (s.seq n).arch.pc, 1, .access x none false false⟩]
        nextId := (s.seq n).nextId + 1 } := by
  have h2 := (Syl.isMem_slot hm).1
  have hsend : ∀ (u : State) (id : Nat), u.accessSend n id x = u := by
    intro u id
    unfold State.accessSend
    cases hx' : x.tgt with
    | remote d k => exact absurd hx' (hp d k)
    | _ => simp [hx]
  have hrm : (s.atMem n y).runMem n (s.seq n).arch none [y] =
      s.setSeq n { (s.seq n).past with
        asm := []
        waiting := [[y]]
        spec := [⟨(s.seq n).nextId, (s.seq n).arch, (s.seq n).arch.pc, 0, .access x none false false⟩]
        nextId := (s.seq n).nextId + 1 } := by
    unfold State.runMem
    rw [slotOf_single, if_pos h2]
    simp only [memDo_atMem, he, seq_atMem, hsend]
    simp [State.atMem, Seq.past, hr.spec]
  rw [syllable_mem s n y hr hm hf ho hh _ rfl, hrm]
  have e1 := hr.asm; have e2 := hr.waiting; have e3 := hr.tail
  have hdone : (({ (s.setSeq n { (s.seq n).past with
        asm := []
        waiting := [[y]]
        spec := [⟨(s.seq n).nextId, (s.seq n).arch, (s.seq n).arch.pc, 0, .access x none false false⟩]
        nextId := (s.seq n).nextId + 1 }) with freeCtr := s.freeCtr + s.sylDraws n y } : State).loafDone n 1) =
      ({ s with freeCtr := s.freeCtr + s.sylDraws n y } : State).setSeq n { (s.seq n).past with
        asm := []
        waiting := [[y]]
        spec := [⟨(s.seq n).nextId, (s.seq n).arch, (s.seq n).arch.pc, 1, .access x none false false⟩]
        nextId := (s.seq n).nextId + 1 } := by
    unfold State.loafDone
    simp [State.seq, State.setSeq]
  have hfin : ({ (s.seq n).past with
        asm := []
        waiting := []
        spec := [⟨(s.seq n).nextId, (s.seq n).arch, (s.seq n).arch.pc, 1, .access x none false false⟩]
        nextId := (s.seq n).nextId + 1 } : Seq) = { (s.seq n).past with
        spec := [⟨(s.seq n).nextId, (s.seq n).arch, (s.seq n).arch.pc, 1, .access x none false false⟩]
        nextId := (s.seq n).nextId + 1 } := by
    unfold Seq.past
    generalize s.seq n = q at *
    cases q; simp_all
  rw [show (fun u : State => ({ u with freeCtr := u.freeCtr + s.sylDraws n y } : State).loafDone n 1) (s.setSeq n { (s.seq n).past with
        asm := []
        waiting := [[y]]
        spec := [⟨(s.seq n).nextId, (s.seq n).arch, (s.seq n).arch.pc, 0, .access x none false false⟩]
        nextId := (s.seq n).nextId + 1 }) = _ from hdone]
  simp only [State.seq_setSeq_self, State.setSeq_setSeq, List.drop_one, List.tail_cons]
  rw [hfin, pumpN_of_none]
  apply pumpOne_idle
  · simpa [Seq.past] using e2
  · simpa [Seq.past] using e3
  · unfold State.failTake
    simp

/-- R198: a fence that nothing holds retires. -/
theorem syllable_fence (s : State) (n : Fin 9) (y : Syl) (hr : SeqReady s n) (hm : y.isMem = true)
    (hf : s.fetchCause n (s.seq n).arch [y] false = none)
    (ho : (s.queued n y).ownCause n (s.seq n).arch [y] = none)
    (hh : (s.queued n y).loafHold n (s.seq n).arch none [y] = false)
    (he : s.memDo n (s.seq n).arch none y = .nothing) :
    Retired s (s.syllable n y true) n (s.seq n).past := by
  have h2 := (Syl.isMem_slot hm).1
  have hrm : (s.atMem n y).runMem n (s.seq n).arch none [y] =
      s.setSeq n { (s.seq n).past with asm := [], waiting := [[y]] } := by
    unfold State.runMem
    rw [slotOf_single, if_pos h2]
    simp only [memDo_atMem, he]
    rfl
  rw [syllable_mem s n y hr hm hf ho hh _ rfl, hrm]
  simp only
  rw [loafDone_nil _ _ _ (by simpa [State.seq, State.setSeq, Seq.past] using hr.spec)]
  simp only [seq_loafCount, setSeq_loafCount]
  have e1 := hr.asm; have e2 := hr.waiting
  have key : ({ (s.setSeq n { (s.seq n).past with asm := [], waiting := [[y]] }) with
        freeCtr := s.freeCtr + s.sylDraws n y } : State).setSeq n
        { (s.seq n).past with asm := [], waiting := [] }
      = ({ s with freeCtr := s.freeCtr + s.sylDraws n y } : State).setSeq n (s.seq n).past := by
    have : ({ (s.seq n).past with asm := [], waiting := [] } : Seq)
        = (s.seq n).past := by
      unfold Seq.past
      generalize s.seq n = q at *
      cases q; simp_all
    rw [this]
    simp [State.setSeq, Vector.set_set]
  have hseq : ∀ (u : State) (q : Seq), ({ (u.setSeq n q) with freeCtr := (u.setSeq n q).freeCtr + s.sylDraws n y } : State).seq n = q := by
    intro u q; simp [State.seq, State.setSeq]
  rw [hseq]
  simp only [List.drop_one, List.tail_cons]
  show Retired s (pumpN 5 (State.loafCount _ n 1) n) n _
  rw [show ({ (s.setSeq n { (s.seq n).past with asm := [], waiting := [[y]] }) with
        freeCtr := (s.setSeq n { (s.seq n).past with asm := [], waiting := [[y]] }).freeCtr + s.sylDraws n y } : State).setSeq n
        { (s.seq n).past with asm := [], waiting := [] } = _ from key]
  rw [pumpN_of_none]
  · exact retired_count _ _ _ _
  · apply pumpOne_idle
    · simpa [Seq.past] using e2
    · simpa [Seq.past] using hr.tail
    · apply failTake_nil; simpa [Seq.past] using hr.spec

end Sys2Proof.Machine
end

