-- ==== Sys2Proof/Laws/LoafAccess.lean ====
section
/-! SUPPORT. Sys2Proof/Laws/LoafAccess.lean: a Loaf of one memory form: what its checks ask, and what it does (R232, R233). -/
namespace Sys2Proof.Machine

/-- The registers that a memory form may name, and the level that it asks (R224, R235, R236). -/
structure MemFormOk (a : Arch) (op : MemOp) (d : Fin 64) : Prop where
  desc : op = .vdld ∨ op = .vdst → d.val < 32
  pair : op = .acasD → d.val % 2 = 0
  level : op = .sgld ∨ op = .sgst → a.sup = true

theorem LoafAt.mem_fetch {s : State} {h : SylHdr} (hl : LoafAt s h) {op : MemOp} {d : Fin 64} (a sg : Fin 64) (imm : BitVec 5)
    (hk : MemFormOk (s.seq h.seq).arch op d) : s.fetchCause h.seq (s.seq h.seq).arch [.mem op h.rsv d a sg imm] false = none := by
  refine fetchCause_ok s h.seq (.mem op h.rsv d a sg imm) (by simpa [Syl.size, Syl.slot] using hl.fetch) ?_ ?_
  · simp only [Syl.bad, hl.rsv, Bool.false_or, Bool.or_eq_false_iff, Bool.and_eq_false_imp, Bool.or_eq_true, beq_iff_eq,
      decide_eq_false_iff_not, not_le]
    refine ⟨hk.desc, fun e => ?_⟩
    have := hk.pair e
    simp [this]
  · simp only [Syl.dests]
    split
    · by_cases h0 : d = 0 <;> simp [h0]
    · simp

theorem LoafAt.mem_own {s : State} {h : SylHdr} (hl : LoafAt s h) {op : MemOp} {d : Fin 64} (a sg : Fin 64) (imm : BitVec 5)
    (hk : MemFormOk (s.seq h.seq).arch op d)
    (hc : scalarCheck op ((s.seq h.seq).arch.seg (s.seq h.seq).arch.world sg) (s.seq h.seq).arch.sup
      (memOffset op ((s.seq h.seq).arch.reg a) imm) = none) :
    (s.queued h.seq (.mem op h.rsv d a sg imm)).ownCause h.seq (s.seq h.seq).arch [.mem op h.rsv d a sg imm] = none := by
  have hseg : s.segCause h.seq (s.seq h.seq).arch [.mem op h.rsv d a sg imm] = none := by
    simp only [State.segCause, slotOf_single, Syl.slot, if_true, State.memRef, Option.map_eq_none_iff]
    exact hc
  refine ownCause_queued_plain s h.seq _ _ hl.ready.vec (by simp [Syl.slot]) (by simp [Syl.slot]) rfl ?_ hseg rfl
  simp only [State.loafPriv, State.memPriv, List.findSome?_cons, List.findSome?_nil]
  have : ((op == .sgld || op == .sgst) && !(s.seq h.seq).arch.sup) = false := by
    by_cases e : op = .sgld ∨ op = .sgst
    · rw [hk.level e]; simp
    · simp only [not_or] at e; simp [e.1, e.2]
  rw [this]; rfl

/-- The access that a load or an atomic makes, aligned. -/
def memAccess (q : Arch) (o : Nat) (op : MemOp) (d a sg : Fin 64) (imm : BitVec 5) : Access :=
  let seg := q.seg q.world sg
  let off := memOffset op (q.reg a) imm
  { op := op, isPld := false, dst := d, tgt := segTarget seg o, addr := segBase seg + off.toNat, size := op.size, seg := sg,
    off := off.toNat, world := q.world, sup := q.sup, misaligned := false, data := (q.reg d).toNat % 2 ^ (8 * op.size),
    data2 := (q.reg (d + 1)).toNat }

theorem segTarget_local {d : SegDesc} (h : segRemote d = false) (o : Nat) : ∀ x y, segTarget d o ≠ .remote x y := by
  intro x y
  unfold segTarget
  rw [h]
  simp only [Bool.false_eq_true, if_false]
  split <;> simp

theorem sbCover_nil (t : Target) (a size : Nat) (h : 0 < size) : sbCover [] t a size = .none := by
  unfold sbCover
  obtain ⟨k, rfl⟩ : ∃ k, size = k + 1 := ⟨size - 1, by omega⟩
  have : ∀ i, sbByte [] t i = none := fun _ => rfl
  simp [this, upTo]

theorem memSize_pos (op : MemOp) : 0 < op.size := by cases op <;> decide

theorem heldStores_nil (q : Seq) (own : Option Nat) (h : q.spec = []) : q.heldStores own = [] := by
  simp [Seq.heldStores, h]

/-- A load that the store buffer does not serve opens an access. -/
theorem LoafAt.load {s : State} {h : SylHdr} (hl : LoafAt s h) (op : MemOp) (d a sg : Fin 64) (imm : BitVec 5)
    (hs : op.isStore = false) (hat : op.isAtomic = false) (hk : MemFormOk (s.seq h.seq).arch op d)
    (hc : scalarCheck op ((s.seq h.seq).arch.seg (s.seq h.seq).arch.world sg) (s.seq h.seq).arch.sup
      (memOffset op ((s.seq h.seq).arch.reg a) imm) = none)
    (hr : segRemote ((s.seq h.seq).arch.seg (s.seq h.seq).arch.world sg) = false)
    (ha : memAligned op ((s.seq h.seq).arch.seg (s.seq h.seq).arch.world sg) (memOffset op ((s.seq h.seq).arch.reg a) imm) = true)
    (hb : (s.seq h.seq).sb = []) :
    s.syllable h.seq (.mem op h.rsv d a sg imm) h.stop = s.setSeq h.seq { (s.seq h.seq).past with
      spec := [⟨(s.seq h.seq).nextId, (s.seq h.seq).arch, (s.seq h.seq).arch.pc, 1,
        .access (memAccess (s.seq h.seq).arch (s.ovenOf h.seq) op d a sg imm) none false false⟩]
      nextId := (s.seq h.seq).nextId + 1 } := by
  have hq : (s.queued h.seq (.mem op h.rsv d a sg imm)).seq h.seq = { s.seq h.seq with asm := [], waiting := [[.mem op h.rsv d a sg imm]] } := by
    simp [State.queued]
  have he : s.memDo h.seq (s.seq h.seq).arch none (.mem op h.rsv d a sg imm) =
      .access (memAccess (s.seq h.seq).arch (s.ovenOf h.seq) op d a sg imm) := by
    simp only [State.memDo, hs, hat, hb, heldStores_nil _ _ hl.ready.spec, List.append_nil, State.memRef, ha,
      sbCover_nil _ _ _ (memSize_pos op)]
    rfl
  have hh : (s.queued h.seq (.mem op h.rsv d a sg imm)).loafHold h.seq (s.seq h.seq).arch none [.mem op h.rsv d a sg imm] = false := by
    have hf : ((s.queued h.seq (.mem op h.rsv d a sg imm)).seq h.seq).fenced = false := by
      rw [hq]; simp [Seq.fenced, hl.ready.spec, hb]
    have ho : (((s.queued h.seq (.mem op h.rsv d a sg imm)).seq h.seq).older none).isEmpty = true := by
      rw [hq]; simp [Seq.older, hl.ready.spec]
    have hsb : ((s.queued h.seq (.mem op h.rsv d a sg imm)).seq h.seq).sb = [] := by rw [hq]; exact hb
    have hsp : ((s.queued h.seq (.mem op h.rsv d a sg imm)).seq h.seq).spec = [] := by rw [hq]; exact hl.ready.spec
    unfold State.loafHold
    simp only [slotOf_single, Syl.slot, ho]
    simp only [State.memHold, hf, hsb, heldStores_nil _ _ hsp, List.append_nil]
    simp [hs, hat, sbCover_nil _ _ _ (memSize_pos op)]
  have hodd : s.sylDraws h.seq (.mem op h.rsv d a sg imm) = 0 := by
    have : s.memOdd h.seq (s.seq h.seq).arch [.mem op h.rsv d a sg imm] = false := by
      simp only [State.memOdd, slotOf_single, Syl.slot, if_true, State.memRef, ha]; rfl
    simp [State.sylDraws, this, loafDraws, Syl.setsRs, Syl.loose]
  rw [hl.stop, syllable_access s h.seq _ _ hl.ready rfl (hl.mem_fetch a sg imm hk) (hl.mem_own a sg imm hk hc) hh he hat
    (segTarget_local hr _), hodd]
  rfl

/-- A store enters the buffer. -/
theorem LoafAt.store {s : State} {h : SylHdr} (hl : LoafAt s h) (op : MemOp) (d a sg : Fin 64) (imm : BitVec 5)
    (hs : op.isStore = true) (hk : MemFormOk (s.seq h.seq).arch op d)
    (hc : scalarCheck op ((s.seq h.seq).arch.seg (s.seq h.seq).arch.world sg) (s.seq h.seq).arch.sup
      (memOffset op ((s.seq h.seq).arch.reg a) imm) = none)
    (ha : memAligned op ((s.seq h.seq).arch.seg (s.seq h.seq).arch.world sg) (memOffset op ((s.seq h.seq).arch.reg a) imm) = true)
    (hp : isPost (segTarget ((s.seq h.seq).arch.seg (s.seq h.seq).arch.world sg) (s.ovenOf h.seq))
      (segBase ((s.seq h.seq).arch.seg (s.seq h.seq).arch.world sg) + (memOffset op ((s.seq h.seq).arch.reg a) imm).toNat) = false)
    (hb : (s.seq h.seq).sb.length < 16) (hn : ∀ e ∈ (s.seq h.seq).sb, isPost e.tgt e.addr = false) :
    Retired s (s.syllable h.seq (.mem op h.rsv d a sg imm) h.stop) h.seq { (s.seq h.seq).past with
      sb := (s.seq h.seq).sb ++ [{
        tgt := segTarget ((s.seq h.seq).arch.seg (s.seq h.seq).arch.world sg) (s.ovenOf h.seq)
        addr := segBase ((s.seq h.seq).arch.seg (s.seq h.seq).arch.world sg) + (memOffset op ((s.seq h.seq).arch.reg a) imm).toNat
        size := op.size
        data := storeData (s.seq h.seq).arch op d
        seg := sg
        off := (memOffset op ((s.seq h.seq).arch.reg a) imm).toNat
        world := (s.seq h.seq).arch.world
        sup := (s.seq h.seq).arch.sup
        sent := false }] } := by
  have hq : (s.queued h.seq (.mem op h.rsv d a sg imm)).seq h.seq = { s.seq h.seq with asm := [], waiting := [[.mem op h.rsv d a sg imm]] } := by
    simp [State.queued]
  have he := syllable_store s h.seq (.mem op h.rsv d a sg imm) _ hl.ready rfl (hl.mem_fetch a sg imm hk) (hl.mem_own a sg imm hk hc) ?_
    (show s.memDo h.seq (s.seq h.seq).arch none (.mem op h.rsv d a sg imm) = .store _ by
      simp only [State.memDo, hs, State.memRef, ha, if_true]; rfl)
  · rw [hl.stop]; exact he
  · have hf : ((s.queued h.seq (.mem op h.rsv d a sg imm)).seq h.seq).fenced = false := by
      rw [hq]; simp [Seq.fenced, hl.ready.spec]; exact hn
    have ho : (((s.queued h.seq (.mem op h.rsv d a sg imm)).seq h.seq).older none).isEmpty = true := by
      rw [hq]; simp [Seq.older, hl.ready.spec]
    have hsb : ((s.queued h.seq (.mem op h.rsv d a sg imm)).seq h.seq).sb = (s.seq h.seq).sb := by rw [hq]
    have hsp : ((s.queued h.seq (.mem op h.rsv d a sg imm)).seq h.seq).spec = [] := by rw [hq]; exact hl.ready.spec
    have hat : op.isAtomic = false := by revert hs; cases op <;> simp [MemOp.isStore, MemOp.isAtomic]
    have hov : (s.queued h.seq (.mem op h.rsv d a sg imm)).ovenOf h.seq = s.ovenOf h.seq := rfl
    unfold State.loafHold
    simp only [slotOf_single, Syl.slot, ho]
    simp only [State.memHold, hf, hsb, heldStores_nil _ _ hsp, State.memRef, hov]
    simp [hs, hat, hp, hb]

/-- The element that a scalar atomic sends to its unit (R99, R165). -/
def memAtom (s : State) (n : Fin 9) (x : Access) (id : Nat) : AtomEl :=
  { unit := s.atomUnitOf x.addr, addr := x.addr, size := x.size, op := x.atomOp, ety := 0, aty := 0,
    v := if x.op = .acasD then x.data2 else x.data, psn := false, src := .scalar n id, lease := 100 + n.val, world := x.world }

/-- An atomic whose unit has room leaves for it. -/
theorem LoafAt.atomic {s : State} {h : SylHdr} (hl : LoafAt s h) (op : MemOp) (d a sg : Fin 64) (imm : BitVec 5)
    (hat : op.isAtomic = true) (hk : MemFormOk (s.seq h.seq).arch op d)
    (hc : scalarCheck op ((s.seq h.seq).arch.seg (s.seq h.seq).arch.world sg) (s.seq h.seq).arch.sup
      (memOffset op ((s.seq h.seq).arch.reg a) imm) = none)
    (hr : segRemote ((s.seq h.seq).arch.seg (s.seq h.seq).arch.world sg) = false)
    (ha : memAligned op ((s.seq h.seq).arch.seg (s.seq h.seq).arch.world sg) (memOffset op ((s.seq h.seq).arch.reg a) imm) = true)
    (hb : (s.seq h.seq).sb = [])
    (hu : (s.vm.atomQ.filter (fun x => x.unit ==
      s.atomUnitOf (memAccess (s.seq h.seq).arch (s.ovenOf h.seq) op d a sg imm).addr)).length < 64) :
    s.syllable h.seq (.mem op h.rsv d a sg imm) h.stop =
      ({ s with vm := { s.vm with atomQ := s.vm.atomQ ++
        [memAtom s h.seq (memAccess (s.seq h.seq).arch (s.ovenOf h.seq) op d a sg imm) (s.seq h.seq).nextId] } } : State).setSeq h.seq
      { (s.seq h.seq).past with
        spec := [⟨(s.seq h.seq).nextId, (s.seq h.seq).arch, (s.seq h.seq).arch.pc, 1,
          .access (memAccess (s.seq h.seq).arch (s.ovenOf h.seq) op d a sg imm) none true false⟩]
        nextId := (s.seq h.seq).nextId + 1 } := by
  have hst : op.isStore = false := by revert hat; cases op <;> simp [MemOp.isStore, MemOp.isAtomic]
  have hq : (s.queued h.seq (.mem op h.rsv d a sg imm)).seq h.seq = { s.seq h.seq with asm := [], waiting := [[.mem op h.rsv d a sg imm]] } := by
    simp [State.queued]
  have he : s.memDo h.seq (s.seq h.seq).arch none (.mem op h.rsv d a sg imm) =
      .access (memAccess (s.seq h.seq).arch (s.ovenOf h.seq) op d a sg imm) := by
    simp only [State.memDo, hst, hat, State.memRef, ha]
    rfl
  have hh : (s.queued h.seq (.mem op h.rsv d a sg imm)).loafHold h.seq (s.seq h.seq).arch none [.mem op h.rsv d a sg imm] = false := by
    have hf : ((s.queued h.seq (.mem op h.rsv d a sg imm)).seq h.seq).fenced = false := by
      rw [hq]; simp [Seq.fenced, hl.ready.spec, hb]
    have ho : (((s.queued h.seq (.mem op h.rsv d a sg imm)).seq h.seq).older none).isEmpty = true := by
      rw [hq]; simp [Seq.older, hl.ready.spec]
    have hsb : ((s.queued h.seq (.mem op h.rsv d a sg imm)).seq h.seq).sb = [] := by rw [hq]; exact hb
    unfold State.loafHold
    simp only [slotOf_single, Syl.slot, ho]
    simp only [State.memHold, hf, hsb]
    simp [hat]
  have hodd : s.sylDraws h.seq (.mem op h.rsv d a sg imm) = 0 := by
    have : s.memOdd h.seq (s.seq h.seq).arch [.mem op h.rsv d a sg imm] = false := by
      simp only [State.memOdd, slotOf_single, Syl.slot, if_true, State.memRef, ha]; rfl
    simp [State.sylDraws, this, loafDraws, Syl.setsRs, Syl.loose]
  generalize hx : memAccess (s.seq h.seq).arch (s.ovenOf h.seq) op d a sg imm = x at *
  have hxo : x.op = op := by rw [← hx]; rfl
  have hxp : x.isPld = false := by rw [← hx]; rfl
  have hxt : ∀ d k, x.tgt ≠ .remote d k := by rw [← hx]; exact segTarget_local hr _
  generalize hy : (Syl.mem op h.rsv d a sg imm) = y at *
  have hym : y.isMem = true := by rw [← hy]; rfl
  have h2 := (Syl.isMem_slot hym).1
  have hsend : ∀ q : Seq, (s.setSeq h.seq q).accessSend h.seq (s.seq h.seq).nextId x =
      ({ s with vm := { s.vm with atomQ := s.vm.atomQ ++ [memAtom s h.seq x (s.seq h.seq).nextId] } } : State).setSeq h.seq
        (q.markAccess (s.seq h.seq).nextId true false) := by
    intro q
    have hin : (s.setSeq h.seq q).atomAdmit (memAtom s h.seq x (s.seq h.seq).nextId) =
        (({ s with vm := { s.vm with atomQ := s.vm.atomQ ++ [memAtom s h.seq x (s.seq h.seq).nextId] } } : State).setSeq h.seq q, true) := by
      unfold State.atomAdmit
      rw [if_pos (by simpa [memAtom] using hu)]
      rfl
    unfold State.accessSend
    cases ht : x.tgt with
    | remote d k => exact absurd ht (hxt d k)
    | _ =>
      simp only [hxo, hat, hxp, Bool.not_false, Bool.and_self, if_true]
      have hm : ({ unit := (s.setSeq h.seq q).atomUnitOf x.addr, addr := x.addr, size := x.size, op := x.atomOp, ety := 0, aty := 0, v := if op = .acasD then x.data2 else x.data, psn := false, src := .scalar h.seq (s.seq h.seq).nextId, lease := 100 + h.seq.val, world := x.world } : AtomEl)
          = memAtom s h.seq x (s.seq h.seq).nextId := by
        unfold memAtom; rw [hxo]; rfl
      rw [hm, hin]
      simp only [State.setSeq_setSeq, State.seq_setSeq_self]
  have hrm : (s.atMem h.seq y).runMem h.seq (s.seq h.seq).arch none [y] =
      ({ s with vm := { s.vm with atomQ := s.vm.atomQ ++ [memAtom s h.seq x (s.seq h.seq).nextId] } } : State).setSeq h.seq
      { (s.seq h.seq).past with
        asm := []
        waiting := [[y]]
        spec := [⟨(s.seq h.seq).nextId, (s.seq h.seq).arch, (s.seq h.seq).arch.pc, 0, .access x none true false⟩]
        nextId := (s.seq h.seq).nextId + 1 } := by
    unfold State.runMem
    rw [slotOf_single, if_pos h2]
    simp only [memDo_atMem, he, seq_atMem]
    have : ∀ q : Seq, (s.atMem h.seq y).setSeq h.seq q = s.setSeq h.seq q := by intro q; simp [State.atMem]
    rw [this]
    rw [show ((s.seq h.seq).past).nextId = (s.seq h.seq).nextId from rfl, hsend]
    congr 1
    simp [Seq.markAccess, Seq.past, hl.ready.spec]
  have hfe := hl.mem_fetch a sg imm hk
  have hoe := hl.mem_own a sg imm hk hc
  rw [hy] at hfe hoe
  rw [hl.stop, syllable_mem s h.seq y hl.ready hym hfe hoe hh _ rfl, hrm, hodd]
  have e1 := hl.ready.asm; have e2 := hl.ready.waiting; have e3 := hl.ready.tail
  have hfin : ({ (s.seq h.seq).past with
        asm := []
        waiting := []
        spec := [⟨(s.seq h.seq).nextId, (s.seq h.seq).arch, (s.seq h.seq).arch.pc, 1, .access x none true false⟩]
        nextId := (s.seq h.seq).nextId + 1 } : Seq) = { (s.seq h.seq).past with
        spec := [⟨(s.seq h.seq).nextId, (s.seq h.seq).arch, (s.seq h.seq).arch.pc, 1, .access x none true false⟩]
        nextId := (s.seq h.seq).nextId + 1 } := by
    unfold Seq.past
    generalize s.seq h.seq = q at *
    cases q; simp_all
  have hdone : ∀ (u : State) (q : Seq) (r : SpecRec), q.spec = [r] →
      (({ u.setSeq h.seq q with freeCtr := (u.setSeq h.seq q).freeCtr + 0 } : State).loafDone h.seq 1) =
        u.setSeq h.seq { q with spec := [{ r with loafs := r.loafs + 1 }] } := by
    intro u q r hs
    unfold State.loafDone
    simp [State.seq, State.setSeq, hs]
  simp only
  rw [hdone _ _ _ rfl]
  simp only [State.seq_setSeq_self, State.setSeq_setSeq, List.drop_one, List.tail_cons]
  rw [hfin, pumpN_of_none]
  apply pumpOne_idle
  · simpa [Seq.past] using e2
  · simpa [Seq.past] using e3
  · unfold State.failTake; simp

end Sys2Proof.Machine
end

