-- ==== Sys2Proof/Laws/LoafBranch.lean ====
section
/-! SUPPORT. Sys2Proof/Laws/LoafBranch.lean: a branch Loaf of one syllable that executes (R238, R239). -/
namespace Sys2Proof.Machine

/-- A sequencer whose branch Loaf has executed and whose delay Loaf comes next (R238, R239): `a` holds its registers, `b`
the branch target buffer. -/
def Seq.branched (q : Seq) (y : Syl) (a : Arch) (tgt : Option (BitVec 19)) (b : List BtbEntry) : Seq :=
  { q with arch := a, gateEntered := false, btb := b, delayOf := some q.nextId, nextId := q.nextId + 1,
           spec := [⟨q.nextId, q.arch, q.arch.pc, 1, .pair [y] [] (.known tgt) false⟩] }

theorem Syl.delayed_slot {y : Syl} (h : y.delayed = true) : y.slot = 3 ∧ y.last = false ∧ y.isDiv = false := by
  revert h; cases y <;> simp [Syl.last, Syl.slot, Syl.delayed, Syl.isDiv]

theorem brDecide_known (s : State) (n : Fin 9) (y : Syl) (h : y.delayed = true) (hs : (s.seq n).spec = []) (ho : (s.seq n).outs = []) :
    s.brDecide n [y] = some (.known (brTarget (s.seq n).arch [y])) := by
  have h3 := (Syl.delayed_slot h).1
  have hp : (s.seq n).pendG (s.seq n).nextId = [] := by simp [Seq.pendG, hs, ho]
  unfold State.brDecide
  simp only [slotOf_single, if_pos h3, hp, hs]
  cases y.brReg <;> simp

theorem btbUpdate_eq (s : State) (n : Fin 9) (a : Arch) (k : BtbKind) (t : Option (BitVec 19)) :
    ∃ b, s.btbUpdate n a k t = s.setSeq n { s.seq n with btb := b } := by
  unfold State.btbUpdate
  simp only
  split
  · exact ⟨_, rfl⟩
  · split
    · exact ⟨_, rfl⟩
    · exact ⟨(s.seq n).btb, (State.setSeq_seq s n).symm⟩

/-- A branch Loaf of one syllable executes; its delay Loaf comes next. -/
theorem syllable_branch (s : State) (n : Fin 9) (y : Syl) (hr : SeqReady s n) (hy : y.delayed = true)
    (hf : s.fetchCause n (s.seq n).arch [y] false = none)
    (ho : (s.queued n y).ownCause n (s.seq n).arch [y] = none) :
    ∃ b, s.syllable n y true = s.setSeq n ((s.seq n).branched y (s.loafRegs n (s.seq n).arch [y]) (brTarget (s.seq n).arch [y]) b) := by
  obtain ⟨h3, hlast, hdiv⟩ := Syl.delayed_slot hy
  have h2 : y.slot ≠ 2 := by omega
  have h7 : y.slot ≠ 7 := by omega
  have ha : ((s.queued n y).seq n).arch = (s.seq n).arch := by simp [State.queued]
  have hsp : ((s.queued n y).seq n).spec = [] := by simp [State.queued, hr.spec]
  have hou : ((s.queued n y).seq n).outs = [] := by simp [State.queued, hr.outs]
  have hpa : ((s.queued n y).seq n).pairAt = none := by
    apply pairAt_none; simp [State.queued, hr.delayOf]
  have hhold : (s.queued n y).loafHold n (s.seq n).arch none [y] = false := by
    unfold State.loafHold
    simp only [slotOf_single, if_neg h2, if_neg h7, if_pos h3, hlast]
    simp
  have ht := tryLoaf_queued s n y hr hf ho (regHold_queued s n y _ hr.spec hr.outs) hhold hdiv
  have hdraw : loafDraws (s.seq n).arch [y] = 0 := by
    revert hy; cases y <;> simp [Syl.delayed, loafDraws, Syl.setsRs, Syl.loose]
  let q1 : Seq := { s.seq n with
    asm := []
    waiting := [[y]]
    nextId := (s.seq n).nextId + 1
    arch := s.loafRegs n (s.seq n).arch [y]
    gateEntered := false
    spec := [⟨(s.seq n).nextId, (s.seq n).arch, (s.seq n).arch.pc, 1, .pair [y] [] (.known (brTarget (s.seq n).arch [y])) false⟩] }
  have hrun : ∀ r : SpecRec, (((s.queued n y).setSeq n { (s.queued n y).seq n with spec := [r], nextId := (s.seq n).nextId + 1 }).runLoaf n
      (some (s.seq n).nextId) [y]) = s.setSeq n { s.seq n with
        asm := []
        waiting := [[y]]
        nextId := (s.seq n).nextId + 1
        arch := s.loafRegs n (s.seq n).arch [y]
        gateEntered := false
        spec := [r] } := by
    intro r
    have hm : ∀ (u : State) (a : Arch) (p : Option Nat), u.runMem n a p [y] = u := by
      intro u a p; unfold State.runMem; rw [slotOf_single, if_neg h2]
    have hodd : ∀ (u : State) (a : Arch), u.memOdd n a [y] = false := by
      intro u a; unfold State.memOdd; rw [slotOf_single, if_neg h2]
    have hlr : ∀ (u : State), u.loafRegs n (s.seq n).arch [y] = s.loafRegs n (s.seq n).arch [y] := by
      intro u
      revert hy; cases y <;> simp [Syl.delayed, State.loafRegs, State.sylStack, State.sylRegs, Syl.setsRs]
    obtain ⟨L, hL⟩ : ∃ L, ∀ (u : State), u.loafRegs n (s.seq n).arch [y] = L := ⟨_, hlr⟩
    unfold State.runLoaf
    simp only [hm, hodd, runVec_none _ n _ y h7, State.seq_setSeq_self, ha, hdraw, hL]
    simp only [State.queued, State.seq_setSeq_self, State.setSeq_setSeq]
    rfl
  have hbr : ∃ b, (s.queued n y).runBranch n [y] (.known (brTarget (s.seq n).arch [y])) =
      s.setSeq n { q1 with btb := b, delayOf := some (s.seq n).nextId } := by
    have hid : ((s.queued n y).seq n).nextId = (s.seq n).nextId := by simp [State.queued]
    unfold State.runBranch
    simp only [hid, hsp, List.nil_append]
    rw [hrun]
    simp only [ha]
    cases hk : brKind [y] with
    | none =>
      refine ⟨(s.seq n).btb, ?_⟩
      simp [q1]
    | some k =>
      obtain ⟨b, hb⟩ := btbUpdate_eq (s.setSeq n q1) n (s.seq n).arch k (brTarget (s.seq n).arch [y])
      refine ⟨b, ?_⟩
      simp only [q1] at hb
      simp only [hb]
      simp [q1]
  obtain ⟨b, hb⟩ := hbr
  refine ⟨b, ?_⟩
  have he : (s.queued n y).execLoaf n [y] = some (s.setSeq n { q1 with btb := b, delayOf := some (s.seq n).nextId }) := by
    unfold State.execLoaf
    simp only [hpa, slotOf_single, if_pos h3, hy, if_true, brDecide_known _ n y hy hsp hou, ha, Option.map_some, hb]
  rw [he, Option.map_some] at ht
  rw [syllable_stop s n y hr, pump_queued s n y hr _ ht]
  have hfin : ({ q1 with btb := b, delayOf := some (s.seq n).nextId, waiting := [] } : Seq)
      = (s.seq n).branched y (s.loafRegs n (s.seq n).arch [y]) (brTarget (s.seq n).arch [y]) b := by
    have a1 := hr.asm; have a2 := hr.waiting
    simp only [q1, Seq.branched]
    generalize s.loafRegs n (s.seq n).arch [y] = aa
    generalize s.seq n = q at *
    cases q; simp_all
  simp only [State.seq_setSeq_self, State.setSeq_setSeq]
  show pumpN 5 (s.setSeq n { q1 with btb := b, delayOf := some (s.seq n).nextId, waiting := [] }) n = _
  rw [hfin]
  apply pumpN_of_none
  apply pumpOne_idle
  · simpa [Seq.branched] using hr.waiting
  · simpa [Seq.branched] using hr.tail
  · unfold State.failTake; simp [Seq.branched]
end Sys2Proof.Machine
end

