-- ==== Sys2Proof/Laws/LoafDivide.lean ====
section
/-! SUPPORT. Sys2Proof/Laws/LoafDivide.lean: divides (R229, R230): a Loaf that is held until its DIVIDE_DONE. -/
namespace Sys2Proof.Machine

/-- What executing a register syllable's Loaf leaves. -/
theorem execLoaf_reg (s : State) (n : Fin 9) (y : Syl) (hq : y.regOnly = true) (hdel : (s.seq n).delayOf = none) (hs : (s.seq n).spec = []) :
    s.execLoaf n [y] = some
      (({ s with freeCtr := s.freeCtr + loafDraws (s.seq n).arch [y] }.setSeq n
        { s.seq n with arch := s.loafRegs n (s.seq n).arch [y], gateEntered := false }).loafCount n 1) := by
  have hslot := Syl.regOnly_slot hq
  have h3 : y.slot ≠ 3 := by omega
  have h7 : y.slot ≠ 7 := by omega
  have he : s.execLoaf n [y] = some ((s.runLoaf n none [y]).loafDone n 1) := by
    unfold State.execLoaf
    simp only [pairAt_none hdel, slotOf_single, if_neg h3]
  have hrun : s.runLoaf n none [y] =
      { s with freeCtr := s.freeCtr + loafDraws (s.seq n).arch [y] }.setSeq n
        { s.seq n with arch := s.loafRegs n (s.seq n).arch [y], gateEntered := false } := by
    unfold State.runLoaf
    simp only [regOnly_memOdd _ n _ y hq, regOnly_runMem _ n _ y hq, runVec_none _ n _ y h7]
    simp [State.setSeq, State.seq]
  rw [he, hrun, loafDone_nil _ _ _ (by simp [hs])]

/-- R230: a divide's Loaf that nothing faults is held until its DIVIDE_DONE. -/
theorem syllable_div (s : State) (n : Fin 9) (y : Syl) (hr : SeqReady s n) (hq : y.regOnly = true) (hd : y.isDiv = true)
    (hf : s.fetchCause n (s.seq n).arch [y] false = none) (hz : divCause (s.seq n).arch [y] = none) :
    s.syllable n y true = s.setSeq n { s.seq n with div := some [y] } := by
  have hslot := Syl.regOnly_slot hq
  have h3 : y.slot ≠ 3 := by omega
  have h7 : y.slot ≠ 7 := by omega
  have hp : s.loafPriv n (s.seq n).arch [y] = none := by
    revert hd; cases y <;> simp [Syl.isDiv, State.loafPriv, State.memPriv]
  have ho : (s.queued n y).ownCause n (s.seq n).arch [y] = none :=
    ownCause_queued_plain s n y _ hr.vec h3 h7 (regOnly_dataEcc s n _ y hq) hp (regOnly_segCause s n _ y hq) hz
  have hnd : y.delayed = false := by revert hq; cases y <;> simp [Syl.regOnly, Syl.delayed]
  have hpa : ((s.queued n y).seq n).pairAt = none := by
    apply pairAt_none; simp [State.queued, hr.delayOf]
  have ha : ((s.queued n y).seq n).arch = (s.seq n).arch := by simp [State.queued]
  have hf' : (s.queued n y).fetchCause n (s.seq n).arch [y] false = none := hf
  have ht : (s.queued n y).tryLoaf n [y] = some (s.setSeq n { s.seq n with div := some [y] }) := by
    unfold State.tryLoaf
    simp only [boundary_queued s n y hr, hpa, Option.map_none]
    unfold State.tryLoaf.rest
    simp only [ha, Option.isSome_none, hf', regHold_queued s n y _ hr.spec hr.outs, ho, State.pairStores,
      regOnly_loafHold _ n _ y hq]
    simp only [List.any_cons, List.any_nil, hd, hnd]
    have e1 := hr.asm; have e2 := hr.waiting
    simp [State.queued, State.setSeq, State.seq] at e1 e2 ⊢
    simp [← e1, ← e2]
  rw [syllable_stop s n y hr, pump_queued s n y hr _ ht, pumpN_of_none]
  unfold State.pumpOne
  rw [failTake_nil _ _ (by simp [hr.spec])]
  simp [hr.tail]

/-- DIVIDE_DONE: a divide's Loaf that was held takes effect and retires. -/
theorem divideDone_retired (s : State) (n : Fin 9) (y : Syl) (hq : y.regOnly = true)
    (hy : (s.seq n).div = some [y]) (hr : SeqReady (s.setSeq n { s.seq n with div := none }) n) :
    Retired s (s.divideDone n) n
      { s.seq n with div := none, arch := s.loafRegs n (s.seq n).arch [y], gateEntered := false } := by
  have hw := hr.waiting
  have hsp := hr.spec
  have htl := hr.tail
  have hdl := hr.delayOf
  simp only [State.seq_setSeq_self] at hw hsp htl hdl
  have hrun : s.seqRuns n = true := hr.runs
  unfold State.divideDone
  simp only [hy, hrun, Bool.not_true, if_false, Bool.false_eq_true]
  rw [execLoaf_reg _ n y hq (by simpa using hdl) (by simpa using hsp)]
  simp only [State.seq_setSeq_self]
  have hl : (s.setSeq n { s.seq n with div := none }).loafRegs n (s.seq n).arch [y] = s.loafRegs n (s.seq n).arch [y] := by
    have : (s.setSeq n { s.seq n with div := none }).sylRegs n (s.seq n).arch (s.seq n).arch y = s.sylRegs n (s.seq n).arch (s.seq n).arch y := by
      cases y <;> try rfl
      simp only [State.sylRegs, State.mfs, State.seq_setSeq_self]
      rfl
    unfold State.loafRegs
    simp only [List.foldl, this]
    rfl
  rw [hl]
  have hcut : ∀ t : State, t.pumpOne n = none → t.pump n = t := fun t h => pumpN_of_none _ t n h
  rw [hcut _ (pumpOne_idle _ n (by simpa using hw) (by simpa using htl) (failTake_nil _ _ (by simpa using hsp)))]
  have := retired_count s n (loafDraws (s.seq n).arch [y])
    { s.seq n with div := none, arch := s.loafRegs n (s.seq n).arch [y], gateEntered := false }
  have e : ({ (s.setSeq n { s.seq n with div := none }) with freeCtr := (s.setSeq n { s.seq n with div := none }).freeCtr + loafDraws (s.seq n).arch [y] } : State).setSeq n
      { s.seq n with div := none, arch := s.loafRegs n (s.seq n).arch [y], gateEntered := false }
      = ({ s with freeCtr := s.freeCtr + loafDraws (s.seq n).arch [y] } : State).setSeq n
      { s.seq n with div := none, arch := s.loafRegs n (s.seq n).arch [y], gateEntered := false } := by
    simp [State.setSeq]
  rw [e]
  exact this
end Sys2Proof.Machine
end

