-- ==== Sys2Proof/Laws/LoafReturn.lean ====
section
/-! SUPPORT. Sys2Proof/Laws/LoafReturn.lean: a scalar access returns (R271), and a buffered store leaves the buffer (R194). -/
namespace Sys2Proof.Machine

theorem pump_idle (s : State) (n : Fin 9) (hw : (s.seq n).waiting = []) (ht : (s.seq n).tail = none) (hs : (s.seq n).spec = []) :
    s.pump n = s := by
  unfold State.pump
  exact pumpN_of_none _ _ _ (pumpOne_idle s n hw ht (failTake_nil s n hs))

/-- The one open access returns: its value reaches the registers, and its Loafs retire. -/
theorem accessDone_single (s : State) (n : Fin 9) (id : Nat) (ck : Arch) (lp : BitVec 19) (k : Nat) (x : Access) (sent : Bool) (v : Nat)
    (hsp : (s.seq n).spec = [⟨id, ck, lp, k, .access x none sent false⟩]) (hm : x.misaligned = false)
    (hw : (s.seq n).waiting = []) (ht : (s.seq n).tail = none) (ho : (s.seq n).outs = []) :
    s.accessDone n id x v =
      (s.setSeq n { s.seq n with arch := (s.seq n).arch.loaded x v, spec := [] }).loafCount n k := by
  have h1 : (s.seq n).segTouch x = s.seq n := by
    unfold Seq.segTouch
    simp only [ho, List.map_nil]
    split
    · generalize s.seq n = q at *; cases q; simp_all
    · rfl
  have h2 : (s.seq n).loadedAt id x v = { s.seq n with arch := (s.seq n).arch.loaded x v } := by
    unfold Seq.loadedAt
    simp only [h1, hsp, List.map_cons, List.map_nil, Nat.lt_irrefl, if_false]
  have h3 : (s.setSeq n { s.seq n with arch := (s.seq n).arch.loaded x v }).closeRec n id =
      (s.setSeq n { s.seq n with arch := (s.seq n).arch.loaded x v, spec := [] }).loafCount n k := by
    unfold State.closeRec
    simp only [State.seq_setSeq_self, hsp, List.find?_cons, beq_self_eq_true]
    simp [Seq.vecResolve, ho]
  have h4 : ∀ t : State, (t.seq n).spec = [] → t.pairSettle n = t := by
    intro t h; unfold State.pairSettle; rw [h]; rfl
  unfold State.accessDone
  simp only [hm, Bool.false_eq_true, if_false, h2, h3]
  rw [h4 _ (by simp), pump_idle]
  · simpa using hw
  · simpa using ht
  · simp

/-- The oldest buffered store has been performed. -/
theorem sbPop_ok (s : State) (n : Fin 9) (e : SbEntry) (rest : List SbEntry) (h : (s.seq n).sb = e :: rest)
    (hw : (s.seq n).waiting = []) (ht : (s.seq n).tail = none) (hs : (s.seq n).spec = []) :
    s.sbPop n false = s.setSeq n { s.seq n with sb := rest } := by
  unfold State.sbPop
  simp only [h]
  rw [pump_idle]
  · rfl
  · simpa using hw
  · simpa using ht
  · simpa using hs

/-! ### Clean Granules -/

theorem touch_vm (s : State) (g : Nat) (w : Bool) :
    ∃ v, s.touch g w = { s with vm := v } ∧ v.bytes = s.vm.bytes ∧ v.cls = s.vm.cls := by
  unfold State.touch
  split <;> exact ⟨_, rfl, rfl, rfl⟩

/-- Clean Granules are read without an event. -/
theorem readGranules_clean (k : RdKind) (gs : List Nat) (s : State) (h : ∀ g ∈ gs, s.gcls g = .clean) :
    ∃ v, s.readGranules k gs = ({ s with vm := v }, false) ∧ v.bytes = s.vm.bytes ∧ v.cls = s.vm.cls := by
  unfold State.readGranules
  induction gs generalizing s with
  | nil => exact ⟨s.vm, rfl, rfl, rfl⟩
  | cons g gs ih =>
    obtain ⟨v, hv, hb, hc⟩ := touch_vm s g false
    have hg : s.readGranule k g = ({ s with vm := v }, false) := by
      unfold State.readGranule
      have : (s.touch g false).gcls g = .clean := by
        rw [hv]; show mget _ v.cls g = _; rw [hc]; exact h g (by simp)
      simp only [this]
      rw [hv]
    obtain ⟨v', hv', hb', hc'⟩ := ih { s with vm := v } (by
      intro x hx; show mget _ v.cls x = _; rw [hc]; exact h x (by simp [hx]))
    refine ⟨v', ?_, by rw [hb', hb], by rw [hc', hc]⟩
    rw [List.foldl_cons, hg]
    exact hv'

/-- Clean Granules are written without an event and stay clean. -/
theorem writeGranules_clean (a len : Nat) (gs : List Nat) (s : State) (h : ∀ g ∈ gs, s.gcls g = .clean) :
    ∃ v, s.writeGranules a len false gs = ({ s with vm := v }, false) ∧ v.bytes = s.vm.bytes ∧
      (∀ x, mget (fun _ => GClass.clean) v.cls x = s.gcls x) := by
  unfold State.writeGranules
  induction gs generalizing s with
  | nil => exact ⟨s.vm, rfl, rfl, fun _ => rfl⟩
  | cons g gs ih =>
    obtain ⟨v, hv, hb, hc⟩ := touch_vm s g true
    have hcl : s.gcls g = .clean := h g (by simp)
    have hg : ∀ w : Bool, ∃ u, s.writeGranule g w false = ({ s with vm := u }, false) ∧ u.bytes = s.vm.bytes ∧
        ∀ x, mget (fun _ => GClass.clean) u.cls x = s.gcls x := by
      intro w
      unfold State.writeGranule
      simp only [hv]
      have ht : ({ s with vm := v } : State).gcls g = .clean := by show mget _ v.cls g = _; rw [hc]; exact hcl
      have hput : ∀ x, mget (fun _ => GClass.clean) (mput (fun _ => GClass.clean) v.cls g .clean) x = s.gcls x := by
        intro x; rw [mget_mput]
        split
        · next e => rw [e]; exact hcl.symm
        · show mget _ v.cls x = _; rw [hc]; rfl
      cases w
      · simp only [ht, Bool.false_eq_true, if_false]
        exact ⟨_, rfl, hb, hput⟩
      · exact ⟨_, rfl, hb, hput⟩
    obtain ⟨u, hu, hub, huc⟩ := hg (decide (a ≤ g * 128) && decide (g * 128 + 128 ≤ a + len))
    obtain ⟨v', hv', hb', hc'⟩ := ih { s with vm := u } (by
      intro x hx; show mget _ u.cls x = _; rw [huc]; exact h x (by simp [hx]))
    refine ⟨v', ?_, by rw [hb', hub], fun x => by rw [hc' x]; exact huc x⟩
    rw [List.foldl_cons]
    simp only [hu]
    exact hv'

end Sys2Proof.Machine
end

