-- ==== Sys2Proof/Laws/LoafDelay.lean ====
section
/-! SUPPORT. Sys2Proof/Laws/LoafDelay.lean: a delay Loaf, and the retirement of its pair (R238, R239). -/
namespace Sys2Proof.Machine

theorem regOnly_hold (s : State) (n : Fin 9) (a : Arch) (own : Option Nat) (y : Syl) (h : y.regOnly = true) :
    s.loafHold n a own [y] = false := by
  have h3 : slotOf [y] 3 = none := by rw [slotOf_single, if_neg (by have := Syl.regOnly_slot h; omega)]
  have h7 : slotOf [y] 7 = none := by rw [slotOf_single, if_neg (by have := Syl.regOnly_slot h; omega)]
  unfold State.loafHold
  simp only [h3, h7, slotOf_single]
  revert h
  cases y <;> simp [Syl.regOnly, Syl.slot, bit01_ne_two, State.memHold]

theorem regOnly_mem (s : State) (n : Fin 9) (a : Arch) (own : Option Nat) (y : Syl) (h : y.regOnly = true) : s.runMem n a own [y] = s := by
  unfold State.runMem
  rw [slotOf_single]; revert h
  cases y <;> simp [Syl.regOnly, Syl.slot, bit01_ne_two, State.memDo]

/-- CYCLE apart, which MFS reads, no field of the sequencer is read by a syllable on registers. -/
theorem loafRegs_foldl (s : State) (n : Fin 9) (q : Seq) (a : Arch) (y : Syl) (h : y.regOnly = true)
    (hc : q.cycle = (s.seq n).cycle) :
    [y].foldl ((s.setSeq n q).sylRegs n a) a = [y].foldl (s.sylRegs n a) a := by
  simp only [List.foldl_cons, List.foldl_nil]
  revert h
  have ho : (s.setSeq n q).ovenOf n = s.ovenOf n := rfl
  cases y <;> simp [Syl.regOnly, State.sylRegs, State.mfs, State.fresh, ho, hc]

variable {s : State} {n : Fin 9} {br : Syl} {tgt : Option (BitVec 19)} {id : Nat} {ck : Arch} {lp : BitVec 19}

theorem DelayReady.pairAt (h : DelayReady s n br tgt id ck lp) : (s.seq n).pairAt = some (id, [br], [], .known tgt, ck) := by
  unfold Seq.pairAt
  simp [h.here, h.pair]

theorem pairSettle_nil (t : State) (n : Fin 9) (h : (t.seq n).spec = []) : t.pairSettle n = t := by
  unfold State.pairSettle; rw [h]; rfl

/-- The delay Loaf is done: the pair retires and the transfer takes place. -/
theorem delayEnd_known (t : State) (n : Fin 9) (delay : List Syl) (ckpt ck' : Arch) (lp : BitVec 19) (id k : Nat) (br : Syl)
    (tgt : Option (BitVec 19)) (e : Bool) (hsp : (t.seq n).spec = [⟨id, ck', lp, k, .pair [br] [] (.known tgt) false⟩])
    (ho : (t.seq n).outs = []) :
    t.delayEnd n id [br] delay (.known tgt) ckpt e =
      (t.setSeq n { t.seq n with
        arch := { (t.seq n).arch with pc := tgt.getD (t.seq n).arch.pc }
        delayOf := none
        spec := [] }).loafCount n k := by
  unfold State.delayEnd
  simp only [BrDecision.target, Bool.not_true, Bool.false_and, Bool.false_eq_true, if_false]
  unfold State.pairSettle
  simp [Seq.setPair, hsp, State.closeRec, Seq.vecResolve, ho]

theorem DelayReady.boundary (h : DelayReady s n br tgt id ck lp) (y : Syl) : (s.queued n y).boundary n = .clear := by
  unfold State.boundary
  simp [State.queued, Seq.atBoundary, h.pair]

/-- A delay Loaf of one syllable that works on registers alone. -/
theorem DelayReady.syllable (h : DelayReady s n br tgt id ck lp) (y : Syl) (hq : y.regOnly = true) (hd : y.isDiv = false)
    (hf : s.fetchCause n (s.seq n).arch [y] true = none) (hp : s.loafPriv n (s.seq n).arch [y] = none)
    (hann : annulled [br] (.known tgt) = false) :
    let a := (s.seq n).arch.pushFor [br] ((s.seq n).arch.pc + 4)
    s.syllable n y true = (({ s with freeCtr := s.freeCtr + loafDraws a [y] } : State).setSeq n { s.seq n with
      arch := { s.loafRegs n a [y] with pc := tgt.getD (s.loafRegs n a [y]).pc }
      gateEntered := false
      delayOf := none
      spec := [] }).loafCount n 2 := by
  intro a
  have hs := Syl.regOnly_slot hq
  have hsz : y.size = 4 := by unfold Syl.size; rw [if_neg (by omega)]
  have hqs : (s.queued n y).seq n = { s.seq n with asm := [], waiting := [[y]] } := by simp [State.queued]
  have hst : s.syllable n y true = (s.queued n y).pump n := by
    unfold State.syllable State.queued
    simp [h.runs, h.asm, h.waiting]
  have hpa : ((s.queued n y).seq n).pairAt = some (id, [br], [], .known tgt, ck) := by
    rw [hqs]; exact h.pairAt
  have harch : ((s.queued n y).seq n).arch = (s.seq n).arch := by rw [hqs]
  have hsp : ((s.queued n y).seq n).spec = [⟨id, ck, lp, 1, .pair [br] [] (.known tgt) false⟩] := by rw [hqs]; exact h.pair
  have hou : ((s.queued n y).seq n).outs = [] := by rw [hqs]; exact h.outs
  have hreg : (s.queued n y).regHold n (s.seq n).arch [y] = false := by
    have hv : ((s.queued n y).seq n).pendVd = [] := by simp [Seq.pendVd, hsp, SpecRec.acc]
    have hg : ((s.queued n y).seq n).pendSg = [] := by simp [Seq.pendSg, hsp, SpecRec.acc]
    have hpg : ((s.queued n y).seq n).pendG ((s.queued n y).seq n).nextId = [] := by
      simp [Seq.pendG, hsp, hou, SpecRec.acc]
    unfold State.regHold
    simp only [hv, hg, hpg]
    cases y <;> simp
  have hown : (s.queued n y).ownCause n (s.seq n).arch [y] = none :=
    ownCause_queued_plain s n y _ h.vec (by omega) (by omega) (regOnly_dataEcc _ _ _ _ hq) hp (regOnly_segCause _ _ _ _ hq)
      (regOnly_divCause _ _ hq hd)
  have hps : (s.queued n y).pairStores n (some id) [y] = s.queued n y := by
    have hset : ({ (s.queued n y).seq n with sb := ((s.queued n y).seq n).sb ++ ((s.queued n y).seq n).heldStores (some id) } : Seq).setPair id
        (fun br _ d ran => .pair br [] d ran) = (s.queued n y).seq n := by
      unfold Seq.setPair Seq.heldStores
      simp only [hsp, List.map_cons, List.map_nil, List.flatMap_cons, List.flatMap_nil, if_true, List.append_nil, beq_self_eq_true]
      generalize (s.queued n y).seq n = q at *
      cases q; simp_all
    unfold State.pairStores
    simp only [hset, State.setSeq_seq, ite_self]
  have hhold : (s.queued n y).loafHold n (s.seq n).arch (some id) [y] = false := regOnly_hold _ _ _ _ _ hq
  have hex : (s.queued n y).execLoaf n [y] = some
      ((({ s with freeCtr := s.freeCtr + loafDraws a [y] } : State).setSeq n { s.seq n with
        arch := { s.loafRegs n a [y] with pc := tgt.getD (s.loafRegs n a [y]).pc }
        waiting := [[y]]
        gateEntered := false
        delayOf := none
        spec := [] }).loafCount n 2) := by
    unfold State.execLoaf
    simp only [hpa]
    have : a = ((s.queued n y).seq n).arch.pushFor [br] (((s.queued n y).seq n).arch.pc + BitVec.ofNat 19 (loafSize [y])) := by
      rw [loafSize_single, hsz, harch]; rfl
    rw [← this]
    have hrun : ∀ q : Seq, q.arch = a → q.cycle = (s.seq n).cycle → ((s.queued n y).setSeq n q).runLoaf n (some id) [y] =
        ({ s with freeCtr := s.freeCtr + loafDraws a [y] } : State).setSeq n { q with arch := s.loafRegs n a [y], gateEntered := false } := by
      intro q hqa hqc
      have hlr : ((s.queued n y).setSeq n q).loafRegs n a [y] = s.loafRegs n a [y] := by
        have e : ((s.queued n y).setSeq n q) = s.setSeq n q := by simp [State.queued]
        rw [e]
        unfold State.loafRegs
        rw [loafRegs_foldl s n q a y hq hqc]
        rfl
      unfold State.runLoaf
      simp only [State.seq_setSeq_self, hqa, regOnly_memOdd _ n _ y hq, hlr, regOnly_mem _ n _ _ y hq, runVec_none _ n _ y (show y.slot ≠ 7 by omega)]
      simp [State.setSeq, State.queued]
    rw [hrun _ rfl (by rw [hqs])]
    have hdone : ∀ (u : State) (q : Seq), q.spec = [⟨id, ck, lp, 1, .pair [br] [] (.known tgt) false⟩] →
        (u.setSeq n q).loafDone n 1 = u.setSeq n { q with spec := [⟨id, ck, lp, 2, .pair [br] [] (.known tgt) false⟩] } := by
      intro u q hq'
      unfold State.loafDone
      simp [hq']
    rw [hdone]
    rotate_left
    · exact hsp
    rw [delayEnd_known _ n [y] ck ck lp id 2 br tgt true (by simp) (by simpa using hou)]
    simp only [State.seq_setSeq_self, State.setSeq_setSeq, hqs]
    have e1 := h.asm
    congr 3
    generalize s.seq n = q at *
    cases q; simp_all
  have htry : (s.queued n y).tryLoaf n [y] = some
      ((({ s with freeCtr := s.freeCtr + loafDraws a [y] } : State).setSeq n { s.seq n with
        arch := { s.loafRegs n a [y] with pc := tgt.getD (s.loafRegs n a [y]).pc }
        gateEntered := false
        delayOf := none
        spec := [] }).loafCount n 2) := by
    unfold State.tryLoaf
    simp only [h.boundary y, hpa, hann, Bool.false_eq_true, if_false]
    unfold State.tryLoaf.rest
    have hf' : (s.queued n y).fetchCause n (s.seq n).arch [y] true = none := hf
    simp only [harch, Option.isSome_some, hf', hreg, hown, hps, hhold, hex]
    simp only [List.any_cons, List.any_nil, hd, Bool.or_self, Bool.false_and, Bool.false_eq_true, if_false, Option.map_some, seq_loafCount,
      State.seq_setSeq_self, setSeq_loafCount, State.setSeq_setSeq]
    have e2 := h.waiting
    congr 3
    generalize s.seq n = q at *
    cases q; simp_all
  rw [hst]
  unfold State.pump
  rw [show ((s.queued n y).seq n).waiting = [[y]] by rw [hqs]]
  show pumpN 6 _ n = _
  have hone : (s.queued n y).pumpOne n = (s.queued n y).tryLoaf n [y] := by
    have hft : (s.queued n y).failTake n = none := by
      unfold State.failTake
      simp [hsp]
    unfold State.pumpOne
    have hrun : (s.queued n y).seqRuns n = true := h.runs
    simp only [hrun, hft, hqs, h.tail, h.div]
    simp
  rw [pumpN, hone, htry]
  apply pumpN_of_none
  apply pumpOne_idle
  · simpa using h.waiting
  · simpa using h.tail
  · exact failTake_nil _ _ (by simp)

/-- An annulled delay Loaf has no effect. -/
theorem DelayReady.annulled (h : DelayReady s n br tgt id ck lp) (y : Syl) (hann : Machine.annulled [br] (.known tgt) = true)
    (h4 : y.size = 4) :
    s.syllable n y true = (s.setSeq n { s.seq n with
      arch := { (s.seq n).arch with pc := (s.seq n).arch.pc + 4 }
      delayOf := none
      spec := [] }).loafCount n 1 := by
  have hqs : (s.queued n y).seq n = { s.seq n with asm := [], waiting := [[y]] } := by simp [State.queued]
  have hst : s.syllable n y true = (s.queued n y).pump n := by
    unfold State.syllable State.queued
    simp [h.runs, h.asm, h.waiting]
  have hpa : ((s.queued n y).seq n).pairAt = some (id, [br], [], .known tgt, ck) := by
    rw [hqs]; exact h.pairAt
  have hsp : ((s.queued n y).seq n).spec = [⟨id, ck, lp, 1, .pair [br] [] (.known tgt) false⟩] := by rw [hqs]; exact h.pair
  have hnone : tgt = none := by
    cases tgt with
    | none => rfl
    | some t => simp [Machine.annulled, BrDecision.target] at hann
  subst hnone
  have htry : (s.queued n y).tryLoaf n [y] = some ((s.setSeq n { s.seq n with
      arch := { (s.seq n).arch with pc := (s.seq n).arch.pc + 4 }
      delayOf := none
      spec := [] }).loafCount n 1) := by
    unfold State.tryLoaf
    simp only [h.boundary y, hpa, hann, if_true, loafSize_single, h4, State.seq_setSeq_self, State.setSeq_setSeq]
    rw [delayEnd_known _ n [y] ck ck lp id 1 br none false (by simpa using hsp) (by simpa [State.queued] using h.outs)]
    congr 2
    simp only [State.seq_setSeq_self, State.setSeq_setSeq]
    have e1 := h.asm; have e2 := h.waiting
    have e3 : ∀ q : Seq, (s.queued n y).setSeq n q = s.setSeq n q := by intro q; simp [State.queued]
    rw [e3]
    congr 1
    simp only [hqs]
    generalize s.seq n = q at *
    cases q; simp_all
  rw [hst]
  unfold State.pump
  rw [show ((s.queued n y).seq n).waiting = [[y]] by rw [hqs]]
  show pumpN 6 _ n = _
  have hone : (s.queued n y).pumpOne n = (s.queued n y).tryLoaf n [y] := by
    have hft : (s.queued n y).failTake n = none := by
      unfold State.failTake
      simp [hsp]
    unfold State.pumpOne
    have hrun : (s.queued n y).seqRuns n = true := h.runs
    simp only [hrun, hft, hqs, h.tail, h.div]
    simp
  rw [pumpN, hone, htry]
  apply pumpN_of_none
  apply pumpOne_idle
  · simpa using h.waiting
  · simpa using h.tail
  · exact failTake_nil _ _ (by simp)

end Sys2Proof.Machine
end

