-- ==== Sys2Proof/Laws/LoafScalar.lean ====
section
/-! SUPPORT. Sys2Proof/Laws/LoafScalar.lean: a Loaf of one A, B or M syllable that works on registers alone (R223). -/
namespace Sys2Proof.Machine

theorem LoafAt.reg_retired {s : State} {h : SylHdr} (hl : LoafAt s h) (y : Syl) (hq : y.regOnly = true) (hd : y.isDiv = false)
    (hb : y.bad = false) (hdn : y.dests (s.seq h.seq).arch.vd = [] ∨ ∃ d, y.dests (s.seq h.seq).arch.vd = [d])
    (hp : s.loafPriv h.seq (s.seq h.seq).arch [y] = none) (a : Arch)
    (ha : s.sylRegs h.seq (s.seq h.seq).arch (s.seq h.seq).arch y = a) :
    Retired s (s.after (s.syllable h.seq y h.stop)) h.seq
      { s.seq h.seq with arch := { a with pc := (s.seq h.seq).arch.pc + 4 }, gateEntered := false } := by
  have hr := syllable_reg_retired s h y hl.ready hl.fetch hq hd hb hdn hp
  rw [hl.stop]
  have hs := Syl.regOnly_slot hq
  have hsz : y.size = 4 := by unfold Syl.size; rw [if_neg (by omega)]
  have e : s.loafRegs h.seq (s.seq h.seq).arch [y] = { a with pc := (s.seq h.seq).arch.pc + 4 } := by
    unfold State.loafRegs
    rw [loafSize_single, hsz]
    simp only [List.foldl_cons, List.foldl_nil, ha]
    have hn : ([y].any Syl.setsRs && [y].any Syl.usesRs) = false := by
      revert hq; cases y <;> simp [Syl.regOnly, Syl.usesRs]
    unfold State.sylStack
    have h3 : y.slot ≠ 3 := by rcases hs with e | e | e <;> rw [e] <;> decide
    rw [slotOf_single, hn, if_neg h3]
    rfl
  rw [← e]
  have : s.after (s.syllable h.seq y true) = s.syllable h.seq y true := by
    have := hr.rest
    rw [this]; rfl
  rw [this]; exact hr

theorem alu_retired {s : State} {h : SylHdr} (hl : LoafAt s h) (op : AluOp) (w : Bool) (d a b : Fin 64) (hd : op.isDiv = false)
    (hB : op.bOnly = true → h.slotB = true) (hc : op = .clz ∨ op = .popc → b = 0) (hw : op = .mulhs ∨ op = .mulhu → w = false) :
    Retired s (s.after (s.syllable h.seq (.alu op h.slotB h.rsv w d a b) h.stop)) h.seq
      { s.seq h.seq with
        arch := { (s.seq h.seq).arch.setReg d (op.run w ((s.seq h.seq).arch.reg a) ((s.seq h.seq).arch.reg b)) with
                    pc := (s.seq h.seq).arch.pc + 4 }
        gateEntered := false } := by
  apply hl.reg_retired _ rfl (by simpa [Syl.isDiv] using hd) _ (.inr ⟨d, rfl⟩) rfl _ rfl
  simp only [Syl.bad, hl.rsv, Bool.false_or, Bool.or_eq_false_iff, Bool.and_eq_false_imp, Bool.or_eq_true, beq_iff_eq, bne_eq_false_iff_eq, Bool.not_eq_false']
  exact ⟨⟨hB, hc⟩, hw⟩

theorem alui_retired {s : State} {h : SylHdr} (hl : LoafAt s h) (op : AluImmOp) (d a : Fin 64) (i : BitVec 10)
    (hi : op = .shli ∨ op = .shri ∨ op = .srai → i.toNat < 64) :
    Retired s (s.after (s.syllable h.seq (.alui op h.slotB h.rsv d a i) h.stop)) h.seq
      { s.seq h.seq with
        arch := { (s.seq h.seq).arch.setReg d (op.run ((s.seq h.seq).arch.reg a) i) with pc := (s.seq h.seq).arch.pc + 4 }
        gateEntered := false } := by
  apply hl.reg_retired _ rfl rfl _ (.inr ⟨d, rfl⟩) rfl _ rfl
  simp only [Syl.bad, hl.rsv, Bool.false_or, Bool.and_eq_false_imp, Bool.or_eq_true, beq_iff_eq, decide_eq_false_iff_not, not_le]
  intro h1; exact hi (by tauto)

theorem movi_retired {s : State} {h : SylHdr} (hl : LoafAt s h) (d : Fin 64) (i : BitVec 16) :
    Retired s (s.after (s.syllable h.seq (.movi h.slotB h.rsv d i) h.stop)) h.seq
      { s.seq h.seq with
        arch := { (s.seq h.seq).arch.setReg d (i.signExtend 64) with pc := (s.seq h.seq).arch.pc + 4 }
        gateEntered := false } :=
  hl.reg_retired _ rfl rfl (by simp [Syl.bad, hl.rsv]) (.inr ⟨d, rfl⟩) rfl _ rfl

theorem movk_retired {s : State} {h : SylHdr} (hl : LoafAt s h) (q : Fin 4) (d : Fin 64) (i : BitVec 16) :
    Retired s (s.after (s.syllable h.seq (.movk h.slotB h.rsv q d i) h.stop)) h.seq
      { s.seq h.seq with
        arch := { (s.seq h.seq).arch.setReg d (movk ((s.seq h.seq).arch.reg d) q i) with pc := (s.seq h.seq).arch.pc + 4 }
        gateEntered := false } :=
  hl.reg_retired _ rfl rfl (by simp [Syl.bad, hl.rsv]) (.inr ⟨d, rfl⟩) rfl _ rfl

theorem vdset_retired {s : State} {h : SylHdr} (hl : LoafAt s h) (d a : Fin 64) (i : BitVec 5) (hd : d.val < 32) (hi : i.toNat ≤ 4) :
    Retired s (s.after (s.syllable h.seq (.vdset h.rsv d a i) h.stop)) h.seq
      { s.seq h.seq with
        arch := { (s.seq h.seq).arch with
                    vd := (s.seq h.seq).arch.vd.set (Fin.ofNat 32 d.val)
                      (vdSet (s.seq h.seq).arch.vd[Fin.ofNat 32 d.val] i.toNat ((s.seq h.seq).arch.reg a))
                    pc := (s.seq h.seq).arch.pc + 4 }
        gateEntered := false } :=
  hl.reg_retired _ rfl rfl (by simp [Syl.bad, hl.rsv]; omega) (.inl rfl) rfl _ rfl

theorem vdget_retired {s : State} {h : SylHdr} (hl : LoafAt s h) (d g : Fin 64) (i : BitVec 5) (hd : g.val < 32) (hi : i.toNat ≤ 3) :
    Retired s (s.after (s.syllable h.seq (.vdget h.rsv d g i) h.stop)) h.seq
      { s.seq h.seq with
        arch := { (s.seq h.seq).arch.setReg d (vdGet (s.seq h.seq).arch.vd[Fin.ofNat 32 g.val] i.toNat) with
                    pc := (s.seq h.seq).arch.pc + 4 }
        gateEntered := false } :=
  hl.reg_retired _ rfl rfl (by simp [Syl.bad, hl.rsv]; omega) (.inr ⟨d, rfl⟩) rfl _ rfl

theorem mfs_retired {s : State} {h : SylHdr} (hl : LoafAt s h) (d : Fin 64) (k : BitVec 6) (hk : srKind k.toNat ≠ .reserved)
    (hp : srDenied (s.seq h.seq).arch k.toNat false = false) :
    Retired s (s.after (s.syllable h.seq (.mfs h.rsv d k) h.stop)) h.seq
      { s.seq h.seq with
        arch := { (s.seq h.seq).arch.setReg d (s.mfs h.seq (s.seq h.seq).arch k.toNat) with pc := (s.seq h.seq).arch.pc + 4 }
        gateEntered := false } :=
  hl.reg_retired _ rfl rfl (by simp [Syl.bad, hl.rsv, hk]) (.inr ⟨d, rfl⟩)
    (by simp [State.loafPriv, State.memPriv, hp]) _ rfl

theorem mts_retired {s : State} {h : SylHdr} (hl : LoafAt s h) (a : Fin 64) (k : BitVec 6) (hk : srNoWrite k.toNat = false)
    (hp : srDenied (s.seq h.seq).arch k.toNat true = false) :
    Retired s (s.after (s.syllable h.seq (.mts h.rsv a k) h.stop)) h.seq
      { s.seq h.seq with
        arch := { (s.seq h.seq).arch.mts k.toNat s.fresh ((s.seq h.seq).arch.reg a) with pc := (s.seq h.seq).arch.pc + 4 }
        gateEntered := false } :=
  hl.reg_retired _ rfl rfl (by simp [Syl.bad, hl.rsv, hk]) (.inl rfl)
    (by simp [State.loafPriv, State.memPriv, hp]) _ rfl
end Sys2Proof.Machine
end

