-- ==== Sys2Proof/Laws/LoafVector.lean ====
section
/-! SUPPORT. Sys2Proof/Laws/LoafVector.lean: a Loaf of one V syllable: the instruction is issued (R30, R45, R117). -/
namespace Sys2Proof.Machine

/-- A check at issue moves on the free values and nothing else. -/
theorem issueFault_state (s : State) (v : VIns) : ∃ k, (s.issueFault v).1 = { s with freeCtr := k } := by
  have h1 : ∀ (st : Stream) c, ∃ k, (s.descFault st c).1 = { s with freeCtr := k } := by
    intro st c; unfold State.descFault; split
    · exact ⟨s.freeCtr, rfl⟩
    · exact ⟨s.freeCtr + 1, rfl⟩
  have h2 : ∀ c, ∃ k, (s.looseFault c).1 = { s with freeCtr := k } := fun c => ⟨s.freeCtr + 1, rfl⟩
  unfold State.issueFault
  simp only
  repeat' split
  all_goals first | exact h1 _ _ | exact h2 vcDesc | exact h2 vcBudget | exact ⟨s.freeCtr, rfl⟩

/-- What an issue does (R30, R45, R117): one instruction more is outstanding, or none where its LENGTH is zero. -/
theorem vecIssue_eq (s : State) (n : Fin 9) (a : Arch) (o : VOpc) (y : VSyl) (sp : Nat) :
    ∃ (ins : List VIns) (g : Option Nat) (k : Nat), s.vecIssue n a o y sp = ({ s with freeCtr := k } : State).setSeq n
        { s.seq n with outs := (s.seq n).outs ++ ins, openGrp := g, nextId := (s.seq n).nextId + 1 } ∧
      (issueLength (s.issueStreams n a o y) = 0 → ins = []) ∧
      (issueLength (s.issueStreams n a o y) ≠ 0 → ∃ v, ins = [v] ∧ v.id = (s.seq n).nextId ∧ v.op = o ∧ v.syl = y ∧
        v.n = issueLength (s.issueStreams n a o y) ∧ v.streams = s.issueStreams n a o y ∧ v.world = a.world ∧ v.sup = a.sup ∧
        v.ct = a.ct ∧ v.done = 0 ∧ v.fault = (s.issueFault (s.newVIns n a o y sp)).2) := by
  have hn : (s.newVIns n a o y sp).n = issueLength (s.issueStreams n a o y) := rfl
  unfold State.vecIssue
  simp only [hn]
  by_cases h0 : issueLength (s.issueStreams n a o y) = 0
  · rw [if_pos h0]
    refine ⟨[], none, s.freeCtr, ?_, fun _ => rfl, fun h => absurd h0 h⟩
    simp [State.setSeq]
  · rw [if_neg h0]
    obtain ⟨k, hk⟩ := issueFault_state s (s.newVIns n a o y sp)
    refine ⟨[_], _, k, by rw [hk], fun h => absurd h h0, fun _ => ⟨_, rfl, ?_⟩⟩
    exact ⟨rfl, rfl, rfl, rfl, rfl, rfl, rfl, rfl, rfl, rfl⟩

/-- A sequencer past a Loaf of one V syllable. -/
def Seq.pastVec (q : Seq) : Seq := { q with arch := { q.arch with pc := q.arch.pc + 8 }, gateEntered := false }

/-- A V syllable that nothing faults and nothing holds retires its Loaf; `t` is the state with its work begun. -/
theorem syllable_vec (s : State) (n : Fin 9) (o : VOpc) (v : VSyl) (hr : SeqReady s n)
    (hf : s.fetchCause n (s.seq n).arch [.vec o v] false = none)
    (ho : (s.queued n (.vec o v)).ownCause n (s.seq n).arch [.vec o v] = none)
    (hh : (s.queued n (.vec o v)).vecHold n true (.vec o v) = false) (t : State)
    (ht : (s.setSeq n { (s.seq n).pastVec with asm := [], waiting := [[.vec o v]] }).runVec n (s.seq n).arch [.vec o v] = t) :
    s.syllable n (.vec o v) true =
      pumpN 5 ((t.loafDone n 1).setSeq n { (t.loafDone n 1).seq n with waiting := ((t.loafDone n 1).seq n).waiting.drop 1 }) n := by
  have ha : ((s.queued n (.vec o v)).seq n).arch = (s.seq n).arch := by simp [State.queued]
  have hpa : ((s.queued n (.vec o v)).seq n).pairAt = none := by
    apply pairAt_none; simp [State.queued, hr.delayOf]
  have hsp : ((s.queued n (.vec o v)).seq n).spec = [] := by simp [State.queued, hr.spec]
  have hslot : (Syl.vec o v).slot = 7 := rfl
  have hhold : (s.queued n (.vec o v)).loafHold n (s.seq n).arch none [.vec o v] = false := by
    have hold : ((s.queued n (.vec o v)).seq n).older none = [] := by simp [Seq.older, hsp]
    change (false || (s.queued n (.vec o v)).vecHold n (((s.queued n (.vec o v)).seq n).older none).isEmpty (.vec o v) || false) = false
    rw [hold, Bool.false_or, Bool.or_false]
    exact hh
  have htl := tryLoaf_queued s n (.vec o v) hr hf ho (regHold_queued s n _ _ hr.spec hr.outs) hhold rfl
  have hregs : ∀ u : State, u.loafRegs n (s.seq n).arch [.vec o v] = { (s.seq n).arch with pc := (s.seq n).arch.pc + 8 } := by
    intro u; rfl
  have hdr : loafDraws (s.seq n).arch [.vec o v] = 0 := by simp [loafDraws, Syl.setsRs, Syl.loose]
  have hat : (s.queued n (.vec o v)).setSeq n
      { (s.queued n (.vec o v)).seq n with arch := { (s.seq n).arch with pc := (s.seq n).arch.pc + 8 }, gateEntered := false }
      = s.setSeq n { (s.seq n).pastVec with asm := [], waiting := [[.vec o v]] } := by
    simp [State.queued, Seq.pastVec]
  have hm : ∀ (u : State) (a : Arch), u.runMem n a none [.vec o v] = u := by
    intro u a; unfold State.runMem; rw [slotOf_single, if_neg (by rw [hslot]; omega)]
  have hodd : (s.queued n (.vec o v)).memOdd n (s.seq n).arch [.vec o v] = false := by
    unfold State.memOdd; rw [slotOf_single, if_neg (by rw [hslot]; omega)]
  have hrun : (s.queued n (.vec o v)).runLoaf n none [.vec o v] = t := by
    unfold State.runLoaf
    simp only [ha, hodd, hm, hregs, hdr, hat]
    rw [← ht]
    rfl
  have he : (s.queued n (.vec o v)).execLoaf n [.vec o v] = some (t.loafDone n 1) := by
    unfold State.execLoaf
    simp only [hpa, slotOf_single, hslot, hrun]
    simp
  rw [he, Option.map_some] at htl
  rw [syllable_stop s n _ hr, pump_queued s n _ hr _ htl]

theorem vecDests_nodup (o : VOpc) (v : VSyl) (vd : Vector VecDesc 32) :
    ((vecDests o v vd).filter (fun d => d != 0)).Nodup := by
  have hp : ∀ i : Fin 64, i ≠ pairOf i := by decide
  unfold vecDests
  split
  · split
    · exact ((List.nodup_cons.2 ⟨by simpa using hp v.gs, List.nodup_singleton _⟩)).filter _
    · exact (List.nodup_singleton _).filter _
  · simp


/-- R30, R45: a V syllable is issued, and its Loaf retires. -/
theorem syllable_issue (s : State) (n : Fin 9) (o : VOpc) (v : VSyl) (hr : SeqReady s n) (h1 : o ≠ .vsync) (h2 : o ≠ .vrestart)
    (hf : s.fetchCause n (s.seq n).arch [.vec o v] false = none)
    (ho : (s.queued n (.vec o v)).ownCause n (s.seq n).arch [.vec o v] = none) (hsb : (s.seq n).sb = []) :
    ∃ (ins : List VIns) (g : Option Nat),
      Retired s (s.syllable n (.vec o v) true) n
        { (s.seq n).pastVec with outs := ins, openGrp := g, nextId := (s.seq n).nextId + 1 } ∧
      (issueLength (s.issueStreams n (s.seq n).arch o v) = 0 → ins = []) ∧
      (issueLength (s.issueStreams n (s.seq n).arch o v) ≠ 0 → ∃ x, ins = [x] ∧ x.id = (s.seq n).nextId ∧ x.op = o ∧ x.syl = v ∧
        x.n = issueLength (s.issueStreams n (s.seq n).arch o v) ∧ x.streams = s.issueStreams n (s.seq n).arch o v ∧
        x.world = (s.seq n).arch.world ∧ x.sup = (s.seq n).arch.sup ∧ x.ct = (s.seq n).arch.ct ∧ x.done = 0 ∧
        x.fault = (s.issueFault (s.newVIns n (s.seq n).arch o v 0)).2) := by
  let u := s.setSeq n { (s.seq n).pastVec with asm := [], waiting := [[.vec o v]] }
  have hu : u.seq n = { (s.seq n).pastVec with asm := [], waiting := [[.vec o v]] } := by simp [u]
  have hsp : (u.seq n).spec = [] := by rw [hu]; exact hr.spec
  have hrv : u.runVec n (s.seq n).arch [.vec o v] = u.vecIssue n (s.seq n).arch o v 0 := by
    unfold State.runVec
    have : slotOf [Syl.vec o v] 7 = some (.vec o v) := rfl
    rw [this, hsp]
    cases o <;> first | rfl | exact absurd rfl h1 | exact absurd rfl h2
  obtain ⟨ins, g, k, e1, e2, e3⟩ := vecIssue_eq u n (s.seq n).arch o v 0
  have hst : u.issueStreams n (s.seq n).arch o v = s.issueStreams n (s.seq n).arch o v := by
    unfold State.issueStreams State.recipeOf; cases o <;> rfl
  have hnew : u.newVIns n (s.seq n).arch o v 0 = s.newVIns n (s.seq n).arch o v 0 := by
    have : (u.seq n).nextId = (s.seq n).nextId := by rw [hu]; rfl
    unfold State.newVIns
    rw [this, hst]
    have : u.recipeOf n o = s.recipeOf n o := by unfold State.recipeOf; cases o <;> rfl
    rw [this]
  have hif : ∀ w, (u.issueFault w).2 = (s.issueFault w).2 := by
    intro w
    have hd : ∀ st c, (u.descFault st c).2 = (s.descFault st c).2 := by
      intro st c; unfold State.descFault; split <;> rfl
    have hl : ∀ c, (u.looseFault c).2 = (s.looseFault c).2 := fun _ => rfl
    unfold State.issueFault
    simp only
    repeat' split
    all_goals first | rfl | simp [hd]
  have hout : (u.seq n).outs = [] := by rw [hu]; exact hr.outs
  have hid : (u.seq n).nextId = (s.seq n).nextId := by rw [hu]; rfl
  rw [hst] at e2 e3
  rw [hid, hnew, hif] at e3
  refine ⟨ins, g, ?_, e2, e3⟩
  have hold : (s.queued n (.vec o v)).vecHold n true (.vec o v) = false := by
    have a1 : ((s.queued n (.vec o v)).seq n).outs = [] := by simp [State.queued, hr.outs]
    have a2 : ((s.queued n (.vec o v)).seq n).sb = [] := by simp [State.queued, hsb]
    unfold State.vecHold
    cases o <;> first | exact absurd rfl h1 | exact absurd rfl h2 | simp [a1, a2]
  rw [syllable_vec s n o v hr hf ho hold _ rfl]
  have hw : ({ u.seq n with outs := (u.seq n).outs ++ ins, openGrp := g, nextId := (u.seq n).nextId + 1 } : Seq)
      = { (s.seq n).pastVec with asm := [], waiting := [[.vec o v]], outs := ins, openGrp := g, nextId := (s.seq n).nextId + 1 } := by
    rw [hout, hid, hu]; rfl
  rw [hw] at e1
  show Retired s (pumpN 5 (((u.runVec n _ _).loafDone n 1).setSeq n _) n) n _
  rw [hrv, e1, loafDone_nil _ _ _ (by simpa [Seq.pastVec] using hr.spec)]
  simp only [seq_loafCount, setSeq_loafCount, State.seq_setSeq_self, State.setSeq_setSeq, List.drop_one, List.tail_cons]
  have hfin : ({ (s.seq n).pastVec with asm := [], waiting := [], outs := ins, openGrp := g, nextId := (s.seq n).nextId + 1 } : Seq)
      = { (s.seq n).pastVec with outs := ins, openGrp := g, nextId := (s.seq n).nextId + 1 } := by
    have a1 := hr.asm; have a2 := hr.waiting
    unfold Seq.pastVec
    generalize s.seq n = q at *
    cases q; simp_all
  rw [hfin]
  have key : ({ u with freeCtr := k } : State).setSeq n { (s.seq n).pastVec with outs := ins, openGrp := g, nextId := (s.seq n).nextId + 1 }
      = ({ s with freeCtr := k } : State).setSeq n { (s.seq n).pastVec with outs := ins, openGrp := g, nextId := (s.seq n).nextId + 1 } := by
    simp [u, State.setSeq, Vector.set_set]
  rw [key, pumpN_of_none]
  · have := retired_count { s with freeCtr := k } n 0
      { (s.seq n).pastVec with outs := ins, openGrp := g, nextId := (s.seq n).nextId + 1 }
    exact ⟨this.own, this.others, this.counted, this.regs, this.rest⟩
  · apply pumpOne_idle
    · simpa [Seq.pastVec] using hr.waiting
    · simpa [Seq.pastVec] using hr.tail
    · apply failTake_nil; simpa [Seq.pastVec] using hr.spec

end Sys2Proof.Machine
end

