-- ==== Sys2Proof/Laws/Requests.lean ====
section
/-! SUPPORT. Sys2Proof/Laws/Requests.lean: a control-space request that no other waits before goes straight to its block, and an
event that nothing waits for releases nothing. -/
namespace Sys2Proof.Machine

theorem fabPick_one (s : State) (r : FabReq) (h : r.who.id < 16) : s.fabPick (fabPort r) [r] = some r := by
  have hf : (upTo 16).filterMap (fun i => [r].find? (fun x => x.who.id == i)) = [r] := by
    have : ∀ k < 16, (upTo 16).filterMap (fun i => [r].find? (fun _ => k == i)) = [r] := by
      intro k hk
      interval_cases k <;> rfl
    simpa using this _ h
  unfold State.fabPick
  have hm : [r].filter (fun x => fabPort x == fabPort r) = [r] := by simp
  simp only [hm, hf]
  have ht : (upTo 16).findSome? (fun i => [r].find? (fun r => (r.who.id + 15 - s.parkedOn (fabPort r)) % 16 == i)) = some r := by
    have : ∀ k < 16, (upTo 16).findSome? (fun i => [r].find? (fun _ => k == i)) = some r := by
      intro k hk
      interval_cases k <;> rfl
    have := this ((r.who.id + 15 - s.parkedOn (fabPort r)) % 16) (Nat.mod_lt _ (by decide))
    simpa using this
  cases hv : r.vc2
  · simp only [List.find?, hv]
    by_cases hp : s.flag FAB_CTL FAB_CTL.PARK_DIS = true
    · rw [if_pos hp]; exact ht
    · by_cases hq : r.who.id = s.parkedOn (fabPort r)
      · simp [hp, hq]
      · have : (r.who.id == s.parkedOn (fabPort r)) = false := by simpa using hq
        simp only [hp, this]
        exact ht
  · simp [List.find?, hv]

theorem fabRun_one (s t : State) (r : FabReq) (c v : Nat) (hw : s.fab.waiting = []) (hi : r.who.id < 16)
    (h : s.fabServe r = (t, some (c, v))) :
    s.fabRun [r] = ({ t with fab := { t.fab with parked := mput (fun _ => 13) t.fab.parked (fabPort r) r.who.id } } : State).fabAnswer r c v := by
  have hs : ({ s with fab := { s.fab with waiting := [] } } : State) = s := by
    have : ({ s.fab with waiting := [] } : Fabric) = s.fab := by rw [← hw]
    rw [this]
  unfold State.fabRun
  simp only [hw, hs, List.nil_append, List.length_singleton]
  unfold fabGrant
  simp only [fabPick_one s r hi, h]
  rfl

theorem CtlGo.lt {s : State} {m : Master} {a size : Nat} (h : CtlGo s m a size) : m.id < 16 ∧ m.id ≠ 15 ∧ m.isHost = false ∧ m.id ≠ 11 ∧ m.id ≠ 12 := by
  have := h.who
  simp only [Master.isSeq, decide_eq_true_eq] at this
  have h3 : m.id ≠ 11 ∧ m.id ≠ 12 := by omega
  refine ⟨by omega, by omega, by simp [Master.isHost, h3], h3⟩

/-- A write that goes straight to its block, which takes it. -/
theorem regWrite_go (s t : State) (m : Master) (a size v : Nat) (h : CtlGo s m a size)
    (hp : s.ctlPut m none a size v = (t, none)) :
    ∃ f : Fabric, f.waiting = t.fab.waiting ∧ s.regWrite m a size v = { t with fab := f } := by
  obtain ⟨h1, h2, h3, h4, h5⟩ := h.lt
  have hw : s.ctlWrite m none a size v = (t, .ok ()) := by
    unfold State.ctlWrite
    simp only [h.gate, hp]
    rw [if_neg]
    rw [h.aligned, h.listed]
    rcases h.wide with rfl | rfl <;> simp
  let r : FabReq := { who := m, vc2 := decide (m.id = 14), kind := .ctl, unit := 0, addr := a, size := size, data := some v }
  have hr : s.fabServe r = (t, some (0, 0)) := by
    have ha : fabAllowed r = true := by
      have := h.who
      rcases this with h | h <;> simp [fabAllowed, r, h]
    have hsz : ¬ 8 < size := by rcases h.wide with rfl | rfl <;> omega
    unfold State.fabServe State.fabGate State.fabCtl
    simp [ha, r, h2, h3, hsz, hw]
  unfold State.regWrite
  rw [fabRun_one s t r 0 0 h.free h1 hr]
  unfold State.fabAnswer
  simp only [r, h4, h5, or_self, if_false]
  exact ⟨⟨t.fab.waiting, mput (fun _ => 13) t.fab.parked (fabPort r) m.id, t.fab.answers ++ [(r, 0, 0)]⟩, rfl, rfl⟩

/-- A read that goes straight to its block, which answers it. -/
theorem regRead_go (s t : State) (m : Master) (a size v : Nat) (h : CtlGo s m a size)
    (hp : s.ctlTake m none a size = (t, .ok v)) :
    ∃ f : Fabric, f.waiting = t.fab.waiting ∧
      f.answers = t.fab.answers ++ [(⟨m, decide (m.id = 14), .ctl, 0, a, size, none⟩, 0, bitsOf v 0 (8 * size))] ∧
      s.regRead m a size = { t with fab := f } := by
  obtain ⟨h1, h2, h3, h4, h5⟩ := h.lt
  have hsz4 : ¬ size < 4 := by rcases h.wide with rfl | rfl <;> omega
  have hw : s.ctlRead m none a size = (t, .ok (bitsOf v 0 (8 * size))) := by
    unfold State.ctlRead
    simp only [h.gate, hp, hsz4, if_false]
    rw [if_neg]
    · simp
    rw [h.aligned, h.listed]
    simp
  let r : FabReq := { who := m, vc2 := decide (m.id = 14), kind := .ctl, unit := 0, addr := a, size := size, data := none }
  have hr : s.fabServe r = (t, some (0, bitsOf v 0 (8 * size))) := by
    have ha : fabAllowed r = true := by
      have := h.who
      rcases this with h | h <;> simp [fabAllowed, r, h]
    have hsz : ¬ 8 < size := by rcases h.wide with rfl | rfl <;> omega
    unfold State.fabServe State.fabGate State.fabCtl
    simp [ha, r, h2, h3, hsz, hw]
  unfold State.regRead
  rw [fabRun_one s t r 0 _ h.free h1 hr]
  unfold State.fabAnswer
  simp only [r, h4, h5, or_self, if_false]
  exact ⟨⟨t.fab.waiting, mput (fun _ => 13) t.fab.parked (fabPort r) m.id, t.fab.answers ++ [(r, 0, bitsOf v 0 (8 * size))]⟩,
    rfl, rfl, rfl⟩

theorem settle_still (s : State) (h : Still s) : s.settle = s := by
  have hf : s.fabRun [] = s := by
    unfold State.fabRun
    simp only [h.fab, List.nil_append, List.length_nil]
    have : ({ s.fab with waiting := [] } : Fabric) = s.fab := by rw [← h.fab]
    unfold fabGrant
    rw [this]
  have hc : s.chHeldServe = s := by unfold State.chHeldServe; simp [h.chain]
  have hh : s.hostHeldServe = s := by unfold State.hostHeldServe; simp [h.host]
  have hi : s.inboxDrain = s := by
    unfold State.inboxDrain
    cases hn : 4 * s.ch.inbox.length + 16 <;> simp [inboxRun, h.inbox]
  have hp : s.pumpAll = s := by
    unfold State.pumpAll
    have : ∀ n, s.pump n = s := fun n => pump_idle s n (h.seqs n).1 (h.seqs n).2.1 (h.seqs n).2.2
    induction List.finRange 9 with
    | nil => rfl
    | cons n l ih => simp [this, ih]
  have hr : s.repairEnd = s := by
    unfold State.repairEnd
    have : s.fj.running.find? (fun r => r.action == 3 && !s.fj.regrows.any (fun g => g.lost == r.unit)) = none := by
      rw [List.find?_eq_none]
      intro r hr
      simp [h.repair r hr]
    rw [this]
  unfold State.settle
  rw [hf, hc, hh, hi, hp, hr]

end Sys2Proof.Machine
end

