-- ==== Sys2Proof/Laws/Syllables.lean ====
section
/-! SUPPORT. Sys2Proof/Laws/Syllables.lean: a scalar or vector command is one syllable of its sequencer. -/
namespace Sys2Proof.Machine

/-- What a command that brings a syllable does. -/
theorem syl_exec (s : State) (i : Instr) (n : Fin 9) (y : Syl) (b : Bool) (hi : i.syl = some (n, y, b)) :
    exec i s = .next (s.after (s.syllable n y b)) := by
  cases i <;> simp only [Instr.syl, Option.some.injEq, Prod.mk.injEq, reduceCtorEq] at hi <;>
    (obtain ⟨rfl, rfl, h⟩ := hi; simp only [exec, ← h]; first | rfl)

/-- A word with a broken rule is an ILLEGAL_LOAF where it can be fetched (R222). -/
theorem fetchCause_bad (s : State) (n : Fin 9) (y : Syl) (hf : FetchOk s n (y.size / 4)) (hb : y.bad = true) :
    s.fetchCause n (s.seq n).arch [y] false = some (exc exIllegal) := by
  unfold State.fetchCause
  have : (loafWords (s.seq n).arch.pc [y]).find? (fun w => s.pmBadAt n.val w) = none := by
    simp [loafWords, loafSize_single, upTo]
    intro i hi; exact hf.good i hi
  simp [this, loafIllegal, hb]

end Sys2Proof.Machine
end

