-- ==== Sys2Proof/Tests/Slice0.lean ====
section
/-! SUPPORT. Sys2Proof/Tests/Slice0.lean: ill-formed commands that are refused, states that meet the hypotheses of the
statements (each witness names what it stands for), and single steps with results from outside the model. -/
namespace Sys2Proof.Tests
open Sys2Proof Sys2Proof.Machine
set_option Elab.async false

/-! ### What hardware cannot send is refused: one ill-formed command for each check -/

def faults (o : Host.Outcome State Fault Refusal) : Bool :=
  match o with
  | .fault .illFormed => true
  | _ => false
def badMaster : Master := ⟨9, false, true⟩
theorem test_master : badMaster.ok = false ∧ (⟨16, true, true⟩ : Master).ok = false ∧ (⟨10, true, true⟩ : Master).ok = false ∧
    (⟨11, true, false⟩ : Master).ok = false ∧ (⟨15, false, true⟩ : Master).ok = false ∧ (⟨8, false, false⟩ : Master).ok = true ∧
    (⟨10, true, false⟩ : Master).ok = true ∧ (⟨12, false, false⟩ : Master).ok = true := by decide
def okReq : FabReq := ⟨⟨0, true, true⟩, false, .ctl, 0, 0x700000, 4, some 1⟩
theorem test_fabric_request : okReq.ok = true ∧
    ∀ r ∈ [{ okReq with who := badMaster }, { okReq with vc2 := true }, { okReq with size := 3 }, { okReq with size := 128 },
      { okReq with addr := 2 ^ 32 }, { okReq with data := some (2 ^ 32) }],
      (Instr.fabricRequest [okReq, r]).wellFormed = false ∧ (Instr.fabricTimeout r).wellFormed = false := by decide
theorem test_masters_checked : ∀ c ∈ [Instr.regionMigrationReq 0 badMaster 0, .doorbell 0 (.ctl badMaster) true false 0,
    .dispatchRead 0 true badMaster, .completionPost 0 true badMaster 0, .queueEnable 0 badMaster, .queuePause 0 badMaster,
    .queueResume 0 badMaster, .queueReset 0 badMaster, .queueContextWrite 0 badMaster 0 false 0, .bufferAlloc 0 [badMaster],
    .bufferFree 0 badMaster 0, .poolEnable 0 badMaster 0, .poolDisable 0 badMaster 0, .secureSizeWrite 0 badMaster 0,
    .secureWipe 0 badMaster 0, .marchStart 0 badMaster 0, .marchAbort 0 badMaster 0 [], .bmStart 0 badMaster, .bmPause 0 badMaster,
    .bmResume 0 badMaster, .bmAbort 0 badMaster, .bmRelease badMaster, .chRetrain 0 badMaster, .laneForce 0 badMaster 0,
    .ringRestore badMaster, .doorbellSend badMaster 0, .mailboxAnswer 0 badMaster 0, .faultForce 0 badMaster 0,
    .firstRecordClear badMaster, .alertAck badMaster, .journalRead badMaster 0, .fjReqAutotomy badMaster 0,
    .fjReqAutotomyRegrow badMaster 0, .fjReqRepair badMaster 0, .lastGaspClear badMaster, .modeReqRun (.reg badMaster),
    .modeReqPairedRun (.reg badMaster), .modeReqBrumation (.reg badMaster), .modeReqStarterOnly (.reg badMaster),
    .modeReqProofing (.reg badMaster) ⟨true, true, [], true, 0, none⟩, .modeReqWipe (.reg badMaster), .tbCapRead badMaster,
    .captureRead 0 badMaster, .btbRenew badMaster 0, .secNotifySet badMaster true 0, .secNotifyClr badMaster true 0,
    .secRngRead badMaster, .wideRegisterRead badMaster 0, .registerWrite badMaster 0 false 0],
    c.wellFormed = false ∧ faults (exec c State.reset) = true := by decide +kernel
theorem test_odd_pair : (Instr.queueContextWrite 0 ⟨0, true, true⟩ 15 true 0).wellFormed = false ∧
    (Instr.queueContextWrite 0 ⟨0, true, true⟩ 14 true 0).wellFormed = true := by decide
theorem test_bank_request : ∀ c ∈ [Instr.bankRequest 0 0 none false false, .bankRequest 1 128 none false false,
    .bankRequest 0 1 (some []) false false], c.wellFormed = false ∧ faults (exec c State.reset) = true := by decide +kernel
def hdrOf (ty : Nat) : ChMsg := { hdr := BitVec.ofNat 128 (ty + 127 * 2 ^ 64), data := [] }
/-- A message of no type, of the wrong type, and one with too few slots for its BYTES. -/
theorem test_messages : ∀ c ∈ [Instr.rd 0 (hdrOf 0), .wr 0 (hdrOf 2), .atom 0 (hdrOf 3), .db 0 (hdrOf 5), .rdrsp 0 (hdrOf 8), .wrack 0 (hdrOf 8),
    .atomrsp 0 (hdrOf 10), .errrsp 0 (hdrOf 12), .waking 0 (hdrOf 13), .mark 0 (hdrOf 17), .nbr 0 (hdrOf 32), .time 0 (hdrOf 33),
    .linkdownFlood 0 (hdrOf 34), .reconcile 0 (hdrOf 35), .mgmt 0 (hdrOf 36)],
    c.wellFormed = false ∧ faults (exec c State.reset) = true := by decide +kernel
theorem test_frames : ∀ c ∈ [Instr.laneErrorWindow 0 [] 0 0, .flitReceive 0 ⟨true, 0, 0, false, 0, 0, none, []⟩,
    .hostPostedWrite 0 0 2 0 [] false, .hostRead 0 0 2 0 0, .hostRead 0 0 2 0 4097, .vfFlr 0 0,
    .segment 0 0 0 (List.replicate 65 0), .claim 0 0 [2], .renew 0 0 [1], .release 0 0 [4], .handover 0 0 [3],
    .claim 0 0 (1 :: List.replicate 64 0), .lcToken 0 0 (List.replicate 117 0)],
    c.wellFormed = false ∧ faults (exec c State.reset) = true := by decide +kernel
def bigReq : JenziaReq := ⟨0, 0, 0, 0, 0, 0, 0, 0, 0, 0, List.replicate 49 0⟩
theorem test_long_requests : ∀ c ∈ [Instr.read bigReq, .write bigReq, .info bigReq, .segAck bigReq, .abort bigReq],
    c.wellFormed = false ∧ faults (exec c State.reset) = true := by decide +kernel
theorem test_path_lengths : (Instr.segment 2 0 0 (List.replicate 252 0)).wellFormed = true ∧
    (Instr.segment 6 0 0 (List.replicate 65 0)).wellFormed = false := by decide +kernel

/-! ### Witnesses: scalar commands

A machine in Run whose sequencer 0 stands at a Loaf boundary in Secure supervisor, with a segment on Vector Memory. -/

def wRun : State :=
  (((({ State.reset with st := { State.reset.st with base := 6 } }.setFld ST_MODE ST_MODE.MODE mRun).setFld VM_STATUS VM_STATUS.READY
    1).setFld QE_STATUS QE_STATUS.READY 1).setFld BM_STATUS BM_STATUS.READY 1)
def wHdr : SylHdr := { seq := 0, slotB := true, stop := true, rsv := false }
/-- Segment 1: bytes 0x1000 to 0x103F of Vector Memory with every right. -/
def wSeg : SegDesc := BitVec.ofNat 128 (0x1000 + 0x3F * 2 ^ 64 + 0x1F * 2 ^ 112)
/-- g1 = 0x38, g2 = the smallest value, g3 = -1, g4 = 5, g5 = 0x7FFFFFFFFFFFFFFF; g0 is zero. -/
def wArch (a : Arch) : Arch :=
  ((((((a.setReg 1 0x38).setReg 2 (BitVec.ofNat 64 (2 ^ 63))).setReg 3 (-1)).setReg 4 5).setReg 5 (BitVec.ofNat 64 (2 ^ 63 - 1))).setSeg
    true 1 wSeg)
def wSeq (s : State) (f : Seq → Seq) : State := s.setSeq 0 (f (s.seq 0))
def wReg : State := wSeq wRun fun q => { q with arch := wArch q.arch }
def wUser : State := wSeq wReg fun q => { q with arch := { q.arch with ssr := 1 } }
def wGen : State := wSeq wReg fun q => { q with arch := { q.arch with ssr := 2 } }

theorem witness_ready : SeqReady wReg 0 := by constructor <;> decide +kernel
theorem witness_fetch : FetchOk wReg 0 1 := by constructor <;> decide +kernel
/-- RegisterFormOperations, CountsProductsImmediates, VectorDescriptorFields, SpecialRegistersRead. -/
theorem witness_loaf : LoafAt wReg wHdr := ⟨witness_ready, witness_fetch, rfl, rfl⟩
theorem witness_loaf_user : LoafAt wUser wHdr ∧ wUser.mayTake 0 ∧ (wUser.seq 0).arch.sup = false :=
  ⟨⟨by constructor <;> decide +kernel, by constructor <;> decide +kernel, rfl, rfl⟩, by unfold State.mayTake; decide +kernel, by decide +kernel⟩
theorem witness_join : (Instr.add { wHdr with stop := false } 1 2 3 false).syl
    = some (0, .alu .add true false false 1 2 3, false) ∧ wReg.seqRuns 0 = true ∧ State.reset.seqRuns 0 = false ∧
    ∀ z ∈ (wReg.seq 0).asm, z.slot ≠ (Syl.alu .add true false false 1 2 3).slot := by
  decide +kernel
theorem witness_illegal : (Instr.add { wHdr with rsv := true } 1 2 3 false).syl = some (0, .alu .add true true false 1 2 3, true) ∧
    (Syl.alu .add true true false 1 2 3).bad = true ∧ (Syl.alu .add true true false 1 2 3).size / 4 = 1 ∧ wReg.mayTake 0 := by
  unfold State.mayTake
  decide +kernel
theorem witness_divide : (wReg.seq 0).arch.reg 4 ≠ 0 ∧ ((wReg.seq 0).arch.reg 4).truncate 32 ≠ (0 : W32) ∧
    ((wReg.seq 0).arch.reg 2).toNat % 2 ^ 64 = 2 ^ (64 - 1) ∧ ((wReg.seq 0).arch.reg 3).toNat % 2 ^ 64 = 2 ^ 64 - 1 ∧
    ((wReg.seq 0).arch.reg 0).toNat % 2 ^ 64 = 0 ∧ wReg.mayTake 0 := by
  unfold State.mayTake
  decide +kernel
theorem witness_mfs_mts : (wReg.seq 0).arch.sup = true ∧ (wReg.seq 0).arch.world = true ∧
    (wGen.seq 0).arch.sup = true ∧ (wGen.seq 0).arch.world = false ∧ wGen.mayTake 0 := by
  unfold State.mayTake
  decide +kernel
/-- The last byte that LD and SD reach is the last of the segment. -/
theorem witness_load_store :
    let q := wReg.seq 0
    let seg := q.arch.seg true 1
    q.sb = [] ∧ q.arch.world = true ∧ scalarCheck .ld seg q.arch.sup 0x38 = none ∧ scalarCheck .sd seg q.arch.sup 0x38 = none ∧
      scalarCheck .acasD seg q.arch.sup 0x38 = none ∧ scalarCheck .ld seg q.arch.sup 0x39 ≠ none ∧ segRemote seg = false ∧
      (segBase seg + 0x38) % 8 = 0 ∧ (q.arch.reg 1).toNat = 0x38 ∧
      (wReg.vm.atomQ.filter (fun e => e.unit == wReg.atomUnitOf 0x1038)).length < 64 ∧
      isPost (segTarget seg (wReg.ovenOf 0)) 0x1038 = false := by
  decide +kernel
/-- PLD of a word of boot ROM, PST of a word of program SRAM (the data map does not remap, R244). -/
theorem witness_pld_pst :
    let q := wReg.seq 0
    q.arch.sup = true ∧ q.arch.world = true ∧ wReg.pmBadAt 0 (progWord q.arch 1 0) = false ∧
      (wReg.pmSram 0 (progWord (q.arch.setReg 1 0x40000) 1 0)).isSome = true := by
  decide +kernel

def wAccess (op : MemOp) (pld : Bool) (size : Nat) : Access :=
  { op := op, isPld := pld, dst := 7, tgt := if pld then .pm else .vm, addr := 0x1038, size := size, seg := 1, off := 0x38, world := true,
    sup := true, misaligned := false, data := 0, data2 := 0 }
def wLoaded (pld : Bool) : State :=
  wSeq wReg fun q => { q with spec := [⟨1, q.arch, q.arch.pc, 1, .access (wAccess .ld pld 8) none false false⟩] }
theorem witness_load_response : (wLoaded false).vmOk 0x1038 8 = true ∧ (∀ g ∈ granules 0x1038 8, (wLoaded false).gcls g = .clean) ∧
    ((wLoaded false).seq 0).waiting = [] ∧ ((wLoaded true).seq 0).tail = none ∧ ((wLoaded true).seq 0).outs = [] := by
  decide +kernel
def wEntry (pm : Bool) : SbEntry :=
  { tgt := if pm then .pm else .vm, addr := if pm then 0x40000 else 0x1038, size := 8, data := 0x0102030405060708, seg := 1, off := 0x38,
    world := true, sup := true, sent := false }
theorem witness_store_drain : wReg.vmOk 0x1038 8 = true ∧ (∀ g ∈ granules 0x1038 8, wReg.gcls g = .clean) ∧
    (wReg.pmSram 0 0x40000).isSome = true ∧ (wReg.seq 0).spec = [] ∧ (wReg.seq 0).waiting = [] ∧ (wReg.seq 0).tail = none := by
  decide +kernel
/-- CALL with room on a stack in use, RET with an entry. -/
def wStack : State := wSeq wReg fun q => { q with arch := { q.arch.setCtx true { q.arch.ctx true with rsTop := 1, rsDepth := 15 } with
  ssr := q.arch.ssr ||| 0x20 } }
theorem witness_transfer : ((wStack.seq 0).arch.rsm = true) ∧ ((wStack.seq 0).arch.ctx true).rsDepth < 16 ∧
    ((wStack.seq 0).arch.ctx true).rsDepth ≠ 0 := by
  decide +kernel
def wPair : State := wSeq wReg fun q => { q with
  arch := { q.arch with pc := q.arch.pc + 4 }
  delayOf := some 1
  nextId := 2
  spec := [⟨1, q.arch, q.arch.pc, 1, .pair [.br .eq false false false 0 4] [] (.known (some 0x810)) false⟩] }
theorem witness_pair : DelayReady wPair 0 (.br .eq false false false 0 4) (some 0x810) 1 (wReg.seq 0).arch 0x800 := by
  constructor <;> decide +kernel
theorem witness_pair_fetch : FetchOk wPair 0 1 := by constructor <;> decide +kernel
theorem witness_rfe : (wReg.seq 0).arch.dfault = false ∧
    (((wReg.seq 0).arch.ctx true).esr.getLsbD 0 = (wReg.seq 0).arch.world ∨ (wReg.seq 0).sb = []) ∧
    (wUser.seq 0).arch.sup = false ∧ wUser.mayTake 0 := by
  unfold State.mayTake
  decide +kernel
def wDouble : State := wSeq wReg fun q => { q with arch := { q.arch with dfault := true, dsr := 3 } }
theorem witness_rfe_double : LoafAt wDouble wHdr ∧ (wDouble.seq 0).arch.sup = true ∧ (wDouble.seq 0).arch.dfault = true ∧
    (wDouble.seq 0).sb = [] :=
  ⟨⟨by constructor <;> decide +kernel, by constructor <;> decide +kernel, rfl, rfl⟩, by decide +kernel⟩
def wGate : State :=
  { ((wReg.setFld (SEQ_CTL 0) SEQ_CTL.REMAP 1).setFld (SEQ_PM_SECMAP0 0) SEQ_PM_SECMAP0.PAGES 2) with pm := [(0xCF0, 1), (0xCF1, 0x10)] }
/-- Gate 15, the last one. -/
theorem witness_gate : LoafAt wGate wHdr ∧ wGate.gateEcc 0 true 15 = none ∧ wGate.gateFault 0 (wGate.seq 0).arch 15 = none ∧
    wGate.gateCross 0 true 15 = false :=
  ⟨⟨by constructor <;> decide +kernel, by constructor <;> decide +kernel, rfl, rfl⟩, by decide +kernel⟩
def wLine : State := (wSeq wReg fun q => { q with arch := { q.arch with ssr := 7 } }).setReg FJ_NOTICE 0x10000
theorem witness_interrupt : wLine.seqRuns 0 = true ∧ wLine.eligibleLine 0 = some (exFault, true) ∧ (wLine.seq 0).late true = none ∧
    (wLine.seq 0).arch.world = true ∧ (wLine.seq 0).spec = [] ∧ (wLine.seq 0).waiting = [] ∧ (wLine.seq 0).tail = none ∧
    (wLine.seq 0).delayOf = none := by
  decide +kernel
def wLate : State := wSeq wReg fun q => { q with lateSec := some { seg := 1, off := 0x38, multi := true } }
theorem witness_late : (wLate.seq 0).late (wLate.seq 0).arch.world = some { seg := 1, off := 0x38, multi := true } ∧
    (wLate.seq 0).div = none ∧ wLate.mayTake 0 ∧ wLate.seqRuns 0 = true := by
  unfold State.mayTake
  decide +kernel
/-- BEQ on g1 = 0x38 falls through; the branch was predicted taken or not. -/
def wBranch (g : Option (BitVec 19)) : State := wSeq wReg fun q => { q with
  spec := [⟨1, q.arch, q.arch.pc, 1, .branch [.br .eq false false false 1 4] [.movi false false 1 1] g q.arch 0⟩] }
theorem witness_branch : (wBranch none).seqRuns 0 = true ∧ ((wBranch none).seq 0).waiting = [] ∧ ((wBranch none).seq 0).tail = none ∧
    ((wBranch (some 0x810)).seq 0).outs = [] ∧ ((wBranch (some 0x810)).seq 0).openGrp = none ∧
    BrCond.eq.holds ((wReg.seq 0).arch.reg 1) = false := by
  decide +kernel
theorem witness_btb : (wReg.setFld (SEQ_CTL 0) SEQ_CTL.BTB_INV 1).flag (SEQ_CTL 0) SEQ_CTL.BTB_INV = true := by decide +kernel

/-! ### Witnesses: vector commands

VADD of two U8 streams of 33 elements, one more than a Slice, in Vector Memory: segment 2 holds D, segment 3 A, segment 4 B. -/

def wVd (seg len : Nat) : VecDesc := BitVec.ofNat 256 (len * 2 ^ 128 + 4 * 2 ^ 160 + seg * 2 ^ 176)
def wVseg (base : Nat) : SegDesc := BitVec.ofNat 128 (base + 0xFF * 2 ^ 64 + 0x1F * 2 ^ 112)
def wVsyl : VSyl := { seq := 0, stop := true, b31 := false, r34 := 0, form := 0, mod := 0, d := 2, a := 3, b := 4, c := 0, e := 0,
                      m := 0, gs := 0, een := false, men := false, mneg := false }
def wVec : State :=
  let s := wSeq wReg fun q => { q with arch := { ((q.arch.setSeg true 2 (wVseg 0x2000)).setSeg true 3 (wVseg 0x3000)).setSeg true 4
      (wVseg 0x4000) with
    vd := ((q.arch.vd.set 2 (wVd 2 33)).set 3 (wVd 3 33)).set 4 (wVd 4 33) } }
  { s with vm := { s.vm with bytes := [(0x3000, 250), (0x3001, 7), (0x4000, 6), (0x4001, 8)] } }
def nextOf (o : Host.Outcome State Fault Refusal) : State := match o with
  | .next t => t
  | _ => State.reset
def wEmpty : State := wSeq wVec fun q => { q with arch := { q.arch with vd := q.arch.vd.set 2 (wVd 2 0) } }
theorem witness_vec_ready : SeqReady wVec 0 ∧ FetchOk wVec 0 2 := ⟨by constructor <;> decide +kernel, by constructor <;> decide +kernel⟩
theorem witness_vec_issue : vecIllegal .vadd wVsyl = false ∧ (wVec.seq 0).sb = [] ∧
    issueLength (wVec.issueStreams 0 (wVec.seq 0).arch .vadd wVsyl) = 33 ∧
    issueLength (wEmpty.issueStreams 0 (wEmpty.seq 0).arch .vadd wVsyl) = 0 := by
  decide +kernel
/-- Recipe 31 with one step, VADD of codes 0 and 1 to D. -/
def wRecipe : State := wVec.setRegNat (SEQ_RECIPE 0 31) 8 (1 + (1 * 2 ^ 20 + 1 * 2 ^ 26) * 2 ^ 32)
theorem witness_recipe : recipeBad (wRecipe.recipeOf 0 (.recipe 31)) false = false ∧ vecIllegal (.recipe 31) wVsyl = false := by
  decide +kernel
def wVsync : VSyl := { wVsyl with form := 7, d := 0, a := 0, b := 0 }
theorem witness_vsync : vecIllegal .vsync wVsync = false ∧ vecIllegal .vrestart wVsync = false ∧ (wVec.seq 0).cbuf = [] ∧
    (wVec.seq 0).vrec.entries = [] ∧ (wVec.seq 0).arch.sup = true ∧ (wUser.seq 0).arch.sup = false := by
  decide +kernel
def wIssued : State := nextOf (execVadd wVsyl wVec)
def wBufA : State := nextOf (execStreamDataArrival 0 1 (.data 1) 0 wIssued)
def wBufs : State := nextOf (execStreamDataArrival 0 1 (.data 2) 0 wBufA)
def wCommit : State := nextOf (execSliceCommit 0 1 .pass wBufs)
def wStored : State := nextOf (execStoreEntryDrain 0 0 false wCommit)
def wStr (p k base : Nat) : Stream := { key := .data p, desc := wVd k 33, segNo := k, seg := wVseg base }
def wFault : VFault := { k := 0, cause := 4, opnd := 0, fromIdx := false, fromMask := false, seg := 2, off := 0, idx := 0 }
/-- The arrival of A, whose first 32 elements lie in clean memory within the segment. -/
theorem witness_arrival : (wIssued.seq 0).outs.map (fun v => (v.id, v.n, v.done)) = [(1, 33, 0)] ∧ (wIssued.seq 0).vrec.entries = [] ∧
    (wIssued.seq 0).cbuf = [] ∧ wIssued.tgtOf 0 (wStr 1 3 0x3000) = .vm ∧
    (∀ v ∈ (wIssued.seq 0).outs, v.stream (.data 1) = some (wStr 1 3 0x3000) ∧
      wIssued.mayFetch 0 [v] v (wStr 1 3 0x3000) 0 = true) ∧
    (∀ i, i < 32 → let st := wStr 1 3 0x3000
      segCheck st.seg .rd true (st.off i 0) 1 false = none ∧ wIssued.vmOk (st.at (st.off i 0)) 1 = true ∧
        elemAligned st.desc st.seg (st.off i 0) = true ∧ ∀ g ∈ granules (st.at (st.off i 0)) 1, wIssued.gcls g = .clean) := by
  decide +kernel
theorem witness_commit : (∀ v ∈ (wBufs.seq 0).outs, v.op.writesG = false ∧ v.op.isAtomic = false ∧
      v.stores = [wStr 0 2 0x2000] ∧ v.unpred = false ∧ v.fault = none ∧ v.wait = [] ∧ v.done = 0 ∧
      ∀ i, i < 32 → (v.laneIn (fun k => v.bufOf k 0) i).any (fun x => !x.psn) = true) ∧
    wBufs.slicePipe (wBufs.ovenOf 0) 0 = some 0 ∧ wBufs.unitPaired (pipeUnit 0) = false ∧
    wBufs.flag (PIPE_CTL 0) PIPE_CTL.OVF_IE = false := by
  decide +kernel
theorem witness_drain : (wCommit.seq 0).cbuf.map (fun e => (e.missing, e.sent, e.tgt, e.writes.length)) = [([], none, .vm, 32)] := by
  decide +kernel
/-- One whole Granule is the largest entry of one write. -/
def wGranule : State := wSeq wVec fun q => { q with cbuf := [⟨1, 0, 0, false, true, .vm, [.bytes 0x2000 (List.replicate 128 7) false], [0], [],
  none⟩] }
theorem witness_drain_one : 0x2000 % 128 + (List.replicate 128 (7 : Byte)).length ≤ 128 ∧ wGranule.vmOk 0x2000 128 = true ∧
    (∀ g ∈ granules 0x2000 128, wGranule.gcls g = .clean) ∧ SeqIdle wGranule 0 :=
  ⟨by decide +kernel, by decide +kernel, by decide +kernel, by constructor <;> decide +kernel⟩
def wDone : State := nextOf (execSliceCommit 0 1 .pass (nextOf (execStreamDataArrival 0 1 (.data 2) 1
  (nextOf (execStreamDataArrival 0 1 (.data 1) 1 wStored)))))
theorem witness_complete : ∀ v ∈ ((nextOf (execStoreEntryDrain 0 0 false wDone)).seq 0).outs,
    ((nextOf (execStoreEntryDrain 0 0 false wDone)).seq 0).complete v = true := by
  decide +kernel
def wStopped : State := wSeq wIssued fun q => { q with outs := q.outs.map fun v => { v with fault := some wFault } }
theorem witness_record : wFault.atIssue = true ∧ (wStopped.seq 0).vrec.valid = false ∧
    ∀ v ∈ (wStopped.seq 0).outs, v.fault = some wFault ∧ v.done = wFault.k ∧ v.wait = [] := by
  decide +kernel

/-! ### Witnesses: Vector Memory -/

/-- Sequencer 0 at Secure supervisor level. -/
def wSup : Master := mSeq 0 true true
def wSend : State := wSeq wRun fun q => { q with outs := (wIssued.seq 0).outs.map fun v => { v with
  op := .vaadd
  sends := [⟨31, .vm, 0x2000, 5, false⟩] } }
theorem witness_admit : SeqIdle wSend 0 ∧ (∀ v ∈ (wSend.seq 0).outs, (wSend.seq 0).vins 1 = some v ∧ v.sends.length = 1) ∧
    (wSend.vm.atomQ.filter (fun e => e.unit == wSend.atomUnitOf 0x2000)).length < 64 :=
  ⟨by constructor <;> decide +kernel, by decide +kernel, by decide +kernel⟩
def wAtom (op : AtomOp) : AtomEl :=
  { unit := 2047, addr := 0x17FFFFFFF8, size := 8, op := op, ety := 7, aty := 7, v := 5, psn := false, src := .vec 0 1 31, lease := 0,
    world := true }
def wAtomQ (op : AtomOp) : State := { wRun with vm := { wRun.vm with atomQ := [wAtom op] } }
/-- The last word of Vector Memory. -/
theorem witness_atomic : ∀ op ∈ [AtomOp.add, .swap, .cas 0, .vec .vaadd], Still (wAtomQ op) ∧ (wAtomQ op).vm.atomWait = [] ∧
    (wAtomQ op).vmOk 0x17FFFFFFF8 8 = true ∧ ∀ g ∈ granules 0x17FFFFFFF8 8, (wAtomQ op).gcls g = .clean := by
  intro op h
  simp only [List.mem_cons, List.not_mem_nil, or_false] at h
  rcases h with rfl | rfl | rfl | rfl <;>
    exact ⟨by constructor <;> decide +kernel, by decide +kernel, by decide +kernel, by decide +kernel⟩
def wAck : State := { wSeq wRun fun q => { q with outs := (wIssued.seq 0).outs.map fun v => { v with
  op := .vaadd
  unacked := [31] } } with vm := { wRun.vm with atomAcks := [⟨2047, .vec 0 1 31, 0, 1, 0, false, false, false⟩] } }
theorem witness_ack : SeqIdle wAck 0 ∧ (wAck.seq 0).vrec.entries = [] ∧ (wAck.seq 0).outs.length = 1 ∧
    ∀ v ∈ (wAck.seq 0).outs, v.id = 1 ∧ 31 ∈ v.unacked ∧ v.syl.een = false :=
  ⟨by constructor <;> decide +kernel, by decide +kernel, by decide +kernel, by decide +kernel⟩

def wData : List Byte := List.replicate 8 7
/-- The last 8 bytes of the first Granule. -/
theorem witness_bank : bankReqOk 0x78 8 (some wData) = true ∧ bankReqOk 0x78 9 none = false ∧ wRun.vmOk 0x78 8 = true ∧
    (∀ g ∈ granules 0x78 8, wRun.gcls g = .clean) ∧ wRun.fld (VM_REGION 0) VM_REGION.MSTATE ≠ 1 ∧ wRun.vmBank 0 < 32768 := by
  decide +kernel
def wBank (d : Option (List Byte)) : State :=
  { wRun with vm := { wRun.vm with bankQ := [{ bank := wRun.vmBank 0, addr := 0x78, size := 8, data := d, ra := false }] } }
def wRow : State := { wRun with vm := { wRun.vm with act := [(1535, 16384)] } }
theorem witness_row : 16384 ≤ cget wRow.vm.act (0 * 1536 + 1535) ∧ EventPlain wRun vmScrubLate svInfo ∧ wRun.vmRuns = true ∧
    wRun.vmTad = false ∧ cget wRun.vm.patrol 3 + 1 < 8192 * 24576 ∧ wRun.gcls (wRun.granuleAt (3 * 8192) 0) = .clean :=
  ⟨by decide +kernel, by constructor <;> decide +kernel, by decide +kernel, by decide +kernel, by decide +kernel, by decide +kernel⟩
def wScrub (c : GClass) : State :=
  { wRun.setFld (FJ_SRC_CFG vmCE) FJ_SRC_CFG.THRESH 0 with vm := { wRun.vm with scrubQ := [5], cls := if c = .clean then [] else [(5, c)] } }
theorem witness_scrub : (∀ c ∈ [GClass.clean, .poisoned, .corrected], (wScrub c).gcls 5 = c ∧ (wScrub c).vmRuns = true) ∧
    EventPlain (wScrub .corrected) vmCE svCorrected ∧ (wScrub .corrected).winOpen vmCE = false ∧ (wScrub .corrected).tierOf 5 = 0 ∧
    2 ≤ (wScrub .corrected).fld VM_REPAIR_CTL VM_REPAIR_CTL.ROW_CE ∧ 2 ≤ (wScrub .corrected).fld VM_REPAIR_CTL VM_REPAIR_CTL.BANK_ROWS :=
  ⟨by decide +kernel, by constructor <;> decide +kernel, by decide +kernel, by decide +kernel, by decide +kernel, by decide +kernel⟩

def wWindow : State := { wRun.setFld (VM_REGSTAT 95) VM_REGSTAT.HOLD 1 with vm := { wRun.vm with placeAcc := [(95, 2 ^ 22)] } }
theorem witness_window : 2 ^ (12 + min 10 (wWindow.fld VM_PLACE_CTL VM_PLACE_CTL.WINDOW)) ≤ cget wWindow.vm.placeAcc 95 ∧
    0 < wWindow.fld (VM_REGSTAT 95) VM_REGSTAT.HOLD := by
  decide +kernel
theorem witness_migration_req : wSup.ok = true ∧ wSup.secSup = true ∧ CtlGo wRun wSup (VM_REGION 95) 8 ∧
    wRun.fld (VM_REGION 95) VM_REGION.MSTATE = 0 ∧ bitAt (2 ^ 40 + 2 ^ 9 + 2 ^ 36) 40 = true :=
  ⟨by decide +kernel, by decide +kernel, by constructor <;> decide +kernel, by decide +kernel, by decide +kernel⟩
def wMig : State := { wRun with vm := { wRun.vm with migQ := [⟨95, 15, true⟩] } }
theorem witness_migration : wMig.vmRuns = true ∧ wMig.vmTad = false ∧ wMig.flag VM_STATUS VM_STATUS.MIG_ACTIVE = false ∧
    vmHash 95 0 (wMig.fld (VM_REGION 95) VM_REGION.KEY) ≠ vmHash 95 0 15 := by
  decide +kernel
def wSwap : State := nextOf (execMigrationStart wMig)
theorem witness_swap : wSwap.flag VM_STATUS VM_STATUS.MIG_ACTIVE = true ∧ wSwap.fld VM_STATUS VM_STATUS.MIG_REGION = 95 ∧
    wSwap.fld (VM_REGION 95) VM_REGION.BOUNDARY = 0 ∧ wSwap.migDelta 95 0 ≠ 0 ∧ wSwap.vm.swapped = [] ∧ wSwap.vm.lines = [] ∧
    (∀ t, t < 4 → wSwap.flag (VM_REGROW t) VM_REGROW.ACTIVE = false) ∧ wSwap.gcls (wSwap.granuleAt 0 (95 * 256)) = .clean ∧
    wSwap.gcls (wSwap.granuleAt (0 ^^^ wSwap.migDelta 95 0) (95 * 256)) = .clean := by
  decide +kernel
def wRepair : State := { wRun with vm := { wRun.vm with rowDue := [(32767, 1535)] } }
theorem witness_row_repair : EventPlain wRepair vmRowRepair svDegraded ∧ wRepair.vm.rows = [] ∧
    wRepair.flag (VM_REGROW 3) VM_REGROW.ACTIVE = false :=
  ⟨by constructor <;> decide +kernel, by decide +kernel, by decide +kernel⟩
def wRegrowBank : State := (((wRun.setFld (VM_REGROW 3) VM_REGROW.ACTIVE 1).setFld (VM_REGROW 3) VM_REGROW.BANK 8191).setFld
  (VM_REGROW 3) VM_REGROW.SPARE 127).setUst (bankUnit 33279) usRegrow
theorem witness_bank_regrow : Still wRegrowBank ∧ wRegrowBank.flag (VM_REGROW 3) VM_REGROW.ACTIVE = true ∧
    wRegrowBank.vm.bankDue = [] ∧ wRegrowBank.vm.rows = [] ∧ wRegrowBank.physBank 32767 ≠ 33279 ∧
    wRegrowBank.unitState (bankUnit 33279) = usRegrow ∧ (wRegrowBank.freeSpares 3).length ≠ 8 :=
  ⟨by constructor <;> decide +kernel, by decide +kernel⟩
theorem witness_spare_pipe : Still (wRun.setUst (pipeUnit 17) usRegrow) ∧
    (wRun.setUst (pipeUnit 17) usRegrow).unitState (pipeUnit 17) = usRegrow :=
  ⟨by constructor <;> decide +kernel, by decide +kernel⟩

/-! ### Witnesses: the Queue Engine and the fabric -/

/-- Queue 65535, Secure, in Vector Memory, with rings of 2^12 entries, in a state. -/
def wQ (st : Nat) : State :=
  [(QCTX.SQ_LOG, 12), (QCTX.CQ_LOG, 12), (QCTX.LOC, 2), (QCTX.WORLD, 1), (QCTX.STATE, st), (QCTX.CQ_BASE, 0x3000), (QCTX.RSV, 1)].foldl
    (fun s x => s.setQf 65535 x.1 x.2) wRun
theorem witness_queue : wSup.ok = true ∧ wSup.secSup = true ∧ wRun.flag QE_STATUS QE_STATUS.READY = true ∧
    CtlGo (wQ 0) wSup QE_QCMD 4 ∧ CtlGo (wQ 0) wSup (QCTX 65535 + 4 * 14) 8 ∧ CtlGo (wQ 0) wSup (QCTX 65535 + 4 * 15) 4 :=
  ⟨by decide, by decide, by decide +kernel, by constructor <;> decide +kernel, by constructor <;> decide +kernel,
    by constructor <;> decide +kernel⟩
theorem witness_queue_states : (wQ qsDisabled).qState 65535 = qsDisabled ∧ (wQ qsDisabled).qf 65535 QCTX.SQ_LOG = 12 ∧
    (wQ qsDisabled).qf 65535 QCTX.LOC ≠ 3 ∧ (wQ qsEnabled).qState 65535 = qsEnabled ∧ (wQ qsPaused).qState 65535 = qsPaused ∧
    (wQ qsResetting).qState 65535 = qsResetting ∧ ((wQ qsResetting).setQf 65535 QCTX.RSV 0).qf 65535 QCTX.RSV = 0 ∧
    (wQ qsResetting).qf 65535 QCTX.INFLIGHT = 0 ∧ (wQ 0).flag QE_STATUS QE_STATUS.QCMD_BUSY = false ∧ (wQ 0).qe.tkts = [] := by
  decide +kernel
def wTkt (a : TktAt) : Tkt := { queue := 65535, seqno := 3, index := 0, at_ := a, data := 0, buf := none, rcount := 0, gone := false, unit := 0 }
/-- The same queue with one Ticket, in slot 7 of Oven 7 or elsewhere. -/
def wTk (st : Nat) (a : TktAt) : State :=
  let s := (wQ st).setQf 65535 QCTX.INFLIGHT 1
  { s with qe := { s.qe with tkts := [wTkt a] } }
theorem witness_queue_reset : (wTk qsPaused (.slot 7 7)).qState 65535 = qsPaused ∧
    (wTk qsPaused (.slot 7 7)).qe.tkts.filter (fun x => x.queue == 65535) = [wTkt (.slot 7 7)] ∧
    (wTk qsPaused (.slot 7 7)).qf 65535 QCTX.INFLIGHT ≠ 0 ∧ (wTk qsPaused (.slot 7 7)).qe.pools = [] := by
  decide +kernel

/-- Queue 0 in host memory behind endpoint 1's physical function, with one completion entry outstanding. -/
def wDb : State :=
  [(QCTX.SQ_LOG, 4), (QCTX.CQ_LOG, 4), (QCTX.LOC, 1), (QCTX.STATE, qsEnabled), (QCTX.CQ_TAIL, 15), (QCTX.CQ_HEAD, 14)].foldl
    (fun s x => s.setQf 0 x.1 x.2) ((((wRun.setFld (QE_CLASS 0) QE_CLASS.OVENS 1).setFld (QE_OVEN 0) QE_OVEN.RDY 1).setFld
      (HP_QRANGE 1 0) HP_QRANGE.FIRST 0).setFld (LS_STATUS 0) LS_STATUS.READY 1)
theorem witness_doorbell : wDb.dbAccepts 0 (.host 2 0) = true ∧ wDb.qState 0 = qsEnabled ∧ wDb.dbError 0 (some 255) none = false ∧
    wDb.dbError 0 (some 256) none = true ∧ wDb.dbError 0 none (some 15) = false ∧ EventPlain wDb qeDbErr svInfo ∧
    wDb.now < wDb.qe.ffAt + 1000 ∧
    (wDb.classOvens 0).1.any (fun o => (wDb.seqOf o).isSome && !wDb.dozing o) = true :=
  ⟨by decide +kernel, by decide +kernel, by decide +kernel, by decide +kernel, by decide +kernel, by constructor <;> decide +kernel,
    by decide +kernel, by decide +kernel⟩
def wFetch : State := (wDb.setFld QE_CTL QE_CTL.EN 1).setQf 0 QCTX.SQ_TAIL 1
theorem witness_ticket_fetch : wFetch.qeRuns = true ∧ wFetch.st.quiesce = none ∧
    wFetch.liveQueues.filter (fun x => wFetch.eligible x) = [0] ∧ wFetch.now < wFetch.qe.ffAt + 1000 := by
  decide +kernel
/-- The Ticket of queue 0 being read; the General program-entry table's entry 127 is valid. -/
def wArrive : State :=
  { (wFetch.setFld (SEQ_CTL 0) SEQ_CTL.REMAP 1) with
      pm := [(0x6FC, 0x05)]
      qe := { wFetch.qe with tkts := [{ wTkt .reading with queue := 0 }] } }
theorem witness_ticket_arrival : wArrive.leastBusy (((wArrive.classOvens 0).1.filter (fun x => (wArrive.seqOf x).isSome)).filter
      (fun x => wArrive.ovenFit x false && !wArrive.dozing x)) = some 0 ∧ (wArrive.classOvens 0).2 = false ∧
    wArrive.seqOf 0 = some 0 ∧ wArrive.lsOf 0 = some 0 ∧ bitAt (wArrive.pmNat 0 (entryAddr false 127) 4) 0 = true ∧
    wArrive.pmBadAt 0 (entryAddr false 127) = false ∧ wArrive.qeRuns = true ∧ wArrive.qState 0 = qsEnabled ∧
    wArrive.qf 0 QCTX.INFLIGHT < 255 ∧ wArrive.lsCheck 0 true (slotOff false 0) 128 = none ∧
    ({ wTkt .reading with data := 127 } : Tkt).opcode = 127 ∧ ({ wTkt .reading with data := 127 } : Tkt).bufReq = false := by
  decide +kernel
def wDisp : State := { wRun with qe := { wRun.qe with unread := [(0, true, 7)] } }
theorem witness_dispatch_read : CtlGo wDisp wSup (QE_DISP_S 0) 8 ∧ wDisp.ovenSup wSup 0 = true ∧
    wDisp.dispHead 0 true = some (0, true, 7) :=
  ⟨by constructor <;> decide +kernel, by decide +kernel, by decide +kernel⟩
theorem witness_completion : CtlGo (wTk qsEnabled (.slot 0 7)) wSup (QE_CPL_POST_S 0) 4 ∧
    (wTk qsEnabled (.slot 0 7)).vmOk 0x3000 16 = true ∧ (∀ g ∈ granules 0x3000 16, (wTk qsEnabled (.slot 0 7)).gcls g = .clean) ∧
    0 + 1 < (wTk qsEnabled (.slot 0 7)).cqSize 65535 ∧ (wTk qsEnabled (.slot 0 7)).qf 65535 QCTX.CQ_LOG < 13 :=
  ⟨by constructor <;> decide +kernel, by decide +kernel, by decide +kernel, by decide +kernel, by decide +kernel⟩
theorem witness_redispatch : (wTk qsEnabled .lost).fj.reactions = [] ∧
    (wTkt .lost).rcount < max 1 ((wTk qsEnabled .lost).fld QE_CTL QE_CTL.REDISP_MAX) ∧ EventPlain (wTk qsEnabled .lost) qeRedisp svDegraded :=
  ⟨by decide +kernel, by decide +kernel, by constructor <;> decide +kernel⟩

/-- Pool 255: 4 buffers of 128 bytes at 0x8000, its ring at 0x9000. -/
def wPool : State :=
  (((((wRun.setFld (QE_POOL_BASE 255) QE_POOL_BASE.BASE 0x100).setFld (QE_POOL_RING 255) QE_POOL_RING.RING 0x120).setFld
    (QE_POOL_CFG 255) QE_POOL_CFG.TOTAL 4).setFld (QE_POOL_CFG 255) QE_POOL_CFG.EN 1).setFld (QE_POOL_CFG 255) QE_POOL_CFG.WORLD 1).setFld
    (QE_POOL_STAT 255) QE_POOL_STAT.FREE 4
def wHeld : State :=
  { (wPool.setFld (QE_POOL_STAT 255) QE_POOL_STAT.FREE 3) with qe := { wPool.qe with
      pools := [(255, { Pool.reset with next := 1, held := [(0, masterHolder wSup)] })] } }
def wPoolOff : State := wPool.setFld (QE_POOL_CFG 255) QE_POOL_CFG.EN 0
def wPoolInit : State := (wPool.setFld (QE_POOL_STAT 255) QE_POOL_STAT.FREE 0).setFld (QE_POOL_STAT 255) QE_POOL_STAT.INIT 1
theorem witness_pool : poolNo wSup = some 0 ∧ wPool.poolFree 255 = 4 ∧ wPool.fld (QE_POOL_STAT 255) QE_POOL_STAT.FREE = 4 ∧
    wPool.poolEn 255 = true ∧ wPool.poolInit 255 = false ∧ (wPool.pool 255).next < wPool.poolTotal 255 ∧
    poolWorld wSup = true ∧ wPool.poolFree 255 ≠ wPool.fld (QE_POOL_LOW 255) QE_POOL_LOW.LOW + 1 := by
  decide +kernel
theorem witness_pool_free : CtlGo wHeld wSup (QE_FREE 255) 8 ∧ wHeld.bufAt 255 0x8000 = some 0 ∧
    (wHeld.pool 255).held.find? (fun h => h.1 == 0) = some (0, masterHolder wSup) ∧
    wHeld.fld (QE_POOL_STAT 255) QE_POOL_STAT.FREE = wHeld.poolFree 255 ∧ wHeld.poolFree 255 = 3 :=
  ⟨by constructor <;> decide +kernel, by decide +kernel, by decide +kernel, by decide +kernel, by decide +kernel⟩
theorem witness_pool_enable : CtlGo wPool wSup (QE_POOL_CFG 255) 4 ∧ wPoolOff.poolEn 255 = false ∧ (wPoolOff.pool 255).held = [] ∧
    bitAt 0x221 6 = false ∧ bitAt 0x221 31 = false ∧
    bitsOf 0x220 1 30 = bitsOf (wPool.reg (QE_POOL_CFG 255)).toNat 1 30 ∧ wPoolInit.poolInit 255 = true ∧
    wPoolInit.fld (QE_POOL_STAT 255) QE_POOL_STAT.FREE = 0 :=
  ⟨by constructor <;> decide +kernel, by decide +kernel, by decide +kernel, by decide, by decide, by decide +kernel, by decide +kernel,
    by decide +kernel⟩

def wReq (k v : Nat) : FabReq := {
  who := mSeq (Fin.ofNat 9 k) true true
  vc2 := false
  kind := .ctl
  unit := 0
  addr := QCTX k
  size := 8
  data := some v }
/-- Sequencers 0 and 8 at one port, parked on the Starter. -/
theorem witness_fabric : (wReq 0 1).ok = true ∧ (wReq 8 2).ok = true ∧ (wReq 0 1).who.isHost = false ∧
    fabPort (wReq 0 1) = fabPort (wReq 8 2) ∧ wRun.parkedOn (fabPort (wReq 0 1)) = 13 ∧
    (wRun.fabServe (wReq 0 1)).2.isSome = true ∧ (wRun.fabServe (wReq 0 1)).1.pending = wRun.pending ∧
    (wRun.fabServe (wReq 0 1)).1.fab.waiting = [] := by
  decide +kernel
def wStarterReq (d : Option Nat) : FabReq := { wReq 0 0 with
  who := mStart
  addr := 0xFFFFFFFF
  data := d }
theorem witness_fabric_timeout : (wStarterReq none).ok = true ∧ (wStarterReq (some 1)).ok = true ∧ (wStarterReq none).who.id = 13 ∧
    EventPlain wRun 0xFB svSevere ∧ CtlGo wRun wSup (QCTX 65535) 8 :=
  ⟨by decide, by decide, by decide, by constructor <;> decide +kernel, by constructor <;> decide +kernel⟩
def wDoze : State := (wRun.setFld ST_MODE ST_MODE.DOZE_OVENS 0x80).setFld (QE_OVEN 7) QE_OVEN.DOZE 1
def wWaking : State := { wDoze with qe := { wDoze.qe with waking := [7] } }
def wIdle : State := (wRun.setFld QE_CTL QE_CTL.DOZE_IDLE 1).setObj 0x2000 8 [1]
theorem witness_oven_wake : wDoze.dozing 7 = true ∧ 7 ∉ wDoze.qe.waking := by decide +kernel
theorem witness_oven_wake_done : 7 ∈ wWaking.qe.waking ∧ (wWaking.seqOf (0 : Fin 8)).isSome = true ∧ wWaking.dozing 0 = false ∧
    wWaking.modeName = wWaking.mode ∧ wWaking.qe.tkts = [] ∧ Still wWaking :=
  ⟨by decide +kernel, by decide +kernel, by decide +kernel, by decide +kernel, by decide +kernel, by constructor <;> decide +kernel⟩
theorem witness_doze_hint : wIdle.seqOf 7 = some 7 ∧ wIdle.fld QE_CTL QE_CTL.DOZE_IDLE ≠ 0 ∧ wIdle.objNat 0x2000 8 ≠ 0 ∧
    (wIdle.seq 7).outs = [] ∧ wIdle.st.base = 6 ∧ 7 ∉ wIdle.qe.waking ∧ (wIdle.seqOf 0).isSome = true ∧ wIdle.dozing 0 = false ∧
    wIdle.modeName = wIdle.mode := by
  decide +kernel

/-! ### Witnesses: the local stores and the Block Mover -/

/-- The spare store, its secure part 16 x 64 KiB, with two bytes and an uncorrectable word in it. -/
def wLs : State := { (wRun.setFld (LS_SEC 8) LS_SEC.SIZE 16).setFld (LS_STATUS 8) LS_STATUS.READY 1 with
  ls := [(lsAddr 8 0, 5), (lsAddr 8 0xFFFFF, 6), (lsAddr 8 0x100000, 7)]
  lsBad := [lsAddr 8 0xFFFF8 / 8, lsAddr 8 0x100000 / 8] }
theorem witness_secure_part : mStart.ok = true ∧ lsMayWrite mStart 8 = true ∧ CtlGo wLs mStart (LS_SEC 8) 4 ∧
    wLs.flag (LS_SEC 8) LS_SEC.LOCK = false ∧ wLs.fld (LS_SEC 8) LS_SEC.SIZE = 16 ∧ min 16 16 ≤ min 16 31 ∧ min 16 0 < min 16 16 :=
  ⟨by decide, by decide, by constructor <;> decide +kernel, by decide +kernel, by decide +kernel, by decide, by decide⟩
def wLsFree : State := (wLs.setFld (QE_OVEN 0) QE_OVEN.RDY 0).setUst (lsUnit 8) usBound
def wMarch (p : Bool) : March := ⟨8, p, 0x8001⟩
def wLsMarch (p : Bool) : State := { (wLsFree.setFld (LS_MARCH_STATUS 8) LS_MARCH_STATUS.BUSY 1).setFld (LS_STATUS 8) LS_STATUS.MARCH_BUSY 1
  with marches := [wMarch p] }
theorem witness_march_start : CtlGo wLsFree mStart (LS_MARCH_CTL 8) 4 ∧ wLsFree.marches = [] ∧ wLsFree.marchFree 8 = true :=
  ⟨by constructor <;> decide +kernel, by decide +kernel, by decide +kernel⟩
theorem witness_march : Still (wLsMarch false) ∧ (wLsMarch false).marches.find? (fun m => m.store == 8) = some (wMarch false) ∧
    CtlGo (wLsMarch false) mStart (LS_MARCH_CTL 8) 4 ∧ EventPlain (wLsMarch false) (0x0B4 + 8 * 8) svDegraded ∧
    (wLsMarch false).flag (LS_MARCH_CTL 8) LS_MARCH_CTL.ABORT = false ∧ bitAt (wMarch false).banks 15 = true :=
  ⟨by constructor <;> decide +kernel, by decide +kernel, by constructor <;> decide +kernel, by constructor <;> decide +kernel,
    by decide +kernel, by decide⟩
def wLsWipe : State := { wLs.setFld (LS_STATUS 8) LS_STATUS.SEC_WIPING 1 with lsWipes := [⟨8, 0, 0x100000, some 0⟩] }
theorem witness_secure_wipe : Still wLsWipe ∧ wLsWipe.lsWipes.filter (fun x => x.store == 8) = [⟨8, 0, 0x100000, some 0⟩] :=
  ⟨by constructor <;> decide +kernel, by decide +kernel⟩

/-- Channel 31: a copy of one 8-byte element from 0x2000 to 0x17FFFFFFF8, its descriptor at 0x4000. -/
def wDesc (ctl : Nat) : Nat := 0x2000 + 0x17FFFFFFF8 * 2 ^ 64 + 1 * 2 ^ 288 + 1 * 2 ^ 320 + 1 * 2 ^ 336 + ctl * 2 ^ 352 + 0x4040 * 2 ^ 384
def wBm (st : Nat) (ctl : Nat) (ph : BmPhase) : State :=
  let s := (wRun.setFld (BM_CHST 31) BM_CHST.STATE st).setFld (BM_DESC 31) BM_DESC.DESC 0x4000
  { s with
    bm := s.bm.set 31 { BmChan.reset with
      desc := BitVec.ofNat 512 (wDesc ctl)
      phase := ph }
    vm := { s.vm with bytes := memWrite [] 0x2000 (List.replicate 8 7) } }
def wBmErred : State := (wBm bsHalted 0x30 .move).setFld (BM_CHST 31) BM_CHST.ERRED 1
theorem witness_bm_command : CtlGo wRun mStart (BM_CMD 31) 4 ∧ wRun.bmMaster mStart 31 = true ∧
    wRun.flag BM_STATUS BM_STATUS.READY = true ∧ wRun.flag BM_STATUS BM_STATUS.FENCED = false ∧
    wRun.flag BM_STATUS BM_STATUS.HOLD = false ∧ wRun.st.base = 6 ∧ wRun.bmState 31 = bsIdle ∧
    (wBm bsRunning 0 .fetch).bmState 31 = bsRunning ∧ wBmErred.bmState 31 = bsHalted ∧
    wBmErred.flag (BM_CHST 31) BM_CHST.ERRED = true ∧ wBmErred.flag BM_STATUS BM_STATUS.HALTED = false :=
  ⟨by constructor <;> decide +kernel, by decide +kernel⟩
def wBmHalt : State := wBmErred.setFld BM_STATUS BM_STATUS.HALTED 1
theorem witness_bm_halt : CtlGo wBmHalt mStart BM_CTL 4 ∧ mStart.secSup = true ∧ wBmHalt.flag BM_STATUS BM_STATUS.HALTED = true ∧
    EventPlain wBmHalt bmHaltAutoSrc svInfo ∧ EventPlain wBmErred bmBusErr svDegraded :=
  ⟨by constructor <;> decide +kernel, by decide, by decide +kernel, by constructor <;> decide +kernel, by constructor <;> decide +kernel⟩
def wBmQuiesce : State := { wBm bsRunning 0x30 .move with st := { wRun.st with quiesce := some 4 } }
theorem witness_bm_abort : (∀ s ∈ [wBmErred, wBmQuiesce], bitAt (s.regNat (BM_DESC 31) 2) 0 = false ∧ (s.bmChan 31).descErr = false ∧
      s.vmOk (0x4000 + 60) 4 = true ∧ ∀ g ∈ granules (0x4000 + 60) 4, s.gcls g = .clean) ∧ wBmQuiesce.st.quiesce.isSome = true ∧
    wBmQuiesce.bmState 31 = bsRunning ∧ EventPlain wBmQuiesce bmPowerAbortSrc svInfo :=
  ⟨by decide +kernel, by decide +kernel, by decide +kernel, by constructor <;> decide +kernel⟩
def wBmFetch : State := { wBm bsRunning 0 .fetch with vm := { wRun.vm with bytes := memWrite [] 0x4000 (toBytes 64 (wDesc 0x230)) } }
theorem witness_bm_fetch : wBmFetch.bmRuns = true ∧ wBmFetch.bmState 31 = bsRunning ∧ (wBmFetch.bmChan 31).phase = .fetch ∧
    wBmFetch.vmOk 0x4000 64 = true ∧ (∀ g ∈ granules 0x4000 64, wBmFetch.gcls g = .clean) ∧
    ({ BmChan.reset with desc := BitVec.ofNat 512 (ofBytes (memRead wBmFetch.vm.bytes 0x4000 64)) } : BmChan).bad = false := by
  decide +kernel
theorem witness_bm_element : ∀ ctl ∈ [0x30, 0x230], let s := wBm bsRunning ctl .move; let x := s.bmChan 31
    s.bmRuns = true ∧ x.op = 0 ∧ x.sspace = 0 ∧ x.dspace = 0 ∧ x.overlap = false ∧ x.cnt2 = 1 ∧ x.esize = 8 ∧
      x.srcAddr 0 0 0 = 0x2000 ∧ x.dstAddr 0 0 0 = 0x17FFFFFFF8 ∧ s.vmOk 0x2000 8 = true ∧ s.vmOk 0x17FFFFFFF8 8 = true ∧
      ∀ g ∈ granules 0x2000 8 ++ granules 0x17FFFFFFF8 8, s.gcls g = .clean := by
  decide +kernel
theorem witness_bm_end : let s := wBm bsRunning 0x30 .finish; let t := wBm bsRunning 0x1230 .finish
    (s.bmChan 31).phase = .finish ∧ (s.bmChan 31).writes = [] ∧ (s.bmChan 31).ctl 13 1 = 0 ∧ (s.bmChan 31).chk = false ∧
      (s.bmChan 31).ctl 12 1 = 0 ∧ (t.bmChan 31).chk = true ∧ (t.bmChan 31).ctl 11 1 = 0 ∧ (t.bmChan 31).ctl 12 1 = 1 ∧
      (t.bmChan 31).ctl 14 1 = 0 ∧ (t.bmChan 31).ctl 13 1 = 0 ∧ t.st.quiesce = none ∧ t.vmOk (0x4000 + 56) 8 = true ∧
      ∀ g ∈ granules (0x4000 + 56) 8, t.gcls g = .clean := by
  decide +kernel

/-! ### Witnesses: the chain -/

/-- Device 0x123 with ports 0 and 7 up; device 0x456 lies behind port 7. Port 1 is training. -/
def wCh : State :=
  [(CH_ID, CH_ID.ID, 0x123), (CH_ID, CH_ID.VALID, 1), (CH_CTL 0, CH_CTL.EN, 1), (CH_CTL 7, CH_CTL.EN, 1), (CH_CTL 1, CH_CTL.EN, 1),
    (CH_STATUS 0, CH_STATUS.LSTATE, lsUp), (CH_STATUS 7, CH_STATUS.LSTATE, lsUp), (CH_STATUS 1, CH_STATUS.LSTATE, lsTraining),
    (CH_ROUTE 0x456, CH_ROUTE.VALID, 1), (CH_ROUTE 0x456, CH_ROUTE.PORT, 7)].foldl (fun s x => s.setFld x.1 x.2.1 x.2.2) wRun
def wPort (p : Fin 8) (x : ChPort) : State := { wCh with ch := { wCh.ch with ports := wCh.ch.ports.set p x } }
def wTrain : State := wPort 1 { ChPort.reset with train := .start }
theorem witness_train : wTrain.flag (CH_CTL 1) CH_CTL.EN = true ∧ wTrain.lstate 1 = lsTraining ∧ (wTrain.chPort 1).train = .start ∧
    (wTrain.chPort 1).failed = [] ∧ wTrain.chPowered = true ∧ wTrain.ch.dead = none ∧
    wTrain.flag (CH_CTL 1) CH_CTL.DATELINE = false ∧ wTrain.ch.inbox = [] := by
  decide +kernel
theorem witness_link_down : CtlGo wCh mStart (CH_CTL 7) 4 ∧ wCh.chUp 7 = true ∧ (wCh.chPort 7).train ≠ .start ∧ wCh.chTraffic = true ∧
    wCh.flag CH_RING CH_RING.EN = false ∧ (wCh.chPort 7).replay = [] ∧ (wCh.chPort 7).sending = none ∧ (wCh.chPort 7).queue = [] ∧
    wCh.lstate 1 = lsTraining ∧ (wCh.chPort 1).train ≠ .start ∧
    EventPlain wCh (chSrc 7 ckPartition) (srcSev (chSrc 7 ckPartition)) ∧ EventPlain wCh (chSrc 1 ckPartition) (srcSev (chSrc 1 ckPartition)) :=
  ⟨by constructor <;> decide +kernel, by decide +kernel, by decide +kernel, by decide +kernel, by decide +kernel, by decide +kernel,
    by decide +kernel, by decide +kernel, by decide +kernel, by decide +kernel, by constructor <;> decide +kernel,
    by constructor <;> decide +kernel⟩
theorem witness_lane : CtlGo wCh mStart (CH_LANE 7) 4 ∧ wCh.spareFree 7 = true ∧ wCh.fj.regrows = [] ∧
    EventPlain wCh (chSrc 7 ckLaneSpare) svDegraded ∧ (wCh.fj.jq.filter (fun r => decide (recKind r ≠ kFlush))).length + 4 < 64 ∧
    2 ≤ wCh.st.base ∧ wCh.flag (CH_LANE 7) (12 + 7, 1) = false ∧ 7 ∉ (wCh.chPort 7).failed ∧
    (List.replicate 9 (1 : BitVec 16)).length = 9 ∧ 1 ≤ 2 ^ wCh.fld (CH_LANE 7) CH_LANE.SPARE_EXP :=
  ⟨by constructor <;> decide +kernel, by decide +kernel, by decide +kernel, by constructor <;> decide +kernel, by decide +kernel,
    by decide +kernel, by decide +kernel, by decide +kernel, by decide, by decide +kernel⟩
def wReplay : State := wPort 7 { ChPort.reset with
  rxSeq := 4095
  txSeq := 4095
  replay := [⟨4094, List.replicate 15 0, []⟩] }
def wFlit (ok : Bool) : FlitIn := ⟨ok, 0, 3, false, 0, 0, none, List.replicate 15 0⟩
/-- Sequence number 0 follows 4095. -/
theorem witness_flit : wReplay.chUp 7 = true ∧ (wReplay.chPort 7).replay ≠ [] ∧ (wReplay.chPort 7).replay.length < 512 ∧
    (wReplay.chPort 7).part = [] ∧ (wReplay.chPort 7).queue = [] ∧ (wReplay.chPort 7).sending = none ∧
    (wFlit true).seq.toNat = ((wReplay.chPort 7).rxSeq + 1) % 4096 ∧ (∀ r ∈ (wReplay.chPort 7).replay, r.seq ≠ (wFlit true).ack.toNat) := by
  decide +kernel

/-- A message of a type from device 0x456 at port 0. -/
def wMsg (ty vc sub store bytes addr stat : Nat) (data : List Byte) : ChMsg :=
  ChMsg.make ty vc 0x123 0x456 0xFFF sub 7 store bytes addr stat false data
theorem witness_chain_to : ChainTo wCh 0x456 7 := by constructor <;> decide +kernel
def wWin : State :=
  [(CH_WIN 7, CH_WIN.BASE, 0x2000), (CH_WIN 7, CH_WIN.LIMIT, 0x207F), (CH_WIN 7, CH_WIN.SRC_LO, 0x456), (CH_WIN 7, CH_WIN.SRC_HI, 0x456),
    (CH_WIN 7, CH_WIN.STORE, 15), (CH_WIN 7, CH_WIN.VALID, 1), (CH_WIN 7, CH_WIN.RD, 1), (CH_WIN 7, CH_WIN.WR, 1),
    (CH_WIN 7, CH_WIN.ATOM, 1)].foldl (fun s x => s.setFld x.1 x.2.1 x.2.2) wCh
def wRd : ChMsg := wMsg 1 0 0 15 128 0x2000 0 []
def wWr : ChMsg := wMsg 2 0 0 15 128 0x2000 0 (List.replicate 128 9)
def wAtm : ChMsg := wMsg 3 0 5 15 8 0x2078 0 (List.replicate 16 9)
/-- The whole of the window, and its last word. -/
theorem witness_window_requests : (∀ m ∈ [wRd, wWr, wAtm], m.ok = true ∧ (upTo 8).any (fun w => wWin.winAdmits w m) = true ∧
    m.src = 0x456 ∧ m.store = 15 ∧ wWin.vmOk m.addr m.bytes = true ∧ (∀ g ∈ granules m.addr m.bytes, wWin.gcls g = .clean) ∧
    m.poison = false) ∧ wRd.isType 1 = true ∧ wWr.isType 2 = true ∧ wAtm.isType 3 = true := by
  decide +kernel
theorem witness_chain_in : ChainIn wWin 0 wRd ∧ ChainTo wWin 0x456 7 :=
  ⟨by constructor <;> decide +kernel, by constructor <;> decide +kernel⟩
def wDbMsg : ChMsg := wMsg 4 0 0 0 1 (65535 + 255 * 2 ^ 32) 0 []
def wChDb : State :=
  [(QCTX.SQ_LOG, 4), (QCTX.CQ_LOG, 4), (QCTX.LOC, 2), (QCTX.STATE, qsEnabled)].foldl
    (fun s x => s.setQf 65535 x.1 x.2) ((wCh.setFld CH_CFG CH_CFG.DB_EN 1).setFld (QE_CLASS 0) QE_CLASS.OVENS 1)
theorem witness_chain_doorbell : ChainIn wChDb 0 wDbMsg ∧ wDbMsg.isType 4 = true ∧ wDbMsg.addr % 65536 = 65535 ∧ bitAt wDbMsg.addr 16 = false ∧
    wChDb.qf 65535 QCTX.LOC = 2 ∧ wChDb.qWorld 65535 = false ∧ wChDb.qState 65535 = qsEnabled ∧
    wChDb.dbError 65535 (some (bitsOf wDbMsg.addr 32 16)) none = false ∧ wChDb.now < wChDb.qe.ffAt + 1000 ∧
    (wChDb.classOvens 0).1.any (fun o => (wChDb.seqOf o).isSome && !wChDb.dozing o) = true ∧ wCh.flag CH_CFG CH_CFG.DB_EN = false :=
  ⟨by constructor <;> decide +kernel, by decide +kernel⟩

def wTag (w : ChReq) : State := { wCh with ch := { wCh.ch with tags := [⟨0xFFF, w, 7, false⟩] } }
def wBack (ty sub : Nat) : ChMsg := wMsg ty 1 sub 0 8 0 0 (if ty = 8 ∨ ty = 10 then List.replicate 16 9 else [])
theorem witness_responses : (∀ t ∈ [8, 9, 10, 11, 12], (wBack t 0).ok = true ∧ (wBack t 0).isType t = true ∧ (wBack t 0).tag = 0xFFF) ∧
    ChainIn (wTag (.bmRead 31)) 0 (wBack 8 0) ∧ bitAt (wBack 9 0).stat 0 = false ∧ (wBack 10 0).poison = false ∧
    EventPlain (wTag .bell) (chSrc 7 ckDbErr) (srcSev (chSrc 7 ckDbErr)) :=
  ⟨by decide +kernel, by constructor <;> decide +kernel, by decide +kernel, by decide +kernel, by constructor <;> decide +kernel⟩
def wBmWrites : State := { wTag (.bmWrite 31 4) with bm := wCh.bm.set 31 { BmChan.reset with writes := [(4, 8)] } }
theorem witness_wrack : (wBmWrites.bmChan 31).writes.find? (fun w => w.1 == 4) = some (4, 8) := by decide +kernel
def wRemote : State :=
  (wTag (.scalar 8)).setSeq 8 { wCh.seq 8 with
    spec := [⟨1, (wCh.seq 8).arch, 0, 1, .access { wAccess .aaddD false 8 with tgt := .remote 0x456 0 } none true false⟩] }
theorem witness_atomrsp : (wRemote.seq 8).spec.length = 1 ∧ (wRemote.seq 8).waiting = [] ∧ (wRemote.seq 8).tail = none ∧
    (wRemote.seq 8).outs = [] := by
  decide +kernel
def wTagHalted : State := ((wTag (.bmRead 31)).setFld BM_STATUS BM_STATUS.HALTED 1).setFld (FJ_SRC_CFG (chSrc 7 ckRspTimeout))
  FJ_SRC_CFG.THRESH 0
theorem witness_tag_timeout : wTagHalted.mode ≠ mTransit ∧ wTagHalted.ch.tags.find? (fun t => t.tag == 0xFFF) = some ⟨0xFFF, .bmRead 31, 7, false⟩ ∧
    wTagHalted.flag BM_STATUS BM_STATUS.HALTED = true ∧ EventPlain wTagHalted (chSrc 7 ckRspTimeout) (srcSev (chSrc 7 ckRspTimeout)) :=
  ⟨by decide +kernel, by decide +kernel, by decide +kernel, by constructor <;> decide +kernel⟩

/-- The same device at position 0 of a ring of 16, port 0 east and port 7 west. -/
def wRing : State :=
  [(CH_RING, CH_RING.EN, 1), (CH_RING, CH_RING.SIZE, 15), (CH_CTL 0, CH_CTL.ROLE, 1), (CH_CTL 7, CH_CTL.ROLE, 2)].foldl
    (fun s x => s.setFld x.1 x.2.1 x.2.2) wCh
def wHop (ty src sub : Nat) (d : Nat) : ChMsg := ChMsg.make ty 2 0x123 src 0 sub 0 0 1 0 0 false (toBytes 16 d)
def wNbr : ChMsg := wHop 32 0x456 0 (0xFFF + 2 ^ 12 + 2 * 2 ^ 13 + 1 * 2 ^ 15)
theorem witness_nbr : ChainIn wRing 0 wNbr ∧ wNbr.isType 32 = true ∧ wRing.wiringOk 0 (wNbr.d 13 2) (wNbr.d 15 4) = true ∧
    bitAt (wNbr.d 0 13) 12 = true :=
  ⟨by constructor <;> decide +kernel, by decide +kernel, by decide +kernel, by decide +kernel⟩
def wTime : State := { (wCh.setFld CH_TIMING CH_TIMING.EN 1).setFld CH_TIMING CH_TIMING.UPPORT 7 with
  st := { wCh.st with tb := 1000 }
  ch := { wCh.ch with t1 := some 100 } }
theorem witness_time : ChainIn wTime 7 (wHop 33 0x456 0 0) ∧ ChainIn wTime 7 (wHop 33 0x456 1 (2000 + 2100 * 2 ^ 64)) ∧
    (wHop 33 0x456 1 0).isType 33 = true ∧ (wHop 33 0x456 1 0).sub ≠ 0 ∧ wTime.fld CH_TIMING CH_TIMING.UPPORT = 7 ∧
    wTime.timeRuns = true ∧ wTime.flag TB_CTL TB_CTL.STEER_EN = false ∧ wTime.ch.t1 = some 100 :=
  ⟨by constructor <;> decide +kernel, by constructor <;> decide +kernel, by decide +kernel, by decide +kernel, by decide +kernel,
    by decide +kernel, by decide +kernel, by decide +kernel⟩
theorem witness_flood : ChainIn wRing 0 (wHop 34 0x456 0 15) ∧ (wHop 34 0x456 0 15).isType 34 = true ∧
    ((wHop 34 0x456 0 15).src, (wHop 34 0x456 0 15).tag) ∉ wRing.ch.seen ∧ bitAt ((wHop 34 0x456 0 15).d 0 5) 4 = false ∧
    wRing.flag CH_RING CH_RING.FAIL_A_V = false ∧ wRing.flag CH_RING CH_RING.TRANSIT = false ∧ wRing.ringPort false = some 0 ∧
    wRing.ringPort true = some 7 ∧ wRing.chUp 0 = true ∧ wRing.chUp 7 = true :=
  ⟨by constructor <;> decide +kernel, by decide +kernel⟩
/-- Channel 1's west mark comes back turned nowhere; one message waited for it. -/
def wHeld1 : ChHeld := ⟨ChMsg.make 9 1 0x456 0x123 5 0 0 0 1 0 0 false [], true⟩
def wMarks : State := { wRing with ch := { wRing.ch with
  marks := [(1, true), (0, true)]
  held := [wHeld1] } }
def wMark : ChMsg := ChMsg.make 16 1 0x123 0x123 0 0 0 0 1 0 0 false []
theorem witness_mark : ChainIn wMarks 0 wMark ∧ wMark.isType 16 = true ∧ wMark.src = wMarks.chId ∧ wMarks.ringDir 0 = some false ∧
    wMark.vc = 1 ∧ wMark.turned = false ∧ (1, true) ∈ wMarks.ch.marks ∧ wMarks.ch.marks.erase (1, true) ≠ [] ∧
    wMarks.ch.held.filter (fun h => h.msg.vc == 1 && h.west == true) = [wHeld1] ∧
    (let u : State := { wMarks with ch := { wMarks.ch with
        marks := [(0, true)]
        held := [] } }
     u.chRoute wHeld1.msg 8 = .port 7 ∧ u.heldDir wHeld1.msg = none) :=
  ⟨by constructor <;> decide +kernel, by decide +kernel⟩
def wDead : State := { wMarks with ch := { wMarks.ch with
  dead := some 7
  recDone := false
  ports := wMarks.ch.ports.set 7 { ChPort.reset with
    queue := [wHeld1.msg]
    replay := [⟨4095, [], []⟩] } } }
theorem witness_reconcile : ChainIn wDead 0 (wHop 35 0x456 0 4095) ∧ (wHop 35 0x456 0 4095).isType 35 = true ∧
    wDead.ch.dead = some 7 ∧ wDead.ch.recDone = false ∧ (wDead.chPort 7).unreceived ((wHop 35 0x456 0 4095).d 0 12) = [] ∧
    (wDead.chPort 7).queue = [wHeld1.msg] ∧ wDead.ch.deadQ = [] ∧ wDead.ch.marks ≠ [] ∧ wHeld1.msg.ty ≠ mtMARK ∧
    wHeld1.msg.turned = false ∧ wDead.ringPort (decide (wDead.ringPort false = some 7)) = some 0 ∧ wDead.chUsable 0 = true :=
  ⟨by constructor <;> decide +kernel, by decide +kernel⟩
/-- The answer of device node 6 to the CAN request of node 5 with transfer 9. -/
def wMgmt : ChMsg := ChMsg.make 36 2 0x123 0x456 0 0 0 0 8 (5 + 6 * 2 ^ 13 + 3 * 2 ^ 26) 0 false [0, 9, 0, 0, 0, 0, 0, 0]
def wRelay : State := { wCh with st := { wCh.st with relays := [⟨1, 5, 6, 9, 0x1000, 0, false⟩] } }
theorem witness_mgmt : ChainIn wRelay 0 wMgmt ∧ wMgmt.isType 36 = true ∧ wRelay.st.canTx = [] ∧ wMgmt.addr / 2 ^ 26 % 8 = 3 ∧
    wRelay.st.relays.find? (fun r => r.src == 5 && r.dst == 6 && (r.tid == 9 || r.tid == 0)) = some ⟨1, 5, 6, 9, 0x1000, 0, false⟩ :=
  ⟨by constructor <;> decide +kernel, by decide +kernel⟩
def wTransit : State := { wRing.setFld CH_RING CH_RING.TRANSIT 1 with ch := { wRing.ch with marks := [(0, true)] } }
theorem witness_transit_timeout : wTransit.flag CH_RING CH_RING.TRANSIT = true ∧ wTransit.ch.dead = none ∧ wTransit.ch.held = [] ∧
    wTransit.ch.inbox = [] ∧ EventPlain wTransit (chSrc 0 ckTransitLong) (srcSev (chSrc 0 ckTransitLong)) ∧
    (wTransit.fj.jq.filter (fun r => decide (recKind r ≠ kFlush))).length + 1 < 64 :=
  ⟨by decide +kernel, by decide +kernel, by decide +kernel, by decide +kernel, by constructor <;> decide +kernel, by decide +kernel⟩
theorem witness_ring_restore : CtlGo wRing mStart CH_RING 4 ∧ CtlGo wCh mStart CH_DBSEND 8 ∧ mStart.anySup = true ∧ wCh.ch.tags = [] :=
  ⟨by constructor <;> decide +kernel, by constructor <;> decide +kernel, by decide, by decide +kernel⟩

/-! ### Witnesses: the host ports -/

/-- Endpoint 3, its physical function and its 256 virtual functions, up; its window starts at the last region. -/
def wHost : State :=
  let s := [(HP_STATUS 1 1, HP_STATUS.LSTATE, 2), (HP_STATUS 1 1, HP_STATUS.VFE, 1), (HP_STATUS 1 1, HP_STATUS.NUMVF, 256),
    (HP_CTL 1 1, HP_CTL.EN, 1), (HP_CTL 1 1, HP_CTL.PF_WINREG, 95), (HP_CTL 1 0, HP_CTL.VFSPLIT, 0)].foldl
    (fun s x => s.setFld x.1 x.2.1 x.2.2) wRun
  { s with hp := { s.hp with bifur := 3 } }.setHostEp 3 { HostEp.reset with
    bme := [0, 256]
    msixOn := [0, 256]
    pend := [(256, 63)]
    table := [(12, 0), (256 * 32768 + 63 * 16 + 4, 9)] }
theorem witness_host_access : wHost.epUp 3 = true ∧ wHost.epExists 3 = true ∧ wHost.hostFuncOn 3 0 = true ∧ wHost.hostFuncOn 3 256 = true ∧
    wHost.hostBehind 3 = false ∧ wHost.st.holdup = false ∧ wHost.st.base ≠ mBrum ∧ hostDataOk (List.replicate 8 1) = true ∧
    wHost.hostWindow ⟨3, 0, 2, 0x3FFFFFF8, 8, none, false⟩ = some 0x17FFFFFFF8 ∧
    wHost.hostWindow ⟨3, 256, 2, 0, 4096, none, false⟩ = some 0 ∧ wHost.vmOk 0x17FFFFFFF8 8 = true ∧ wHost.vmOk 0 4096 = true ∧
    (∀ g ∈ granules 0x17FFFFFFF8 8 ++ granules 0 4096, wHost.gcls g = .clean) := by
  decide +kernel
theorem witness_msix : (wHost.hostEp 3).pend.filter (fun x => x.1 == 256) = [(256, 63)] ∧ 256 ∈ (wHost.hostEp 3).bme ∧
    256 ∈ (wHost.hostEp 3).msixOn ∧ 256 ∉ (wHost.hostEp 3).fmask ∧ wHost.mbBusy 3 = false := by
  decide +kernel
def wMail : State := (wHost.setMbFld 3 MB_HCTL.BUSY 1).setFld (HP_MBCTL 1 1) HP_MBCTL.PEND 1
theorem witness_mailbox : CtlGo wMail mStart (hpMbctl 3) 4 ∧ wMail.flag (hpMbctl 3) HP_MBCTL.PEND = true ∧ wMail.mbBusy 3 = true ∧
    wMail.fld (hpCtl 3) HP_CTL.MB_VEC = 0 ∧ 0 ∈ (wMail.hostEp 3).bme ∧ 0 ∈ (wMail.hostEp 3).msixOn ∧
    (wMail.hostEp 3).tabNat 0 (0 * 16 + 12) 1 % 2 = 0 :=
  ⟨by constructor <;> decide +kernel, by decide +kernel⟩
/-- Queue 65535 behind virtual function 256 of endpoint 3. -/
def wVf : State :=
  [(QCTX.LOC, 1), (QCTX.FUNC, 256), (QCTX.STATE, qsEnabled)].foldl (fun s x => s.setQf 65535 x.1 x.2) wHost
theorem witness_host_link_down : wVf.qe.pools = [] ∧ wVf.fld (hpStatus 3) HP_STATUS.LSTATE ≠ 0 ∧ wVf.mbBusy 3 = false ∧
    EventPlain wVf (hpLinkDown 3) svDegraded ∧ wVf.hostQueues 3 none = [65535] ∧ wVf.mayMove 3 65535 = false :=
  ⟨by decide +kernel, by decide +kernel, by decide +kernel, by constructor <;> decide +kernel, by decide +kernel, by decide +kernel⟩
theorem witness_flr : wVf.hostQueues 3 (some 256) = [65535] ∧ wVf.qState 65535 = qsEnabled ∧ wVf.qe.tkts = [] ∧
    wVf.qf 65535 QCTX.RSV = 0 ∧ wVf.qf 65535 QCTX.INFLIGHT = 0 ∧ wVf.flag QE_STATUS QE_STATUS.QCMD_BUSY = false := by
  decide +kernel
theorem witness_host_reset : wHost.hostQueues 3 none = [] ∧ wHost.epUp 3 = true ∧ wHost.qe.pools = [] ∧
    ∀ v, wHost.hostQueues 3 (some v) = [] :=
  ⟨by decide +kernel, by decide +kernel, by decide +kernel, fun v => by rw [State.hostQueues, show wHost.liveQueues = [] by decide +kernel]; rfl⟩
def wHostOff : State := wHost.setFld (HP_STATUS 1 1) HP_STATUS.LSTATE 0
theorem witness_host_link_up : wHostOff.hostMayTrain 3 = true ∧ wHostOff.epUp 3 = false := by decide +kernel

/-! ### Witnesses: faults, the Journal and repair -/

/-- A correctable event of source 7 that does not trip. -/
def wUst : State := wRun.setFld (FJ_SRC_CFG 0x007) FJ_SRC_CFG.THRESH 0
theorem witness_fault_event : EventPlain wRun vmScrubLate svInfo ∧ EventPlain wUst 0x007 svCorrected ∧ EventPlain wRun 0x0FB 0 :=
  ⟨by constructor <;> decide +kernel, by constructor <;> decide +kernel, by constructor <;> decide +kernel⟩
def wForce : State := wRun.setFld FJ_CTL FJ_CTL.FORCE_EN 1
theorem witness_fault_force : mStart.ok = true ∧ mStart.secSup = true ∧ CtlGo wForce mStart (FJ_SRC_CFG 0x0FB) 4 ∧
    wForce.flag FJ_CTL FJ_CTL.FORCE_EN = true ∧ EventPlain wForce 0x0FB 0 ∧ wForce.reg (FJ_SRC_CFG 0x0FB) &&& 0x40000000 = 0 :=
  ⟨by decide, by decide, by constructor <;> decide +kernel, by decide +kernel, by constructor <;> decide +kernel, by decide +kernel⟩
theorem witness_first_record : CtlGo wRun mStart FJ_FIRST 8 ∧ CtlGo wRun mStart FJ_JRD_SEQ 8 ∧ CtlGo wRun mStart ST_LG_CTL 4 ∧
    CtlGo wRun mStart FJ_REQ 4 ∧ wRun.st.posted = [] :=
  ⟨by constructor <;> decide +kernel, by constructor <;> decide +kernel, by constructor <;> decide +kernel,
    by constructor <;> decide +kernel, by decide +kernel⟩
def wAlert (mode : Nat) : State := { ((wRun.setFld FJ_PIN_CTL FJ_PIN_CTL.MODE mode).setFld FJ_PIN_CTL FJ_PIN_CTL.LOW 1).setFld FJ_STATUS
  FJ_STATUS.ALERT 1 with fj := { wRun.fj with
    alertOpen := true
    alertMin := true } }
theorem witness_alert : (wAlert 0).fj.alertOpen = true ∧ (wAlert 0).fld FJ_PIN_CTL FJ_PIN_CTL.MODE = 0 ∧
    (wAlert 1).fld FJ_PIN_CTL FJ_PIN_CTL.MODE = 1 ∧ (wAlert 1).fj.alertMin = true ∧ CtlGo (wAlert 1) mStart FJ_PIN_CTL 4 :=
  ⟨by decide +kernel, by decide +kernel, by decide +kernel, by decide +kernel, by constructor <;> decide +kernel⟩
def wJq : State := { wRun with fj := { wRun.fj with jq := [BitVec.ofNat 512 (5 + 3 * 2 ^ 140)] } }
theorem witness_journal_write : wJq.fj.jq ≠ [] ∧ wJq.fjRuns = true ∧ wJq.st.holdup = false ∧ wJq.fj.firstSeq = 0 ∧
    (∀ h ∈ [wJq.nv.ja, wJq.nv.jb], h.failed = false ∧ h.bad.length ≤ 4096 ∧ h.passes + h.bad.length + 1 < 9000000000) := by
  decide +kernel
theorem witness_ust : wRun.unitState 0x300FF ≠ 7 ∧ (3 : W32).toNat % 8 ≠ 5 ∧ (3 : W32).toNat % 8 ≠ 6 := by decide +kernel

def wReact (src unit act : Nat) : Reaction := ⟨src, unit, act, 0, false⟩
def wBmReact : State := { wRun with fj := { wRun.fj with queued := [wReact 0 bmUnit 2, wReact 1 bmUnit 1] } }
theorem witness_reaction_start : wBmReact.jLost = false ∧ wBmReact.fj.running.length < 4 ∧ wBmReact.fj.onSource = [] ∧
    wBmReact.fj.regrows = [] ∧ ∀ c : Fin 32, wBmReact.bmState c ∉ [bsRunning, bsHalted, bsParked] := by
  decide +kernel
def wRunning : State := { wRun with fj := { wRun.fj with running := [wReact 0 (portUnit 7) 1] } }
theorem witness_autotomy : Still wRunning ∧ wRunning.fj.reactions = [wReact 0 (portUnit 7) 1] ∧
    (wReact 0 (portUnit 7) 1).covers (portUnit 7) = true ∧ recSeq (wReact 0 (portUnit 7) 1).bits = 0 ∧
    wRunning.flag ST_MODE ST_MODE.MOULT = false ∧ wRunning.modeName = wRunning.mode ∧ wRunning.fjRuns = true ∧
    wRunning.fld (FJ_SRC_CFG 0x00A) FJ_SRC_CFG.THRESH = 0 ∧ wRunning.fld (FJ_SRC_CFG 0x00A) FJ_SRC_CFG.SEV < svFatal :=
  ⟨by constructor <;> decide +kernel, by decide +kernel⟩
def wRegrow (u : Nat) : State := { (wRun.setUst u usRegrow).setFld (LS_STATUS 8) LS_STATUS.READY 1 with
  fj := { wRun.fj with regrows := [⟨u, seqUnit 3, 0⟩] } }
theorem witness_regrow : (∀ u ∈ [seqUnit 8, pipeUnit 17], (wRegrow u).fj.regrows = [⟨u, seqUnit 3, 0⟩]) ∧
    (wRegrow (seqUnit 8)).flag (LS_STATUS 8) LS_STATUS.READY = true ∧ Still (wRegrow (seqUnit 8)) ∧ Still (wRegrow (pipeUnit 17)) ∧
    EventPlain (wRegrow (pipeUnit 17)) 0x009 svSevere ∧
    ((wRegrow (pipeUnit 17)).fj.jq.filter (fun x => decide (recKind x ≠ kFlush))).length + 3 < 64 :=
  ⟨by decide +kernel, by decide +kernel, by constructor <;> decide +kernel, by constructor <;> decide +kernel,
    by constructor <;> decide +kernel, by decide +kernel⟩
def wRepairs : State := { wRun with fj := { wRun.fj with repairs := [2 ^ 20 + portUnit 7] } }
theorem witness_fj_req : fenceable (portUnit 7) = true ∧ wRepairs.fj.reactions = [] ∧ wRepairs.fj.queued.length < 32 ∧
    wRepairs.unitState (portUnit 7) ∉ [usFenced, usLost, 7] ∧
    wRepairs.fj.repairs.find? (fun x => x % 2 ^ 20 == portUnit 7) = some (2 ^ 20 + portUnit 7) := by
  decide +kernel

/-! ### Witnesses: modes -/

def wBase (b m : Nat) : State := { State.reset with st := { State.reset.st with base := b } }.setFld ST_MODE ST_MODE.MODE m
def wVia : ModeVia := .reg mStart
theorem witness_may_ask : ∀ s : State, s.mayAsk wVia := fun _ => ⟨by decide, by decide⟩
theorem witness_boot : (wBase 0 0).st.base = 0 ∧ (wBase 0 0).nv.wipePend = false ∧ (wBase 0 0).nv.lc ≠ 5 := by decide +kernel
def wProofRun : ProofRun := ⟨true, true, [], true, 0, none⟩
def wStarter (again : Bool) : State :=
  { wBase mStarter mStarter with st := { (wBase mStarter mStarter).st with
      restart := again
      barred := false } }
theorem witness_start : ∀ b ∈ [true, false], (wStarter b).st.base = mStarter ∧ (wStarter b).objNat 0x2000 4 ≠ 0 ∧ (wStarter b).st.extest = false ∧
    (wStarter b).st.lc ≠ 5 ∧ (wStarter b).st.restart = b ∧ (wStarter b).st.barred = false ∧ (wStarter b).mode = mStarter ∧
    (wStarter b).st.quiesce = none ∧ (wStarter b).st.holdup = false ∧ (wStarter b).st.wipe = none := by
  decide +kernel
def wProofing (stage : Nat) : State :=
  let s := ((wBase mProof mProof).setFld ST_BOOT ST_BOOT.STAGE stage).setFld ST_HU_STATUS ST_HU_STATUS.ENOUGH 1
  (upTo 8).foldl (fun s o => s.setFld (QE_OVEN o) QE_OVEN.RDY 1) s
theorem witness_stage_timeout : (wProofing 0x17).st.base = mProof ∧ (wProofing 0x17).flag ST_BOOT ST_BOOT.TADPOLE = false ∧
    (wProofing 0x17).fld ST_BOOT ST_BOOT.STAGE = 0x10 + 7 ∧ (wProofing 0x17).bootTries < 3 := by
  decide +kernel
theorem witness_tries : mBrum ≤ wRun.st.base ∧ ({ wRun with st := { wRun.st with triesOpen := true } } : State).st.triesOpen = true := by
  decide +kernel
theorem witness_admission : let s := wProofing 0x19
    s.fld ST_BOOT ST_BOOT.STAGE = 0x19 ∧ s.minOvens ≤ s.readyOvens ∧ s.flag ST_HU_STATUS ST_HU_STATUS.ENOUGH = true ∧
      s.objNat 0x2010 3 = 0 ∧ s.flag (FJ_SRC_STAT 0x1FB) FJ_SRC_STAT.PRESENT = false ∧ s.flag ST_MODE ST_MODE.MOULT = false ∧
      s.flag ST_MODE ST_MODE.TRANSIT = false ∧ s.flag ST_MODE ST_MODE.PAIRED = false ∧ s.fld ST_MODE ST_MODE.DOZE_OVENS = 0 ∧
      s.boundOvens ≠ [] ∧ s.jLost = false ∧ s.qe.tkts = [] ∧ Still s := by
  refine ⟨by decide +kernel, by decide +kernel, by decide +kernel, by decide +kernel, by decide +kernel, by decide +kernel, by decide +kernel,
    by decide +kernel, by decide +kernel, by decide +kernel, by decide +kernel, by decide +kernel, ?_⟩
  constructor <;> decide +kernel
theorem witness_mode_req : wRun.st.base ≠ 0 ∧ wRun.st.holdup = false ∧ wRun.st.wipe = none ∧ wRun.st.quiesce = none ∧
    wRun.mode ∈ [mRun, mDoze] ∧ wRun.mode ∉ [mPaired, mBrum] ∧ (wBase mBrum mBrum).mode ∈ [mPaired, mBrum] ∧
    (wBase mBrum mBrum).mode ∉ [mRun, mDoze] ∧ (wStarter true).mode ∉ [mTadpole, mBrum, mDoze, mRun, mPaired, mMoult, mTransit] := by
  decide +kernel
def wQuiesce (n : Nat) : State :=
  let s := (upTo 8).foldl (fun s o => s.setFld ST_MODE (ST_MODE.DOZE_OVENS.1 + o, 1) 1) wRun
  { s with st := { s.st with quiesce := some n } }
theorem witness_quiesce : (wQuiesce 1).quiet = true ∧ (wQuiesce 4).quiet = true ∧ (wQuiesce 4).allDoze = true ∧ (wQuiesce 4).jLost = false ∧
    (wQuiesce 4).flag ST_MODE ST_MODE.MOULT = false ∧ (wQuiesce 4).flag ST_MODE ST_MODE.TRANSIT = false ∧
    (wQuiesce 4).flag ST_MODE ST_MODE.PAIRED = false ∧ Still (wQuiesce 4) ∧ (wQuiesce 7).qe.tkts = [] ∧
    (∀ c : Fin 32, (wQuiesce 7).bmState c ≠ bsParked) ∧ (wQuiesce 7).st.quiesce = some 7 := by
  refine ⟨by decide +kernel, by decide +kernel, by decide +kernel, by decide +kernel, by decide +kernel, by decide +kernel, by decide +kernel,
    ?_, by decide +kernel, by decide +kernel, by decide +kernel⟩
  constructor <;> decide +kernel
def wIdleAll : State := { wQuiesce 0 with st := { wRun.st with quiesce := none } }.setObj 0x2000 9 (toBytes 4 5)
theorem witness_brumation_idle : wIdleAll.mode = mRun ∨ wIdleAll.mode = mDoze := by decide +kernel
theorem witness_brumation_idle' : wIdleAll.objNat 0x2000 9 ≠ 0 ∧ wIdleAll.allDoze = true ∧ wIdleAll.quiet = true ∧
    wIdleAll.st.quiesce = none := by
  decide +kernel
def wBrum : State := (((wBase mBrum mBrum).setFld ST_HU_STATUS ST_HU_STATUS.ENOUGH 1).setFld ST_MODE ST_MODE.DOZE_OVENS 0xFF).setFld
  (HP_STATUS 0 0) HP_STATUS.LSTATE 3
theorem witness_brumation_wake : wBrum.st.base = mBrum ∧ wBrum.flag ST_HU_STATUS ST_HU_STATUS.ENOUGH = true ∧
    wBrum.flag (FJ_SRC_STAT 0x1FB) FJ_SRC_STAT.PRESENT = false ∧ wBrum.objNat 0x2010 3 = 0 ∧ wBrum.boundOvens ≠ [] ∧
    wBrum.dozing 7 = true ∧ wBrum.epUp 0 = true ∧ wBrum.qe.tkts = [] ∧ Still wBrum ∧ (∀ c : Fin 32, wBrum.bmState c ≠ bsParked) := by
  refine ⟨by decide +kernel, by decide +kernel, by decide +kernel, by decide +kernel, by decide +kernel, by decide +kernel, by decide +kernel,
    by decide +kernel, ?_, by decide +kernel⟩
  constructor <;> decide +kernel
theorem witness_holdup : 2 ≤ wRun.st.base ∧ wRun.st.holdup = false ∧ wRun.fld (FJ_SRC_CFG 0x1FA) FJ_SRC_CFG.THRESH = 0 ∧
    wRun.fld (FJ_SRC_CFG 0x1FA) FJ_SRC_CFG.SEV < svFatal ∧ wRun.fj.fatal = none := by
  decide +kernel
def wHoldup : State := { wRun with st := { wRun.st with holdup := true } }.setFld ST_MODE ST_MODE.MODE mHoldup
theorem witness_flush : wHoldup.st.holdup = true ∧ wHoldup.st.wipe = none ∧ wHoldup.fj.jq = [] ∧ wHoldup.fj.flA + wHoldup.fj.flB < 4096 ∧
    wHoldup.fjRuns = true ∧
    (∀ h ∈ [wHoldup.nv.ja, wHoldup.nv.jb], h.failed = false ∧ h.bad.length ≤ 4096 ∧ h.passes + h.bad.length + 1 < 9000000000) := by
  decide +kernel

/-! ### Witnesses: power, clocks, the hold-up store, cooling -/

theorem witness_serving : wRun.fjRuns = true ∧ mBrum ≤ wRun.st.base ∧ wRun.st.triesOpen = false ∧ wRun.st.wipe = none ∧
    (∀ k ∈ [0x1F0, 0x1F1], wRun.fld (FJ_SRC_CFG k) FJ_SRC_CFG.THRESH = 0 ∧ wRun.fld (FJ_SRC_CFG k) FJ_SRC_CFG.SEV ≤ svFatal) ∧
    EventPlain wRun 0x1F0 svDegraded ∧ fenceable (actUnit (lsUnit 8)) = true ∧ wRun.unitState (actUnit (lsUnit 8)) ∉ [usFenced, usLost] := by
  refine ⟨by decide +kernel, by decide +kernel, by decide +kernel, by decide +kernel, by decide +kernel, ?_, by decide +kernel, by decide +kernel⟩
  constructor <;> decide +kernel
def wClk : State :=
  let s := (wRun.setObj 0x3010 2 [0]).setObj 0x3010 3 [0]
  [(ST_VF_STATUS, ST_VF_STATUS.VNOW, 900), (ST_VF_STATUS, ST_VF_STATUS.FNOW, 750), (ST_CLK_STATUS, ST_CLK_STATUS.STATE, ckLocked),
    (ST_CLK_STATUS, ST_CLK_STATUS.SEL, 2), (ST_CLK_STATUS, ST_CLK_STATUS.QUAL, 5), (CH_TIMING, CH_TIMING.FREQ_C, 1)].foldl
    (fun s x => s.setFld x.1 x.2.1 x.2.2) { s with st := { s.st with locked := true } }
theorem witness_frequency : wClk.fld ST_VF_STATUS ST_VF_STATUS.FNOW ≤ 1500 ∧ wClk.ffloor ≤ 750 ∧
    wClk.fld ST_VF_STATUS ST_VF_STATUS.VNOW = wClk.vmax ∧ wClk.flag (FJ_SRC_STAT 0x1F2) FJ_SRC_STAT.PRESENT = false := by
  decide +kernel
theorem witness_references : wClk.fld ST_CLK_STATUS ST_CLK_STATUS.STATE = ckLocked ∧ wClk.objNat 0x3010 2 = 0 ∧ wClk.objNat 0x3010 3 = 0 ∧
    wClk.refQual (wClk.fld ST_CLK_STATUS ST_CLK_STATUS.SEL) = true ∧ wClk.fld ST_CLK_STATUS ST_CLK_STATUS.SEL < 3 ∧
    wClk.flag CH_TIMING CH_TIMING.FREQ_C = true := by
  decide +kernel
def wClkOne : State := wClk.setFld ST_CLK_STATUS ST_CLK_STATUS.QUAL 4
theorem witness_reference_los : (∀ x : Fin 3, x ≠ 2 → wClkOne.refQual x = false) ∧ wClkOne.st.locked = true ∧
    wClkOne.flag (FJ_SRC_STAT 0x1F3) FJ_SRC_STAT.PRESENT = false ∧ EventPlain wClkOne 0x1F3 svDegraded :=
  ⟨by decide +kernel, by decide +kernel, by decide +kernel, by constructor <;> decide +kernel⟩
def wClkSwitch : State := (wClkOne.setFld ST_CLK_STATUS ST_CLK_STATUS.STATE ckSwitching).setObj 0x3010 3 [3]
theorem witness_reference_switch : wClkSwitch.fld ST_CLK_STATUS ST_CLK_STATUS.STATE = ckSwitching ∧
    wClkSwitch.refBest = some (wClkSwitch.fld ST_CLK_STATUS ST_CLK_STATUS.SEL) := by
  decide +kernel
def wHu (chg test : Nat) : State := (wRun.setFld ST_HU_STATUS ST_HU_STATUS.CHG chg).setFld ST_HU_STATUS ST_HU_STATUS.TEST test
theorem witness_charger : (∀ c ∈ [0, 1, 2, 3], (wHu c 0).objNat 0x3020 1 = 0 ∧ (wHu c 0).st.base ≠ 0 ∧
    (wHu c 0).fld ST_HU_STATUS ST_HU_STATUS.TEST = 0 ∧ (wHu c 0).fld ST_HU_STATUS ST_HU_STATUS.CHG_FAULT = 0 ∧
    2621440 * 100 ≤ (wHu c 0).objNat 0x3020 2 * 105) ∧ EventPlain (wHu 1 0) 0x1F4 svDegraded :=
  ⟨by decide +kernel, by constructor <;> decide +kernel⟩
def wStore : State :=
  (((wHu 3 0).setFld ST_HU_STATUS ST_HU_STATUS.V_NOW 4000).setObj 0x3020 0xB (toBytes 4 0x200000)).setFld ST_HU_STATUS ST_HU_STATUS.WARN 1
def wStoreLow : State := (wStore.setObj 0x3020 0xB (toBytes 4 0)).setFld (FJ_SRC_STAT 0x1FB) FJ_SRC_STAT.PRESENT 1
theorem witness_energy : wStore.flag (FJ_SRC_STAT 0x1FB) FJ_SRC_STAT.PRESENT
      = (!decide (wStore.objNat 0x2010 1 ≤ wStore.eAvail 2621440 - wStore.eErr 2621440) || decide (wStore.objNat 0x2010 3 ≠ 0)) ∧
    wStoreLow.flag (FJ_SRC_STAT 0x1FB) FJ_SRC_STAT.PRESENT
      = (!decide (wStoreLow.objNat 0x2010 1 ≤ wStoreLow.eAvail 2621440 - wStoreLow.eErr 2621440) || decide (wStoreLow.objNat 0x2010 3 ≠ 0)) := by
  decide +kernel
theorem witness_store_test : wStore.testMayStart = true ∧ wRun.testMayStart = false ∧ (wHu 0 1).fld ST_HU_STATUS ST_HU_STATUS.TEST = 1 ∧
    (wHu 0 1).objNat 0x3020 6 ≠ 0 ∧ (2600000 - 2599000) * 65536 / (wHu 0 1).objNat 0x3020 6 ≤ (wHu 0 1).objNat 0x3020 0xA ∧
    (wHu 0 1).jLost = false := by
  decide +kernel
theorem witness_store_sample : wHoldup.objNat 0x3020 1 = 0 ∧ 1310720 ≤ wHoldup.objNat 0x3020 3 ∧ wHoldup.objNat 0x3020 3 < 1310721 := by
  decide +kernel
theorem witness_coolant : mTadpole ≤ wRun.mode ∧ wRun.mode ≤ mTransit ∧ wRun.st.valveOpen = false ∧ EventPlain wRun 0x1F6 svSevere ∧
    (wRun.setObj 0x3030 0xA (toBytes 4 1)).objNat 0x3030 0xA ≠ 0 :=
  ⟨by decide +kernel, by decide +kernel, by decide +kernel, by constructor <;> decide +kernel, by decide +kernel⟩

/-! ### Witnesses: the dictionary and ownership -/

/-- A device with address 7, both CAN buses open, one saved object write and one transfer each way. -/
def wDict : State := { wRun.setObj 0x6000 1 (toBytes 2 7) with st := { (wRun.setObj 0x6000 1 (toBytes 2 7)).st with canEn := 3 } }
def wJReq (index sub flags : Nat) (data : List Byte) : JenziaReq :=
  { path := 1, src := 0x1FFD, dst := 7, tid := 255, index := BitVec.ofNat 16 index, sub := BitVec.ofNat 8 sub, flags := BitVec.ofNat 8 flags,
    len := BitVec.ofNat 16 data.length, offset := 130, total := BitVec.ofNat 32 data.length, data := data }
theorem witness_request : wDict.pathOpen 1 = true ∧ wDict.jenziaAddr = 7 ∧ (wJReq 0x2010 1 0 []).ok = true ∧
    (wJReq 0x3020 3 0 (List.replicate 48 1)).ok = true ∧ (wJReq 0x3020 3 0 (List.replicate 49 1)).ok = false ∧ wDict.st.wipe = none ∧
    wDict.st.canTx = [] ∧ wDict.st.served = [] := by
  decide +kernel
theorem witness_read : ∃ ty val, wDict.dictRead 0x1FFD 1 0x2010 1 false = .value ty val ∧ val.length ≤ 48 := by
  refine ⟨_, _, rfl, ?_⟩
  decide +kernel
theorem witness_read_abort : wDict.dictRead 0x1FFD 1 0x9999 1 false = .abort abUnknown := by decide +kernel
theorem witness_info : ∃ x, wDict.dictInfo 0x1FFD 1 0x2010 1 = .inr x := ⟨_, rfl⟩
def wOwned (c : Nat) : State := { wDict with st := { wDict.st with
  own := { wDict.st.own with
    owner := some ⟨0x1FFD, 1, 0, 100, 0, 0⟩
    counter := c } } }
theorem witness_write_abort : (wDict.dictWrite 0x1FFD 1 0x9999 1 [0]).2 = abUnknown ∧
    ∀ f ∈ (wDict.dictWrite 0x1FFD 1 0x9999 1 [0]).1.st.canTx, f.path < 2 := by
  decide +kernel
theorem witness_write : ∃ o, dictFind 0x3020 3 = some o ∧ o.home = .stored ∧ o.pers = 1 ∧
    (wOwned 0).writeCheck 0x1FFD 1 o 0x3020 3 (toBytes 4 1310720) false = none ∧ isKeySlot 0x3020 3 = false ∧ (wOwned 0).jLost = false := by
  refine ⟨_, rfl, ?_⟩
  decide +kernel
def wXfer (sending : Bool) : State := { wDict with st := { wDict.st with
  xfers := [{ path := 1, src := 0x1FFD, tid := 255, index := 0x1F00, sub := 1, sending := sending, data := List.replicate (if sending then 63 else 62) 3, total := 63, base := 0, next := if sending then 2 else 1, resent := true, req := [] }]
  relays := [⟨1, 0x1FFD, 3, 255, 0x1000, 0, false⟩] } }
theorem witness_segments : (∀ b ∈ [true, false], (wXfer b).st.xfers.find? (fun y => y.is 0x1FFD 255) = (wXfer b).st.xfers.head?) ∧
    (∀ x ∈ (wXfer true).st.xfers, x.sending = true ∧ x.base ≤ x.count ∧ x.next = x.count ∧ x.count < x.base + 128 ∧
      130 % 128 = x.count % 128 ∧ x.resent = true ∧ x.base < x.next) ∧
    (wXfer true).st.relays.find? (fun y => y.src == 0x1FFD && y.tid == 255 && !y.answered) = some ⟨1, 0x1FFD, 3, 255, 0x1000, 0, false⟩ := by
  decide +kernel

theorem shaRound_length (s : List Nat) (k : Nat) : (shaRound s k).length = 8 := rfl
theorem shaRounds_length (l : List (Nat × Nat)) : ∀ s, s.length = 8 → (l.foldl (fun s p => shaRound s (p.1 + p.2)) s).length = 8 := by
  induction l with
  | nil => exact fun s h => h
  | cons p l ih => exact fun s _ => ih _ (shaRound_length s _)
theorem shaStep_length (h : List Nat) (b : List Byte) (hh : h.length = 8) : (shaStep h b).length = 8 := by
  simp only [shaStep, List.length_map, List.length_zip, hh, shaRounds_length _ h hh]
  rfl
theorem shaBlocks_length (n : Nat) : ∀ h l, h.length = 8 → (shaBlocks n h l).length = 8 := by
  induction n with
  | zero => exact fun h l hh => hh
  | succ n ih => exact fun h l hh => ih _ _ (shaStep_length h _ hh)
theorem shaBytes_length (l : List Nat) : ((l.map (fun w => (toBytes 4 w).reverse)).flatten).length = 4 * l.length := by
  induction l with
  | nil => rfl
  | cons w l ih =>
    rw [List.map_cons, List.flatten_cons, List.length_append, ih, List.length_cons, List.length_reverse]
    simp only [toBytes, List.length_cons, List.length_nil]
    omega
theorem sha256Bytes_length (l : List Byte) : (sha256Bytes l).length = 32 := by
  simp only [sha256Bytes]
  rw [shaBytes_length, shaBlocks_length _ _ _ rfl]
theorem hmac256_length (k m : List Byte) : (hmac256 k m).length = 32 := sha256Bytes_length _
/-- The body of a claim: CMD, PRIO 1 with key slot 3, the path, a tag, the address, the successor, the lease and the counter. -/
def wClaimBody (cmd : Nat) : List Byte :=
  toBytes 1 cmd ++ toBytes 1 0x31 ++ toBytes 1 1 ++ toBytes 1 9 ++ toBytes 2 0x1FFD ++ toBytes 3 (5 + 2 ^ 16) ++ toBytes 3 0
    ++ toBytes 4 60000 ++ toBytes 4 7 ++ toBytes 8 0 ++ toBytes 8 Config.serial.toNat
def wKey : BitVec 256 := 0x1234
def wClaimP (cmd : Nat) : List Byte := wClaimBody cmd ++ (hmac256 (toBytes 32 wKey.toNat) (wClaimBody cmd)).take 16
/-- The state before a claim: slot 3 holds a key, the challenge is 0. -/
def wClaimS (s : State) : State := { s with
  nv := { s.nv with keys := s.nv.keys.set 3 wKey }
  st := { s.st with challenge := 0 } }
theorem ofBytes_toBytes : ∀ n v, ofBytes (toBytes n v) = v % 256 ^ n
  | 0, v => (Nat.mod_one v).symm
  | n + 1, v => by
    have h : v % 256 ^ (n + 1) = v % 256 + 256 * (v / 256 % 256 ^ n) := by rw [Nat.pow_succ, Nat.mul_comm, Nat.mod_mul]
    rw [toBytes, ofBytes, ofBytes_toBytes n, BitVec.toNat_ofNat, h]
def wClaim (cmd : Nat) : ClaimIn := ⟨1, 0x1FFD, wClaimP cmd⟩
theorem claim_serial (cmd : Nat) : (wClaim cmd).at_ 28 8 = Config.serial.toNat := by
  rw [show (wClaim cmd).at_ 28 8 = ofBytes (toBytes 8 Config.serial.toNat) from rfl, ofBytes_toBytes]
  exact Nat.mod_eq_of_lt Config.serial.isLt
theorem claim_mac (s : State) (cmd : Nat) :
    (hmac256 ((wClaimS s).claimKey 3) ((wClaim cmd).data.take 36)).take 16 = ((wClaim cmd).data.drop 36).take 16 := by
  rw [show (wClaim cmd).data.take 36 = wClaimBody cmd from rfl,
    show (wClaim cmd).data.drop 36 = (hmac256 (toBytes 32 wKey.toNat) (wClaimBody cmd)).take 16 from rfl, List.take_take]
  simp [State.claimKey, wClaimS]
theorem claim_length (cmd : Nat) : (wClaim cmd).data.length = 52 := by
  rw [wClaim, wClaimP, List.length_append, List.length_take, hmac256_length]
  rfl
theorem claim_passes (s : State) (cmd : Nat) (hc : cmd ∈ [1, 2, 3, 4]) (hp : bitAt (s.objNat 0x1F00 9) 1 = true)
    (ho : cmd ≠ 1 → s.isOwner 0x1FFD 1 = true ∧ s.st.own.counter < 7) : (wClaimS s).claimCheck (wClaim cmd) = none := by
  have key : (wClaim cmd).key = 3 := by rw [ClaimIn.key, show (wClaim cmd).at_ 1 1 = 0x31 from rfl]
  have lease : (wClaim cmd).lease = 60000 := (rfl : _ = ofBytes (toBytes 4 60000)).trans (by decide)
  have cm : (wClaim cmd).cmd = cmd := by
    simp only [List.mem_cons, List.not_mem_nil, or_false] at hc
    rcases hc with rfl | rfl | rfl | rfl <;> rfl
  have c4 : 0 < cmd ∧ cmd ≤ 4 := by
    simp only [List.mem_cons, List.not_mem_nil, or_false] at hc
    omega
  have a1 : (wClaim cmd).at_ 1 1 = 0x31 := (rfl : _ = ofBytes (toBytes 1 0x31)).trans (by decide)
  have a9 : (wClaim cmd).at_ 9 3 = 0 := (rfl : _ = ofBytes (toBytes 3 0)).trans (by decide)
  have a2 : (wClaim cmd).at_ 2 1 = 1 := (rfl : _ = ofBytes (toBytes 1 1)).trans (by decide)
  have a4 : (wClaim cmd).at_ 4 2 = 0x1FFD := (rfl : _ = ofBytes (toBytes 2 0x1FFD)).trans (by decide)
  have a20 : (wClaim cmd).at_ 20 8 = 0 := (rfl : _ = ofBytes (toBytes 8 0)).trans (by decide)
  have a16 : (wClaim cmd).at_ 16 4 = 7 := (rfl : _ = ofBytes (toBytes 4 7)).trans (by decide)
  have k : (wClaimS s).nv.keys.toList.getD 3 0 = wKey := by simp [wClaimS]
  simp only [State.claimCheck, claim_length, cm, key, lease, claim_serial, claim_mac, k,
    a1, a9, a2, a4, a20, a16,
    show (wClaim cmd).path = 1 from rfl, show (wClaim cmd).src = 0x1FFD from rfl,
    show (wClaimS s).objNat 0x1F00 9 = s.objNat 0x1F00 9 from rfl, show (wClaimS s).st.challenge.toNat = 0 from rfl,
    show (wClaimS s).isOwner 0x1FFD 1 = s.isOwner 0x1FFD 1 from rfl, show (wClaimS s).st.own = s.st.own from rfl, hp]
  rw [if_neg (by omega), if_neg (by decide), if_neg (by omega), if_neg (by omega), if_neg (by omega), if_neg (by decide), if_neg (by simp)]
  by_cases h : cmd = 1
  · rw [if_pos h]
  · rw [if_neg h, if_neg (by rw [(ho h).1]; decide), if_neg (by have := (ho h).2; omega)]
theorem witness_claim : (wClaimS wDict).claimCheck (wClaim 1) = none ∧ claimOk 1 (wClaimP 1) 1 = true := by
  refine ⟨claim_passes wDict 1 (by decide) (by decide +kernel) (by decide), ?_⟩
  rw [claimOk, show (wClaimP 1).length = 52 from claim_length 1]
  decide
theorem witness_owner_frames : ∀ cmd ∈ [2, 3, 4], (wClaimS (wOwned 6)).claimCheck (wClaim cmd) = none :=
  fun cmd h => claim_passes _ cmd (List.mem_cons_of_mem 1 h) (by decide +kernel) (fun _ => by decide +kernel)
theorem witness_ownership : (wClaimS wDict).st.own.owner = none ∧ (wClaimS wDict).st.own.cands = [] ∧
    (wClaimS wDict).st.own.electing = false ∧ (wClaimS wDict).st.own.succ = none ∧ (wOwned 0).st.xfers = [] ∧
    (wOwned 0).objNat 0x1010 4 ≠ 0 := by
  decide +kernel
def wElect : State := { wDict.setFld SEC_STATUS SEC_STATUS.RNG_OK 1 with st := { wDict.st with
  canState := [(1, 2)]
  own := { wDict.st.own with
    electing := true
    cands := [⟨0x1FFD, 1, 15, 100, 0, 0⟩] } } }
def wSteer : State := ((wRun.setFld TB_CTL TB_CTL.STEER_EN 1).setFld CH_TIMING CH_TIMING.EN 1).setFld TMR_STATUS TMR_STATUS.SYNC 1
theorem witness_election : wElect.rngOk = true ∧ wElect.st.own.owner = none ∧ cget wElect.st.canState 1 = 2 ∧
    wSteer.flag (FJ_SRC_STAT 0x1F7) FJ_SRC_STAT.PRESENT = false ∧ EventPlain wSteer 0x1F7 svDegraded ∧
    wSteer.flag CH_TIMING CH_TIMING.SOURCE = false :=
  ⟨by decide +kernel, by decide +kernel, by decide +kernel, by decide +kernel, by constructor <;> decide +kernel, by decide +kernel⟩

/-! ### Witnesses: timers -/

/-- Timer 15 on, with a direction, count, top and compare values. -/
def wTmr (dir count top cmp0 cmp1 down : Nat) : State :=
  (((([(TMR_CTL 15, TMR_CTL.EN, 1), (TMR_CTL 15, TMR_CTL.DIR, dir), (TMR_CTL 15, TMR_CTL.INSEL, 3), (TMR_CTL 15, TMR_CTL.CAPSRC, 1),
    (TMR_STAT 15, TMR_STAT.DOWN, down), (TB_CTL, TB_CTL.TBCAP_SRC, 4)].foldl (fun s x => s.setFld x.1 x.2.1 x.2.2) wRun).setReg (TMR_COUNT 15)
    (BitVec.ofNat 32 count)).setReg (TMR_TOP 15) (BitVec.ofNat 32 top)).setReg (TMR_CMP0 15) (BitVec.ofNat 32 cmp0)).setReg (TMR_CMP1 15)
    (BitVec.ofNat 32 cmp1)
/-- A count for each clause of the tick: at and below the top, at 2^32 - 1 past it, at 0, and turning at both ends. -/
theorem witness_tick : (wTmr 0 5 5 0 0 0).fld (TMR_CTL 15) TMR_CTL.EN = 1 ∧ (wTmr 0 5 5 0 0 0).reg (TMR_ACT 15) = 0 ∧
    (wTmr 0 5 5 0 0 0).fld (TMR_CTL 15) TMR_CTL.DIR = 0 ∧ ((wTmr 0 (2 ^ 32 - 1) 5 0 0 0).reg (TMR_COUNT 15)).toNat + 1 = 2 ^ 32 ∧
    (wTmr 1 0 5 0 0 0).fld (TMR_CTL 15) TMR_CTL.DIR = 1 ∧ (wTmr 2 4 5 0 0 0).fld (TMR_CTL 15) TMR_CTL.DIR = 2 ∧
    (wTmr 2 4 5 0 0 0).flag (TMR_STAT 15) TMR_STAT.DOWN = false ∧ (wTmr 2 1 5 0 0 1).flag (TMR_STAT 15) TMR_STAT.DOWN = true := by
  decide +kernel
def wTb : State := { wTmr 0 0 0 0 0 0 with st := { wRun.st with tb := 1000 } }
theorem witness_time_base : (999 : Word).toNat < wTb.st.tb ∧ wTb.st.tb ≤ (1000 : Word).toNat ∧ EventPlain wTb 0x1F7 svInfo ∧
    wTb.fld TB_CTL TB_CTL.TBCAP_SRC = 3 + 1 ∧ wTb.flag TMR_STATUS TMR_STATUS.TBCAP_VALID = false ∧
    (wTb.setFld TMR_STATUS TMR_STATUS.TBCAP_VALID 1).flag TMR_STATUS TMR_STATUS.TBCAP_VALID = true ∧ CtlGo wTb wSup TB_CAP 8 ∧
    CtlGo wTb mStart TB_CAP 8 := by
  refine ⟨by decide, by decide, ?_, by decide +kernel, by decide +kernel, by decide +kernel, ?_, ?_⟩ <;> constructor <;> decide +kernel
def wLink (code : Nat) : State := { wTb with st := { wTb.st with links := [⟨15, code⟩] } }
theorem witness_link : ∀ code ∈ [1, 2], (wLink code).st.links.filter (fun a => a.target == 15) = [⟨15, code⟩] := by decide +kernel
theorem witness_capture_edge : wTb.fld (TMR_CTL 15) TMR_CTL.INSEL = 3 ∧ wTb.fld (TMR_CTL 15) TMR_CTL.SRC ≠ 3 ∧
    wTb.fld (TMR_CTL 15) TMR_CTL.CAPSRC = 1 ∧ (wTb.timer 15).caps.length < 4 ∧
    ∀ m : Fin 16, m ≠ 15 → wTb.fld (TMR_CTL m) TMR_CTL.INSEL ≠ 3 := by
  decide +kernel
def wCap : State := (wTb.setTimer 15 { wTb.timer 15 with caps := List.replicate 4 (7, true) }).setFld (TMR_STAT 15) TMR_STAT.QCOUNT 4
theorem witness_capture_read : CtlGo wCap wSup (TMR_CAP 15) 8 ∧ CtlGo wCap mStart (TMR_CAP 15) 8 ∧ wSup.ok = true ∧
    (wCap.timer 15).caps = (7, true) :: List.replicate 3 (7, true) ∧ wSup.world = true :=
  ⟨by constructor <;> decide +kernel, by constructor <;> decide +kernel, by decide, by decide +kernel, by decide⟩
def wPost (a v : Nat) : State := { wTb with st := { wTb.st with posted := [⟨13, true, true, a, 4, v⟩] } }
theorem witness_posted : (wPost ST_LG_CTL (2 ^ 31)).st.posted = [⟨13, true, true, ST_LG_CTL, 4, 2 ^ 31⟩] ∧ bitAt (2 ^ 31) 31 = true := by
  decide +kernel

/-! ### Witnesses: security, the life cycle and the last rows -/

def wLc (n : Nat) : State := { wOwned 0 with nv := { wRun.nv with lc := n } }
theorem witness_life_cycle : (wOwned 0).isOwner 0x1FFD 1 = true ∧ (wOwned 0).st.holdup = false ∧ (wOwned 0).st.wipe = none ∧
    (wOwned 0).st.base ≠ 0 ∧ (wOwned 0).st.canTx = [] ∧ (∀ n ∈ [2, 3, 4], (wLc n).nv.lc = n ∧ (wLc n).lcMode = true) ∧
    EventPlain (wLc 3) 0x1FD svInfo ∧ (wLc 3).tokenOk [] = false := by
  refine ⟨by decide +kernel, by decide +kernel, by decide +kernel, by decide +kernel, by decide +kernel, by decide +kernel, ?_, rfl⟩
  constructor <;> decide +kernel
/-- A token to RMA that the device's key 0 signed is good. -/
def wToken : List Byte := toBytes 4 4 ++ toBytes 8 Config.serial.toNat ++ toBytes 8 0 ++ List.replicate 96 0
theorem witness_token (h : Config.tokenSigned 0 wToken = true) : (wLc 3).tokenOk wToken = true ∧ ofBytes (wToken.take 4) = 4 := by
  have h4 : ofBytes ((wToken.drop 4).take 8) = Config.serial.toNat := by
    rw [show (wToken.drop 4).take 8 = toBytes 8 Config.serial.toNat from rfl, ofBytes_toBytes]
    exact Nat.mod_eq_of_lt Config.serial.isLt
  have h12 : ofBytes ((wToken.drop 12).take 8) = (wLc 3).st.challenge.toNat := (rfl : _ = ofBytes (toBytes 8 0)).trans (by decide +kernel)
  refine ⟨?_, (rfl : _ = ofBytes (toBytes 4 4)).trans (by decide)⟩
  rw [State.tokenOk, h4, h12, show wToken.length = 116 from rfl, show (wLc 3).nv.revoked = 0 by decide +kernel]
  simp [upTo, bitAt]
  exact ⟨0, by decide, h⟩
/-- The epoch that stands may be written again; a key may be revoked in a state of the life cycle with no keys. -/
theorem witness_epoch : (wOwned 0).nv.epoch ≤ (0 : Byte).toNat ∧ (wOwned 0).nv.epoch ≤ 63 ∧ (0 : Byte).toNat ≤ (wOwned 0).imageEpoch :=
  ⟨by decide +kernel, by decide +kernel, Nat.zero_le _⟩
theorem witness_key_revoke : (wOwned 0).nv.revoked ||| (8 : Byte).toNat ≠ 15 ∧ lcKeys 5 = [] := by decide +kernel
theorem witness_key_slots : wDict.keySlots = 0 ∧ 2 ≤ (5 : Fin 7).val := by decide +kernel
theorem witness_rng : EventPlain wRun 0x1FF svSevere ∧ min 1024 (({ wRun with st := { wRun.st with rngGood := 1023 } } : State).st.rngGood + 1) = 1024 ∧
    CtlGo wRun mStart SEC_BTB_RENEW 4 ∧ CtlGo wRun mStart SEC_NOTIFY_S 4 ∧ CtlGo wRun mStart SEC_NOTIFY_G 4 ∧ CtlGo wRun mStart SEC_RNG 8 := by
  refine ⟨?_, by decide +kernel, ?_, ?_, ?_, ?_⟩ <;> constructor <;> decide +kernel
def wTamper (resp : Nat) : State := wRun.setFld SEC_TAMPER_CFG (12, 2) resp
theorem witness_tamper : (∀ r ∈ [0, 1, 3], (wTamper r).fld SEC_TAMPER_CFG (2 * 6, 2) = r ∧ (wTamper r).st.base ≠ 0 ∧ (wTamper r).st.wipe = none) ∧
    EventPlain (wTamper 1) 0x1FC svSevere ∧ EventPlain (wTamper 3) 0x1FC svSevere := by
  refine ⟨by decide +kernel, ?_, ?_⟩ <;> constructor <;> decide +kernel
def wSample : State := { wRun.setFld SEC_TAMPER_CFG SEC_TAMPER_CFG.LOOP 15 with st := { wRun.st with tamperMiss := [(3, 1)] } }
theorem witness_tamper_sample : ∀ i < 4, bitAt (wSample.fld SEC_TAMPER_CFG SEC_TAMPER_CFG.LOOP) i = true ∧ cget wSample.st.tamperMiss i < 2 := by
  decide +kernel
def wWipe (full : Bool) : State := { wRun with st := { wRun.st with wipe := some (full, true) } }.setFld ST_MODE ST_MODE.MODE mWipe
theorem witness_wipe : (wWipe true).st.wipe = some (true, true) ∧ ({ wRun with st := { wRun.st with lc := 4 } } : State).st.lc = 4 := by decide +kernel
theorem witness_register_write : CtlGo wRun mStart 0x700008 4 ∧ (regFind 0x700008).isSome = true ∧ 0x700008 / 0x10000 = 0x70 ∧
    CtlGo wRun mStart FJ_JRD_DATA 4 ∧ fjReadOk mStart FJ_JRD_DATA = true ∧ wideOf FJ_JRD_DATA = some (FJ_JRD_DATA, 16) := by
  refine ⟨?_, by decide +kernel, by decide, ?_, by decide +kernel, by decide +kernel⟩ <;> constructor <;> decide +kernel
theorem witness_last_rows : EventPlain wRun vmTsense svDegraded ∧ wDict.pathOpen 1 = true ∧ wRun.fj.alertNext = false ∧
    ({ wRun with fj := { wRun.fj with alertNext := true } } : State).fj.alertNext = true := by
  refine ⟨?_, by decide +kernel, by decide +kernel, rfl⟩
  constructor <;> decide +kernel

/-! ### Witnesses: every command, the clock, and elements -/

/-- CommandsComplete, both ways; StepRunsFrontCommand and RunsForever with a command waiting. -/
theorem witness_well_formed : (Instr.add wHdr 1 2 3 false).wellFormed = true ∧ (Instr.vfFlr 0 0).wellFormed = false := by decide
theorem witness_queue_ok : ({ wReg with pending := [.add wHdr 1 2 3 false] } : State).queueOk := by
  intro c h
  simp only [List.mem_singleton] at h
  subst h
  decide
theorem witness_idle : wRun.pending = [] ∧ Still wRun ∧ (∀ n : Fin 16, wRun.flag (TMR_CTL n) TMR_CTL.EN = false) ∧ wRun.reg TB_ADJ = 0 ∧
    wRun.st.tbFrac.natAbs < 1000000000 ∧ (wBase 0 0).st.base = mOff ∧ (wBase 0 0).pending = [] :=
  ⟨rfl, by constructor <;> decide +kernel, by decide +kernel, by decide +kernel, by decide +kernel, by decide +kernel, by decide +kernel⟩
/-- IntegerElementsFit and DivisionElements: results that fit and that do not, divisors 0 and -1, and ordinary operands. -/
theorem witness_integer_elements : ETy.i8.isIU = true ∧ ETy.u64.isIU = true ∧ ETy.i8.toInt 0x80 = ETy.i8.minInt ∧
    ETy.i8.toInt 0xFF = -1 ∧ ETy.i8.toInt 0 = 0 ∧ ¬ (ETy.i8.minInt ≤ ETy.i8.toInt 0x80 + -1) ∧
    (ETy.i8.minInt ≤ ETy.i8.toInt 0x7F + 0 ∧ ETy.i8.toInt 0x7F + 0 ≤ ETy.i8.maxInt) ∧ ETy.i8.isI = true := by decide +kernel
/-- BitCompareDecimalElements: +0, -9 and an element that is no packed decimal, and sums that fit and that do not. -/
theorem witness_decimal : pdValue .pd8 0xC = some 0 ∧ pdValue .pd8 0x9D = some (-9) ∧ pdValue .pd8 10 = none ∧
    (9 : Int).natAbs < 10 ^ ETy.pd8.digits ∧ 10 ^ ETy.pd8.digits ≤ (2 * (10 ^ ETy.pd8.digits - 1) : Nat) := by decide +kernel

/-! ### Single steps, with results worked out by hand from the spec or taken from published vectors -/

/-- g7 after one register command on g1 = 0x38, g2 = -2^63, g3 = -1, g4 = 5, g5 = 2^63 - 1. -/
def g7 (i : Instr) : Word := ((nextOf (exec i wReg)).seq 0).arch.reg 7
theorem test_add_wraps : g7 (.add wHdr 7 5 5 false) = 0xFFFFFFFFFFFFFFFE := by decide +kernel
theorem test_add_word : g7 (.add wHdr 7 5 4 true) = 4 := by decide +kernel
theorem test_sub : g7 (.sub wHdr 7 4 1 false) = BitVec.ofInt 64 (-51) := by decide +kernel
theorem test_andn : g7 (.andn wHdr 7 1 4 false) = 0x38 := by decide +kernel
theorem test_shl_count : g7 (.shl wHdr 7 4 1 false) = 0x0500000000000000 := by decide +kernel
theorem test_sra : g7 (.sra wHdr 7 2 4 false) = 0xFC00000000000000 := by decide +kernel
theorem test_sltu : g7 (.sltu wHdr 7 4 3 false) = 1 ∧ g7 (.slt wHdr 7 4 3 false) = 0 := by decide +kernel
theorem test_minu : g7 (.minu wHdr 7 4 3 false) = 5 ∧ g7 (.min wHdr 7 4 3 false) = 0xFFFFFFFFFFFFFFFF := by decide +kernel
theorem test_popc : g7 (.popc wHdr 7 1 0 false) = 3 ∧ g7 (.clz wHdr 7 1 0 false) = 58 := by decide +kernel
theorem test_mulh : g7 (.mulhs wHdr 7 3 4 false) = 0xFFFFFFFFFFFFFFFF ∧ g7 (.mulhu wHdr 7 3 4 false) = 4 := by decide +kernel
theorem test_movk : g7 (.movk wHdr 1 7 0xFFFF) = 0x00000000FFFF0000 := by decide +kernel
theorem test_g0 : ((nextOf (exec (.add wHdr 0 4 4 false) wReg)).seq 0).arch.reg 0 = 0 := by decide +kernel
theorem test_pc : ((nextOf (exec (.add wHdr 7 4 4 false) wReg)).seq 0).arch.pc = 0x804 := by decide +kernel
/-- FIPS 180-4's digest of "abc". -/
theorem test_sha256 : sha256Bytes [0x61, 0x62, 0x63] = [0xba, 0x78, 0x16, 0xbf, 0x8f, 0x01, 0xcf, 0xea, 0x41, 0x41, 0x40, 0xde, 0x5d, 0xae,
    0x22, 0x23, 0xb0, 0x03, 0x61, 0xa3, 0x96, 0x17, 0x7a, 0x9c, 0xb4, 0x10, 0xff, 0x61, 0xf2, 0x00, 0x15, 0xad] := by decide +kernel
/-- The check value of CRC-32C, of "123456789". -/
theorem test_crc32c : crc32c 0xFFFFFFFF [0x31, 0x32, 0x33, 0x34, 0x35, 0x36, 0x37, 0x38, 0x39] ^^^ 0xFFFFFFFF = 0xE3069283 := by
  decide +kernel
theorem test_step_takes_front : (nextOf (step { wReg with pending := [.add wHdr 7 4 4 false, .iflush wHdr true 0] })).pending
    = [.iflush wHdr true 0] := by decide +kernel
theorem test_idle_ticks : (nextOf (step wRun)).now = 1 ∧ (nextOf (step wRun)).st.tb = 1 ∧ (nextOf (step (wBase 0 0))).now = 0 := by
  decide +kernel
theorem test_reset_is_clean : State.reset.pending = [] ∧ (State.reset.seq 8).arch.pc = 0x800 ∧ (State.reset.seq 8).arch.ssr = 3 := by
  decide +kernel
theorem test_no_row_has_bits : decodeTableWord 32 0 = none := rfl

end Sys2Proof.Tests
end

section
/-! An Oven's bits in ST_MODE, QE_OVENo and QE_STATUS as it dozes and wakes, and the
mirror of the feed-forward message in the dictionary (O38). -/
namespace Sys2Proof.Machine

/-! ### Bits set inside and beside a field -/

/-- Bits set above position `lo` leave those below it, and are set `lo` lower in the quotient. -/
theorem setBits_div (v lo i k x : Nat) : setBits v (lo + i) k x / 2 ^ lo = setBits (v / 2 ^ lo) i k x := by
  have hmod : v % 2 ^ (lo + i) = v % 2 ^ lo + 2 ^ lo * (v / 2 ^ lo % 2 ^ i) := by rw [Nat.pow_add, Nat.mod_mul]
  have hdiv : v / 2 ^ (lo + i + k) = v / 2 ^ lo / 2 ^ (i + k) := by rw [Nat.add_assoc, Nat.pow_add, Nat.div_div_eq_div_mul]
  have split : setBits v (lo + i) k x = v % 2 ^ lo + 2 ^ lo * setBits (v / 2 ^ lo) i k x := by
    unfold setBits
    rw [hmod, hdiv]
    ring
  rw [split, Nat.add_mul_div_left _ _ (Nat.two_pow_pos lo), Nat.div_eq_of_lt (Nat.mod_lt _ (Nat.two_pow_pos lo)), Nat.zero_add]

/-- Bits set below position `len` stay there. -/
theorem setBits_mod (v len i k x : Nat) (h : i + k ≤ len) : setBits v i k x % 2 ^ len = setBits (v % 2 ^ len) i k x := by
  obtain ⟨m, rfl⟩ := Nat.exists_eq_add_of_le h
  have hdiv : v / 2 ^ (i + k) = v % 2 ^ (i + k + m) / 2 ^ (i + k) + 2 ^ m * (v / 2 ^ (i + k + m)) := by
    rw [Nat.pow_add 2 (i + k) m, Nat.mod_mul_right_div_self, ← Nat.div_div_eq_div_mul, Nat.mod_add_div]
  have hmod : v % 2 ^ (i + k + m) % 2 ^ i = v % 2 ^ i := Nat.mod_mod_of_dvd _ (Nat.pow_dvd_pow 2 (by omega))
  have split : setBits v i k x = setBits (v % 2 ^ (i + k + m)) i k x + 2 ^ (i + k + m) * (v / 2 ^ (i + k + m)) := by
    unfold setBits
    rw [hdiv, hmod, Nat.pow_add 2 (i + k) m]
    ring
  rw [split, Nat.add_mul_mod_self_left, Nat.mod_eq_of_lt (setBits_lt _ _ _ _ _ (Nat.mod_lt _ (Nat.two_pow_pos _)) h)]

/-- A field in which some bits were set. -/
theorem bitsOf_setBits_within (v lo len i k x : Nat) (h : i + k ≤ len) :
    bitsOf (setBits v (lo + i) k x) lo len = setBits (bitsOf v lo len) i k x := by
  unfold bitsOf
  rw [setBits_div, setBits_mod _ _ _ _ _ h]

/-- A field below the bits that were set. -/
theorem bitsOf_setBits_below (v lo len i k x : Nat) (h : lo + len ≤ i) : bitsOf (setBits v i k x) lo len = bitsOf v lo len := by
  have low : setBits v i k x % 2 ^ i = v % 2 ^ i := by
    unfold setBits
    rw [Nat.pow_add, show v / (2 ^ i * 2 ^ k) * (2 ^ i * 2 ^ k) + x % 2 ^ k * 2 ^ i + v % 2 ^ i
      = v % 2 ^ i + 2 ^ i * (v / (2 ^ i * 2 ^ k) * 2 ^ k + x % 2 ^ k) by ring, Nat.add_mul_mod_self_left, Nat.mod_mod]
  have cut : ∀ w, bitsOf w lo len = w % 2 ^ i % 2 ^ (lo + len) / 2 ^ lo := by
    intro w
    rw [Nat.mod_mod_of_dvd _ (Nat.pow_dvd_pow 2 h), Nat.pow_add, Nat.mod_mul_right_div_self, bitsOf]
  rw [cut, cut, low]

/-- A field above the bits that were set. -/
theorem bitsOf_setBits_above (v lo len i k x : Nat) (h : i + k ≤ lo) : bitsOf (setBits v i k x) lo len = bitsOf v lo len := by
  obtain ⟨m, rfl⟩ := Nat.exists_eq_add_of_le h
  have hx : x % 2 ^ k * 2 ^ i + v % 2 ^ i < 2 ^ (i + k) := by
    have := setBits_lt (v % 2 ^ (i + k)) i k x (i + k) (Nat.mod_lt _ (Nat.two_pow_pos _)) le_rfl
    rw [setBits, Nat.mod_mod_of_dvd _ (Nat.pow_dvd_pow 2 (Nat.le_add_right i k))] at this
    omega
  have high : setBits v i k x / 2 ^ (i + k) = v / 2 ^ (i + k) := by
    unfold setBits
    rw [Nat.add_assoc, Nat.mul_comm (v / _), Nat.mul_add_div (Nat.two_pow_pos _), Nat.div_eq_of_lt hx, Nat.add_zero]
  unfold bitsOf
  rw [Nat.pow_add, ← Nat.div_div_eq_div_mul, ← Nat.div_div_eq_div_mul, high]

/-- Another bit reads as before a bit is set. -/
theorem bitAt_setBits_ne (v i x j : Nat) (h : j ≠ i) : bitAt (setBits v i 1 x) j = bitAt v j := by
  have same : bitsOf (setBits v i 1 x) j 1 = bitsOf v j 1 := by
    rcases Nat.lt_or_gt_of_ne h with hlt | hgt
    · exact bitsOf_setBits_below _ _ _ _ _ _ hlt
    · exact bitsOf_setBits_above _ _ _ _ _ _ hgt
  exact congrArg (· == 1) same

/-! ### Fields of a register's first word -/

/-- A field that lies in the first word of its register. -/
abbrev Fld.low (f : Fld) : Prop := 0 < f.2 ∧ f.1 + f.2 ≤ 32

theorem fldWords_low {f : Fld} (h : Fld.low f) : f.1 / 32 = 0 ∧ f.1 % 32 = f.1 ∧ fldWords f = 1 := by
  obtain ⟨hpos, hle⟩ := h
  unfold fldWords
  omega

theorem State.fld_low (s : State) (a : Nat) {f : Fld} (h : Fld.low f) : s.fld a f = bitsOf (s.reg a).toNat f.1 f.2 := by
  obtain ⟨hword, hbit, hone⟩ := fldWords_low h
  simp [State.fld, hword, hbit, hone, State.regNat]

/-- What a word reads as after a field of it, or of another register, is set. -/
theorem State.reg_setFld_low (s : State) (a : Nat) {f : Fld} (v x : Nat) (h : Fld.low f) :
    (s.setFld a f v).reg x = if x = a then BitVec.ofNat 32 (setBits (s.reg a).toNat f.1 f.2 v) else s.reg x := by
  obtain ⟨hword, hbit, hone⟩ := fldWords_low h
  simp [State.setFld, hword, hbit, hone, State.regNat, State.setRegNat]

/-- A field of the word in which a field was set. -/
theorem State.fld_setFld_low (s : State) (a v : Nat) {f g : Fld} (hf : Fld.low f) (hg : Fld.low g) :
    (s.setFld a f v).fld a g = bitsOf (setBits (s.reg a).toNat f.1 f.2 v) g.1 g.2 := by
  rw [State.fld_low _ _ hg, State.reg_setFld_low _ _ _ _ hf, if_pos rfl, BitVec.toNat_ofNat,
    Nat.mod_eq_of_lt (setBits_lt _ _ _ _ _ (s.reg a).isLt hf.2)]

/-- A field of a register reads as before a field of another is set. -/
theorem State.fld_setFld_ne (s : State) (a v : Nat) {f : Fld} (b : Nat) {g : Fld} (hf : Fld.low f) (hg : Fld.low g) (h : b ≠ a) :
    (s.setFld a f v).fld b g = s.fld b g := by
  rw [State.fld_low _ _ hg, State.reg_setFld_low _ _ _ _ hf, if_neg h, State.fld_low _ _ hg]

/-! ### States that differ in registers -/

theorem RegsOnly.trans {s t u : State} {as : List Nat} (h : RegsOnly s t as) (g : RegsOnly t u as) : RegsOnly s u as := by
  refine ⟨fun a ha => (g.regs a ha).trans (h.regs a ha), ?_⟩
  rw [g.rest, h.rest]

/-- A command whose effect is on registers leaves the queue of commands as it found it. -/
theorem RegsOnly.after {s t : State} {as : List Nat} (h : RegsOnly s t as) : s.after t = t := by
  rw [h.rest]
  rfl

theorem RegsOnly.setFlag (s : State) {a : Nat} {f : Fld} (b : Bool) {as : List Nat} (hf : Fld.low f) (ha : a ∈ as) :
    RegsOnly s (s.setFlag a f b) as := by
  refine ⟨fun x hx => ?_, State.setFlag_eq s a f b⟩
  rw [State.setFlag, State.reg_setFld_low _ _ _ _ hf, if_neg (fun e => hx (by rw [e]; exact ha))]

/-- What waits for the end of an event is not in registers. -/
theorem Still.of_regsOnly {s t : State} {as : List Nat} (h : Still s) (g : RegsOnly s t as) : Still t := by
  rw [g.rest]
  exact ⟨h.fab, h.chain, h.inbox, h.host, h.seqs, h.repair⟩

/-! ### The name of the mode while an Oven is awake -/

/-- A bound Oven other than `o` is awake. -/
def State.otherAwake (s : State) (o : Fin 8) : Prop := ∃ x : Fin 8, x ≠ o ∧ (s.seqOf x).isSome = true ∧ s.dozing x = false

/-- R486: while a bound Oven is awake, the mode has no name of Doze. -/
theorem boundOvens_not_all_dozing {s : State} {x : Fin 8} (hb : (s.seqOf x).isSome = true) (hd : s.dozing x = false) :
    s.boundOvens.all (fun o => bitAt (s.fld ST_MODE ST_MODE.DOZE_OVENS) o) = false := by
  rw [List.all_eq_false]
  refine ⟨x.val, ?_, ?_⟩
  · simpa [State.boundOvens, upTo, x.isLt] using hb
  · simpa [State.dozing] using hd

/-- The mode's name depends on which Ovens doze only as long as none that is bound is awake. -/
theorem modeName_of_awake {s t : State} {x : Fin 8} (hb : (s.seqOf x).isSome = true) (hs : s.dozing x = false)
    (ht : t.dozing x = false) (hr : t = { s with regs := t.regs })
    (hflag : ∀ f ∈ [ST_MODE.TRANSIT, ST_MODE.MOULT, ST_MODE.PAIRED], t.fld ST_MODE f = s.fld ST_MODE f) :
    t.modeName = s.modeName := by
  have hst : t.st = s.st := by rw [hr]
  have hbt : (t.seqOf x).isSome = true := by rw [hr]; exact hb
  unfold State.modeName State.flag
  simp only [boundOvens_not_all_dozing hb hs, boundOvens_not_all_dozing hbt ht, hst, hflag ST_MODE.TRANSIT (by simp),
    hflag ST_MODE.MOULT (by simp), hflag ST_MODE.PAIRED (by simp), Bool.false_and]

theorem rename_of_named {s : State} (h : s.modeName = s.mode) : s.rename = s := by
  simp [State.rename, h]

/-! ### An Oven's doze bits (R310, R491) -/

/-- The Oven's bit of ST_MODE.DOZE_OVENS, of QE_OVENo.DOZE and of QE_STATUS.AWAKE say that it dozes or not; nothing else has
changed. -/
structure DozeShown (s t : State) (o : Fin 8) (b : Bool) : Prop where
  only : RegsOnly s t [ST_MODE, QE_OVEN o, QE_STATUS]
  mode : t.fld ST_MODE ST_MODE.DOZE_OVENS = setBits (s.fld ST_MODE ST_MODE.DOZE_OVENS) o 1 (bit01 b)
  oven : t.flag (QE_OVEN o) QE_OVEN.DOZE = b
  awake : t.fld QE_STATUS QE_STATUS.AWAKE = setBits (s.fld QE_STATUS QE_STATUS.AWAKE) o 1 (bit01 (!b))

/-- A bit of a field of the register's first word, set. -/
theorem State.fld_setFlag_bit (s : State) (a : Nat) (f : Fld) (i : Nat) (b : Bool) (hf : Fld.low f) (hi : i < f.2) :
    (s.setFlag a (f.1 + i, 1) b).fld a f = setBits (s.fld a f) i 1 (bit01 b) := by
  have hbit : Fld.low (f.1 + i, 1) := ⟨Nat.one_pos, by have := hf.2; simp only; omega⟩
  rw [State.setFlag, State.fld_setFld_low _ _ _ hbit hf, bitsOf_setBits_within _ _ _ _ _ _ hi, State.fld_low _ _ hf]

theorem State.flag_setFlag_self (s : State) (a : Nat) (f : Fld) (b : Bool) (h : f.2 = 1) : (s.setFlag a f b).flag a f = b := by
  rw [State.flag, State.setFlag, State.fld_setFld_self, h]
  cases b <;> rfl

/-- The three registers as `setDoze` writes them, before MODE is named again. -/
def State.dozeBits (s : State) (o : Nat) (b : Bool) : State :=
  ((s.setFlag ST_MODE (ST_MODE.DOZE_OVENS.1 + o, 1) b).setFlag (QE_OVEN o) QE_OVEN.DOZE b).setFlag QE_STATUS
    (QE_STATUS.AWAKE.1 + o, 1) (!b)

theorem setDoze_eq (s : State) (o : Nat) (b : Bool) : s.setDoze o b = (s.dozeBits o b).rename := rfl

section
variable (o : Fin 8)

theorem dozeBit_low : Fld.low (ST_MODE.DOZE_OVENS.1 + o, 1) := ⟨Nat.one_pos, by simp only [ST_MODE.DOZE_OVENS]; omega⟩
theorem awakeBit_low : Fld.low (QE_STATUS.AWAKE.1 + o, 1) := ⟨Nat.one_pos, by simp only [QE_STATUS.AWAKE]; omega⟩
theorem ovenDoze_low : Fld.low QE_OVEN.DOZE := by decide

theorem doze_registers_apart : ST_MODE ≠ QE_OVEN o ∧ ST_MODE ≠ QE_STATUS ∧ QE_OVEN o ≠ QE_STATUS := by
  simp only [ST_MODE, QE_OVEN, QE_STATUS]
  omega

/-- A field of ST_MODE sees of the three writes the one of its own register. -/
theorem dozeBits_fld_mode (s : State) (b : Bool) {g : Fld} (hg : Fld.low g) :
    (s.dozeBits o b).fld ST_MODE g = (s.setFlag ST_MODE (ST_MODE.DOZE_OVENS.1 + o, 1) b).fld ST_MODE g := by
  obtain ⟨hoven, hstatus, -⟩ := doze_registers_apart o
  unfold State.dozeBits
  rw [State.setFlag, State.fld_setFld_ne _ _ _ _ (awakeBit_low o) hg hstatus, State.setFlag,
    State.fld_setFld_ne _ _ _ _ ovenDoze_low hg hoven]

theorem dozeBits_shown (s : State) (b : Bool) : DozeShown s (s.dozeBits o b) o b where
  only := ((RegsOnly.setFlag s b (dozeBit_low o) (by simp)).trans (RegsOnly.setFlag _ b ovenDoze_low (by simp))).trans
    (RegsOnly.setFlag _ (!b) (awakeBit_low o) (by simp))
  mode := by
    rw [dozeBits_fld_mode o s b (by decide), State.fld_setFlag_bit _ _ _ _ _ (by decide) o.isLt]
  oven := by
    obtain ⟨-, -, hne⟩ := doze_registers_apart o
    have hself := State.flag_setFlag_self (s.setFlag ST_MODE (ST_MODE.DOZE_OVENS.1 + o, 1) b) (QE_OVEN o) QE_OVEN.DOZE b rfl
    rw [State.flag] at hself ⊢
    rw [State.dozeBits, State.setFlag, State.fld_setFld_ne _ _ _ _ (awakeBit_low o) ovenDoze_low hne, hself]
  awake := by
    obtain ⟨-, hmode, hoven⟩ := doze_registers_apart o
    rw [State.dozeBits, State.fld_setFlag_bit _ _ _ _ _ (by decide) o.isLt, State.setFlag,
      State.fld_setFld_ne _ _ _ _ ovenDoze_low (by decide) hoven.symm, State.setFlag,
      State.fld_setFld_ne _ _ _ _ (dozeBit_low o) (by decide) hmode.symm]

/-- The fields of ST_MODE below DOZE_OVENS stay. -/
theorem dozeBits_below (s : State) (b : Bool) {g : Fld} (hg : Fld.low g) (h : g.1 + g.2 ≤ ST_MODE.DOZE_OVENS.1) :
    (s.dozeBits o b).fld ST_MODE g = s.fld ST_MODE g := by
  rw [dozeBits_fld_mode o s b hg, State.setFlag, State.fld_setFld_low _ _ _ (dozeBit_low o) hg,
    bitsOf_setBits_below _ _ _ _ _ _ (by simp only; omega), State.fld_low _ _ hg]

/-- While another Oven is awake, an Oven that dozes or wakes leaves the mode its name, so only its bits change. -/
theorem setDoze_shown (s : State) (b : Bool) (hother : s.otherAwake o) (hnamed : s.modeName = s.mode) :
    DozeShown s (s.setDoze o b) o b := by
  obtain ⟨x, hx, hbound, hawake⟩ := hother
  have shown := dozeBits_shown o s b
  have hstill : (s.dozeBits o b).dozing x = false := by
    rw [State.dozing, shown.mode, bitAt_setBits_ne _ _ _ _ (fun e => hx (Fin.ext e))]
    exact hawake
  have hname : (s.dozeBits o b).modeName = (s.dozeBits o b).mode := by
    have hmode : (s.dozeBits o b).mode = s.mode := dozeBits_below o s b (by decide) (by decide)
    rw [hmode, ← hnamed]
    refine modeName_of_awake hbound hawake hstill shown.only.rest fun f hf => ?_
    simp only [List.mem_cons, List.not_mem_nil, or_false] at hf
    rcases hf with rfl | rfl | rfl <;> exact dozeBits_below o s b (by decide) (by decide)
  rw [setDoze_eq, rename_of_named hname]
  exact shown

end

/-! ### The commands -/

/-- Without a Ticket there is nothing to dispatch. -/
theorem qePump_of_no_tickets {s : State} (h : s.qe.tkts = []) : s.qePump = s := by
  simp [State.qePump, h, dispatchAll]

theorem dozing_congr {s t : State} (h : t.regs = s.regs) (o : Nat) : t.dozing o = s.dozing o := by
  rw [State.dozing, State.dozing, State.fld_congr h]

/-- R18, R491: a dozing Oven that is not waking yet begins to wake. -/
theorem ovenWake_dozing (s : State) (o : Nat) (hdoze : s.dozing o = true) (hfresh : o ∉ s.qe.waking) :
    s.ovenWake o = { s with qe := { s.qe with
      wakes := s.qe.wakes.filter (fun x => x != o)
      waking := s.qe.waking ++ [o] } } := by
  have hdoze' : ({ s with qe := { s.qe with wakes := s.qe.wakes.filter (fun x => x != o) } } : State).dozing o = true :=
    (dozing_congr rfl o).trans hdoze
  simp [State.ovenWake, hdoze', hfresh]

/-- R19: a waking Oven is shown awake, and no longer waking. -/
theorem ovenWakeDone_shown (s : State) (o : Fin 8) (hwaking : o.val ∈ s.qe.waking) (hother : s.otherAwake o)
    (hnamed : s.modeName = s.mode) (hidle : s.qe.tkts = []) :
    DozeShown { s with qe := { s.qe with waking := s.qe.waking.filter (fun x => x != o) } } (s.ovenWakeDone o) o false := by
  have shown := setDoze_shown o { s with qe := { s.qe with waking := s.qe.waking.filter (fun x => x != o) } } false hother hnamed
  rw [State.ovenWakeDone, if_pos (by simpa using hwaking), qePump_of_no_tickets (by rw [shown.only.rest]; exact hidle)]
  exact shown

/-- R310, R491: the Starter accepts the hint for an idle Oven. -/
theorem dozeHint_accepted (s : State) (o n : Nat) (hseq : s.seqOf o = some n) (hhint : s.fld QE_CTL QE_CTL.DOZE_IDLE ≠ 0)
    (hallow : s.objNat 0x2000 8 ≠ 0) (hidle : s.qe.tkts.all (fun t => !t.inSlot o && !s.awaits o t) = true)
    (houts : (s.seqs.toList.getD n Seq.reset).outs = []) (hbase : s.st.base = 3 ∨ s.st.base = 6) (hfresh : o ∉ s.qe.waking) :
    s.dozeHint o = s.setDoze o true := by
  have hfresh' : s.qe.waking.contains o = false := by simpa using hfresh
  unfold State.dozeHint
  simp only [hseq]
  rw [if_pos ⟨hhint, hidle, hallow, by rw [houts]; rfl, hbase, hfresh'⟩]

theorem seqs_getD (s : State) (n : Fin 9) : s.seqs.toList.getD n.val Seq.reset = s.seq n := by
  simp [State.seq]

/-! ### Feed-forward (R309) -/

/-- An object reads as the bytes written to it, or as before where another was written. -/
theorem State.obj_setObj (s : State) (index sub : Nat) (v : List Byte) (hv : v ≠ []) (i j : Nat) :
    (s.setObj index sub v).obj i j = if objKey i j = objKey index sub then v else s.obj i j := by
  unfold State.setObj State.obj
  simp only [mget_mput]
  split <;> simp [hv]

theorem objKey_ne {index sub i j : Nat} (hj : j < 256) (hsub : sub < 256) (h : i ≠ index) : objKey i j ≠ objKey index sub := by
  unfold objKey
  omega

/-- DEMAND of the message: the Ovens that hold or await a Ticket. -/
def State.demand (s : State) : Nat :=
  (upTo 8).foldl (fun d o => d + bit01 (s.qe.tkts.any (fun t => t.inSlot o || s.awaits o t)) * 2 ^ o) 0

theorem feedForward_eq (s : State) : s.feedForward =
    { ((s.setObj 0x5010 1 (toBytes 2 s.backlog)).setObj 0x5010 2
        (toBytes 1 (s.qe.tkts.filter (fun t => t.dispatched)).length)).setObj 0x5010 3 (toBytes 1 s.demand) with
      qe := { s.qe with ffAt := s.now } } := rfl

/-- The message changes the dictionary and its own time, and nothing else. -/
theorem feedForward_rest (s : State) : s.feedForward =
    { s with st := { s.st with dict := s.feedForward.st.dict }, qe := { s.qe with ffAt := s.now } } := by
  rw [feedForward_eq]
  simp only [State.setObj]

/-- The message is in the dictionary's objects 0x5010:01 to 0x5010:03; every other object is as before. -/
theorem feedForward_obj (s : State) (i j : Nat) : s.feedForward.obj i j =
    if objKey i j = objKey 0x5010 3 then toBytes 1 s.demand
    else if objKey i j = objKey 0x5010 2 then toBytes 1 (s.qe.tkts.filter (fun t => t.dispatched)).length
    else if objKey i j = objKey 0x5010 1 then toBytes 2 s.backlog
    else s.obj i j := by
  rw [feedForward_eq, ← State.obj_setObj s 0x5010 1 (toBytes 2 s.backlog) (by simp [toBytes]),
    ← State.obj_setObj _ 0x5010 2 _ (by simp [toBytes]), ← State.obj_setObj _ 0x5010 3 _ (by simp [toBytes])]
  rfl

theorem backlog_le (s : State) : s.backlog ≤ 65535 := Nat.min_le_left _ _

theorem feedForward_backlog (s : State) : s.feedForward.objNat 0x5010 1 = s.backlog := by
  have hle := backlog_le s
  rw [State.objNat, feedForward_obj, if_neg (by decide), if_neg (by decide), if_pos rfl]
  simp only [toBytes, ofBytes, BitVec.toNat_ofNat]
  omega

theorem feedForward_inflight (s : State) :
    s.feedForward.objNat 0x5010 2 = (s.qe.tkts.filter (fun x => x.dispatched)).length % 256 := by
  rw [State.objNat, feedForward_obj, if_neg (by decide), if_pos rfl]
  simp [toBytes, ofBytes]

theorem feedForward_other (s : State) (i j : Nat) (hi : i ≠ 0x5010) (hj : j < 256) : s.feedForward.obj i j = s.obj i j := by
  rw [feedForward_obj, if_neg (objKey_ne hj (by decide) hi), if_neg (objKey_ne hj (by decide) hi),
    if_neg (objKey_ne hj (by decide) hi)]

end Sys2Proof.Machine

namespace Sys2Proof.Proofs
open Sys2Proof Sys2Proof.Machine

/-- Settles O38: `setDoze_shown` for the wake and the doze, `feedForward_obj` for the message. -/
theorem ovensDozeAndWake : Obligations.OvensDozeAndWake := by
  intro s o others
  refine ⟨fun hdoze hfresh => ?_, fun hwaking hother hnamed hidle hstill => ?_,
    fun n hseq hhint hallow hidle houts hbase hfresh hother hnamed => ?_, ?_⟩
  · show Host.Outcome.next (s.after (s.ovenWake o.val)) = _
    rw [ovenWake_dozing s o hdoze hfresh]
    rfl
  · have shown := ovenWakeDone_shown s o hwaking hother hnamed hidle
    have quiet : Still ({ s with qe := { s.qe with waking := s.qe.waking.filter (fun x => x != o) } } : State) :=
      ⟨hstill.fab, hstill.chain, hstill.inbox, hstill.host, hstill.seqs, hstill.repair⟩
    refine ⟨s.ovenWakeDone o, ?_, shown.only, ?_, shown.oven, ?_⟩
    · show Host.Outcome.next (s.after ((s.ovenWakeDone o.val).settle)) = _
      rw [settle_still _ (quiet.of_regsOnly shown.only)]
      exact congrArg _ shown.only.after
    · rw [shown.mode, State.fld_congr (s := s) rfl]
      rfl
    · rw [shown.awake, State.fld_congr (s := s) rfl]
      rfl
  · have shown := setDoze_shown o s true hother hnamed
    have accepted := dozeHint_accepted s o n hseq hhint hallow hidle (by rw [seqs_getD, houts]) hbase hfresh
    refine ⟨s.setDoze o true, ?_, shown.only, shown.mode, shown.oven, shown.awake⟩
    show Host.Outcome.next (s.after (s.dozeHint o.val)) = _
    rw [accepted, shown.only.after]
  · refine ⟨s.feedForward, ?_, feedForward_rest s, feedForward_backlog s, feedForward_inflight s,
      fun i sub hi _ hsub => feedForward_other s i sub hi hsub⟩
    show Host.Outcome.next (s.after s.feedForward) = _
    rw [feedForward_rest]
    rfl

end Sys2Proof.Proofs
end

section
/-! What a sequencer, its records and the registers hold at reset (O3). -/
namespace Sys2Proof.Machine

theorem reset_seq (n : Fin 9) : State.reset.seq n = Seq.reset := by
  simp [State.seq, State.reset]

/-- Every register of either world's half is zero at reset. -/
theorem reset_ctx (w : Bool) : Arch.reset.ctx w = WorldCtx.reset := by
  cases w <;> rfl

theorem reset_reg (x : Nat) : State.reset.reg x = regReset x := rfl

theorem regReset_vstat (n : Fin 9) : regReset (SEQ_VSTAT n.val) = 0 := by
  revert n
  decide +kernel

end Sys2Proof.Machine

namespace Sys2Proof.Proofs
open Sys2Proof Sys2Proof.Machine

/-- Settles O3: each part is read off the reset values of the state. -/
theorem resetHolds : Obligations.ResetHolds := by
  intro n
  simp only [reset_seq]
  refine ⟨fun i => ?_, fun w i => ?_, rfl, rfl, rfl, rfl, regReset_vstat n, fun i => ?_, rfl, rfl, rfl, rfl, rfl, rfl,
    fun w => ?_, rfl, rfl, reset_reg⟩
  · simp [Seq.reset, Arch.reset]
  · simp [Seq.reset, Arch.seg, reset_ctx, WorldCtx.reset]
  · simp [Seq.reset, Arch.reg, Arch.reset]
  · simp [Seq.reset, reset_ctx, WorldCtx.reset]

end Sys2Proof.Proofs
end

section
/-! A Loaf of one V syllable: the causes that it can meet, and the ways in which it retires (O25, O26). -/
namespace Sys2Proof.Machine

/-- The commands of Tables 3-6 to 3-13 are each one V syllable of their opcode. -/
theorem vecForms_syl (v : VSyl) : ∀ p ∈ vecForms, (p.1 v).syl = some (v.seq, .vec p.2 v, v.stop) := by
  rw [← List.forall_iff_forall_mem]
  simp only [vecForms, List.cons_append, List.nil_append, List.Forall]
  and_intros <;> rfl

/-- None of them is VSYNC, VRESTART or a Recipe. -/
theorem vecForms_element : ∀ p ∈ vecForms, p.2 ≠ .vsync ∧ p.2 ≠ .vrestart ∧ ∀ k, p.2 ≠ .recipe k := by
  simp [vecForms]

theorem Retired.after {s t : State} {n : Fin 9} {q : Seq} (h : Retired s t n q) : s.after t = t := by
  rw [h.rest]
  rfl

/-- A command that brings the last syllable of its Loaf does what the Loaf does. -/
theorem exec_stop {s : State} {c : Instr} {n : Fin 9} {y : Syl} {b : Bool} (hc : c.syl = some (n, y, b)) (hb : b = true)
    (h : s.after (s.syllable n y true) = s.syllable n y true) : exec c s = .next (s.syllable n y true) := by
  rw [syl_exec s c n y b hc, hb, h]

/-! ### Causes (R268) -/

theorem fetchCause_vec {s : State} {n : Fin 9} {o : VOpc} {v : VSyl} (hf : FetchOk s n 2) (hb : vecIllegal o v = false) :
    s.fetchCause n (s.seq n).arch [.vec o v] false = none :=
  fetchCause_ok s n (.vec o v) (by simpa [Syl.size, Syl.slot] using hf) hb (vecDests_nodup o v _)

/-- With no vector fault to deliver, a V syllable's own causes are those of its Recipe and of its privilege. -/
theorem ownCause_vec {s : State} {n : Fin 9} (a : Arch) (o : VOpc) (v : VSyl) (hv : (s.seq n).vecPending = false) :
    (s.queued n (.vec o v)).ownCause n a [.vec o v] =
      (s.recipeCause n [.vec o v]).or (s.loafPriv n a [.vec o v]) := by
  have hpend : ((s.queued n (.vec o v)).seq n).vecPending = false := by
    rw [State.queued, State.seq_setSeq_self]
    exact hv
  have hvec : (s.queued n (.vec o v)).vecCause n a [.vec o v] = none := by
    simp [State.vecCause, hpend]
  have hpriv : (s.queued n (.vec o v)).loafPriv n a [.vec o v] = s.loafPriv n a [.vec o v] := rfl
  have hrec : (s.queued n (.vec o v)).recipeCause n [.vec o v] = s.recipeCause n [.vec o v] := rfl
  simp [State.ownCause, hvec, hpriv, hrec, State.dataEcc, stackCause, State.segCause, divCause, State.gateCause, slotOf_single,
    Syl.slot]

theorem loafPriv_vec {s : State} {n : Fin 9} {a : Arch} {o : VOpc} {v : VSyl} (h : o ≠ .vrestart) :
    s.loafPriv n a [.vec o v] = none := by
  cases o with
  | vrestart => exact absurd rfl h
  | _ => rfl

/-- R55: VRESTART is of supervisor level. -/
theorem loafPriv_vrestart (s : State) (n : Fin 9) (a : Arch) (v : VSyl) :
    s.loafPriv n a [.vec .vrestart v] = if a.sup = true then none else some (exc exPrivilege 5) := by
  cases h : a.sup <;> simp [State.loafPriv, h]

theorem recipeCause_vec {s : State} {n : Fin 9} {o : VOpc} {v : VSyl} (h : ∀ k, o ≠ .recipe k) :
    s.recipeCause n [.vec o v] = none := by
  cases o with
  | recipe k => exact absurd rfl (h k)
  | _ => rfl

/-- R110: a sound entry gives a Recipe no cause. -/
theorem recipeCause_sound {s : State} {n : Fin 9} {k : Fin 32} {v : VSyl} (h : recipeBad (s.recipeOf n (.recipe k)) v.een = false) :
    s.recipeCause n [.vec (.recipe k) v] = none := by
  simp [State.recipeCause, slotOf_single, Syl.slot, h]

end Sys2Proof.Machine

namespace Sys2Proof.Proofs
open Sys2Proof Sys2Proof.Machine

/-- Settles O25: no cause stands against the syllable, so `syllable_issue` retires its Loaf. -/
theorem vectorInstructionsIssue : Obligations.VectorInstructionsIssue := by
  intro s c o v hc hr hf hstop hill hsb
  have hcmd : c.syl = some (v.seq, .vec o v, v.stop) ∧ o ≠ .vsync ∧ o ≠ .vrestart ∧ s.recipeCause v.seq [.vec o v] = none := by
    rcases hc with ⟨p, hp, rfl, rfl⟩ | ⟨k, rfl, rfl, hsound⟩
    · obtain ⟨hsync, hrestart, hrecipe⟩ := vecForms_element p hp
      exact ⟨vecForms_syl v p hp, hsync, hrestart, recipeCause_vec hrecipe⟩
    · exact ⟨rfl, by simp, by simp, recipeCause_sound hsound⟩
  obtain ⟨hsyl, hsync, hrestart, hrecipe⟩ := hcmd
  have hown : (s.queued v.seq (.vec o v)).ownCause v.seq (s.seq v.seq).arch [.vec o v] = none := by
    rw [ownCause_vec _ _ _ hr.vec, hrecipe, loafPriv_vec hrestart]
    rfl
  obtain ⟨ins, g, hret, hzero, hsome⟩ := syllable_issue s v.seq o v hr hsync hrestart (fetchCause_vec hf hill) hown hsb
  refine ⟨_, ins, g, exec_stop hsyl hstop hret.after, hret, hzero, fun hlen => ?_⟩
  obtain ⟨x, hins, hid, hop, hsyl', hn, hstr, hworld, hsup, hct, hdone, -⟩ := hsome hlen
  exact ⟨x, hins, hid, hop, hsyl', hn, hstr, hworld, hsup, hct, hdone⟩

end Sys2Proof.Proofs
end

section
/-! VSYNC and VRESTART: the Loafs that retire without an instruction of their own (O26). -/
namespace Sys2Proof.Machine

/-! ### The way of such a Loaf -/

/-- A V syllable whose work leaves its sequencer as `q` and touches nothing else retires its Loaf with it. -/
theorem syllable_vec_retired (s : State) (n : Fin 9) (o : VOpc) (v : VSyl) (q : Seq) (hr : SeqReady s n)
    (hf : s.fetchCause n (s.seq n).arch [.vec o v] false = none)
    (ho : (s.queued n (.vec o v)).ownCause n (s.seq n).arch [.vec o v] = none)
    (hh : (s.queued n (.vec o v)).vecHold n true (.vec o v) = false)
    (hwait : q.waiting = []) (htail : q.tail = none) (hspec : q.spec = [])
    (hrun : (s.setSeq n { (s.seq n).pastVec with asm := [], waiting := [[.vec o v]] }).runVec n (s.seq n).arch [.vec o v]
      = s.setSeq n { q with waiting := [[.vec o v]] }) :
    Retired s (s.syllable n (.vec o v) true) n q := by
  have hq : { q with waiting := [] } = q := by
    rw [← hwait]
  rw [syllable_vec s n o v hr hf ho hh _ hrun, loafDone_nil _ _ _ (by simpa using hspec)]
  simp only [seq_loafCount, setSeq_loafCount, State.seq_setSeq_self, State.setSeq_setSeq, List.drop_one, List.tail_cons, hq]
  rw [pumpN_of_none]
  · exact retired_count s n 0 q
  · exact pumpOne_idle _ _ (by simpa using hwait) (by simpa using htail) (failTake_nil _ _ (by simpa using hspec))

/-! ### VRESTART's two forms -/

/-- A VRESTART that is legal names one of the two forms; the command of either form is then legal too. -/
theorem vecIllegal_vrestart_mod {v : VSyl} (m : BitVec 4) (h : vecIllegal .vrestart v = false) (hm : m.toNat < 2) :
    vecIllegal .vrestart { v with mod := m } = false := by
  simp only [vecIllegal, VOpc.modReserved, Bool.or_eq_false_iff, decide_eq_false_iff_not, Nat.not_le] at h ⊢
  obtain ⟨⟨⟨hform, -⟩, hneg⟩, hE⟩ := h
  exact ⟨⟨⟨hform, hm⟩, hneg⟩, hE⟩

theorem mod_lt_of_legal {v : VSyl} (h : vecIllegal .vrestart v = false) : v.mod.toNat < 2 := by
  simp only [vecIllegal, VOpc.modReserved, Bool.or_eq_false_iff, decide_eq_false_iff_not, Nat.not_le] at h
  omega

theorem vrestart_mod_resume {m : BitVec 4} (h : m.toNat < 2) : (m &&& 14).toNat < 2 ∧ (m &&& 14).getLsbD 0 = false := by
  revert m
  decide

theorem vrestart_mod_discard {m : BitVec 4} (h : m.toNat < 2) : (m ||| 1).toNat < 2 ∧ (m ||| 1).getLsbD 0 = true := by
  revert m
  decide

/-- Nothing waits for a list of instructions where there is none. -/
theorem Seq.release_nil {q : Seq} (ids : List Nat) (ho : q.outs = []) (he : q.vrec.entries = []) : q.release ids = q := by
  obtain ⟨_, _, _, _, _, _, _, _, _, _, _, _, _, _, outs, _, vrec, _⟩ := q
  obtain ⟨_, _, _, _, _, _, entries, _, _⟩ := vrec
  obtain rfl : outs = [] := ho
  obtain rfl : entries = [] := he
  rfl

/-- A sequencer whose record is cleared, and whose next vector instruction opens a group. -/
def Seq.cleared (q : Seq) : Seq := { q with
  vrec := VRec.reset
  openGrp := none }

/-- A sequencer that has issued `os` after what was outstanding. -/
def Seq.issued (q : Seq) (os : List VIns) : Seq := { q with
  outs := q.outs ++ os
  nextId := q.nextId + os.length }

theorem Seq.issued_nil (q : Seq) : q.issued [] = q := by
  simp [Seq.issued]

theorem Seq.issued_issued (q : Seq) (os ps : List VIns) : (q.issued os).issued ps = q.issued (os ++ ps) := by
  simp [Seq.issued, Nat.add_assoc]

/-- R55: VRESTART 1 clears the record. -/
theorem vecRestart_discard (s : State) (n : Fin 9) (hv : (s.seq n).vrec.valid = true) (ho : (s.seq n).outs = []) :
    s.vecRestart n true = s.setSeq n (s.seq n).cleared := by
  have heq : s.vecRestart n true = (s.setSeq n (s.seq n).cleared).setSeq n
      (((s.setSeq n (s.seq n).cleared).seq n).release ((s.seq n).vrec.entries.map (fun v => v.id))) := by
    simp only [State.vecRestart, hv, Bool.not_true, Bool.false_eq_true, if_false, if_true]
    rfl
  rw [heq, State.seq_setSeq_self, State.setSeq_setSeq, Seq.release_nil]
  · exact ho
  · rfl

/-- What a resumed instruction keeps: which it is, and how far it has come. -/
def VIns.progress (v : VIns) : Nat × VOpc × VSyl × Nat × Nat := (v.id, v.op, v.syl, v.n, v.done)

/-- An entry issued again stands last among those outstanding, where it stopped. -/
theorem resume_eq (s : State) (n : Fin 9) (v : VIns) :
    ∃ w, s.resume n v = s.setSeq n ((s.seq n).issued [w]) ∧ w.progress = v.progress :=
  ⟨_, rfl, rfl⟩

/-- The entries of a record issued again, in order. -/
theorem resume_all (es : List VIns) (s : State) (n : Fin 9) :
    ∃ os, es.foldl (fun s v => s.resume n v) s = s.setSeq n ((s.seq n).issued os) ∧
      os.map VIns.progress = es.map VIns.progress := by
  induction es generalizing s with
  | nil => exact ⟨[], by rw [Seq.issued_nil, State.setSeq_seq, List.foldl_nil], rfl⟩
  | cons v es ih =>
    obtain ⟨w, hw, hkeep⟩ := resume_eq s n v
    obtain ⟨os, hos, hmap⟩ := ih (s.resume n v)
    refine ⟨w :: os, ?_, by simp [hkeep, hmap]⟩
    rw [List.foldl_cons, hos, hw, State.seq_setSeq_self, State.setSeq_setSeq, Seq.issued_issued, List.singleton_append]

/-- R55: VRESTART 0 clears the record and issues its entries again. -/
theorem vecRestart_resume (s : State) (n : Fin 9) (hv : (s.seq n).vrec.valid = true) (hc : (s.seq n).cbuf = []) :
    ∃ os, s.vecRestart n false = s.setSeq n ((s.seq n).cleared.issued os) ∧
      os.map VIns.progress = (s.seq n).vrec.entries.map VIns.progress := by
  have hdrain : (s.setSeq n (s.seq n).cleared).drainAll n = s.setSeq n (s.seq n).cleared := by
    simp [State.drainAll, Seq.cleared, hc]
  have heq : s.vecRestart n false =
      (s.seq n).vrec.entries.foldl (fun s v => s.resume n v) ((s.setSeq n (s.seq n).cleared).drainAll n) := by
    simp only [State.vecRestart, hv, Bool.not_true, Bool.false_eq_true, if_false]
    rfl
  obtain ⟨os, hos, hmap⟩ := resume_all (s.seq n).vrec.entries (s.setSeq n (s.seq n).cleared) n
  exact ⟨os, by rw [heq, hdrain, hos, State.seq_setSeq_self, State.setSeq_setSeq], hmap⟩

/-! ### The two commands -/

section
variable {s : State} {v : VSyl} (hr : SeqReady s v.seq) (hf : FetchOk s v.seq 2)
include hr hf

/-- R54, R198: VSYNC retires once all vector work is done. -/
theorem vsync_retired (hill : vecIllegal .vsync v = false) (hsb : (s.seq v.seq).sb = []) (hcb : (s.seq v.seq).cbuf = [])
    (hquiet : ∀ e ∈ (s.seq v.seq).vrec.entries, e.sends = [] ∧ e.unacked = []) :
    Retired s (s.syllable v.seq (.vec .vsync v) true) v.seq (s.seq v.seq).pastVec := by
  have hown : (s.queued v.seq (.vec .vsync v)).ownCause v.seq (s.seq v.seq).arch [.vec .vsync v] = none := by
    rw [ownCause_vec _ _ _ hr.vec, recipeCause_vec (by simp), loafPriv_vec (by simp)]
    rfl
  refine syllable_vec_retired s _ _ _ _ hr (fetchCause_vec hf hill) hown ?_ hr.waiting hr.tail hr.spec ?_
  · have hdone : (s.seq v.seq).vrec.entries.all (fun e => e.sends.isEmpty && e.unacked.isEmpty) = true := by
      simpa [List.isEmpty_iff] using hquiet
    simp [State.vecHold, State.queued, Seq.vecQuiet, hsb, hcb, hr.outs, hdone]
  · simp [State.runVec, slotOf_single, Syl.slot, Seq.pastVec, hr.asm]

variable (hill : vecIllegal .vrestart v = false) (hquiet : ∀ e ∈ (s.seq v.seq).vrec.entries, e.sends = [] ∧ e.unacked = [])
  (hvalid : (s.seq v.seq).vrec.valid = true) (hsup : (s.seq v.seq).arch.sup = true)
include hill hquiet hsup

/-- R55: at supervisor level VRESTART retires with the sequencer as `vecRestart` leaves it. -/
theorem vrestart_retired {d : Bool} (m : BitVec 4) (hm : m.toNat < 2) (hd : m.getLsbD 0 = d) (q : Seq)
    (hroom : d = true ∨ (s.seq v.seq).vrec.entries.length ≤ 8)
    (hwait : q.waiting = []) (htail : q.tail = none) (hspec : q.spec = [])
    (hrun : (s.setSeq v.seq { (s.seq v.seq).pastVec with asm := [], waiting := [[.vec .vrestart { v with mod := m }]] }).vecRestart
      v.seq d = s.setSeq v.seq { q with waiting := [[.vec .vrestart { v with mod := m }]] }) :
    Retired s (s.syllable v.seq (.vec .vrestart { v with mod := m }) true) v.seq q := by
  have hown : (s.queued v.seq (.vec .vrestart { v with mod := m })).ownCause v.seq (s.seq v.seq).arch
      [.vec .vrestart { v with mod := m }] = none := by
    rw [ownCause_vec _ _ _ hr.vec, recipeCause_vec (by simp), loafPriv_vrestart, if_pos hsup]
    rfl
  refine syllable_vec_retired s _ _ _ q hr (fetchCause_vec hf (vecIllegal_vrestart_mod m hill hm)) hown ?_ hwait htail hspec ?_
  · have hdone : (s.seq v.seq).vrec.entries.all (fun e => e.sends.isEmpty && e.unacked.isEmpty) = true := by
      simpa [List.isEmpty_iff] using hquiet
    simp only [State.vecHold, State.queued, State.seq_setSeq_self, hd, Seq.mayRestart, hr.outs, hdone]
    simpa [or_iff_not_imp_left] using hroom
  · rw [← hrun, ← hd]
    rfl

include hvalid

theorem vrestartDiscard_retired :
    Retired s (s.syllable v.seq (.vec .vrestart { v with mod := v.mod ||| 1 }) true) v.seq (s.seq v.seq).pastVec.cleared := by
  obtain ⟨hm, hbit⟩ := vrestart_mod_discard (mod_lt_of_legal hill)
  refine vrestart_retired hr hf hill hquiet hsup _ hm hbit _ (.inl rfl) hr.waiting hr.tail hr.spec ?_
  rw [vecRestart_discard _ _ (by simpa [Seq.pastVec] using hvalid) (by simpa [Seq.pastVec] using hr.outs)]
  simp [Seq.pastVec, Seq.cleared, hr.asm]

theorem vrestartResume_retired (hcb : (s.seq v.seq).cbuf = []) (hroom : (s.seq v.seq).vrec.entries.length ≤ 8) :
    ∃ os, Retired s (s.syllable v.seq (.vec .vrestart { v with mod := v.mod &&& 14 }) true) v.seq
        ((s.seq v.seq).pastVec.cleared.issued os) ∧
      os.map VIns.progress = (s.seq v.seq).vrec.entries.map VIns.progress := by
  obtain ⟨hm, hbit⟩ := vrestart_mod_resume (mod_lt_of_legal hill)
  obtain ⟨os, hos, hmap⟩ := vecRestart_resume
    (s.setSeq v.seq { (s.seq v.seq).pastVec with asm := [], waiting := [[.vec .vrestart { v with mod := v.mod &&& 14 }]] }) v.seq
    (by simpa [Seq.pastVec] using hvalid) (by simpa [Seq.pastVec] using hcb)
  refine ⟨os, vrestart_retired hr hf hill hquiet hsup _ hm hbit _ (.inr hroom) hr.waiting hr.tail hr.spec ?_, ?_⟩
  · rw [hos]
    simp [Seq.pastVec, Seq.cleared, Seq.issued, hr.asm]
  · simpa [Seq.pastVec] using hmap

end

/-- R55: at user level VRESTART takes PRIVILEGE. -/
theorem vrestart_privilege {s : State} {v : VSyl} (hr : SeqReady s v.seq) (hf : FetchOk s v.seq 2)
    (hill : vecIllegal .vrestart v = false) (hsup : (s.seq v.seq).arch.sup = false) (hmay : s.mayTake v.seq) :
    TakesException s (s.syllable v.seq (.vec .vrestart v) true) v.seq (s.seq v.seq).arch.world exPrivilege 5 0
      (s.seq v.seq).arch.pc := by
  obtain ⟨hdf, heip⟩ := hmay
  have hown : (s.queued v.seq (.vec .vrestart v)).ownCause v.seq (s.seq v.seq).arch [.vec .vrestart v]
      = some (exc exPrivilege 5) := by
    rw [ownCause_vec _ _ _ hr.vec, recipeCause_vec (by simp), loafPriv_vrestart, if_neg (by simp [hsup])]
    rfl
  rw [syllable_cause s _ _ (exc exPrivilege 5) hr (by decide) (by decide) hdf heip (.inr ⟨fetchCause_vec hf hill, hown⟩)]
  exact entered_takes s v.seq (exc exPrivilege 5) _

theorem TakesException.after {s t : State} {n : Fin 9} {w : Bool} {cause sub eaddr : Nat} {ret : BitVec 19}
    (h : TakesException s t n w cause sub eaddr ret) : s.after t = t := by
  rw [h.rest]
  rfl

end Sys2Proof.Machine

namespace Sys2Proof.Proofs
open Sys2Proof Sys2Proof.Machine

/-- Settles O26: each command is a Loaf of one V syllable, which retires with its work done or takes PRIVILEGE. -/
theorem vectorSyncAndRestart : Obligations.VectorSyncAndRestart := by
  intro s v hr hf hstop
  refine ⟨fun hill hsb hcb hquiet => ?_, fun hill hsup hquiet hvalid => ⟨?_, fun hcb hroom => ?_⟩, fun hill hsup => ?_⟩
  · have hret := vsync_retired hr hf hill hsb hcb hquiet
    exact ⟨_, exec_stop rfl hstop hret.after, hret⟩
  · have hret := vrestartDiscard_retired hr hf hill hquiet hvalid hsup
    exact ⟨_, exec_stop rfl hstop hret.after, hret⟩
  · obtain ⟨os, hret, hmap⟩ := vrestartResume_retired hr hf hill hquiet hvalid hsup hcb hroom
    have hlen : os.length = (s.seq v.seq).vrec.entries.length := by simpa using congrArg List.length hmap
    refine ⟨_, os, exec_stop rfl hstop hret.after, ?_, hmap⟩
    rw [Seq.issued, hlen, show (s.seq v.seq).pastVec.cleared.outs = [] from hr.outs] at hret
    exact hret
  · obtain ⟨hm, -⟩ := vrestart_mod_discard (mod_lt_of_legal hill)
    by_cases hmay : s.mayTake v.seq
    · have htake := vrestart_privilege (v := { v with mod := v.mod ||| 1 }) hr hf (vecIllegal_vrestart_mod _ hill hm) hsup hmay
      exact ⟨_, exec_stop rfl hstop htake.after, fun _ => htake⟩
    · exact ⟨_, syl_exec s (.vrestartDiscard v) v.seq _ _ rfl, fun h => absurd h hmay⟩

end Sys2Proof.Proofs
end

section
/-! Clean Granules of Vector Memory written, and the book-keeping of the events of one vector instruction (O30). -/
namespace Sys2Proof.Machine

/-! ### Clean Granules -/

/-- Table 5-3, R159: a write to clean Granules that carries no mark writes its bytes and meets no Poison. -/
theorem vmWrite_clean (s : State) (a : Nat) (d : List Byte) (hok : s.vmOk a d.length = true)
    (h : ∀ g ∈ granules a d.length, s.gcls g = .clean) :
    ∃ m : VMem, s.vmWrite a d false = ({ s with vm := m }, some false) ∧ m.bytes = memWrite s.vm.bytes a d ∧
      (∀ x, mget (fun _ => GClass.clean) m.cls x = s.gcls x) := by
  obtain ⟨m, hm, hbytes, hcls⟩ := writeGranules_clean a d.length (granules a d.length) s h
  refine ⟨{ m with bytes := memWrite m.bytes a d }, ?_, by rw [hbytes], hcls⟩
  simp [State.vmWrite, hok, hm]

theorem vmPsn_clean {s : State} {a len : Nat} (h : ∀ g ∈ granules a len, s.gcls g = .clean) : s.vmPsn a len = false := by
  rw [State.vmPsn, List.any_eq_false]
  intro g hg
  simp [h g hg]

/-! ### The event after its effect -/

/-- An event of a sequencer with no Loaf to go on with, and with the queue of commands untouched, ends with its effect. -/
theorem after_pump_idle {s t : State} {n : Fin 9} (hi : SeqIdle t n) (h : t.pending = s.pending) : s.after (t.pump n) = t := by
  rw [pump_idle t n hi.waiting hi.tail hi.spec, State.after, ← h]

/-! ### The one instruction -/

section
variable {q : Seq} {v : VIns}

theorem Seq.find_single (ho : q.outs = [v]) : q.outs.find? (fun w => w.id == v.id) = some v := by simp [ho]

theorem Seq.group_single (ho : q.outs = [v]) : q.group v.grp = [v] := by simp [Seq.group, ho]

/-- The one instruction replaced. -/
theorem Seq.setVins_single (ho : q.outs = [v]) (he : q.vrec.entries = []) {w : VIns} (hid : w.id = v.id) :
    q.setVins w = { q with outs := [w] } := by
  obtain ⟨_, _, _, _, _, _, _, _, _, _, _, _, _, _, outs, _, vrec, _⟩ := q
  obtain ⟨_, _, _, _, _, _, entries, _, _⟩ := vrec
  obtain rfl : outs = [v] := ho
  obtain rfl : entries = [] := he
  simp [Seq.setVins, hid]

/-- No branch and no shadow is open over it. -/
theorem Seq.isSpec_nil (hs : q.spec = []) (w : VIns) : q.isSpec w = false := by simp [Seq.isSpec, hs]

theorem stopOf_none (hf : v.fault = none) : stopOf [v] = none := by simp [stopOf, hf]

/-- R116: an instruction alone in its group is chained from no other. -/
theorem chainSrc_single (v : VIns) (key : StreamKey) : chainSrc [v] v key = none := by
  unfold chainSrc
  split <;> simp

theorem srcLanes_single (s : State) (n : Fin 9) (outs : List SliceOut) (v : VIns) (key : StreamKey) (slice : Nat) :
    s.srcLanes n [v] outs v key slice = v.bufOf key slice := by
  simp [State.srcLanes, chainSrc_single]

end

end Sys2Proof.Machine
end

section
/-! The requests of a stream for the elements of a Slice (O30). -/
namespace Sys2Proof.Machine

/-- The request of an element of a stream that takes no index. -/
def Stream.req (st : Stream) (i : Nat) : LaneReq := { slot := i % 32, k := i, off := st.off i 0, idx := 0 }

/-- A fold that gathers lists element by element gathers them all. -/
theorem foldl_some_flatMap {α β : Type} (f : Option (List β) → α → Option (List β)) (g : α → List β) (l : List α)
    (h : ∀ a ∈ l, ∀ acc, f (some acc) a = some (acc ++ g a)) (acc : List β) :
    l.foldl f (some acc) = some (acc ++ l.flatMap g) := by
  induction l generalizing acc with
  | nil => simp
  | cons a l ih =>
    rw [List.foldl_cons, h a (by simp), ih (fun b hb => h b (by simp [hb]))]
    simp

/-- What such a fold gathers comes from its elements. -/
theorem mem_of_foldl_some {α β : Type} (f : Option (List β) → α → Option (List β)) (P : α → β → Prop) (l : List α)
    (hnone : ∀ a, f none a = none) (h : ∀ a ∈ l, ∀ acc out, f (some acc) a = some out → ∀ b ∈ out, b ∈ acc ∨ P a b)
    (acc out : List β) (hout : l.foldl f (some acc) = some out) : ∀ b ∈ out, b ∈ acc ∨ ∃ a ∈ l, P a b := by
  induction l generalizing acc with
  | nil =>
    obtain rfl : acc = out := by simpa using hout
    exact fun b hb => .inl hb
  | cons a l ih =>
    rw [List.foldl_cons] at hout
    cases hfa : f (some acc) a with
    | none =>
      have hstuck : ∀ m : List α, m.foldl f none = none := fun m => by
        induction m with
        | nil => rfl
        | cons x m ihm => rw [List.foldl_cons, hnone, ihm]
      rw [hfa, hstuck] at hout
      cases hout
    | some mid =>
      rw [hfa] at hout
      intro b hb
      rcases ih (fun x hx => h x (by simp [hx])) mid hout b hb with hmid | ⟨x, hx, hP⟩
      · rcases h a (by simp) acc mid hfa b hmid with hacc | hP
        · exact .inl hacc
        · exact .inr ⟨a, by simp, hP⟩
      · exact .inr ⟨x, by simp [hx], hP⟩

/-! ### The requests of one element -/

section
variable (v : VIns) (st : Stream) (get : StreamKey → Nat → Option LElem)

/-- The request that `VIns.reqs` makes for place `i` of a stream: none while its index is missing. -/
def VIns.placeReq (slot k i : Nat) : Option LaneReq :=
  match st.key with
  | .data p =>
    if vdAmode st.desc = 2 then
      match get (.index (if p = 5 then 0 else p)) i, v.stream (.index (if p = 5 then 0 else p)) with
      | some x, some ist =>
        some { slot := slot, k := k, off := st.off i (indexValue (vdEty ist.desc) x.v), idx := indexValue (vdEty ist.desc) x.v }
      | _, _ => none
    else some { slot := slot, k := k, off := st.off i 0, idx := 0 }
  | _ => some { slot := slot, k := k, off := st.off i 0, idx := 0 }

/-- Whether the mask lets element `i` take part: none while its bit is missing. -/
def VIns.activeAt (i : Nat) : Option Bool :=
  if v.syl.men then (get .mask i).map (fun x => (x.v % 2 == 1) != v.syl.mneg) else some true

/-- The requests that `VIns.reqs` makes for element `i` of a stream. -/
def VIns.elemReqs (i : Nat) : Option (List LaneReq) :=
  match st.key with
  | .data p =>
    match v.activeAt get i with
    | none => none
    | some false => some []
    | some true =>
      if p = 2 ∧ v.op = .vsha256 then some ((upTo 4).filterMap (fun b => v.placeReq st get (4 * (i % 32) + b) i (4 * i + b)))
      else if p = 1 ∧ v.op = .vexpd then ((v.packedAt (v.activeAt get) i).bind (v.placeReq st get (i % 32) i)).map (fun x => [x])
      else (v.placeReq st get (i % 32) i i).map (fun x => [x])
  | _ => (v.placeReq st get (i % 32) i i).map (fun x => [x])

/-- The requests of a stream are those of its elements, unless one is missing. -/
theorem reqs_eq (lo hi : Nat) : v.reqs st get lo hi =
    ((upTo (hi - lo)).map (fun j => lo + j)).foldl (fun acc i => match acc, v.elemReqs st get i with
      | some l, some x => some (l ++ x)
      | _, _ => none) (some []) := rfl

variable {v st get}

theorem placeReq_slot {slot k i : Nat} {r : LaneReq} (h : v.placeReq st get slot k i = some r) : r.slot = slot := by
  unfold VIns.placeReq at h
  repeat' split at h
  all_goals cases h <;> rfl

/-- An element is asked for in the lane of its own, or, of B of VSHA256, in the four lanes that it has. -/
theorem elemReqs_slot {i : Nat} {rs : List LaneReq} (h : v.elemReqs st get i = some rs) : ∀ r ∈ rs,
    r.slot = i % 32 ∧ ¬ (v.op = .vsha256 ∧ st.key = .data 2) ∨
      (v.op = .vsha256 ∧ st.key = .data 2) ∧ ∃ b < 4, r.slot = 4 * (i % 32) + b := by
  have own : ∀ {o : Option LaneReq}, (∀ r, o = some r → r.slot = i % 32) → o.map (fun x => [x]) = some rs →
      ∀ r ∈ rs, r.slot = i % 32 := by
    intro o ho hmap r hr
    obtain ⟨x, hx, rfl⟩ := Option.map_eq_some_iff.1 hmap
    obtain rfl := List.mem_singleton.1 hr
    exact ho r hx
  unfold VIns.elemReqs at h
  intro r hr
  split at h
  · next p hp =>
    split at h
    · cases h
    · obtain rfl := Option.some.inj h
      cases hr
    · split at h
      · next hsha =>
        obtain rfl := Option.some.inj h
        obtain ⟨b, hb, hreq⟩ := List.mem_filterMap.1 hr
        exact .inr ⟨⟨hsha.2, by rw [hp, hsha.1]⟩, b, by simpa [upTo] using hb, placeReq_slot hreq⟩
      · next hsha =>
        have hnot : ¬ (v.op = .vsha256 ∧ st.key = .data 2) := fun ⟨ho, hk⟩ => hsha ⟨by rw [hp] at hk; simpa using hk, ho⟩
        split at h
        · refine .inl ⟨own (fun x hx => ?_) h r hr, hnot⟩
          obtain ⟨c, -, hc⟩ := Option.bind_eq_some_iff.1 hx
          exact placeReq_slot hc
        · exact .inl ⟨own (fun x hx => placeReq_slot hx) h r hr, hnot⟩
  · next hkey => exact .inl ⟨own (fun x hx => placeReq_slot hx) h r hr, fun hk => hkey 2 hk.2⟩

/-- Every request of a stream is one of an element of the Slice. -/
theorem reqs_slot {lo hi : Nat} {rs : List LaneReq} (h : v.reqs st get lo hi = some rs) : ∀ r ∈ rs, ∃ i, lo ≤ i ∧ i < hi ∧
    (r.slot = i % 32 ∧ ¬ (v.op = .vsha256 ∧ st.key = .data 2) ∨
      (v.op = .vsha256 ∧ st.key = .data 2) ∧ ∃ b < 4, r.slot = 4 * (i % 32) + b) := by
  rw [reqs_eq] at h
  intro r hr
  have hmem := mem_of_foldl_some _ (fun i (r : LaneReq) => r.slot = i % 32 ∧ ¬ (v.op = .vsha256 ∧ st.key = .data 2) ∨
      (v.op = .vsha256 ∧ st.key = .data 2) ∧ ∃ b < 4, r.slot = 4 * (i % 32) + b) _ (fun _ => rfl) (fun i _ acc out hout x hx => by
    cases hel : v.elemReqs st get i with
    | none =>
      rw [hel] at hout
      cases hout
    | some l =>
      rw [hel] at hout
      obtain rfl := Option.some.inj hout
      rcases List.mem_append.1 hx with hacc | hnew
      · exact .inl hacc
      · exact .inr (elemReqs_slot hel x hnew)) [] rs h r hr
  obtain hnil | ⟨i, hi', hslot⟩ := hmem
  · cases hnil
  · obtain ⟨j, hj, rfl⟩ := List.mem_map.1 hi'
    have hlt : j < hi - lo := by simpa [upTo] using hj
    exact ⟨lo + j, by omega, by omega, hslot⟩

/-- The elements of a plain stream are asked for one by one. -/
theorem reqs_plain {p : Nat} (hk : st.key = .data p) (hmen : v.syl.men = false) (hexp : v.op ≠ .vexpd)
    (hsha : v.op ≠ .vsha256) (ham : vdAmode st.desc ≠ 2) (hi : Nat) : v.reqs st get 0 hi = some ((upTo hi).map st.req) := by
  have hel : ∀ i, v.elemReqs st get i = some [st.req i] := by
    intro i
    simp [VIns.elemReqs, VIns.placeReq, VIns.activeAt, hk, hmen, hexp, hsha, ham, Stream.req]
  rw [reqs_eq, foldl_some_flatMap _ (fun i => [st.req i]) _ (fun i _ acc => by rw [hel i])]
  simp [List.map_eq_flatMap]

end

/-- No request of an element that passes its check is a fault. -/
theorem checkReqs_none {v : VIns} {st : Stream} {rs : List LaneReq}
    (h : ∀ r ∈ rs, segCheck st.seg (v.rightOf st.key) v.sup r.off (vdEty st.desc).size (vdEty st.desc == .bit) = none) :
    v.checkReqs st rs = none := by
  unfold VIns.checkReqs
  rw [List.findSome?_eq_none_iff]
  intro r hr
  rw [h r hr]
  rfl

end Sys2Proof.Machine
end

section
/-! STREAM_DATA_ARRIVAL of a Slice of a plain stream in Vector Memory (O30). -/
namespace Sys2Proof.Machine

/-- An element of Vector Memory as an engine takes it. -/
def State.vmElem (s : State) (st : Stream) (off : Int) : LElem :=
  { v := elemBits (vdEty st.desc) off (memRead s.vm.bytes (st.at off) (vdEty st.desc).size), psn := false }

/-- An element that Vector Memory serves without a mark or an error. -/
structure Stream.Fetchable (s : State) (st : Stream) (off : Int) : Prop where
  ok : s.vmOk (st.at off) (vdEty st.desc).size = true
  aligned : elemAligned st.desc st.seg off = true
  clean : ∀ g ∈ granules (st.at off) (vdEty st.desc).size, s.gcls g = .clean

/-- A fetch that takes element by element from one state takes them all. -/
theorem foldl_fetch (step : Fetched → LaneReq → Fetched) (u : State) (e : LaneReq → Nat × LElem) (rs : List LaneReq)
    (hstep : ∀ r ∈ rs, ∀ ls, step ⟨u, ls, none, false⟩ r = ⟨u, ls ++ [e r], none, false⟩) (ls : List (Nat × LElem)) :
    rs.foldl step ⟨u, ls, none, false⟩ = ⟨u, ls ++ rs.map e, none, false⟩ := by
  induction rs generalizing ls with
  | nil => simp
  | cons r rs ih =>
    rw [List.foldl_cons, hstep r (by simp), ih (fun r hr => hstep r (by simp [hr]))]
    simp

/-- R114: elements of clean Granules come as memory holds them. -/
theorem fetchVm_clean (s : State) (st : Stream) (k : RdKind) (rs : List LaneReq) (h : ∀ r ∈ rs, st.Fetchable s r.off) :
    ∃ m : VMem, s.fetchVm st k rs = ⟨{ s with vm := m }, rs.map (fun r => (r.slot, s.vmElem st r.off)), none, false⟩ ∧
      m.bytes = s.vm.bytes ∧ m.cls = s.vm.cls := by
  have hgood : rs.takeWhile (fun r => s.vmOk (st.at r.off) (vdEty st.desc).size) = rs :=
    List.takeWhile_eq_self_iff.2 (fun r hr => (h r hr).ok)
  obtain ⟨m, hread, hbytes, hcls⟩ := readGranules_clean k
    ((rs.flatMap (fun r => granules (st.at r.off) (vdEty st.desc).size)).eraseDups) s (fun g hg => by
      obtain ⟨r, hr, hgr⟩ := List.mem_flatMap.1 (List.mem_eraseDups.1 hg)
      exact (h r hr).clean g hgr)
  refine ⟨m, ?_, hbytes, hcls⟩
  unfold State.fetchVm
  simp only [hgood, hread, List.getElem?_length, Option.map_none]
  rw [foldl_fetch _ _ (fun r => (r.slot, s.vmElem st r.off))]
  · rfl
  · intro r hr ls
    have hpsn : ({ s with vm := m } : State).vmPsn (st.at r.off) (vdEty st.desc).size = false := by
      refine vmPsn_clean fun g hg => ?_
      rw [State.gcls, hcls]
      exact (h r hr).clean g hg
    simp [hpsn, State.elemIn, (h r hr).aligned, hbytes, State.vmElem]

/-- What is found is the one entry that fits. -/
theorem find?_eq_of_unique {α : Type} {l : List α} {p : α → Bool} {x : α} (hx : x ∈ l) (hp : p x = true)
    (huniq : ∀ y ∈ l, p y = true → y = x) : l.find? p = some x := by
  cases h : l.find? p with
  | none => exact absurd hp (List.find?_eq_none.1 h x hx)
  | some y => rw [huniq y (List.mem_of_find?_eq_some h) (List.find?_some h)]

/-- The lanes of a buffer filled with the first elements of a Slice. -/
theorem fillLanes_first (hi : Nat) (slot : Nat → Nat) (hslot : ∀ i < hi, slot i = i) (e : Nat → LElem) :
    fillLanes 32 [] ((upTo hi).map (fun i => (slot i, e i))) = (upTo 32).map (fun i => if i < hi then some (e i) else none) := by
  unfold fillLanes
  refine List.map_congr_left fun j _ => ?_
  by_cases hj : j < hi
  · have hfind : ((upTo hi).map (fun i => (slot i, e i))).find? (fun x => x.1 == j) = some (j, e j) := by
      refine find?_eq_of_unique (List.mem_map.2 ⟨j, by simpa [upTo] using hj, by rw [hslot j hj]⟩) (by simp) fun y hy hyj => ?_
      obtain ⟨i, hi', rfl⟩ := List.mem_map.1 hy
      have hlt : i < hi := by simpa [upTo] using hi'
      obtain rfl : i = j := by simpa [hslot i hlt] using hyj
      rw [hslot i hlt]
    rw [hfind, if_pos hj]
  · have hfind : ((upTo hi).map (fun i => (slot i, e i))).find? (fun x => x.1 == j) = none := by
      rw [List.find?_eq_none]
      intro x hx
      obtain ⟨i, hi', rfl⟩ := List.mem_map.1 hx
      have : i < hi := by simpa [upTo] using hi'
      simp [hslot i this]
      omega
    rw [hfind, if_neg hj]
    rfl

/-- STREAM_DATA_ARRIVAL of the first Slice of a plain stream in Vector Memory. -/
theorem streamArrive_plain {s : State} {n : Fin 9} {v : VIns} {p : Nat} {st : Stream} (hi : SeqIdle s n)
    (hent : (s.seq n).vrec.entries = []) (ho : (s.seq n).outs = [v]) (hcb : (s.seq n).cbuf = []) (hfault : v.fault = none)
    (hmen : v.syl.men = false) (hexp : v.op ≠ .vexpd) (hsha : v.op ≠ .vsha256) (hdone : v.done = 0) (hn : 0 < v.n)
    (hst : v.stream (.data p) = some st) (ham : vdAmode st.desc ≠ 2) (hmay : s.mayFetch n [v] v st 0 = true)
    (htgt : s.tgtOf n st = .vm)
    (hseg : ∀ i < min v.n 32, segCheck st.seg .rd v.sup (st.off i 0) (vdEty st.desc).size (vdEty st.desc == .bit) = none)
    (hget : ∀ i < min v.n 32, st.Fetchable s (st.off i 0)) :
    ∃ m : VMem, m.bytes = s.vm.bytes ∧ m.cls = s.vm.cls ∧
      s.streamArrive n v.id (.data p) 0 = ({ s with vm := m } : State).setSeq n { s.seq n with outs := [{ v with bufs := v.bufs ++ [{
      key := .data p
      slice := 0
      lanes := (upTo 32).map (fun i => if i < min v.n 32 then some (s.vmElem st (st.off i 0)) else none) }] }] } := by
  have hkey : st.key = .data p := by simpa using List.find?_some hst
  obtain ⟨hload, hfresh⟩ : isStore st.key = false ∧ ∀ b ∈ v.bufs, ¬ (b.key = .data p ∧ b.slice = 0) := by
    simp only [State.mayFetch, Bool.and_eq_true, Bool.not_eq_true', List.any_eq_false, hkey] at hmay
    obtain ⟨⟨⟨⟨⟨⟨⟨⟨⟨hload, -⟩, -⟩, -⟩, -⟩, hbufs⟩, -⟩, -⟩, -⟩, -⟩ := hmay
    exact ⟨by rw [hkey]; exact hload, by simpa using hbufs⟩
  have hright : v.rightOf st.key = .rd := by
    have hne : p ≠ 0 := by
      rintro rfl
      rw [hkey] at hload
      cases hload
    have hdst : isDstKey st.key = false := hload
    simp [VIns.rightOf, VIns.atomicDst, hdst, show st.key ≠ .data 0 by simpa [hkey] using hne]
  have hreqs : s.sliceReqs n [v] v st 0 (min v.n 32) = some ((upTo (min v.n 32)).map st.req) := by
    simp only [State.sliceReqs, reqs_plain hkey hmen hexp hsha ham]
  have hcheck : v.checkReqs st ((upTo (min v.n 32)).map st.req) = none := by
    refine checkReqs_none fun r hr => ?_
    obtain ⟨i, hlt, rfl⟩ := List.mem_map.1 hr
    rw [hright]
    exact hseg i (by simpa [upTo] using hlt)
  obtain ⟨m, hfetch, hbytes, hcls⟩ := fetchVm_clean s st .stream ((upTo (min v.n 32)).map st.req) (fun r hr => by
    obtain ⟨i, hlt, rfl⟩ := List.mem_map.1 hr
    exact hget i (by simpa [upTo] using hlt))
  have hlanes := fillLanes_first (min v.n 32) (fun i => i % 32)
    (fun i hlt => Nat.mod_eq_of_lt (by omega)) (fun i => s.vmElem st (st.off i 0))
  have hset : ∀ ls, v.setBuf (.data p) 0 ls = { v with bufs := v.bufs ++ [{ key := .data p, slice := 0, lanes := ls }] } := by
    intro ls
    unfold VIns.setBuf
    rw [List.filter_eq_self.2 (fun b hb => by simpa [← not_and_or] using hfresh b hb)]
  refine ⟨m, hbytes, hcls, ?_⟩
  have hmin : min (min v.n 32) v.n = min v.n 32 := by omega
  have hpos : ¬ min v.n 32 ≤ 0 := by omega
  have hseq : ({ s with vm := m } : State).seq n = s.seq n := rfl
  have hkeep : v.bufSize (.data p) = 32 := by simp [VIns.bufSize, hsha]
  have harrive : s.streamArrive n v.id (.data p) 0 = ({ s with vm := m } : State).setSeq n ((s.seq n).setVins
      (v.setBuf (.data p) 0 (fillLanes 32 [] ((upTo (min v.n 32)).map (fun i => (i % 32, s.vmElem st (st.off i 0))))))) := by
    simp only [State.streamArrive, Seq.find_single ho, Seq.group_single ho, stopOf_none hfault, hst, hmay, hdone, Nat.zero_mul,
      Nat.zero_add, Nat.max_self, hmin, hpos, decide_false, Bool.not_true, Bool.or_false, List.any_cons, List.any_nil, hfault,
      Bool.false_eq_true, if_false, hreqs, hcheck, before, htgt, hcb, Seq.isSpec_nil hi.spec, hfetch, hseq, hkeep, List.map_map]
    rfl
  rw [harrive, Seq.setVins_single ho hent (by rw [hset]), hset, hlanes]

end Sys2Proof.Machine
end

section
/-! STORE_ENTRY_DRAIN of an entry of one write, VECTOR_COMPLETE, and VECTOR_FAULT_RECORD of a fault of the descriptors (O30). -/
namespace Sys2Proof.Machine

/-! ### The bytes of an entry (R127) -/

/-- A key above all others is put in last. -/
theorem mput_above {β : Type} [DecidableEq β] {d : Nat → β} {m : List (Nat × β)} {k : Nat} {v : β} (hm : ∀ x ∈ m, x.1 < k)
    (hv : v ≠ d k) : mput d m k v = m ++ [(k, v)] := by
  induction m with
  | nil => simp [mput, mcons, hv]
  | cons x m ih =>
    obtain ⟨a, w⟩ := x
    have hlt : a < k := hm (a, w) (by simp)
    rw [mput, if_neg (by omega), if_neg (by omega), ih (fun y hy => hm y (by simp [hy]))]
    rfl

/-- Bytes written at rising addresses above those of a map stand behind it, in order. -/
theorem foldl_mput_bytes (a : Nat) (d : List Byte) (k : Nat) (m : List (Nat × Option Byte)) (hm : ∀ x ∈ m, x.1 < a + k) :
    (d.zipIdx k).foldl (fun m x => mput (fun _ => none) m (a + x.2) (some x.1)) m
      = m ++ (d.zipIdx k).map (fun x => (a + x.2, some x.1)) := by
  induction d generalizing k m with
  | nil => simp
  | cons b d ih =>
    rw [List.zipIdx_cons, List.foldl_cons, mput_above hm (by simp), ih]
    · simp
    · intro x hx
      rcases List.mem_append.1 hx with h | h
      · have := hm x h
        omega
      · obtain rfl := List.mem_singleton.1 h
        exact Nat.lt_succ_self _

/-- Bytes at rising addresses within a Granule are one run. -/
theorem runs_bytes (a : Nat) (d : List Byte) (k : Nat) (hd : d ≠ []) (hg : (a + k) % 128 + d.length ≤ 128) :
    runs ((d.zipIdx k).map (fun x => (a + x.2, some x.1))) = [(a + k, d)] := by
  induction d generalizing k with
  | nil => exact absurd rfl hd
  | cons b d ih =>
    rw [List.zipIdx_cons, List.map_cons, runs]
    cases d with
    | nil => rfl
    | cons c d =>
      simp only [List.length_cons] at hg
      have hin : (a + (k + 1)) % 128 ≠ 0 := by omega
      rw [ih (k + 1) (by simp) (by simp only [List.length_cons]; omega)]
      simp [hin, Nat.add_assoc]

/-- An entry of one write is one run. -/
theorem runs_gather_bytes (old : Nat → Byte) (a : Nat) (d : List Byte) (p : Bool) (hd : d ≠ []) (hg : a % 128 + d.length ≤ 128) :
    runs (gather old [.bytes a d p]) = [(a, d)] := by
  have h : gather old [.bytes a d p] = (d.zipIdx).map (fun x => (a + x.2, some x.1)) := by
    have := foldl_mput_bytes a d 0 [] (by simp)
    simpa [gather] using this
  rw [h]
  exact runs_bytes a d 0 hd hg

/-- R127, R159: an entry of one write into clean Granules is written byte for byte, and leaves its engine. -/
theorem storeDrain_bytes {s : State} {n : Fin 9} {e : StoreEntry} {a : Nat} {d : List Byte} (hcb : (s.seq n).cbuf = [e])
    (hmiss : e.missing = []) (hsent : e.sent = none) (htgt : e.tgt = .vm) (hw : e.writes = [.bytes a d false]) (hd : d ≠ [])
    (hg : a % 128 + d.length ≤ 128) (hok : s.vmOk a d.length = true) (hclean : ∀ g ∈ granules a d.length, s.gcls g = .clean) :
    ∃ m : VMem, s.storeDrain n 0 false = ({ s with vm := m } : State).setSeq n { s.seq n with cbuf := [] } ∧
      m.bytes = memWrite s.vm.bytes a d ∧ ∀ x, mget (fun _ => GClass.clean) m.cls x = s.gcls x := by
  have hdrop : (s.seq n).dropEntry e = { s.seq n with cbuf := [] } := by simp [Seq.dropEntry, hcb]
  have hmark : marked [.bytes a d false] a d.length = false := by simp [marked]
  obtain ⟨m, hwrite, hbytes, hcls⟩ := vmWrite_clean (s.setSeq n { s.seq n with cbuf := [] }) a d hok hclean
  refine ⟨m, ?_, hbytes, hcls⟩
  simp only [State.storeDrain, hcb, List.getElem?_cons_zero, List.take_zero, List.any_nil, Bool.false_eq_true, if_false,
    State.drainEntry, hmiss, hsent, htgt, hw, runs_gather_bytes _ a d false hd hg, hdrop, List.foldl_cons, List.foldl_nil,
    State.drainRun, List.isEmpty_nil, Option.isSome_none, Bool.not_true, Bool.or_self, hmark, hwrite]
  rfl

/-! ### VECTOR_COMPLETE (R45, R65) -/

/-- Fields set in the words `as` leave every other register as it was. -/
theorem RegsOnly.setFld (s : State) {a : Nat} {f : Fld} (v : Nat) {as : List Nat} (hf : Fld.low f) (ha : a ∈ as) :
    RegsOnly s (s.setFld a f v) as := by
  refine ⟨fun x hx => ?_, by rw [State.setFld, State.setRegNat_eq]⟩
  rw [State.reg_setFld_low _ _ _ _ hf, if_neg (fun e => hx (by rw [e]; exact ha))]

theorem vflags_only (s : State) (n : Nat) (w : Bool) (fl : Nat) {as : List Nat} (h : SEQ_VFLAGS n ∈ as) :
    RegsOnly s (s.vflags n w fl) as :=
  RegsOnly.setFld s _ (by cases w <;> decide) h

theorem vpoison_only (s : State) (n : Nat) (w m : Bool) {as : List Nat} (h : SEQ_VSTAT n ∈ as) :
    RegsOnly s (s.vpoison n w m) as :=
  RegsOnly.setFld s _ (by cases w <;> cases m <;> decide) h

theorem RegsOnly.refl (s : State) (as : List Nat) : RegsOnly s s as := ⟨fun _ _ => rfl, rfl⟩

theorem RegsOnly.seq {s t : State} {as : List Nat} (h : RegsOnly s t as) (n : Fin 9) : t.seq n = s.seq n := by
  rw [h.rest]
  rfl

/-- R45, R65: an instruction alone that is complete leaves with its result, and its flags reach the flag registers. -/
theorem vecComplete_single {s : State} {n : Fin 9} {v : VIns} (hspec : (s.seq n).spec = []) (hent : (s.seq n).vrec.entries = [])
    (ho : (s.seq n).outs = [v]) (hc : (s.seq n).complete v = true) :
    ∃ u, RegsOnly s u [SEQ_VFLAGS n.val, SEQ_VSTAT n.val] ∧ s.vecComplete n v.id = u.setSeq n { s.seq n with
      arch := (s.seq n).arch.setResult v
      outs := [] } := by
  let u := if v.op.writesG then
      if v.accPsn then (s.vflags n.val v.world v.accFl).vpoison n.val v.world false else s.vflags n.val v.world v.accFl
    else s
  have hu : RegsOnly s u [SEQ_VFLAGS n.val, SEQ_VSTAT n.val] := by
    have hfl := vflags_only s n.val v.world v.accFl (as := [SEQ_VFLAGS n.val, SEQ_VSTAT n.val]) (by simp)
    simp only [u]
    split
    · split
      · exact hfl.trans (vpoison_only _ _ _ _ (by simp))
      · exact hfl
    · exact RegsOnly.refl s _
  refine ⟨u, hu, ?_⟩
  have hq : (({ s.seq n with outs := [] } : Seq).release [v.id]).setResult v = { s.seq n with
      arch := (s.seq n).arch.setResult v
      outs := [] } := by
    rw [Seq.release_nil (q := { s.seq n with outs := [] }) [v.id] rfl hent]
    simp [Seq.setResult, hspec]
  have heq : s.vecComplete n v.id = u.setSeq n
      (({ u.seq n with outs := (u.seq n).outs.filter (fun w => w.id != v.id) } : Seq).release [v.id] |>.setResult v) := by
    simp only [State.vecComplete, Seq.find_single ho, hc, Bool.not_true, Bool.false_eq_true, if_false]
    rfl
  rw [heq, hu.seq, ho]
  simp only [List.filter_cons, bne_self_eq_false, Bool.false_eq_true, if_false, List.filter_nil, hq]

/-! ### VECTOR_FAULT_RECORD (R46, R47) -/

/-- A fault that the descriptors gave at issue stops an instruction alone where it stands. -/
theorem stopDue_atIssue {s : State} {n : Fin 9} {v : VIns} {f : VFault} (hspec : (s.seq n).spec = [])
    (ho : (s.seq n).outs = [v]) (hf : v.fault = some f) (hissue : f.atIssue = true) (hdone : v.done = f.k) (hwait : v.wait = []) :
    s.stopDue n = some ([v], f.k) := by
  have hstop : stopOf [v] = some f.k := by simp [stopOf, hf]
  have howes : s.owes n [v] v f.k f = false := by simp [State.owes, hissue]
  simp [State.stopDue, ho, hf, Seq.group_single ho, hstop, hdone, hwait, Seq.isSpec_nil hspec, howes]

theorem vecRecord_atIssue {s : State} {n : Fin 9} {v : VIns} {f : VFault} (hspec : (s.seq n).spec = [])
    (hent : (s.seq n).vrec.entries = []) (ho : (s.seq n).outs = [v]) (hf : v.fault = some f) (hissue : f.atIssue = true)
    (hdone : v.done = f.k) (hwait : v.wait = []) (hvalid : (s.seq n).vrec.valid = false) :
    s.vecRecord n = s.setSeq n { s.seq n with
      outs := []
      openGrp := none
      vrec := { (s.seq n).vrec with
        valid := true
        pending := true
        first := some f
        fent := 0
        world := v.world
        sup := v.sup
        entries := [{ v with bufs := [], replays := 0, wait := [] }] } } := by
  have hfault : s.dstFaultAt n [v] v f = f := by simp [State.dstFaultAt, hissue]
  have hv : ({ v with fault := some f } : VIns) = v := by rw [← hf]
  have hheld : heldBehind (s.seq n).isSpec [v] [v.id] = [v.id] := by simp [heldBehind, hwait]
  have hadd : (s.seq n).vrec.add [v.stopped f.k] = { (s.seq n).vrec with
      first := some f
      fent := 0
      world := v.world
      sup := v.sup
      entries := [{ v with bufs := [], replays := 0, wait := [] }] } := by
    simp [VRec.add, hent, insertOrd, VIns.stopped, hf]
  unfold State.vecRecord
  simp only [stopDue_atIssue hspec ho hf hissue hdone hwait, hvalid, Bool.false_and, Bool.false_eq_true, if_false, List.map_cons,
    List.map_nil, hf, hfault, hv, ho, hheld]
  simp [hadd, hf]

end Sys2Proof.Machine
end

section
/-! The lanes of the first Slice of an instruction alone in its group (O30). -/
namespace Sys2Proof.Machine

/-- What lane `i` makes of D from operands that carry no mark. -/
def VIns.laneD (v : VIns) (x : LaneIn) (i : Nat) : LElem := { v := (v.lane i v.acc x).d.getD 0, psn := false }

/-- D of the first `k` lanes of a Slice of `hi` elements. -/
def VIns.lanesD (v : VIns) (x : Nat → LaneIn) (hi k : Nat) : List (Option LElem) :=
  (upTo k).map (fun i => if i < hi then some (v.laneD (x i) i) else none)

/-- An opcode that keeps no running sum moves none, and gives D in every lane. -/
theorem lane_plain {v : VIns} (hscan : v.op ≠ .vscan) (hrec : ∀ k, v.op ≠ .recipe k) (i acc : Nat) (x : LaneIn) :
    (v.lane i acc x).acc = acc ∧ (v.lane i acc x).d.isSome = true := by
  unfold VIns.lane
  generalize v.types = ts, (if x.psn then stPSN else 0) = p
  obtain ⟨td, ta, tb, tc⟩ := ts
  dsimp only
  split
  · next k hk => exact absurd hk (hrec k)
  · next hk => exact absurd hk hscan
  iterate 5 exact ⟨rfl, rfl⟩
  split
  · exact ⟨rfl, rfl⟩
  · split <;> exact ⟨rfl, rfl⟩

/-- The run over a Slice of `hi` elements after its first `k` lanes, all operands there and none with a mark. -/
structure LaneRun.After (r : LaneRun) (s : State) (v : VIns) (x : Nat → LaneIn) (hi k : Nat) : Prop where
  state : r.s = s
  lanes : r.d = v.lanesD x hi k
  clean : r.psn = false
  sum : r.acc = v.acc
  whole : r.ok = true

theorem lanesD_succ (v : VIns) (x : Nat → LaneIn) (hi k : Nat) :
    v.lanesD x hi (k + 1) = v.lanesD x hi k ++ [if k < hi then some (v.laneD (x k) k) else none] := by
  simp [VIns.lanesD, upTo, List.range_succ]

theorem laneAt_lanesD {v : VIns} {x : Nat → LaneIn} {hi i : Nat} (h : i < hi) (h32 : i < 32) :
    laneAt (v.lanesD x hi 32) i = some (v.laneD (x i) i) := by
  simp [laneAt, VIns.lanesD, upTo, h32, h]

section
variable {v : VIns} {get : StreamKey → List (Option LElem)} {x : Nat → LaneIn} {hi : Nat}
  (hscan : v.op ≠ .vscan) (hrec : ∀ k, v.op ≠ .recipe k) (hmen : v.syl.men = false) (hun : v.unpred = false)
  (hin : ∀ i < hi, v.laneIn get i = some (x i) ∧ (x i).psn = false)
include hscan hrec hmen hun hin

/-- One more lane. -/
theorem laneRun_after {s : State} {r : LaneRun} {k : Nat} (hk : k < 32) (h : r.After s v x hi k) :
    (v.laneRun get 0 hi r k).After s v x hi (k + 1) := by
  obtain ⟨hs, hd, hp, ha, hok⟩ := h
  by_cases hlt : k < hi
  · obtain ⟨hlane, hclean⟩ := hin k hlt
    obtain ⟨hacc, hsome⟩ := lane_plain hscan hrec k v.acc (x k)
    obtain ⟨z, hz⟩ := Option.isSome_iff_exists.1 hsome
    have hmod : k % 32 = k := Nat.mod_eq_of_lt hk
    have hrun : v.laneRun get 0 hi r k = { r with
        d := r.d ++ [some (v.laneD (x k) k)]
        e := r.e ++ [(v.lane k v.acc (x k)).e.map (fun y => { v := y, psn := false })]
        fl := r.fl ||| (v.lane k v.acc (x k)).fl
        acc := v.acc
        count := r.count + 1 } := by
      simp [VIns.laneRun, hlt, hmod, VIns.act, hmen, hlane, hun, ha, hclean, hacc, hz, VIns.laneD]
    rw [hrun]
    exact ⟨hs, by rw [lanesD_succ, if_pos hlt, ← hd], hp, rfl, hok⟩
  · have hrun : v.laneRun get 0 hi r k = { r with d := r.d ++ [none], e := r.e ++ [none] } := by
      simp [VIns.laneRun, Nat.not_lt.1 hlt]
    rw [hrun]
    exact ⟨hs, by rw [lanesD_succ, if_neg hlt, ← hd], hp, ha, hok⟩

theorem foldl_laneRun_after (s : State) {k : Nat} (hk : k ≤ 32) :
    ((upTo k).foldl (v.laneRun get 0 hi) { s := s, acc := v.acc }).After s v x hi k := by
  induction k with
  | zero => exact ⟨rfl, rfl, rfl, rfl, rfl⟩
  | succ k ih =>
    rw [upTo, List.range_succ, List.foldl_append]
    exact laneRun_after hscan hrec hmen hun hin (by omega) (ih (by omega))

end

/-- What an instruction alone in its group makes of its first Slice. -/
structure SliceOut.Plain (o : SliceOut) (v : VIns) (x : Nat → LaneIn) (hi : Nat) : Prop where
  lanes : o.d = v.lanesD x hi 32
  clean : o.psn = false
  id : o.next.id = v.id
  op : o.next.op = v.op
  n : o.next.n = v.n

/-- R115, R126: the first Slice of a group of one, its operands there. -/
theorem sliceGroup_plain (s : State) (n : Fin 9) {v : VIns} {x : Nat → LaneIn} {hi : Nat} (hscan : v.op ≠ .vscan)
    (hrec : ∀ k, v.op ≠ .recipe k) (hform : v.syl.form ≠ 6) (hmen : v.syl.men = false) (hun : v.unpred = false)
    (hin : ∀ i < hi, v.laneIn (fun k => v.bufOf k 0) i = some (x i) ∧ (x i).psn = false) :
    ∃ o : SliceOut, s.sliceGroup n [v] 0 0 hi [v] [] = some (s, [o]) ∧ o.Plain v x hi := by
  have hred : (v.syl.form.toNat == fmRED) = false := by
    rw [beq_eq_false_iff_ne]
    exact fun h => hform (BitVec.eq_of_toNat_eq h)
  have hget : (fun k => s.srcLanes n [v] [] v k 0) = fun k => v.bufOf k 0 := by
    funext k
    rw [srcLanes_single]
  have hel : sliceElems 0 = upTo 32 := by simp [sliceElems]
  have hrun := foldl_laneRun_after hscan hrec hmen hun hin s (Nat.le_refl 32)
  obtain ⟨r, hr⟩ : ∃ r, r = (upTo 32).foldl (v.laneRun (fun k => v.bufOf k 0) 0 hi) { s := s, acc := v.acc } := ⟨_, rfl⟩
  rw [← hr] at hrun
  have hmember : s.sliceMember n [v] [] v 0 0 hi = some (r.s, {
      vid := v.id
      d := r.d
      e := if v.syl.een then r.e else []
      fl := if v.op.isAtomic then 0 else r.fl
      psn := r.psn
      next := { v with acc := r.acc, count := v.count + r.count, accPsn := v.accPsn || (v.op == .vcprs && r.psn) } }) := by
    simp only [State.sliceMember, hget, hel, ← hr, hrun.whole, hred, Bool.not_true, Bool.false_eq_true, if_false]
  rw [hrun.state] at hmember
  obtain ⟨o, ho, hplain⟩ : ∃ o, s.sliceMember n [v] [] v 0 0 hi = some (s, o) ∧ o.Plain v x hi :=
    ⟨_, hmember, hrun.lanes, hrun.clean, rfl, rfl, rfl⟩
  exact ⟨o, by simp only [State.sliceGroup, ho, List.nil_append], hplain⟩

end Sys2Proof.Machine
end

section
/-! What a Slice leaves when it commits: no faults, no Poison read, counters, and its store entry (O30). -/
namespace Sys2Proof.Machine

/-! ### Counters -/

/-- Counts of placement and registers outside the pipes' blocks may have changed, and nothing else. -/
structure CountsOnly (s t : State) : Prop where
  pipes : ∀ a, 0x200000 ≤ a → a < 0x500000 → t.reg a = s.reg a
  rest : t = { s with vm := { s.vm with placeAcc := t.vm.placeAcc }, regs := t.regs }

theorem CountsOnly.refl (s : State) : CountsOnly s s := ⟨fun _ _ _ => rfl, rfl⟩

theorem CountsOnly.trans {s t u : State} (h : CountsOnly s t) (g : CountsOnly t u) : CountsOnly s u := by
  refine ⟨fun a h2 h5 => (g.pipes a h2 h5).trans (h.pipes a h2 h5), ?_⟩
  rw [g.rest, h.rest]

theorem CountsOnly.foldl {α : Type} (f : State → α → State) (l : List α) (h : ∀ s, ∀ a ∈ l, CountsOnly s (f s a)) (s : State) :
    CountsOnly s (l.foldl f s) := by
  induction l generalizing s with
  | nil => exact .refl s
  | cons a l ih => exact (h s a (by simp)).trans (ih (fun u b hb => h u b (by simp [hb])) _)

theorem CountsOnly.tgtOf {s t : State} (h : CountsOnly s t) (n : Fin 9) (st : Stream) : t.tgtOf n st = s.tgtOf n st := by
  rw [h.rest]
  rfl

theorem CountsOnly.seq {s t : State} (h : CountsOnly s t) (n : Fin 9) : t.seq n = s.seq n := by
  rw [h.rest]
  rfl

theorem CountsOnly.of_regs {s t : State} {as : List Nat} (h : RegsOnly s t as)
    (has : ∀ a ∈ as, a < 0x200000 ∨ 0x500000 ≤ a) : CountsOnly s t := by
  refine ⟨fun a h2 h5 => h.regs a fun ha => ?_, by rw [h.rest]⟩
  have := has a ha
  omega

/-- R621: a counter counts in its own words and in the register of its overflow flag. -/
theorem reg_countWrap (s : State) {a r : Nat} (k : Nat) {f : Fld} (hf : Fld.low f) {x : Nat} (hx : x < a ∨ a + 8 ≤ x) (hr : x ≠ r) :
    (s.countWrap a k r f).reg x = s.reg x := by
  unfold State.countWrap
  dsimp only
  split
  · rw [State.reg_setFld_low _ _ _ _ hf, if_neg hr, State.reg_setRegNat_of_outside _ _ _ _ _ hx]
  · rw [State.reg_setRegNat_of_outside _ _ _ _ _ hx]

/-- R621: a counter goes on modulo 2 ^ 64. -/
theorem regNat_countWrap (s : State) {a r : Nat} (k : Nat) {f : Fld} (hf : Fld.low f) (hr : r < a ∨ a + 8 ≤ r) :
    (s.countWrap a k r f).regNat a 2 = (s.regNat a 2 + k) % 2 ^ 64 := by
  have hset : (s.setRegNat a 2 ((s.regNat a 2 + k) % 2 ^ 64)).regNat a 2 = (s.regNat a 2 + k) % 2 ^ 64 := by
    rw [State.regNat_setRegNat_self, Nat.mod_mod]
  unfold State.countWrap
  dsimp only
  split
  · rw [State.regNat_congr (s := s.setRegNat a 2 ((s.regNat a 2 + k) % 2 ^ 64)), hset]
    intro i hi
    rw [State.reg_setFld_low _ _ _ _ hf, if_neg (by omega)]
  · exact hset

theorem vmCount_counts (s : State) (a k : Nat) : CountsOnly s (s.vmCount a k) := by
  unfold State.vmCount
  dsimp only
  refine ⟨fun x _ _ => ?_, by rw [State.countWrap_eq]⟩
  rw [reg_countWrap _ _ (by decide) (by unfold VM_PERF_ACCESS; omega) (by unfold VM_STATUS; omega)]
  rfl

/-- R170: accesses counted. -/
theorem countAccess_counts (s : State) (n : Fin 9) (st : Stream) (rs : List LaneReq) : CountsOnly s (s.countAccess n st rs) := by
  unfold State.countAccess
  split
  · exact CountsOnly.foldl _ _ (fun u g _ => vmCount_counts u (g * 128) 1) s
  · exact .refl s

theorem vflags_counts (s : State) (n : Fin 9) (w : Bool) (fl : Nat) : CountsOnly s (s.vflags n.val w fl) := by
  refine .of_regs (vflags_only s n.val w fl (List.mem_singleton_self _)) fun a ha => .inl ?_
  have hn := n.isLt
  obtain rfl := List.mem_singleton.1 ha
  unfold SEQ_VFLAGS
  omega

/-- R144: a Slice's commit counted by its pipe, with no event where OVF_IE is clear. -/
theorem pipeCount_counts (s : State) {p : Nat} (k : Nat) (hp : s.flag (PIPE_CTL p) PIPE_CTL.OVF_IE = false) :
    let t := s.pipeCount p (PIPE_PERF_COMMIT p) k PIPE_STATUS.OVF_COMMIT
    t.regNat (PIPE_PERF_COMMIT p) 2 = (s.regNat (PIPE_PERF_COMMIT p) 2 + k) % 2 ^ 64 ∧ t = { s with regs := t.regs } := by
  have hlow : Fld.low PIPE_STATUS.OVF_COMMIT := by decide
  have hflag : (s.countWrap (PIPE_PERF_COMMIT p) k (PIPE_STATUS p) PIPE_STATUS.OVF_COMMIT).flag (PIPE_CTL p) PIPE_CTL.OVF_IE
      = false := by
    rw [← hp, State.flag, State.flag, State.fld_low _ _ (by decide), State.fld_low _ _ (by decide),
      reg_countWrap _ _ hlow (by unfold PIPE_CTL PIPE_PERF_COMMIT; omega) (by unfold PIPE_CTL PIPE_STATUS; omega)]
  have heq : s.pipeCount p (PIPE_PERF_COMMIT p) k PIPE_STATUS.OVF_COMMIT
      = s.countWrap (PIPE_PERF_COMMIT p) k (PIPE_STATUS p) PIPE_STATUS.OVF_COMMIT := by
    simp [State.pipeCount, hflag]
  dsimp only
  rw [heq]
  exact ⟨regNat_countWrap s k hlow (by unfold PIPE_STATUS PIPE_PERF_COMMIT; omega), State.countWrap_eq _ _ _ _ _⟩

/-! ### Operands without a mark -/

/-- An operand taken by a lane whose operands carry no mark has none. -/
theorem laneIn_clean {v : VIns} {get : StreamKey → List (Option LElem)} {j : Nat} {x : LaneIn} (h : v.laneIn get j = some x)
    (hx : x.psn = false) {st : Stream} (hst : st ∈ v.loads) :
    (¬ (v.op = .vsha256 ∧ st.key = .data 2) → ((laneAt (get st.key) j).map LElem.psn).getD false = false) ∧
      (v.op = .vsha256 → ∀ b < 4, ((laneAt (get (.data 2)) (4 * j + b)).map LElem.psn).getD false = false) := by
  unfold VIns.laneIn at h
  dsimp only at h
  generalize hblocks : (if v.op = .vsha256 then (upTo 4).map (fun i => laneAt (get (.data 2)) (4 * j + i)) else []) = blk at h
  split at h
  · cases h
  · split at h
    · cases h
    · obtain rfl := Option.some.inj h
      obtain ⟨hneed, hblk⟩ := Bool.or_eq_false_iff.1 hx
      rw [List.any_eq_false] at hneed hblk
      refine ⟨fun hne => ?_, fun hop b hb => ?_⟩
      · have hmem : (match st.key with | .data p => !(p == 2 && v.op == .vsha256) | _ => true) = true := by
          cases hk : st.key with
          | data p =>
            by_contra hnot
            obtain ⟨h2, hop⟩ : p = 2 ∧ v.op = .vsha256 := by simpa using hnot
            exact hne ⟨hop, by rw [hk, h2]⟩
          | index p => rfl
          | mask => rfl
        have hpsn := hneed st (List.mem_filter.2 ⟨hst, hmem⟩)
        cases hl : laneAt (get st.key) j with
        | none => rfl
        | some y => simpa [hl] using hpsn
      · refine Bool.eq_false_iff.2 (hblk _ ?_)
        rw [← hblocks, if_pos hop]
        exact List.mem_map.2 ⟨b, by simpa [upTo] using hb, rfl⟩

/-- Table 5-2: a Slice whose operands carry no mark reads no Poison. -/
theorem poisonReads_clean (s : State) (n : Fin 9) {v : VIns} {x : Nat → LaneIn} {hi : Nat} (h32 : hi ≤ 32)
    (hin : ∀ i < hi, v.laneIn (fun k => v.bufOf k 0) i = some (x i) ∧ (x i).psn = false) {st : Stream} (hst : st ∈ v.loads)
    {get : StreamKey → Nat → Option LElem} {rs : List LaneReq} (hrs : v.reqs st get 0 hi = some rs) :
    s.poisonReads n v st 0 rs = s := by
  have hmark : ∀ r ∈ rs, ((laneAt (v.bufOf st.key 0) r.slot).map LElem.psn).getD false = false := by
    intro r hr
    obtain ⟨i, -, hlt, hslot⟩ := reqs_slot hrs r hr
    obtain ⟨hlane, hclean⟩ := hin i hlt
    obtain ⟨hown, hblk⟩ := laneIn_clean hlane hclean hst
    have hmod : i % 32 = i := Nat.mod_eq_of_lt (by omega)
    rcases hslot with ⟨hs, hne⟩ | ⟨⟨hop, hkey⟩, b, hb, hs⟩
    · rw [hs, hmod]
      exact hown hne
    · rw [hs, hmod, hkey]
      exact hblk hop b hb
  have hhit : rs.filter (fun r => ((laneAt (v.bufOf st.key 0) r.slot).map LElem.psn).getD false) = [] := by
    rw [List.filter_eq_nil_iff]
    intro r hr
    simp [hmark r hr]
  unfold State.poisonReads
  simp [hhit]

/-! ### The store entry -/

/-- R126: the places that D writes are its elements, where every lane gives one. -/
theorem dstReqs_plain (s : State) (n : Fin 9) (ms : List VIns) (outs : List SliceOut) {v : VIns} {o : SliceOut} {st : Stream}
    {hi : Nat} (hcprs : v.op ≠ .vcprs) (ham : vdAmode st.desc ≠ 2) (hd : ∀ i < hi, (laneAt o.d (i % 32)).isSome = true) :
    s.dstReqs n ms outs v o st 0 0 hi = (upTo hi).map st.req := by
  unfold State.dstReqs
  simp only [ham, if_true, if_false, Nat.sub_zero, Nat.zero_add, List.map_id', VIns.dstElem, hcprs, false_and]
  rw [← List.filterMap_eq_map]
  refine List.filterMap_congr fun i hi' => ?_
  have hlane := hd i (by simpa [upTo] using hi')
  rw [if_neg (by simpa using Option.isSome_iff_ne_none.1 hlane)]
  rfl

/-- No element of a destination in Vector Memory that passes its checks fails. -/
theorem sliceFaults_plain (s : State) (n : Fin 9) (outs : List SliceOut) {v : VIns} {o : SliceOut} {st : Stream} {hi : Nat}
    (hstores : v.stores = [st]) (hkey : st.key = .data 0) (hatom : v.op.isAtomic = false) (htgt : s.tgtOf n st = .vm)
    (hreqs : s.dstReqs n [v] outs v o st 0 0 hi = (upTo hi).map st.req)
    (hseg : ∀ i < hi, segCheck st.seg .wr v.sup (st.off i 0) (vdEty st.desc).size (vdEty st.desc == .bit) = none)
    (hok : ∀ i < hi, s.vmOk (st.at (st.off i 0)) (vdEty st.desc).size = true) :
    s.sliceFaults n [v] outs v o 0 0 hi = none := by
  have hright : v.rightOf st.key = .wr := by simp [VIns.rightOf, VIns.atomicDst, hatom, hkey, isDstKey]
  have hpos : dstPos st = 0 := by simp [dstPos, hkey]
  have hcheck : v.checkReqs st ((upTo hi).map st.req) = none := by
    refine checkReqs_none fun r hr => ?_
    obtain ⟨i, hi', rfl⟩ := List.mem_map.1 hr
    rw [hright]
    exact hseg i (by simpa [upTo] using hi')
  have hbus : ((upTo hi).map st.req).find? (s.dstBus n v st) = none := by
    rw [List.find?_eq_none]
    intro r hr
    obtain ⟨i, hi', rfl⟩ := List.mem_map.1 hr
    simp [State.dstBus, htgt, Stream.req, hok i (by simpa [upTo] using hi')]
  have hsrc : v.loads.filter (fun st => (chainSrc [v] v st.key).isSome) = [] := by
    rw [List.filter_eq_nil_iff]
    intro z _
    simp [chainSrc_single]
  simp [State.sliceFaults, hstores, hpos, hreqs, hcheck, hbus, hsrc]

/-- R122, R126: the entry of the elements of a Slice, all aligned. -/
theorem mkEntry_plain (s : State) (n : Fin 9) (v : VIns) {st : Stream} (p : Nat) {hi : Nat} {lanes : List (Option LElem)}
    {e : Nat → LElem} (hpos : 0 < hi) (h32 : hi ≤ 32) (hbit : vdEty st.desc ≠ .bit)
    (hal : ∀ i < hi, elemAligned st.desc st.seg (st.off i 0) = true) (hl : ∀ i < hi, laneAt lanes i = some (e i)) :
    s.mkEntry n v st 0 p ((upTo hi).map st.req) lanes false = (s, [{
      vid := v.id
      pos := dstPos st
      slice := 0
      side := s.unitSide (pipeUnit p)
      world := v.world
      tgt := s.tgtOf n st
      writes := (upTo hi).map (fun i => .bytes (st.at (st.off i 0)) (toBytes (vdEty st.desc).size (e i).v) (e i).psn)
      elems := upTo hi
      missing := []
      sent := none }]) := by
  have hfold : ∀ (rs : List Nat) (ws : List EWrite), (∀ i ∈ rs, i < hi) →
      (rs.map st.req).foldl (fun (x : State × List EWrite) r =>
        ((x.1.elemOut st r ((laneAt lanes r.slot).getD { v := 0, psn := false })).1,
          x.2 ++ [(x.1.elemOut st r ((laneAt lanes r.slot).getD { v := 0, psn := false })).2])) (s, ws)
      = (s, ws ++ rs.map (fun i => .bytes (st.at (st.off i 0)) (toBytes (vdEty st.desc).size (e i).v) (e i).psn)) := by
    intro rs
    induction rs with
    | nil => intro ws _; simp
    | cons i rs ih =>
      intro ws hrs
      have hlt : i < hi := hrs i (by simp)
      have hmod : i % 32 = i := Nat.mod_eq_of_lt (by omega)
      have hout : s.elemOut st (st.req i) ((laneAt lanes (st.req i).slot).getD { v := 0, psn := false })
          = (s, .bytes (st.at (st.off i 0)) (toBytes (vdEty st.desc).size (e i).v) (e i).psn) := by
        simp [State.elemOut, hbit, Stream.req, hmod, hal i hlt, hl i hlt]
      rw [List.map_cons, List.foldl_cons, hout, ih _ (fun j hj => hrs j (by simp [hj]))]
      simp
  have hne : ((upTo hi).map st.req).isEmpty = false := by simp [upTo]; omega
  have hks : ((upTo hi).map st.req).map (fun r => r.k) = upTo hi := by
    rw [List.map_map]
    exact List.map_id' _
  unfold State.mkEntry
  rw [hne, hks]
  simp only [Bool.false_eq_true, if_false]
  rw [hfold (upTo hi) [] (fun i hi' => by simpa [upTo] using hi')]
  rfl

end Sys2Proof.Machine
end

section
/-! SLICE_COMMIT of the first Slice of an instruction alone in its group, its operands there (O30). -/
namespace Sys2Proof.Machine

/-! ### A member's part of a Slice, in two -/

/-- What the sources of a member's part of a Slice leave when it commits. -/
def State.commitLoads (s : State) (n : Fin 9) (ms : List VIns) (outs : List SliceOut) (slice lo hi : Nat) (v : VIns) : State :=
  v.loads.foldl (fun s st =>
    if (chainSrc ms v st.key).isSome then s
    else match v.reqs st (fun k i => laneAt (s.srcLanes n ms outs v k slice) (i % 32)) lo hi with
      | none => s
      | some rs => (s.poisonReads n v st slice rs).countAccess n st rs) s

/-- What its destinations leave: the state, the entries and the atomics to be sent. -/
def State.commitStores (s : State) (n : Fin 9) (ms : List VIns) (outs : List SliceOut) (slice p lo hi : Nat) (v : VIns)
    (o : SliceOut) : State × List StoreEntry × List AtomSend :=
  v.stores.foldl (fun (x : State × List StoreEntry × List AtomSend) st =>
    let pos := dstPos st
    let rs := x.1.dstReqs n ms outs v o st pos lo hi
    let s := x.1.countAccess n st rs
    if v.atomicDst st.key then
      (s, x.2.1, x.2.2 ++ rs.map (fun r =>
        let e := (laneAt o.d r.slot).getD { v := 0, psn := false }
        { elem := r.k, tgt := s.tgtOf n st, addr := st.at r.off, v := e.v, psn := e.psn }))
    else
      let (s, e) := s.mkEntry n v st slice p rs (if pos = 0 then o.d else if v.op.isAtomic then o.d else o.e) v.op.isAtomic
      (s, x.2.1 ++ e, x.2.2)) (s, [], [])

/-- The member with the elements below `hi` done. -/
def SliceOut.moved (o : SliceOut) (v : VIns) (slice hi : Nat) (sends : List AtomSend) : VIns :=
  { o.next with
    done := hi
    bufs := v.bufs.filter (fun b => !(b.slice == slice && decide (min v.n (slice * 32 + 32) ≤ hi)))
    sends := v.sends ++ sends
    unacked := v.unacked ++ sends.map (fun x => x.elem)
    replays := 0 }

/-- R126: the sources, the destinations, then flags, marks and the instruction moved on. -/
theorem commitMember_eq (s : State) (n : Fin 9) (ms : List VIns) (outs : List SliceOut) (slice p lo hi : Nat) (v : VIns)
    (o : SliceOut) {t : State} {es : List StoreEntry} {sends : List AtomSend}
    (h : (s.commitLoads n ms outs slice lo hi v).commitStores n ms outs slice p lo hi v o = (t, es, sends)) :
    s.commitMember n ms outs slice p lo hi v o =
      (let u := if o.psn then (t.vflags n.val v.world o.fl).vpoison n.val v.world false else t.vflags n.val v.world o.fl
      u.setSeq n { (u.seq n).setVins (o.moved v slice hi sends) with cbuf := (u.seq n).cbuf ++ es }) := by
  obtain rfl : t = _ := (congrArg Prod.fst h).symm
  obtain rfl : es = _ := (congrArg (fun x => x.2.1) h).symm
  obtain rfl : sends = _ := (congrArg (fun x => x.2.2) h).symm
  rfl

/-! ### The first Slice -/

/-- An instruction alone in its group, with nothing done and nothing against it, whose D goes to Vector Memory and whose
first Slice has its operands `x`, none with a mark. -/
structure FirstSlice (s : State) (n : Fin 9) (v : VIns) (st : Stream) (x : Nat → LaneIn) : Prop where
  outs : (s.seq n).outs = [v]
  entries : (s.seq n).vrec.entries = []
  spec : (s.seq n).spec = []
  pure : v.op.writesG = false
  atomic : v.op.isAtomic = false
  scan : v.op ≠ .vscan
  recipe : ∀ k, v.op ≠ .recipe k
  form : v.syl.form ≠ 6
  stores : v.stores = [st]
  key : st.key = .data 0
  unmasked : v.syl.men = false
  predicted : v.unpred = false
  fault : v.fault = none
  wait : v.wait = []
  done : v.done = 0
  pos : 0 < v.n
  unindexed : vdAmode st.desc ≠ 2
  narrow : ∀ z ∈ v.streams, (vdEty z.desc).size < 16
  bytes : vdEty st.desc ≠ .bit
  target : s.tgtOf n st = .vm
  right : ∀ i < min v.n 32, segCheck st.seg .wr v.sup (st.off i 0) (vdEty st.desc).size (vdEty st.desc == .bit) = none
  ok : ∀ i < min v.n 32, s.vmOk (st.at (st.off i 0)) (vdEty st.desc).size = true
  aligned : ∀ i < min v.n 32, elemAligned st.desc st.seg (st.off i 0) = true
  operands : ∀ i < min v.n 32, v.laneIn (fun k => v.bufOf k 0) i = some (x i) ∧ (x i).psn = false

/-- The entry that the first Slice makes. -/
def State.firstEntry (s : State) (v : VIns) (st : Stream) (x : Nat → LaneIn) (p : Nat) : StoreEntry :=
  { vid := v.id
    pos := 0
    slice := 0
    side := s.unitSide (pipeUnit p)
    world := v.world
    tgt := .vm
    writes := (upTo (min v.n 32)).map (fun i =>
      .bytes (st.at (st.off i 0)) (toBytes (vdEty st.desc).size ((v.lane i v.acc (x i)).d.getD 0)) false)
    elems := upTo (min v.n 32)
    missing := []
    sent := none }

/-- An instruction with its first Slice done. -/
structure VIns.FirstDone (w v : VIns) : Prop where
  id : w.id = v.id
  op : w.op = v.op
  n : w.n = v.n
  done : w.done = min v.n 32

section
variable {s : State} {n : Fin 9} {v : VIns} {st : Stream} {x : Nat → LaneIn} (h : FirstSlice s n v st x)
include h

/-- The group of one makes its Slice. -/
theorem FirstSlice.group : ∃ o : SliceOut, s.sliceGroup n [v] 0 0 (min v.n 32) [v] [] = some (s, [o]) ∧ o.Plain v x (min v.n 32) :=
  sliceGroup_plain s n h.scan h.recipe h.form h.unmasked h.predicted h.operands

/-- The places that D writes, in this state and in those after it. -/
theorem FirstSlice.dstReqs (u : State) {o : SliceOut} (ho : o.Plain v x (min v.n 32)) :
    u.dstReqs n [v] [o] v o st 0 0 (min v.n 32) = (upTo (min v.n 32)).map st.req := by
  have hcprs : v.op ≠ .vcprs := by
    intro hc
    have hg := h.pure
    rw [hc] at hg
    cases hg
  refine dstReqs_plain u n [v] [o] hcprs h.unindexed fun i hi => ?_
  rw [Nat.mod_eq_of_lt (by omega), ho.lanes, laneAt_lanesD hi (by omega)]
  rfl

/-- No element of the Slice fails. -/
theorem FirstSlice.faults {o : SliceOut} (ho : o.Plain v x (min v.n 32)) :
    s.sliceFaults n [v] [o] v o 0 0 (min v.n 32) = none :=
  sliceFaults_plain s n [o] h.stores h.key h.atomic h.target (h.dstReqs s ho) h.right h.ok

/-- The accesses of the sources are counted, and no Poison is reported. -/
theorem FirstSlice.loads (o : SliceOut) : CountsOnly s (s.commitLoads n [v] [o] 0 0 (min v.n 32) v) := by
  refine CountsOnly.foldl _ _ (fun u z hz => ?_) s
  rw [chainSrc_single, Option.isSome_none, if_neg (by decide)]
  split
  · exact .refl u
  · next rs hrs =>
    rw [poisonReads_clean u n (by omega) h.operands hz hrs]
    exact countAccess_counts u n z rs

/-- The entry of D, and its accesses counted. -/
theorem FirstSlice.stored {u : State} (hu : CountsOnly s u) (p : Nat) {o : SliceOut} (ho : o.Plain v x (min v.n 32)) :
    ∃ t, CountsOnly s t ∧ u.commitStores n [v] [o] 0 p 0 (min v.n 32) v o = (t, [s.firstEntry v st x p], []) := by
  have hdst : dstPos st = 0 := by simp [dstPos, h.key]
  have hto : v.atomicDst st.key = false := by simp [VIns.atomicDst, h.atomic]
  have hcount := hu.trans (countAccess_counts u n st ((upTo (min v.n 32)).map st.req))
  have hpos : 0 < min v.n 32 := by have := h.pos; omega
  have hentry := mkEntry_plain (u.countAccess n st ((upTo (min v.n 32)).map st.req)) n v p (lanes := o.d)
    (e := fun i => v.laneD (x i) i) hpos (by omega) h.bytes h.aligned (fun i hi => by rw [ho.lanes, laneAt_lanesD hi (by omega)])
  refine ⟨_, hcount, ?_⟩
  have hside : (u.countAccess n st ((upTo (min v.n 32)).map st.req)).unitSide (pipeUnit p) = s.unitSide (pipeUnit p) := by
    rw [hcount.rest]
    rfl
  simp only [State.commitStores, h.stores, List.foldl_cons, List.foldl_nil, hdst, h.dstReqs u ho, hto, h.atomic, Bool.false_eq_true,
    if_false, if_true, hentry, hcount.tgtOf, h.target, hside, List.nil_append]
  rfl

/-- R126: the Slice of the one member commits. -/
theorem FirstSlice.commitMember (p : Nat) {o : SliceOut} (ho : o.Plain v x (min v.n 32)) :
    ∃ u w, CountsOnly s u ∧ VIns.FirstDone w v ∧ s.commitMember n [v] [o] 0 p 0 (min v.n 32) v o
      = u.setSeq n { s.seq n with outs := [w], cbuf := (s.seq n).cbuf ++ [s.firstEntry v st x p] } := by
  obtain ⟨t, ht, hstored⟩ := h.stored (h.loads o) p ho
  have hu := ht.trans (vflags_counts t n v.world o.fl)
  have hid : (o.moved v 0 (min v.n 32) []).id = v.id := ho.id
  refine ⟨_, o.moved v 0 (min v.n 32) [], hu, ⟨hid, ho.op, ho.n, rfl⟩, ?_⟩
  rw [commitMember_eq s n [v] [o] 0 p 0 (min v.n 32) v o hstored, ho.clean]
  dsimp only
  rw [if_neg (by decide), hu.seq, Seq.setVins_single h.outs h.entries hid]

/-- R122, R126, R144: the Slice commits, and its pipe counts it. -/
theorem FirstSlice.commitUpTo {p : Nat} (hpair : s.unitPaired (pipeUnit p) = false) :
    ∃ u w, CountsOnly s u ∧ VIns.FirstDone w v ∧ s.commitUpTo n [v] 0 p 0 (min v.n 32)
      = (u.setSeq n { s.seq n with outs := [w], cbuf := (s.seq n).cbuf ++ [s.firstEntry v st x p] }).pipeCount p
          (PIPE_PERF_COMMIT p) 1 PIPE_STATUS.OVF_COMMIT := by
  obtain ⟨o, hgroup, ho⟩ := h.group
  obtain ⟨u, w, hu, hw, hmember⟩ := h.commitMember p ho
  refine ⟨u, w, hu, hw, ?_⟩
  have hpos : ¬ min v.n 32 ≤ 0 := by have := h.pos; omega
  have hwide : v.streams.any (fun z => decide ((vdEty z.desc).size = 16)) = false := by
    rw [List.any_eq_false]
    intro z hz
    have := h.narrow z hz
    simp only [decide_eq_true_eq]
    omega
  have hkeep : (s.seq n).outs.filter (fun w => [v.id].contains w.id) = [v] := by simp [h.outs]
  have hpairs : (u.setSeq n { s.seq n with outs := [w], cbuf := (s.seq n).cbuf ++ [s.firstEntry v st x p] }).unitPaired
      (pipeUnit p) = false := by
    rw [← hpair, hu.rest]
    rfl
  simp only [State.commitUpTo, hgroup, List.zip_cons_cons, List.zip_nil_right, List.map_cons, List.map_nil, List.foldl_cons,
    List.foldl_nil, h.faults ho, State.setSeq_seq, hkeep, stopOf_none h.fault, hpos, if_false, hmember, List.any_cons, List.any_nil,
    hwide, Bool.or_false, Bool.false_and, Bool.false_eq_true, hpairs]

end

end Sys2Proof.Machine
end

section
/-! The events that carry one instruction from its issue to its completion (O30). -/
namespace Sys2Proof.Machine

/-- Every pipe of an Oven is one of the 18. -/
theorem slicePipe_lt {s : State} {o slice p : Nat} (h : s.slicePipe o slice = some p) : p < 18 := by
  have hbound : ∀ x ∈ s.pipesOf o, x < 18 := fun x hx => by
    have := (List.mem_filter.1 hx).1
    simpa [upTo] using this
  have hof : s.pipeOf o slice = some p := by
    unfold State.slicePipe at h
    dsimp only at h
    split at h
    · cases h
    · exact h
  unfold State.pipeOf at hof
  dsimp only at hof
  split at hof
  · next x hfind =>
    obtain rfl := Option.some.inj hof
    exact hbound x (List.mem_of_find?_eq_some hfind)
  · exact hbound p (List.mem_of_head? hof)

/-- R126: a Slice of a group of one whose pipe has no fault to tell commits whole. -/
theorem FirstSlice.sliceCommit {s : State} {n : Fin 9} {v : VIns} {st : Stream} {x : Nat → LaneIn} (h : FirstSlice s n v st x)
    {p : Nat} (hpipe : s.slicePipe (s.ovenOf n) 0 = some p) : s.sliceCommit n v.id .pass = s.commitUpTo n [v] 0 p 0 (min v.n 32) := by
  have hpos : ¬ min v.n 32 ≤ 0 := by have := h.pos; omega
  simp [State.sliceCommit, Seq.find_single h.outs, Seq.group_single h.outs, h.done, stopOf_none h.fault, hpipe, hpos,
    h.wait, Seq.isSpec_nil h.spec]

/-- SLICE_COMMIT: the entry, the count of the pipe, and what stays. -/
theorem FirstSlice.effect {s : State} {n : Fin 9} {v : VIns} {st : Stream} {x : Nat → LaneIn} (h : FirstSlice s n v st x)
    {p : Nat} (hpipe : s.slicePipe (s.ovenOf n) 0 = some p) (hpair : s.unitPaired (pipeUnit p) = false)
    (hie : s.flag (PIPE_CTL p) PIPE_CTL.OVF_IE = false) :
    ∃ t w, s.sliceCommit n v.id .pass = t ∧ VIns.FirstDone w v ∧
      t.seq n = { s.seq n with outs := [w], cbuf := (s.seq n).cbuf ++ [s.firstEntry v st x p] } ∧
      t.regNat (PIPE_PERF_COMMIT p) 2 = (s.regNat (PIPE_PERF_COMMIT p) 2 + 1) % 2 ^ 64 ∧ t.vm.bytes = s.vm.bytes ∧
      (∀ m, m ≠ n → t.seq m = s.seq m) ∧ t = { s with seqs := t.seqs, vm := t.vm, regs := t.regs } := by
  obtain ⟨u, w, hu, hw, hcommit⟩ := h.commitUpTo hpair
  have hp := slicePipe_lt hpipe
  have hflag : (u.setSeq n { s.seq n with outs := [w], cbuf := (s.seq n).cbuf ++ [s.firstEntry v st x p] }).flag
      (PIPE_CTL p) PIPE_CTL.OVF_IE = false := by
    rw [← hie, State.flag, State.flag, State.fld_setSeq, State.fld_low _ _ (by decide), State.fld_low _ _ (by decide),
      hu.pipes _ (by unfold PIPE_CTL; omega) (by unfold PIPE_CTL; omega)]
  obtain ⟨hcount, hregs⟩ := pipeCount_counts _ 1 hflag
  have hperf : u.regNat (PIPE_PERF_COMMIT p) 2 = s.regNat (PIPE_PERF_COMMIT p) 2 :=
    State.regNat_congr _ _ fun i hi => hu.pipes _ (by unfold PIPE_PERF_COMMIT; omega) (by unfold PIPE_PERF_COMMIT; omega)
  refine ⟨_, w, (h.sliceCommit hpipe).trans hcommit, hw, ?_, ?_, ?_, ?_, ?_⟩
  · rw [hregs]
    exact State.seq_setSeq_self _ _ _
  · rw [hcount, ← hperf]
    rfl
  · rw [hregs, hu.rest]
    rfl
  · intro m hm
    rw [hregs]
    exact (State.seq_setSeq_ne _ _ _ _ hm).trans (hu.seq m)
  · rw [hregs, hu.rest]
    rfl

/-! ### The events -/

/-- An event whose effect leaves the sequencer idle, and the commands alone, ends with its effect. -/
theorem event_idle {s u t : State} {n : Fin 9} {q : Seq} (hi : SeqIdle s n) (heq : u = t) (ht : t.seq n = q)
    (hwaiting : q.waiting = (s.seq n).waiting) (htail : q.tail = (s.seq n).tail) (hspec : q.spec = (s.seq n).spec)
    (hp : t.pending = s.pending) : (.next (s.after (u.pump n)) : Host.Outcome State Fault Refusal) = .next t := by
  subst heq ht
  rw [after_pump_idle ⟨hwaiting.trans hi.waiting, htail.trans hi.tail, hspec.trans hi.spec⟩ hp]

end Sys2Proof.Machine

namespace Sys2Proof.Proofs
open Sys2Proof Sys2Proof.Machine

/-- Settles O30: each event is its effect on the one instruction or entry of an idle sequencer. -/
theorem vectorEventsProceed : Obligations.VectorEventsProceed := by
  unfold Obligations.VectorEventsProceed
  intro s n v q hidle hent
  refine ⟨?arrival, ?commit, ?drain, ?complete, ?record⟩
  case arrival =>
    intro p st ho hcb hfault hmen hexp hsha hdone hn hst ham hmay htgt hel
    obtain ⟨m, hbytes, hcls, heq⟩ := streamArrive_plain hidle hent ho hcb hfault hmen hexp hsha hdone hn hst ham hmay htgt
      (fun i hi => (hel i hi).1) (fun i hi => ⟨(hel i hi).2.1, (hel i hi).2.2.1, (hel i hi).2.2.2⟩)
    refine ⟨s.streamArrive n v.id (.data p) 0, ?_⟩
    rw [heq]
    refine ⟨?_, rfl, hbytes, fun g => ?_, fun k hk => State.seq_setSeq_ne _ _ _ _ hk, State.seq_setSeq_self _ _ _⟩
    · exact event_idle hidle heq (State.seq_setSeq_self _ _ _) rfl rfl rfl rfl
    · show mget _ m.cls g = mget _ s.vm.cls g
      rw [hcls]
  case commit =>
    intro st pipe x ty hi ho hpure hatom hscan hrec hform hstores hkey hmen heen hun hfault hwait hdone hn ham hnarrow hwidth hpipe
      hpair hie htgt hel
    have hslice : FirstSlice s n v st x := {
      outs := ho
      entries := hent
      spec := hidle.spec
      pure := hpure
      atomic := hatom
      scan := hscan
      recipe := hrec
      form := hform
      stores := hstores
      key := hkey
      unmasked := hmen
      predicted := hun
      fault := hfault
      wait := hwait
      done := hdone
      pos := hn
      unindexed := ham
      narrow := hnarrow
      bytes := fun hbit => by
        have hw : (vdEty st.desc).width = 8 * (vdEty st.desc).size := hwidth
        rw [hbit] at hw
        cases hw
      target := htgt
      right := fun i h => (hel i h).1
      ok := fun i h => (hel i h).2.1
      aligned := fun i h => (hel i h).2.2.1
      operands := fun i h => (hel i h).2.2.2 }
    obtain ⟨t, w, heq, hw, hseq, hperf, hbytes, hothers, hrest⟩ := hslice.effect hpipe hpair hie
    refine ⟨t, w, s.firstEntry v st x pipe, ?_, hseq, hw.id, hw.op, hw.n, hw.done, rfl, rfl, rfl, rfl, rfl, rfl, hperf, hbytes,
      hothers, hrest⟩
    exact event_idle hidle heq hseq rfl rfl rfl (by rw [hrest])
  case drain =>
    intro e a d hcb hmiss hsent htgt hw hd hg hok hclean
    obtain ⟨m, heq, hbytes, hcls⟩ := storeDrain_bytes hcb hmiss hsent htgt hw hd hg hok hclean
    refine ⟨s.storeDrain n 0 false, ?_⟩
    rw [heq]
    exact ⟨event_idle hidle heq (State.seq_setSeq_self _ _ _) rfl rfl rfl rfl, rfl, State.seq_setSeq_self _ _ _,
      fun k hk => State.seq_setSeq_ne _ _ _ _ hk, hbytes, hcls⟩
  case complete =>
    intro ho hc
    obtain ⟨u, hu, heq⟩ := vecComplete_single hidle.spec hent ho hc
    refine ⟨s.vecComplete n v.id, ?_⟩
    rw [heq]
    refine ⟨?_, fun k hk => ?_, State.seq_setSeq_self _ _ _, fun a hfl hst => ?_, ?_⟩
    · exact event_idle hidle heq (State.seq_setSeq_self _ _ _) rfl rfl rfl (by rw [hu.rest]; rfl)
    · exact (State.seq_setSeq_ne _ _ _ _ hk).trans (hu.seq k)
    · exact hu.regs a (by simp [hfl, hst])
    · rw [hu.rest]
      rfl
  case record =>
    intro f ho hf hissue hdone hwait hvalid
    have heq := vecRecord_atIssue hidle.spec hent ho hf hissue hdone hwait hvalid
    exact event_idle hidle heq (State.seq_setSeq_self _ _ _) rfl rfl rfl rfl

end Sys2Proof.Proofs
end

section
/-! Integer elements: the numbers that the bits of an element spell, and the operations fitted to the type of D (O27). -/
namespace Sys2Proof.Machine

/-! ### Two's complement -/

theorem ofInt_eq_toNat (w : Nat) (z : Int) : ofInt w z = (BitVec.ofInt w z).toNat := (BitVec.toNat_ofInt z).symm

theorem ofInt_lt (w : Nat) (z : Int) : ofInt w z < 2 ^ w := by
  rw [ofInt_eq_toNat]
  exact BitVec.isLt _

theorem toSigned_eq_toInt {w : Nat} (hw : 0 < w) (v : Nat) : toSigned w v = (BitVec.ofNat w v).toInt := by
  have hpow : 2 ^ w = 2 * 2 ^ (w - 1) := (mul_pow_sub_one hw.ne' 2).symm
  have hhalf : v % 2 ^ w < 2 ^ (w - 1) ↔ 2 * (v % 2 ^ w) < 2 ^ w := by omega
  simp only [toSigned, BitVec.toInt, BitVec.toNat_ofNat, hhalf]

/-! ### Types I and U (Table 2-5) -/

namespace ETy
variable {t : ETy}

theorem width_pos (t : ETy) : 0 < t.width := by cases t <;> decide

theorem isF_of_isIU (h : t.isIU = true) : t.isF = false := by
  revert h
  cases t <;> decide

theorem isP_of_isIU (h : t.isIU = true) : t.isP = false := by
  revert h
  cases t <;> decide

/-- A type has as many integers as its elements have bit patterns. -/
theorem maxInt_eq (t : ETy) : t.maxInt = t.minInt + ((2 ^ t.width : Nat) : Int) - 1 := by
  have hpow : 2 ^ t.width = 2 * 2 ^ (t.width - 1) := (mul_pow_sub_one t.width_pos.ne' 2).symm
  unfold maxInt minInt
  split <;> omega

theorem minInt_le_maxInt (t : ETy) : t.minInt ≤ t.maxInt := by
  have := Nat.two_pow_pos t.width
  rw [maxInt_eq]
  omega

theorem toInt_range (t : ETy) (v : Nat) : t.minInt ≤ t.toInt v ∧ t.toInt v ≤ t.maxInt := by
  unfold toInt minInt maxInt
  split
  · rw [toSigned_eq_toInt t.width_pos]
    have hlow := BitVec.le_toInt (BitVec.ofNat t.width v)
    have hhigh := BitVec.toInt_lt (x := BitVec.ofNat t.width v)
    push_cast
    omega
  · have := Nat.mod_lt v (Nat.two_pow_pos t.width)
    omega

/-- R75: an integer's low bits, as an element, differ from it by a multiple of 2 ^ width. -/
theorem toInt_ofInt_wraps (t : ETy) (z : Int) : ∃ k : Int, t.toInt (ofInt t.width z) = z + k * (2 ^ t.width : Nat) := by
  unfold toInt
  split
  · refine ⟨-(z.bdiv (2 ^ t.width)), ?_⟩
    rw [toSigned_eq_toInt t.width_pos, ofInt_eq_toNat, BitVec.ofNat_toNat, BitVec.setWidth_eq, BitVec.toInt_ofInt]
    linarith [Int.bmod_add_bdiv z (2 ^ t.width)]
  · refine ⟨-(z / (2 ^ t.width : Nat)), ?_⟩
    have hnonneg : 0 ≤ z % (2 ^ t.width : Nat) := Int.emod_nonneg _ (by positivity)
    rw [Nat.mod_eq_of_lt (ofInt_lt _ _), ofInt, Int.toNat_of_nonneg hnonneg]
    linarith [Int.emod_add_mul_ediv z (2 ^ t.width : Nat)]

/-- An integer in the range of a type is what its element holds. -/
theorem toInt_ofInt {z : Int} (h : t.minInt ≤ z ∧ z ≤ t.maxInt) : t.toInt (ofInt t.width z) = z := by
  obtain ⟨k, hk⟩ := toInt_ofInt_wraps t z
  obtain ⟨hlow, hhigh⟩ := toInt_range t (ofInt t.width z)
  rw [maxInt_eq] at h hhigh
  have hpos : (0 : Int) < (2 ^ t.width : Nat) := by positivity
  obtain rfl : k = 0 := by
    have hless : k * (2 ^ t.width : Nat) < 1 * (2 ^ t.width : Nat) := by omega
    have hmore : -1 * (2 ^ t.width : Nat) < k * (2 ^ t.width : Nat) := by omega
    have := lt_of_mul_lt_mul_right hless hpos.le
    have := lt_of_mul_lt_mul_right hmore hpos.le
    omega
  simpa using hk

theorem inRange_iff (t : ETy) (z : Int) : t.inRange z = true ↔ t.minInt ≤ z ∧ z ≤ t.maxInt := by
  simp [inRange]

end ETy

/-! ### Results fitted to the type of D (R75) -/

/-- A result holds the exact integer `z` where it lies in the range of its type, and otherwise wraps or clamps by MOD[3] and
says so. -/
def Fitted (mod : Nat) (t : ETy) (r : ERes) (z : Int) : Prop :=
  r.d < 2 ^ t.width ∧
  (t.minInt ≤ z ∧ z ≤ t.maxInt → t.toInt r.d = z ∧ r.st = 0 ∧ r.fl = 0) ∧
  (¬ (t.minInt ≤ z ∧ z ≤ t.maxInt) → r.st = stOF ∧ r.fl = flIOVF ∧
    (bitAt mod 3 = true → t.toInt r.d = if z < t.minInt then t.minInt else t.maxInt) ∧
    (bitAt mod 3 = false → ∃ k : Int, t.toInt r.d = z + k * (2 ^ t.width : Nat)))

theorem intFit_inRange {t : ETy} {z : Int} (sat : Bool) (h : t.minInt ≤ z ∧ z ≤ t.maxInt) :
    intFit t sat z = { d := ofInt t.width z } := by
  rw [intFit, if_pos ((t.inRange_iff z).2 h)]

theorem intFit_outside {t : ETy} {z : Int} (sat : Bool) (h : ¬ (t.minInt ≤ z ∧ z ≤ t.maxInt)) :
    intFit t sat z = { d := ofInt t.width (if sat then (if z < t.minInt then t.minInt else t.maxInt) else z)
                       st := stOF
                       fl := flIOVF } := by
  rw [intFit, if_neg (fun hr => h ((t.inRange_iff z).1 hr))]

theorem intFit_fitted (mod : Nat) (t : ETy) (z : Int) : Fitted mod t (intFit t (modSat mod) z) z := by
  by_cases h : t.minInt ≤ z ∧ z ≤ t.maxInt
  · rw [intFit_inRange _ h]
    exact ⟨ofInt_lt _ _, fun _ => ⟨ETy.toInt_ofInt h, rfl, rfl⟩, fun hout => absurd h hout⟩
  · rw [intFit_outside _ h]
    refine ⟨ofInt_lt _ _, fun hin => absurd hin h, fun _ => ⟨rfl, rfl, fun hsat => ?_, fun hwrap => ?_⟩⟩
    · have hle := t.minInt_le_maxInt
      rw [modSat, if_pos hsat]
      exact ETy.toInt_ofInt (by split <;> omega)
    · rw [modSat, if_neg (by simp [hwrap])]
      exact ETy.toInt_ofInt_wraps t z

/-- The opcodes that R75 fits give their exact result fitted; VMUL gives a second result besides. -/
theorem elemOp_intForms {t : ETy} (ht : t.isIU = true) (x : EIn) (htd : x.td = t) (hta : x.ta = t) : ∀ p ∈ intForms,
    ∃ e, elemOp p.1 x = { intFit t (modSat x.mod) (p.2 (t.toInt x.a) (t.toInt x.b) (t.toInt x.c)) with e := e } := by
  have hf := ETy.isF_of_isIU ht
  have hplain : ∀ z, intFit t (modSat x.mod) z = { intFit t (modSat x.mod) z with e := 0 } := fun z => by
    unfold intFit
    split <;> rfl
  rw [← List.forall_iff_forall_mem]
  simp only [intForms, List.Forall, elemOp, VOpc.cls, elemAdd, elemMul, htd, hta, hf, Bool.false_eq_true, if_false]
  exact ⟨⟨0, hplain _⟩, ⟨0, hplain _⟩, ⟨0, hplain _⟩, ⟨0, hplain _⟩, ⟨_, rfl⟩, ⟨0, hplain _⟩, ⟨0, hplain _⟩, ⟨0, hplain _⟩⟩

theorem elemOp_intForms_fitted {t : ETy} (ht : t.isIU = true) (x : EIn) (htd : x.td = t) (hta : x.ta = t) : ∀ p ∈ intForms,
    Fitted x.mod t (elemOp p.1 x) (p.2 (t.toInt x.a) (t.toInt x.b) (t.toInt x.c)) := by
  intro p hp
  obtain ⟨e, he⟩ := elemOp_intForms ht x htd hta p hp
  rw [he]
  exact intFit_fitted x.mod t _

/-- VCVT between integer types. -/
theorem elemOp_vcvt {x : EIn} (hta : x.ta.isIU = true) (htd : x.td.isIU = true) :
    elemOp .vcvt x = intFit x.td (modSat x.mod) (x.ta.toInt x.a) := by
  simp [elemOp, VOpc.cls, elemAdd, ETy.isF_of_isIU hta, ETy.isF_of_isIU htd]

/-- R90: the step of VRSUM on integers. -/
theorem redCombine_vrsum {t : ETy} (ht : t.isIU = true) (mod a b : Nat) :
    redCombine .vrsum t mod a b = intFit t (modSat mod) (t.toInt a + t.toInt b) := by
  simp [redCombine, ETy.isF_of_isIU ht, ETy.isP_of_isIU ht]

/-! ### Carry and borrow (R75) -/

theorem intAddC_sum (t : ETy) (a b c : Nat) :
    (intAddC t false a b c).d + 2 ^ t.width * (intAddC t false a b c).e = a % 2 ^ t.width + b % 2 ^ t.width + c % 2 := by
  simp only [intAddC, Bool.false_eq_true, if_false]
  rw [Nat.mod_add_div, Nat.add_assoc]

theorem intAddC_difference (t : ETy) (a b c : Nat) :
    (intAddC t true a b c).d + b % 2 ^ t.width + c % 2 = a % 2 ^ t.width + 2 ^ t.width * (intAddC t true a b c).e := by
  have hx := Nat.mod_lt a (Nat.two_pow_pos t.width)
  have hy : b % 2 ^ t.width + c % 2 ≤ 2 ^ t.width := by
    have := Nat.mod_lt b (Nat.two_pow_pos t.width)
    omega
  simp only [intAddC, if_true]
  generalize a % 2 ^ t.width = x at hx ⊢
  rw [Nat.add_assoc]
  generalize b % 2 ^ t.width + c % 2 = y at hy ⊢
  have hd : (ofInt t.width ((x : Int) - y) : Int) = if x < y then (x : Int) - y + (2 ^ t.width : Nat) else (x : Int) - y := by
    rw [ofInt, Int.toNat_of_nonneg (Int.emod_nonneg _ (by positivity))]
    split
    · rw [← Int.add_emod_right, Int.emod_eq_of_lt] <;> omega
    · rw [Int.emod_eq_of_lt] <;> omega
  by_cases hlt : x < y
  · rw [if_pos hlt] at hd ⊢
    omega
  · rw [if_neg hlt] at hd ⊢
    omega

end Sys2Proof.Machine

namespace Sys2Proof.Proofs
open Sys2Proof Sys2Proof.Machine

/-- Settles O27: each opcode is `intFit` of its exact result, which is `Fitted`; the carries are the sums of `intAddC`. -/
theorem integerElementsFit : Obligations.IntegerElementsFit := by
  intro td ta mod a b c hta htd fits x m
  refine ⟨elemOp_intForms_fitted hta x rfl rfl, ?_, ?_,
    ⟨intAddC_sum ta a b c, Nat.mod_lt _ (Nat.two_pow_pos _), rfl, rfl⟩,
    ⟨intAddC_difference ta a b c, ofInt_lt _ _, rfl, rfl⟩⟩
  · rw [elemOp_vcvt (x := { x with td := td }) hta htd]
    exact intFit_fitted mod td _
  · rw [redCombine_vrsum hta]
    exact intFit_fitted mod ta _

end Sys2Proof.Proofs
end

section
/-! Integer division of elements: the corners of R76, and the bounds of quotient and remainder (O28). -/
namespace Sys2Proof.Machine

/-! ### Bounds of truncated division -/

/-- The remainder lies between 0 and the dividend. -/
theorem tmod_between (a b : Int) : (0 ≤ a → 0 ≤ a.tmod b ∧ a.tmod b ≤ a) ∧ (a ≤ 0 → a ≤ a.tmod b ∧ a.tmod b ≤ 0) := by
  have hnonneg : ∀ x : Int, 0 ≤ x → 0 ≤ x.tmod b ∧ x.tmod b ≤ x := fun x hx => by
    have hr := Int.tmod_nonneg b hx
    have habs : (x.tmod b).natAbs ≤ x.natAbs := by
      rw [Int.natAbs_tmod]
      exact Nat.mod_le _ _
    omega
  refine ⟨hnonneg a, fun ha => ?_⟩
  have hneg := hnonneg (-a) (by omega)
  rw [Int.neg_tmod] at hneg
  omega

/-- The remainder has the sign of the dividend. -/
theorem mul_tmod_nonneg (a b : Int) : 0 ≤ a * a.tmod b := by
  obtain ⟨hpos, hneg⟩ := tmod_between a b
  rcases le_total 0 a with h | h
  · exact mul_nonneg h (hpos h).1
  · exact mul_nonneg_of_nonpos_of_nonpos h (hneg h).2

theorem natAbs_tmod_lt (a : Int) {b : Int} (hb : b ≠ 0) : (a.tmod b).natAbs < b.natAbs := by
  rw [Int.natAbs_tmod]
  exact Nat.mod_lt _ (Int.natAbs_pos.2 hb)

/-- A divisor that is not 1 or -1 at least halves the magnitude. -/
theorem natAbs_tdiv_le_half (a : Int) {b : Int} (hb : 2 ≤ b.natAbs) : 2 * (a.tdiv b).natAbs ≤ a.natAbs := by
  rw [Int.natAbs_tdiv]
  calc 2 * (a.natAbs / b.natAbs) ≤ b.natAbs * (a.natAbs / b.natAbs) := Nat.mul_le_mul_right _ hb
    _ ≤ a.natAbs := Nat.mul_div_le _ _

namespace ETy
variable {t : ETy} {x y : Int}

theorem zero_inRange (t : ETy) : t.minInt ≤ 0 ∧ 0 ≤ t.maxInt := by
  have := toInt_range t 0
  have hz : t.toInt 0 = 0 := by
    unfold toInt toSigned
    simp
  rwa [hz] at this

/-- A remainder lies in the range of the dividend's type. -/
theorem tmod_inRange (hx : t.minInt ≤ x ∧ x ≤ t.maxInt) (y : Int) : t.minInt ≤ x.tmod y ∧ x.tmod y ≤ t.maxInt := by
  obtain ⟨hpos, hneg⟩ := tmod_between x y
  have := t.zero_inRange
  rcases le_total 0 x with h | h
  · have := hpos h
    omega
  · have := hneg h
    omega

/-- R76: a quotient lies in the range of the type, but for that of the smallest value by minus one. -/
theorem tdiv_inRange (hx : t.minInt ≤ x ∧ x ≤ t.maxInt) (hy : t.minInt ≤ y ∧ y ≤ t.maxInt) (hzero : y ≠ 0)
    (hcorner : ¬ (t.isI = true ∧ x = t.minInt ∧ y = -1)) : t.minInt ≤ x.tdiv y ∧ x.tdiv y ≤ t.maxInt := by
  cases hI : t.isI with
  | false =>
    have hmin : t.minInt = 0 := by simp [minInt, hI]
    rw [hmin] at hx hy ⊢
    exact ⟨Int.tdiv_nonneg hx.1 hy.1, (Int.tdiv_le_self y hx.1).trans hx.2⟩
  | true =>
    have hmin : t.minInt = -(t.maxInt + 1) := by
      simp [minInt, maxInt, hI]
    by_cases hone : y.natAbs = 1
    · rcases Int.natAbs_eq_iff.1 hone with rfl | rfl
      · simpa using hx
      · have hx' : x ≠ t.minInt := fun h => hcorner ⟨hI, h, rfl⟩
        have hneg : x.tdiv (-((1 : Nat) : Int)) = -x := by simp
        rw [hneg]
        omega
    · have := natAbs_tdiv_le_half x (b := y) (by omega)
      omega

end ETy

/-! ### The cases of R76 -/

section
variable {t : ETy} {a b : Nat}

theorem intDivide_zero (h : t.toInt b = 0) : intDivide t a b =
    { d := ofInt t.width (if t.toInt a < 0 then t.minInt else t.maxInt), e := a % 2 ^ t.width, st := stDZ, fl := flDZ } := by
  simp [intDivide, h]

theorem intDivide_overflow (hI : t.isI = true) (ha : t.toInt a = t.minInt) (hb : t.toInt b = -1) : intDivide t a b =
    { d := ofInt t.width t.minInt, e := 0, st := stOF, fl := flIOVF } := by
  simp [intDivide, hI, ha, hb]

theorem intDivide_exact (hzero : t.toInt b ≠ 0) (hcorner : ¬ (t.isI = true ∧ t.toInt a = t.minInt ∧ t.toInt b = -1)) :
    intDivide t a b =
      { d := ofInt t.width ((t.toInt a).tdiv (t.toInt b)), e := ofInt t.width ((t.toInt a).tmod (t.toInt b)) } := by
  have hcorner' : ¬ (t.toInt a = t.minInt ∧ t.isI = true ∧ t.toInt b = -1) := fun ⟨h1, h2, h3⟩ => hcorner ⟨h2, h1, h3⟩
  simp only [intDivide, if_neg hzero, if_neg hcorner']

theorem intRem_of_ne_zero (h : t.toInt b ≠ 0) : intRem t a b = { d := (intDivide t a b).e } := by
  simp [intRem, h]

theorem intRem_zero (h : t.toInt b = 0) : intRem t a b = { d := a % 2 ^ t.width, st := stDZ, fl := flDZ } := by
  simp [intRem, h, intDivide_zero]

/-- An element is its low bits. -/
theorem ETy.toInt_mod (t : ETy) (v : Nat) : t.toInt (v % 2 ^ t.width) = t.toInt v := by
  simp only [ETy.toInt, toSigned, Nat.mod_mod]

end

end Sys2Proof.Machine

namespace Sys2Proof.Proofs
open Sys2Proof Sys2Proof.Machine

/-- Settles O28: the three cases of `intDivide`, with quotient and remainder in the range of the type. -/
theorem divisionElements : Obligations.DivisionElements := by
  intro t mod a b ht x za zb q r
  have hq : q = intDivide t a b := by
    show elemOp .vdiv x = _
    simp [elemOp, VOpc.cls, elemDiv, x, ETy.isF_of_isIU ht]
  have hr : r = intRem t a b := rfl
  rw [hq, hr]
  refine ⟨fun hzero => ?_, fun hI hmin hone => ?_, fun hzero hcorner => ?_⟩
  · have hsat : (if za < 0 then t.minInt else t.maxInt) = if 0 ≤ za then t.maxInt else t.minInt := by
      split <;> split <;> omega
    have hle := t.minInt_le_maxInt
    rw [intDivide_zero hzero, intRem_zero hzero]
    refine ⟨?_, rfl, rfl, t.toInt_mod a, t.toInt_mod a, rfl, rfl⟩
    rw [← hsat]
    exact ETy.toInt_ofInt (by split <;> omega)
  · rw [intRem_of_ne_zero (by show zb ≠ 0; omega), intDivide_overflow hI hmin hone]
    exact ⟨ETy.toInt_ofInt ⟨le_rfl, t.minInt_le_maxInt⟩, rfl, rfl, rfl, rfl, rfl, rfl⟩
  · have hdiv : t.toInt (ofInt t.width (za.tdiv zb)) = za.tdiv zb :=
      ETy.toInt_ofInt (ETy.tdiv_inRange (t.toInt_range a) (t.toInt_range b) hzero hcorner)
    have hmod : t.toInt (ofInt t.width (za.tmod zb)) = za.tmod zb := ETy.toInt_ofInt (ETy.tmod_inRange (t.toInt_range a) zb)
    rw [intRem_of_ne_zero hzero, intDivide_exact hzero hcorner]
    refine ⟨?_, ?_, ?_, rfl, rfl, rfl, rfl, rfl⟩
    · rw [hdiv, hmod, Int.mul_tdiv_add_tmod]
    · rw [hmod]
      exact natAbs_tmod_lt za hzero
    · rw [hmod]
      exact mul_tmod_nonneg za zb

end Sys2Proof.Proofs
end

section
/-! Logic, shift and compare elements as operations on bit vectors (O29). -/
namespace Sys2Proof.Machine

/-! ### The LOG class (R77) -/

theorem toSigned_toNat {w : Nat} (hw : 0 < w) (a : BitVec w) : toSigned w a.toNat = a.toInt := by
  rw [toSigned_eq_toInt hw, BitVec.ofNat_toNat, BitVec.setWidth_eq]

section
variable {w : Nat} (a : BitVec w) (n : Nat)

theorem shiftLeft_toNat : shiftLeft w a.toNat n = (a <<< (n % w)).toNat := by
  rw [shiftLeft, BitVec.toNat_shiftLeft, Nat.shiftLeft_eq]

theorem shiftRight_toNat : shiftRight w a.toNat n = (a >>> (n % w)).toNat := by
  rw [shiftRight, BitVec.toNat_ushiftRight, Nat.shiftRight_eq_div_pow, Nat.mod_eq_of_lt a.isLt]

theorem shiftArith_toNat (hw : 0 < w) : shiftArith w a.toNat n = (a.sshiftRight (n % w)).toNat := by
  rw [shiftArith, toSigned_toNat hw, ofInt_eq_toNat, ← Int.shiftRight_eq_div_pow]
  rfl

/-- The bits that leave at the top of a rotation come in below those that stay. -/
theorem rotLeft_toNat (hw : 0 < w) : rotLeft w a.toNat n = (a.rotateLeft (n % w)).toNat := by
  have hr : n % w < w := Nat.mod_lt n hw
  unfold rotLeft
  rw [Nat.mod_eq_of_lt a.isLt]
  generalize n % w = r at hr ⊢
  have hsplit : 2 ^ w = 2 ^ r * 2 ^ (w - r) := by rw [← Nat.pow_add, Nat.add_sub_cancel' hr.le]
  have hlow : a.toNat / 2 ^ (w - r) < 2 ^ r := Nat.div_lt_of_lt_mul (by rw [Nat.mul_comm, ← hsplit]; exact a.isLt)
  have hhigh : a.toNat * 2 ^ r % 2 ^ w = 2 ^ r * (a.toNat % 2 ^ (w - r)) := by
    rw [hsplit, Nat.mul_comm, Nat.mul_mod_mul_left]
  have hfits : 2 ^ r * (a.toNat % 2 ^ (w - r)) + a.toNat / 2 ^ (w - r) < 2 ^ w := by
    have hmod := Nat.mod_lt a.toNat (Nat.two_pow_pos (w - r))
    calc _ < 2 ^ r * (a.toNat % 2 ^ (w - r) + 1) := by rw [Nat.mul_add_one]; omega
      _ ≤ 2 ^ w := hsplit ▸ Nat.mul_le_mul_left _ hmod
  rw [BitVec.toNat_rotateLeft, Nat.mod_eq_of_lt hr, Nat.shiftLeft_eq, Nat.shiftRight_eq_div_pow, hhigh,
    ← Nat.two_pow_add_eq_or_of_lt hlow, ← Nat.mod_add_mod, hhigh, Nat.mod_eq_of_lt hfits]

end

theorem ones_sub_toNat {w : Nat} (a : BitVec w) : 2 ^ w - 1 - a.toNat % 2 ^ w = (~~~a).toNat := by
  rw [BitVec.toNat_not, Nat.mod_eq_of_lt a.isLt]

/-- VPOPC counts the places that hold a 1. -/
theorem popCount_eq_countP (w v : Nat) : popCount w v = (List.range w).countP (fun i => v.testBit i) := by
  induction w generalizing v with
  | zero => rfl
  | succ w ih =>
    have hlow : v % 2 = if v.testBit 0 then 1 else 0 := by
      rw [Nat.testBit_zero]
      rcases Nat.mod_two_eq_zero_or_one v with h | h <;> simp [h]
    have hhigh : (fun i => (v / 2).testBit i) = (fun i => v.testBit i) ∘ Nat.succ := by
      funext i
      exact (Nat.testBit_succ v i).symm
    rw [popCount, ih, List.range_succ_eq_map, List.countP_cons, List.countP_map, ← hhigh, hlow, Nat.add_comm]

theorem intMul_high (t : ETy) (sat : Bool) (a b : Nat) :
    (intMul t sat a b).e = (BitVec.ofInt t.width (t.toInt a * t.toInt b / (2 ^ t.width : Nat))).toNat := ofInt_eq_toNat _ _

/-! ### Relations (Table 3-6) -/

theorem elemOp_vcmp {x : EIn} (h : x.ta.isF = false) : (elemOp .vcmp x).d =
    bit01 (relHolds (x.mod % 8) (decide (x.ta.toInt x.a < x.ta.toInt x.b)) (decide (x.ta.toInt x.b < x.ta.toInt x.a))) := by
  simp [elemOp, VOpc.cls, elemAdd, h]

/-- The six relations of two integers, by their numbers. -/
theorem relHolds_relations (x y : Int) : ∀ p ∈ [(0, decide (x = y)), (1, decide (x ≠ y)), (2, decide (x < y)), (3, decide (x ≤ y)),
    (4, decide (y < x)), (5, decide (y ≤ x))], relHolds p.1 (decide (x < y)) (decide (y < x)) = p.2 := by
  rw [← List.forall_iff_forall_mem]
  simp only [List.Forall, relHolds]
  rcases lt_trichotomy x y with h | rfl | h
  · simp [h, h.ne, h.le, h.not_gt, h.not_ge]
  · simp
  · simp [h, h.ne', h.le, h.not_gt, h.not_ge]

end Sys2Proof.Machine
end

section
/-! Packed decimal: an element that is written reads back as its value, and results fitted to the digits of D (O29). -/
namespace Sys2Proof.Machine

/-! ### Digits (R36, R37) -/

theorem pdDigits_pdNibbles (n m : Nat) : pdDigits n (pdNibbles n m) = some (m % 10 ^ n) := by
  induction n generalizing m with
  | zero => simp [pdDigits, Nat.mod_one]
  | succ n ih =>
    have hdigit : (m % 10 + 16 * pdNibbles n (m / 10)) % 16 = m % 10 := by omega
    have hrest : (m % 10 + 16 * pdNibbles n (m / 10)) / 16 = pdNibbles n (m / 10) := by omega
    rw [pdNibbles, pdDigits, hdigit, hrest, if_pos (by omega), ih, Option.map_some, Nat.pow_succ', Nat.mod_mul]

/-- R37: an element reads as the value it was written for. -/
theorem pdValue_pdEncode {t : ETy} (neg : Bool) {m : Nat} (h : m < 10 ^ t.digits) :
    pdValue t (pdEncode t neg m) = some (if neg then -(m : Int) else m) := by
  have hdigits : pdDigits t.digits (pdNibbles t.digits m) = some m := by rw [pdDigits_pdNibbles, Nat.mod_eq_of_lt h]
  have hsplit : ∀ k < 16, (pdNibbles t.digits m * 16 + k) / 16 = pdNibbles t.digits m ∧
      (pdNibbles t.digits m * 16 + k) % 16 = k := fun k hk => by omega
  unfold pdEncode pdValue
  cases hneg : neg && decide (m ≠ 0) with
  | true =>
    obtain ⟨rfl, -⟩ : neg = true ∧ m ≠ 0 := by simpa using hneg
    simp [hsplit, hdigits]
  | false =>
    have hplus : (if neg then -(m : Int) else m) = m := by
      cases neg with
      | false => rfl
      | true =>
        obtain rfl : m = 0 := by simpa using hneg
        rfl
    simp [hsplit, hdigits, hplus]

/-- R84: the marker is no packed decimal. -/
theorem pdValue_marker (t : ETy) : pdValue t 10 = none := by
  unfold pdValue
  split <;> rfl

/-! ### Results fitted to the digits of D (R85) -/

/-- A result holds the exact value `z` where its type has the digits, and otherwise the marker or, where MOD[0] asks for it,
the digits that there are, and says so. -/
def PdFitted (mod : Nat) (t : ETy) (r : ERes) (z : Int) : Prop :=
  (z.natAbs < 10 ^ t.digits → pdValue t r.d = some z ∧ r.st = 0 ∧ r.fl = 0) ∧
  (10 ^ t.digits ≤ z.natAbs → r.st = stOF ∧ r.fl = flDOVF ∧
    (bitAt mod 0 = false → r.d = 10) ∧
    (bitAt mod 0 = true → ∃ y, pdValue t r.d = some y ∧ y.natAbs = z.natAbs % 10 ^ t.digits))

theorem pdFit_fitted (mod : Nat) (t : ETy) (z : Int) : PdFitted mod t (pdFit t (bitAt mod 0) z) z := by
  refine ⟨fun h => ?_, fun h => ?_⟩
  · have hz : (if (decide (z < 0)) = true then -(z.natAbs : Int) else z.natAbs) = z := by
      simp only [decide_eq_true_eq]
      split <;> omega
    rw [pdFit, if_pos h]
    exact ⟨by rw [pdValue_pdEncode _ h, hz], rfl, rfl⟩
  · rw [pdFit, if_neg (Nat.not_lt.2 h)]
    refine ⟨rfl, rfl, fun hmark => by simp [hmark, pdMarker], fun hwrap => ?_⟩
    have hlt : z.natAbs % 10 ^ t.digits < 10 ^ t.digits := Nat.mod_lt _ (by positivity)
    refine ⟨_, by rw [if_pos hwrap, pdValue_pdEncode _ hlt], ?_⟩
    split
    · rw [Int.natAbs_neg, Int.natAbs_natCast]
    · exact Int.natAbs_natCast _

/-! ### Operands (R84, R86) -/

section
variable {ta tb td : ETy} {a b : Nat} {p q : Int} (wrap sub : Bool)

theorem pdAdd_valid (ha : pdValue ta a = some p) (hb : pdValue tb b = some q) :
    pdAdd ta tb td wrap sub a b = pdFit td wrap (if sub then p - q else p + q) := by
  simp only [pdAdd, ha, hb]

theorem pdAdd_invalid (h : pdValue ta a = none ∨ pdValue tb b = none) : pdAdd ta tb td wrap sub a b = pdInvalid := by
  unfold pdAdd
  split
  · next ha hb => simp [ha, hb] at h
  · rfl

theorem pdNeg_valid (ha : pdValue ta a = some p) : pdNeg ta td wrap a = pdFit td wrap (-p) := by
  simp only [pdNeg, ha]

theorem pdNeg_invalid (ha : pdValue ta a = none) : pdNeg ta td wrap a = pdInvalid := by
  simp only [pdNeg, ha]

end

end Sys2Proof.Machine

namespace Sys2Proof.Proofs
open Sys2Proof Sys2Proof.Machine

/-- Settles O29: the integer opcodes as operations on bit vectors, and packed decimal by `pdFit_fitted`. -/
theorem bitCompareDecimalElements : Obligations.BitCompareDecimalElements := by
  refine ⟨?integers, ?decimals⟩
  case integers =>
    intro t mod a b ht x n gives za zb
    have hf : x.ta.isF = false := ETy.isF_of_isIU ht
    have hw := t.width_pos
    have hmin : (elemOp .vmin x).d = if zb < za then b.toNat else a.toNat := by simp [elemOp, VOpc.cls, elemAdd, hf, x, za, zb]
    have hmax : (elemOp .vmax x).d = if za < zb then b.toNat else a.toNat := by simp [elemOp, VOpc.cls, elemAdd, hf, x, za, zb]
    refine ⟨(BitVec.toNat_and a b).symm, (BitVec.toNat_or a b).symm, (BitVec.toNat_xor a b).symm, ?vandn, ones_sub_toNat a,
      shiftLeft_toNat a _, shiftRight_toNat a _, shiftArith_toNat a _ hw, rotLeft_toNat a _ hw, popCount_eq_countP _ _, ?vmin,
      ?vmax, intMul_high t (modSat mod) _ _, fun c => rfl, ?vcmp⟩
    case vandn =>
      show a.toNat &&& (2 ^ t.width - 1 - b.toNat % 2 ^ t.width) = _
      rw [ones_sub_toNat, BitVec.toNat_and]
    case vmin =>
      show (elemOp .vmin x).d = _
      rw [hmin, apply_ite BitVec.toNat]
    case vmax =>
      show (elemOp .vmax x).d = _
      rw [hmax, apply_ite BitVec.toNat]
    case vcmp =>
      intro p hp m hm
      rw [elemOp_vcmp (x := { x with mod := m }) hf]
      show bit01 (relHolds (m % 8) (decide (za < zb)) (decide (zb < za))) = _
      rw [hm, relHolds_relations za zb p hp]
      rfl
  case decimals =>
    intro ta tb td mod a b hta htb htd x fits bad
    refine ⟨pdValue_marker td, fun p q ha hb => ⟨?vdadd, ?vdsub, ?vdneg, ?vdchk⟩,
      fun ha => ⟨pdAdd_invalid _ _ (.inl ha), pdAdd_invalid _ _ (.inl ha), pdNeg_invalid _ ha, ?bad⟩,
      fun hb => ⟨pdAdd_invalid _ _ (.inr hb), pdAdd_invalid _ _ (.inr hb)⟩⟩
    case vdadd =>
      show PdFitted mod td (pdAdd ta tb td (bitAt mod 0) false a b) (p + q)
      rw [pdAdd_valid _ _ ha hb]
      exact pdFit_fitted mod td _
    case vdsub =>
      show PdFitted mod td (pdAdd ta tb td (bitAt mod 0) true a b) (p - q)
      rw [pdAdd_valid _ _ ha hb]
      exact pdFit_fitted mod td _
    case vdneg =>
      show PdFitted mod td (pdNeg ta td (bitAt mod 0) a) (-p)
      rw [pdNeg_valid _ ha]
      exact pdFit_fitted mod td _
    case vdchk =>
      show (pdCheck ta a).d = 0
      simp [pdCheck, ha]
    case bad =>
      show (pdCheck ta a).d = stNV
      simp [pdCheck, ha]

end Sys2Proof.Proofs
end

section
/-! The book-keeping of Vector Memory that a served access touches, and an atomic unit's operation on a clean location (O31). -/
namespace Sys2Proof.Machine

/-! ### What a served access leaves -/

/-- Lines, activation counts, marks and the scrub list may have changed, and nothing else. -/
structure AccessOnly (s t : State) : Prop where
  rest : t = { s with vm := { s.vm with lines := t.vm.lines, act := t.vm.act, cls := t.vm.cls, scrubQ := t.vm.scrubQ } }

theorem AccessOnly.refl (s : State) : AccessOnly s s := ⟨rfl⟩

theorem AccessOnly.trans {s t u : State} (h : AccessOnly s t) (g : AccessOnly t u) : AccessOnly s u := by
  refine ⟨?_⟩
  rw [g.rest, h.rest]

/-- What it serves, and where, is as before. -/
theorem AccessOnly.vmOk {s t : State} (h : AccessOnly s t) (a len : Nat) : t.vmOk a len = s.vmOk a len := by
  rw [h.rest]
  rfl

theorem touch_accessOnly (s : State) (g : Nat) (w : Bool) : AccessOnly s (s.touch g w) := by
  unfold State.touch
  split <;> exact ⟨rfl⟩

/-- R164: a unit fills a line. -/
theorem lineFill_accessOnly (s : State) (u g : Nat) :
    AccessOnly s (s.lineFill u g) ∧ ∀ x, (s.lineFill u g).gcls x = s.gcls x := by
  unfold State.lineFill
  split
  · exact ⟨.refl s, fun _ => rfl⟩
  · obtain ⟨m, hm, -, hcls⟩ := touch_vm s g false
    refine ⟨(touch_accessOnly s g false).trans ⟨rfl⟩, fun x => ?_⟩
    show mget _ (s.touch g false).vm.cls x = _
    rw [hm, hcls]
    rfl

/-- A clean Granule is written without an event. -/
theorem writeGranule_accessOnly {s : State} {g : Nat} (h : s.gcls g = .clean) (whole : Bool) :
    AccessOnly s (s.writeGranule g whole false).1 := by
  have ht := touch_accessOnly s g true
  have hg : (s.touch g true).gcls g = .clean := by
    obtain ⟨m, hm, -, hcls⟩ := touch_vm s g true
    rw [hm, State.gcls, hcls]
    exact h
  unfold State.writeGranule
  cases whole with
  | true => exact ht.trans ⟨rfl⟩
  | false =>
    simp only [hg, Bool.false_eq_true, if_false]
    exact ht.trans ⟨rfl⟩

theorem writeGranules_accessOnly (a len : Nat) (gs : List Nat) (s : State) (h : ∀ g ∈ gs, s.gcls g = .clean) :
    AccessOnly s (s.writeGranules a len false gs).1 := by
  induction gs generalizing s with
  | nil => exact .refl s
  | cons g gs ih =>
    obtain ⟨m, hm, -, hcls⟩ := writeGranules_clean a len [g] s (fun x hx => h x (List.mem_cons.2 (.inl (List.mem_singleton.1 hx))))
    have hfirst : AccessOnly s { s with vm := m } := by
      have := writeGranule_accessOnly (h g (by simp)) (decide (a ≤ g * 128) && decide (g * 128 + 128 ≤ a + len))
      rwa [show (s.writeGranule g _ false).1 = { s with vm := m } from congrArg Prod.fst hm] at this
    have hrest : s.writeGranules a len false (g :: gs) = ({ s with vm := m } : State).writeGranules a len false gs := by
      show gs.foldl _ (s.writeGranules a len false [g]) = _
      rw [hm]
      rfl
    rw [hrest]
    exact hfirst.trans (ih _ fun x hx => (hcls x).trans (h x (by simp [hx])))

/-- A write to clean Granules is the access and its bytes. -/
theorem vmWrite_accessOnly {s : State} {a : Nat} {d : List Byte} (hok : s.vmOk a d.length = true)
    (h : ∀ g ∈ granules a d.length, s.gcls g = .clean) :
    ∃ t, AccessOnly s t ∧ s.vmWrite a d false = ({ t with vm := { t.vm with bytes := memWrite t.vm.bytes a d } }, some false) := by
  obtain ⟨m, hm, -, -⟩ := writeGranules_clean a d.length (granules a d.length) s h
  have honly := writeGranules_accessOnly a d.length _ s h
  rw [hm] at honly
  exact ⟨_, honly, by simp [State.vmWrite, hok, hm]⟩

/-! ### The operation (R164 to R166) -/

theorem granules_head (a : Nat) {len : Nat} (h : len ≠ 0) : a / 128 ∈ granules a len := by
  rw [granules, if_neg h]
  exact List.mem_map.2 ⟨0, by simp [upTo], rfl⟩

theorem toBytes_length (n v : Nat) : (toBytes n v).length = n := by
  induction n generalizing v with
  | zero => rfl
  | succ n ih => simp [toBytes, ih]

theorem toBytes_getD (n v i : Nat) (h : i < n) : (toBytes n v).getD i 0 = BitVec.ofNat 8 (v / 256 ^ i) := by
  induction n generalizing v i with
  | zero => omega
  | succ n ih =>
    cases i with
    | zero => simp [toBytes]
    | succ i => rw [toBytes, List.getD_cons_succ, ih _ _ (by omega), Nat.div_div_eq_div_mul, Nat.pow_succ']

/-- The element that an atomic unit serves: at a location that is served, its Granules clean, and without a mark. -/
structure AtomEl.Clean (e : AtomEl) (s : State) : Prop where
  size : e.size ≠ 0
  ok : s.vmOk e.addr e.size = true
  clean : ∀ g ∈ granules e.addr e.size, s.gcls g = .clean
  psn : e.psn = false

/-- What such an element's location holds. -/
def State.atomOld (s : State) (e : AtomEl) : Nat := ofBytes (memRead s.vm.bytes e.addr e.size)

/-- The acknowledgement that such an element gets. -/
def State.atomAckOf (s : State) (e : AtomEl) : AtomAck :=
  { unit := e.unit
    src := e.src
    st := (atomValue e (s.atomOld e)).st
    fl := (atomValue e (s.atomOld e)).fl
    old := s.atomOld e
    psn := false
    merge := false
    err := false }

/-- R99: the operation's result is written over the old value, which the acknowledgement carries. -/
theorem atomOne_clean {s : State} {e : AtomEl} (h : e.Clean s) : ∃ t, AccessOnly s t ∧
    s.atomOne e = ({ t with vm := { t.vm with bytes := memWrite t.vm.bytes e.addr (toBytes e.size (atomValue e (s.atomOld e)).d) } },
      s.atomAckOf e) := by
  have hlen := toBytes_length e.size (atomValue e (s.atomOld e)).d
  obtain ⟨t, ht, hwrite⟩ := vmWrite_accessOnly (s := s) (a := e.addr) (d := toBytes e.size (atomValue e (s.atomOld e)).d)
    (by rw [hlen]; exact h.ok) (by rw [hlen]; exact h.clean)
  refine ⟨t, ht, ?_⟩
  have hhead : s.gcls (e.addr / 128) = .clean := h.clean _ (granules_head e.addr h.size)
  unfold State.atomOld at hwrite
  simp only [State.atomOne, h.ok, hhead, h.psn, hwrite, Bool.not_true, Bool.false_eq_true, if_false, Nat.or_zero]
  rfl

/-- R166: the one element of a queue is its own operation. -/
theorem coalesce_single (e : AtomEl) : coalesce e 16 [e] = ([e], []) := by
  simp [coalesce, AtomEl.same]

/-- R165: no element waits to take a place. -/
theorem atomFill_none (n u : Nat) {s : State} (h : s.vm.atomWait = []) : atomFill n s u = s := by
  cases n with
  | zero => rfl
  | succ n => simp [atomFill, h]

/-- The element may be served after an access to other lines as before it. -/
theorem AtomEl.Clean.of_access {s t : State} {e : AtomEl} (h : e.Clean s) (ht : AccessOnly s t)
    (hcls : ∀ g, t.gcls g = s.gcls g) : e.Clean t :=
  ⟨h.size, (ht.vmOk _ _).trans h.ok, fun g hg => (hcls g).trans (h.clean g hg), h.psn⟩

/-- ATOMIC_OPERATION on the one queued element: it leaves its queue, and is applied. -/
theorem atomRun_single {s : State} {e : AtomEl} (hq : s.vm.atomQ = [e]) (hwait : s.vm.atomWait = []) (h : e.Clean s) :
    ∃ t, AccessOnly { s with vm := { s.vm with atomQ := [] } } t ∧ s.atomRun e.unit 0 = { t with vm := { t.vm with
      bytes := memWrite s.vm.bytes e.addr (toBytes e.size (atomValue e (s.atomOld e)).d)
      atomAcks := s.vm.atomAcks ++ [s.atomAckOf e] } } := by
  have hpos : 0 < e.size := Nat.pos_of_ne_zero h.size
  have hover : e.overlaps e = true := by simp [AtomEl.overlaps, hpos]
  have htaken : e.Clean { s with vm := { s.vm with atomQ := [] } } := ⟨h.size, h.ok, h.clean, h.psn⟩
  obtain ⟨hfill, hcls⟩ := lineFill_accessOnly { s with vm := { s.vm with atomQ := [] } } e.unit (e.addr / 128)
  generalize hu : ({ s with vm := { s.vm with atomQ := [] } } : State).lineFill e.unit (e.addr / 128) = u at hfill hcls
  obtain ⟨t, ht, hone⟩ := atomOne_clean (htaken.of_access hfill hcls)
  have hold : u.atomOld e = s.atomOld e := by
    rw [hfill.rest]
    rfl
  have hack : u.atomAckOf e = s.atomAckOf e := by simp [State.atomAckOf, hold]
  refine ⟨t, hfill.trans ht, ?_⟩
  have hwait' : t.vm.atomWait = [] := by
    rw [(hfill.trans ht).rest]
    exact hwait
  have hbytes : t.vm.bytes = s.vm.bytes := by rw [(hfill.trans ht).rest]
  have hacks : t.vm.atomAcks = s.vm.atomAcks := by rw [(hfill.trans ht).rest]
  rw [hold, hack, hbytes] at hone
  simp only [State.atomRun, hq, List.filter_cons, beq_self_eq_true, if_true, List.filter_nil, List.getElem?_cons_zero,
    List.find?_cons, hover, coalesce_single, htaken.ok, hu, List.foldl_cons, List.foldl_nil, hone, hacks]
  exact atomFill_none _ _ hwait'

/-- Nothing of what waits for the end of an event is in Vector Memory. -/
theorem Still.of_vm {s : State} (h : Still s) (m : VMem) : Still { s with vm := m } :=
  ⟨h.fab, h.chain, h.inbox, h.host, h.seqs, h.repair⟩

/-- A byte after a number was written. -/
theorem memByte_memWrite_toBytes (m : List Host.Cell) (a n v y : Nat) : memByte (memWrite m a (toBytes n v)) y =
    if a ≤ y ∧ y < a + n then BitVec.ofNat 8 (v / 256 ^ (y - a)) else memByte m y := by
  rw [memByte_memWrite, toBytes_length]
  by_cases h : a ≤ y ∧ y < a + n
  · rw [if_pos h, if_pos h, toBytes_getD _ _ _ (by omega)]
  · rw [if_neg h, if_neg h]

end Sys2Proof.Machine
end

section
/-! An atomic element on its way: into its unit's queue, and its acknowledgement back at its instruction (O31). -/
namespace Sys2Proof.Machine

/-! ### ATOMIC_QUEUE_ADMIT (R165) -/

/-- The element that an instruction's commit sends to a unit of this device. -/
def State.atomElOf (s : State) (n : Fin 9) (v : VIns) (x : AtomSend) : AtomEl :=
  { unit := s.atomUnitOf x.addr
    addr := x.addr
    size := v.types.1.size
    op := .vec v.op
    ety := v.types.1.code
    aty := v.types.2.1.code
    v := x.v
    psn := x.psn
    src := .vec n v.id x.elem
    lease := (s.slicePipe (s.ovenOf n) (x.elem / 32)).getD 0
    world := v.world }

/-- A unit with room takes the element. -/
theorem atomSend_vm {s : State} {n : Fin 9} {v : VIns} {x : AtomSend} (ht : x.tgt = .vm)
    (hroom : (s.vm.atomQ.filter (fun e => e.unit == s.atomUnitOf x.addr)).length < 64) :
    s.atomSend n v x = some { s with vm := { s.vm with atomQ := s.vm.atomQ ++ [s.atomElOf n v x] } } := by
  have hadmit : s.atomAdmit (s.atomElOf n v x) = ({ s with vm := { s.vm with atomQ := s.vm.atomQ ++ [s.atomElOf n v x] } }, true) :=
    if_pos hroom
  unfold State.atomElOf at hadmit ⊢
  simp only [State.atomSend, ht, hadmit]

theorem atomQueue_vm {s : State} {n : Fin 9} {id : Nat} {v : VIns} {x : AtomSend} {rest : List AtomSend}
    (hv : (s.seq n).vins id = some v) (hsends : v.sends = x :: rest) (ht : x.tgt = .vm)
    (hroom : (s.vm.atomQ.filter (fun e => e.unit == s.atomUnitOf x.addr)).length < 64) :
    s.atomQueue n id = ({ s with vm := { s.vm with atomQ := s.vm.atomQ ++ [s.atomElOf n v x] } } : State).setSeq n
      ((s.seq n).setVins { v with sends := rest }) := by
  simp only [State.atomQueue, hv, hsends, atomSend_vm ht hroom]
  rfl

/-! ### ATOMIC_ACK (R73, R99) -/

/-- The flags of an acknowledgement join those of the instruction's world. -/
theorem vflags_fld (s : State) (n : Nat) (w : Bool) (fl : Nat) :
    (s.vflags n w fl).fld (SEQ_VFLAGS n) (if w then SEQ_VFLAGS.S else SEQ_VFLAGS.G)
      = s.fld (SEQ_VFLAGS n) (if w then SEQ_VFLAGS.S else SEQ_VFLAGS.G) ||| fl % 256 := by
  have hbyte : (if w then SEQ_VFLAGS.S else SEQ_VFLAGS.G).2 = 8 := by cases w <;> rfl
  have hlt : s.fld (SEQ_VFLAGS n) (if w then SEQ_VFLAGS.S else SEQ_VFLAGS.G) < 2 ^ 8 := by
    rw [State.fld_low _ _ (by cases w <;> decide), bitsOf, hbyte]
    exact Nat.mod_lt _ (Nat.two_pow_pos 8)
  unfold State.vflags
  rw [State.fld_setFld_self, hbyte]
  exact Nat.mod_eq_of_lt (Nat.or_lt_two_pow hlt (Nat.mod_lt _ (by decide)))

/-- An acknowledgement without an error, of an element of the one instruction, which has no E. -/
theorem vecAck_single {s : State} {n : Fin 9} {v : VIns} {elem : Nat} {a : AtomAck} (hent : (s.seq n).vrec.entries = [])
    (ho : (s.seq n).outs = [v]) (helem : elem ∈ v.unacked) (herr : a.err = false) (hmerge : a.merge = false)
    (heen : v.syl.een = false) :
    s.vecAck n v.id elem a =
      (s.setSeq n { s.seq n with outs := [{ v with unacked := v.unacked.erase elem }] }).vflags n.val v.world a.fl := by
  have hfind : (s.seq n).vins v.id = some v := by simp [Seq.vins, ho, hent]
  have hset : (s.seq n).setVins { v with unacked := v.unacked.erase elem } =
      { s.seq n with outs := [{ v with unacked := v.unacked.erase elem }] } := Seq.setVins_single ho hent rfl
  simp [State.vecAck, hfind, helem, herr, hmerge, heen, hset]

/-- The one acknowledgement taken from its unit, and the element it is for struck from those that the one instruction awaits. -/
def State.ackTaken (s : State) (n : Fin 9) (v : VIns) (elem : Nat) : State :=
  ({ s with vm := { s.vm with atomAcks := [] } } : State).setSeq n
    { s.seq n with outs := [{ v with unacked := v.unacked.erase elem }] }

/-- ATOMIC_ACK with one acknowledgement: its flags reach the sequencer, which then goes on. -/
theorem atomicAck_single {s : State} {n : Fin 9} {v : VIns} {elem : Nat} {a : AtomAck} (hacks : s.vm.atomAcks = [a])
    (hsrc : a.src = .vec n v.id elem) (hent : (s.seq n).vrec.entries = []) (ho : (s.seq n).outs = [v]) (helem : elem ∈ v.unacked)
    (herr : a.err = false) (hmerge : a.merge = false) (heen : v.syl.een = false) :
    s.atomicAck a.unit = ((s.ackTaken n v elem).vflags n.val v.world a.fl).pump n := by
  have hvec : ({ s with vm := { s.vm with atomAcks := [] } } : State).vecAck n v.id elem a =
      (s.ackTaken n v elem).vflags n.val v.world a.fl := vecAck_single hent ho helem herr hmerge heen
  simp [State.atomicAck, hacks, hsrc, hvec]

end Sys2Proof.Machine

namespace Sys2Proof.Proofs
open Sys2Proof Sys2Proof.Machine

/-- Settles O31: `atomQueue_vm` for the admission, `atomRun_single` for the operation, `vecAck_single` for the
acknowledgement. -/
theorem atomicUnitsApply : Obligations.AtomicUnitsApply := by
  unfold Obligations.AtomicUnitsApply
  intro s
  refine ⟨?enter, ?apply, ?ack⟩
  case enter =>
    intro n id v x rest q hidle hv hsends ht hroom
    refine ⟨s.atomElOf n v x, ?_, rfl, rfl, rfl, rfl, rfl, rfl, rfl⟩
    exact event_idle hidle (atomQueue_vm hv hsends ht hroom) (State.seq_setSeq_self _ _ _) rfl rfl rfl rfl
  case apply =>
    intro u e hstill hq hwait hunit hsize hok hclean hpsn old w r
    obtain ⟨t, ht, hrun⟩ := atomRun_single hq hwait ⟨hsize, hok, hclean, hpsn⟩
    have hstate : s.atomRun e.unit 0 = { s with vm := (s.atomRun e.unit 0).vm } := by
      rw [hrun, ht.rest]
    refine ⟨s.atomRun e.unit 0, ?_, hstate, ?_, fun y => ?_, ?_, ?_, ?_, ?_⟩
    · have hlen : ¬ (s.vm.atomQ.filter (fun e => e.unit == u.val)).length ≤ 0 := by simp [hq, hunit]
      show Host.Outcome.next (s.after ((s.atomCheck u.val 0 0).settle)) = _
      rw [State.atomCheck, if_neg hlen, if_pos rfl, ← hunit, hstate, settle_still _ (hstill.of_vm _)]
      rfl
    · rw [hrun, ht.rest]
    · rw [hrun]
      exact memByte_memWrite_toBytes _ _ _ _ _
    · rw [hrun, ← hunit]
      rfl
    · intro hop
      simp only [r, atomValue, hop, w]
    · intro hop
      simp only [r, atomValue, hop, w]
    · intro c hop
      simp only [r, atomValue, hop, w]
  case ack =>
    intro u a n v elem hidle hent hacks hunit hsrc ho helem herr hmerge heen
    have honly : RegsOnly (s.ackTaken n v elem) ((s.ackTaken n v elem).vflags n.val v.world a.fl) [SEQ_VFLAGS n.val] :=
      vflags_only _ n.val v.world a.fl (List.mem_singleton_self _)
    have hfld : ∀ f, (s.ackTaken n v elem).fld (SEQ_VFLAGS n.val) f = s.fld (SEQ_VFLAGS n.val) f :=
      State.fld_congr (s := s) (t := s.ackTaken n v elem) rfl _
    refine ⟨(s.ackTaken n v elem).vflags n.val v.world a.fl, ?_, ?_, ?_, fun m hm => ?_, ?_, ?_, fun x hx => ?_⟩
    · show Host.Outcome.next (s.after (s.atomicAck u.val)) = _
      rw [← hunit, atomicAck_single hacks hsrc hent ho helem herr hmerge heen]
      refine event_idle hidle rfl ((honly.seq n).trans (State.seq_setSeq_self _ _ _)) rfl rfl rfl ?_
      rw [honly.rest]
      rfl
    · rw [honly.rest]
      rfl
    · exact (honly.seq n).trans (State.seq_setSeq_self _ _ _)
    · exact (honly.seq m).trans (State.seq_setSeq_ne _ _ _ _ hm)
    · rw [vflags_fld, hfld]
    · rw [honly.rest]
      rfl
    · exact honly.regs x (by simpa using hx)

end Sys2Proof.Proofs
end

section
/-! A bank's front-end: requests queued, and reads and writes of clean Granules served (O32). -/
namespace Sys2Proof.Machine

/-! ### Clean Granules read (Table 5-2) -/

theorem gcls_touch (s : State) (g : Nat) (w : Bool) (x : Nat) : (s.touch g w).gcls x = s.gcls x := by
  obtain ⟨m, hm, -, hcls⟩ := touch_vm s g w
  rw [hm, State.gcls, hcls]
  rfl

/-- A clean Granule is read without an event or a mark. -/
theorem readGranule_clean {s : State} {g : Nat} (h : s.gcls g = .clean) (k : RdKind) :
    s.readGranule k g = (s.touch g false, false) := by
  simp only [State.readGranule, gcls_touch, h]

theorem readGranules_accessOnly (k : RdKind) (gs : List Nat) (s : State) (h : ∀ g ∈ gs, s.gcls g = .clean) :
    ∃ t, AccessOnly s t ∧ s.readGranules k gs = (t, false) := by
  induction gs generalizing s with
  | nil => exact ⟨s, .refl s, rfl⟩
  | cons g gs ih =>
    obtain ⟨t, ht, hgs⟩ := ih (s.touch g false) fun x hx => (gcls_touch s g false x).trans (h x (by simp [hx]))
    refine ⟨t, (touch_accessOnly s g false).trans ht, ?_⟩
    rw [← hgs]
    simp [State.readGranules, readGranule_clean (h g (by simp))]

/-- A served access leaves the front-ends' queues and answers, and the bytes. -/
theorem AccessOnly.bank {s t : State} (h : AccessOnly s t) :
    t.vm.bankQ = s.vm.bankQ ∧ t.vm.bankResp = s.vm.bankResp ∧ t.vm.bytes = s.vm.bytes := by
  rw [h.rest]
  exact ⟨rfl, rfl, rfl⟩

/-- A read of clean Granules gives the bytes that are there. -/
theorem vmRead_accessOnly {s : State} {a len : Nat} (k : RdKind) (hok : s.vmOk a len = true)
    (h : ∀ g ∈ granules a len, s.gcls g = .clean) :
    ∃ t, AccessOnly s t ∧ s.vmRead k a len = (t, some (memRead s.vm.bytes a len, false)) := by
  obtain ⟨t, ht, hread⟩ := readGranules_accessOnly k (granules a len) s h
  exact ⟨t, ht, by simp [State.vmRead, hok, hread, ht.bank]⟩

/-! ### Requests (R153, R174) -/

/-- A request that is served where it goes, and not sent again for a migration, queues. -/
theorem bankRequest_queued {s : State} {a size : Nat} {d : Option (List Byte)} {ra remap : Bool} (hok : s.vmOk a size = true)
    (hstill : remap = true → s.fld (VM_REGION (a / 2 ^ 30)) VM_REGION.MSTATE ≠ 1) :
    s.bankRequest a size d ra remap = { s with vm := { s.vm with
      bankQ := s.vm.bankQ ++ [{ bank := s.vmBank (a / 128), addr := a, size := size, data := d, ra := ra }] } } := by
  have hregion : a / 128 / 2 ^ 23 = a / 2 ^ 30 := Nat.div_div_eq_div_mul a 128 (2 ^ 23)
  unfold State.bankRequest
  simp only [hok, hregion, Bool.not_true, Bool.false_eq_true, if_false]
  rw [if_neg]
  rintro ⟨hremap, hmoving, -⟩
  exact hstill hremap hmoving

section
variable {s : State} {q : BankReq} {rest : List BankReq} {b : Nat} (hq : s.vm.bankQ = q :: rest) (hb : q.bank = b)
include hq hb

/-- BANK_ACCESS of a read: the oldest request of the bank is answered with the bytes that are there. -/
theorem bankAccess_read (hdata : q.data = none) (hok : s.vmOk q.addr q.size = true)
    (h : ∀ g ∈ granules q.addr q.size, s.gcls g = .clean) :
    ∃ m : VMem, s.bankAccess b = { s with vm := m } ∧ m.bankQ = rest ∧ m.bytes = s.vm.bytes ∧
      m.bankResp = s.vm.bankResp ++ [{ addr := q.addr, data := memRead s.vm.bytes q.addr q.size, psn := false, remap := false,
                                       err := false }] := by
  obtain ⟨t, ht, hread⟩ := vmRead_accessOnly (s := { s with vm := { s.vm with bankQ := rest } })
    (if q.ra then .ahead else .stream) hok h
  obtain ⟨hqueue, hresp, hbytes⟩ := ht.bank
  refine ⟨{ t.vm with
    bankResp := t.vm.bankResp ++ [{ addr := q.addr, data := memRead s.vm.bytes q.addr q.size, psn := false, remap := false,
                                    err := false }] }, ?_, hqueue, hbytes, by rw [hresp]⟩
  simp only [State.bankAccess, hq, List.find?_cons, hb, beq_self_eq_true, List.erase_cons_head, hdata, hread]
  rw [ht.rest]

/-- BANK_ACCESS of a write: its bytes are written, and its answer carries none. -/
theorem bankAccess_write {d : List Byte} (hdata : q.data = some d) (hok : s.vmOk q.addr d.length = true)
    (h : ∀ g ∈ granules q.addr d.length, s.gcls g = .clean) :
    ∃ m : VMem, s.bankAccess b = { s with vm := m } ∧ m.bankQ = rest ∧ m.bytes = memWrite s.vm.bytes q.addr d ∧
      m.bankResp = s.vm.bankResp ++ [{ addr := q.addr, data := [], psn := false, remap := false, err := false }] := by
  obtain ⟨t, ht, hwrite⟩ := vmWrite_accessOnly (s := { s with vm := { s.vm with bankQ := rest } }) hok h
  obtain ⟨hqueue, hresp, hbytes⟩ := ht.bank
  refine ⟨{ t.vm with
    bytes := memWrite t.vm.bytes q.addr d
    bankResp := t.vm.bankResp ++ [{ addr := q.addr, data := [], psn := false, remap := false, err := false }] },
    ?_, hqueue, by rw [hbytes], by rw [hresp]⟩
  simp only [State.bankAccess, hq, List.find?_cons, hb, beq_self_eq_true, List.erase_cons_head, hdata, hwrite]
  rw [ht.rest]
  rfl

end

end Sys2Proof.Machine
end

section
/-! Rows refreshed, the patrol's next slot, and the scrubber's priority list (O32). -/
namespace Sys2Proof.Machine

/-! ### Refresh (R162, R163) -/

/-- A refreshed row counts from zero; the other rows count as before. -/
theorem cget_act_rowRefresh (s : State) (p row x : Nat) :
    cget (s.rowRefresh p row).vm.act x = if x = p * 1536 + row then 0 else cget s.vm.act x :=
  mget_mput s.vm.act (p * 1536 + row) 0 x

/-- A counter's registers are its two words and the register of its overflow flag. -/
theorem countWrap_only (s : State) (a k : Nat) {r : Nat} {f : Fld} (hf : Fld.low f) :
    RegsOnly s (s.countWrap a k r f) [a, a + 4, r] := by
  have hset : RegsOnly s (s.setRegNat a 2 ((s.regNat a 2 + k) % 2 ^ 64)) [a, a + 4, r] := by
    refine ⟨fun x hx => ?_, State.setRegNat_eq ..⟩
    simp only [List.mem_cons, List.not_mem_nil, or_false, not_or] at hx
    rw [State.reg_setRegNat, if_neg (by omega)]
  unfold State.countWrap
  dsimp only
  split
  · exact hset.trans (.setFld _ _ hf (by simp))
  · exact hset

/-- The neighbours of a row: two, but one of the first and of the last row. -/
theorem neighbours_eq (row : Fin 1536) : bit01 (decide (0 < row.val)) + bit01 (decide (row.val < 1535)) =
    if row.val = 0 ∨ row.val = 1535 then 1 else 2 := by
  have hrow := row.isLt
  simp only [bit01, decide_eq_true_eq]
  split_ifs <;> omega

/-- R163: a row at its bound is refreshed, and its neighbours are counted. -/
theorem neighbourRefresh_due {s : State} {p : Nat} (row : Fin 1536) (hdue : 16384 ≤ cget s.vm.act (p * 1536 + row)) :
    s.neighbourRefresh p row = (s.rowRefresh p row).countWrap VM_PERF_NBR
      (if row.val = 0 ∨ row.val = 1535 then 1 else 2) VM_STATUS VM_STATUS.OVF_NBR := by
  unfold State.neighbourRefresh
  rw [if_neg (Nat.not_lt.2 hdue)]
  dsimp only
  rw [neighbours_eq]

/-! ### Patrol (R161) -/

theorem rewrite_clean {s : State} {g : Nat} (h : s.gcls g = .clean) : s.rewrite g = s := by
  simp only [State.rewrite, h]

/-- A pass that has not come to its tier's last slot moves on past a clean Granule. -/
theorem patrolScrub_clean {s : State} {t : Nat} (hruns : s.vmRuns = true) (htad : s.vmTad = false)
    (hmore : cget s.vm.patrol t + 1 < 8192 * 24576)
    (hclean : s.gcls (s.granuleAt (t * 8192 + cget s.vm.patrol t / 24576) (cget s.vm.patrol t % 24576)) = .clean) :
    ∃ m : VMem, s.patrolScrub t = { s with vm := m } ∧ m.patrol = cput s.vm.patrol t (cget s.vm.patrol t + 1) ∧
      m.bytes = s.vm.bytes ∧ ∀ x, mget (fun _ => GClass.clean) m.cls x = s.gcls x := by
  generalize hg : s.granuleAt (t * 8192 + cget s.vm.patrol t / 24576) (cget s.vm.patrol t % 24576) = g at hclean
  have hread : (s.touch g false).rewrite g = s.touch g false := rewrite_clean ((gcls_touch ..).trans hclean)
  generalize htouched : (if s.bankOk (t * 8192 + cget s.vm.patrol t / 24576) then s.touch g false else s) = u
  obtain ⟨hu, hcls⟩ : AccessOnly s u ∧ ∀ x, u.gcls x = s.gcls x := by
    rw [← htouched]
    split
    · exact ⟨touch_accessOnly s g false, gcls_touch s g false⟩
    · exact ⟨.refl s, fun _ => rfl⟩
  refine ⟨{ u.vm with patrol := cput s.vm.patrol t (cget s.vm.patrol t + 1) }, ?_, rfl, ?_, hcls⟩
  · unfold State.patrolScrub
    simp only [hruns, htad, hg, hclean, hread, Bool.not_true, Bool.false_eq_true, if_false, reduceCtorEq, htouched]
    rw [if_pos hmore, hu.rest]
  · rw [hu.rest]

/-! ### The priority list (R157) -/

theorem scrubDrop_head {s : State} {g : Nat} {rest : List Nat} (hq : s.vm.scrubQ = g :: rest) (hg : g ∉ rest) :
    s.scrubDrop g = { s with vm := { s.vm with scrubQ := rest } } := by
  have hrest : rest.filter (fun x => x != g) = rest :=
    List.filter_eq_self.2 fun x hx => by simpa using fun e : x = g => hg (e ▸ hx)
  simp [State.scrubDrop, hq, hrest]

/-- R177: one corrected Granule alone in its window is reported, and repairs nothing. -/
theorem foundCE_first {s : State} {g : Nat} (hplain : EventPlain s vmCE svCorrected) (hwin : s.winOpen vmCE = false)
    (hrow : 2 ≤ s.fld VM_REPAIR_CTL VM_REPAIR_CTL.ROW_CE) (hbank : 2 ≤ s.fld VM_REPAIR_CTL VM_REPAIR_CTL.BANK_ROWS) :
    ∃ u, EventRaised s u vmCE ∧
      s.foundCE g false = { u with vm := { s.vm with ceSeen := [(s.vmBank g, s.vmRow g, g)] } } := by
  have hraised := raise_plain s vmCE (s.vmUnit g) svCorrected 0 false hplain
  have hfld : ∀ f m, Fld.low f → ({ s.raise vmCE (s.vmUnit g) svCorrected with vm := m } : State).fld VM_REPAIR_CTL f
      = s.fld VM_REPAIR_CTL f := fun f m hf => by
    rw [State.fld_low _ _ hf, State.fld_low _ _ hf, ← hraised.outside VM_REPAIR_CTL (.inl (by decide))]
    rfl
  refine ⟨s.raise vmCE (s.vmUnit g) svCorrected, hraised, ?_⟩
  have hvm : (s.raise vmCE (s.vmUnit g) svCorrected).vm = s.vm := by rw [hraised.rest]
  have hone : ¬ s.fld VM_REPAIR_CTL VM_REPAIR_CTL.ROW_CE ≤ 1 ∧ ¬ s.fld VM_REPAIR_CTL VM_REPAIR_CTL.BANK_ROWS ≤ 1 := by
    omega
  unfold State.foundCE
  simp [hwin, hfld _ _ (show Fld.low VM_REPAIR_CTL.ROW_CE by decide), hfld _ _ (show Fld.low VM_REPAIR_CTL.BANK_ROWS by decide),
    hone, hvm, List.eraseDups_cons]

section
variable {s : State} {t g : Nat} {rest : List Nat} (hruns : s.vmRuns = true) (hq : s.vm.scrubQ = g :: rest) (ht : s.tierOf g = t)
include hruns hq ht

/-- The head of the list is served. -/
theorem scrubRewrite_head : s.scrubRewrite t = (s.rewrite g).scrubDrop g := by
  simp [State.scrubRewrite, hruns, hq, ht]

variable (hg : g ∉ rest)
include hg

/-- A clean or poisoned Granule only leaves the list. -/
theorem scrubRewrite_settled (hcls : s.gcls g = .clean ∨ s.gcls g = .poisoned) :
    s.scrubRewrite t = { s with vm := { s.vm with scrubQ := rest } } := by
  have hkept : s.rewrite g = s := by
    rcases hcls with h | h <;> simp only [State.rewrite, h]
  rw [scrubRewrite_head hruns hq ht, hkept, scrubDrop_head hq hg]

/-- A corrected one is reported and made clean. -/
theorem scrubRewrite_corrected (hcls : s.gcls g = .corrected) (hplain : EventPlain s vmCE svCorrected)
    (hwin : s.winOpen vmCE = false) (hrow : 2 ≤ s.fld VM_REPAIR_CTL VM_REPAIR_CTL.ROW_CE)
    (hbank : 2 ≤ s.fld VM_REPAIR_CTL VM_REPAIR_CTL.BANK_ROWS) :
    ∃ u, EventRaised s u vmCE ∧ s.scrubRewrite t = { u with vm := { s.vm with
      ceSeen := [(s.vmBank g, s.vmRow g, g)]
      cls := mput (fun _ => GClass.clean) s.vm.cls g .clean
      scrubQ := rest } } := by
  obtain ⟨u, hu, hfound⟩ := foundCE_first hplain hwin hrow hbank (g := g)
  refine ⟨u, hu, ?_⟩
  rw [scrubRewrite_head hruns hq ht]
  simp only [State.rewrite, hcls, hfound]
  exact scrubDrop_head hq hg

end

/-! ### Events of Vector Memory -/

/-- An event leaves the queue of commands as it found it. -/
theorem EventRaised.after {s t : State} {k : Nat} (h : EventRaised s t k) : s.after t = t := by
  rw [h.rest]
  rfl

end Sys2Proof.Machine

namespace Sys2Proof.Proofs
open Sys2Proof Sys2Proof.Machine

/-- Settles O32: each command by the lemma that says what it leaves in Vector Memory. -/
theorem banksServeAndScrub : Obligations.BanksServeAndScrub := by
  unfold Obligations.BanksServeAndScrub
  intro s addr size a q clean
  refine ⟨?request, ?read, ?write, ?line, ?rows, ?late, ?patrol, ?scrub⟩
  case request =>
    intro d ra remap hreq hok hstill
    show (if bankReqOk addr size d then Host.Outcome.next (s.after _) else _) = _
    rw [if_pos hreq, bankRequest_queued hok hstill]
    rfl
  case read =>
    intro b ra rest hq hb ⟨hok, hclean⟩
    obtain ⟨m, heq, hm⟩ := bankAccess_read hq hb.symm rfl hok hclean
    exact ⟨{ s with vm := m }, congrArg (fun u => Host.Outcome.next (s.after u)) heq, rfl, hm⟩
  case write =>
    intro b d rest hq hb ⟨hok, hclean⟩ hlen
    obtain ⟨m, heq, hm⟩ := bankAccess_write hq hb.symm rfl (by rw [hlen]; exact hok) (by rw [hlen]; exact hclean)
    exact ⟨{ s with vm := m }, congrArg (fun u => Host.Outcome.next (s.after u)) heq, rfl, hm⟩
  case line =>
    intro u g
    rfl
  case rows =>
    intro b row k
    refine ⟨s.rowRefresh b.val row.val, rfl, rfl, cget_act_rowRefresh s b.val row.val, fun hdue => ?_⟩
    have honly := countWrap_only (s.rowRefresh b.val row.val) VM_PERF_NBR (if row.val = 0 ∨ row.val = 1535 then 1 else 2)
      (r := VM_STATUS) (f := VM_STATUS.OVF_NBR) (by decide)
    rw [← neighbourRefresh_due row hdue] at honly
    refine ⟨s.neighbourRefresh b.val row.val, ?_, ?_, ?_, fun x hlo hhi hst => honly.regs x (by simp [hlo, hhi, hst]), ?_⟩
    · show Host.Outcome.next (s.after (s.neighbourRefresh b.val row.val)) = _
      rw [honly.rest]
      rfl
    · rw [honly.rest]
    · rw [neighbourRefresh_due row hdue, regNat_countWrap _ _ (by decide) (by decide)]
      rfl
    · rw [honly.rest]
      rfl
  case late =>
    intro r hplain
    have hraised : EventRaised s (s.scrubLate r.val) vmScrubLate := raise_plain s vmScrubLate _ svInfo 0 false hplain
    exact ⟨_, congrArg Host.Outcome.next hraised.after, hraised⟩
  case patrol =>
    intro t hruns htad p g hmore hclean
    obtain ⟨m, heq, hpatrol, hbytes, hcls⟩ := patrolScrub_clean hruns htad hmore hclean
    refine ⟨{ s with vm := m }, congrArg (fun u => Host.Outcome.next (s.after u)) heq, rfl, ?_, hbytes, hcls⟩
    show cget m.patrol t.val = _
    rw [hpatrol]
    exact (mget_mput ..).trans (if_pos rfl)
  case scrub =>
    intro t g rest hruns hq hg ht
    refine ⟨fun hcls => ?_, fun hcls hplain hwin hrow hbank => ?_⟩
    · show Host.Outcome.next (s.after (s.scrubRewrite t.val)) = _
      rw [scrubRewrite_settled hruns hq ht hg hcls]
      rfl
    · obtain ⟨u, hu, heq⟩ := scrubRewrite_corrected hruns hq ht hg hcls hplain hwin hrow hbank
      have hcls : ∀ x, (s.scrubRewrite t.val).gcls x = if x = g then .clean else s.gcls x := by
        intro x
        rw [heq]
        exact mget_mput s.vm.cls g GClass.clean x
      refine ⟨s.scrubRewrite t.val, ?_, ?_, ?_, fun x hx => ?_, ?_, ?_⟩
      · show Host.Outcome.next (s.after (s.scrubRewrite t.val)) = _
        rw [heq, hu.rest]
        rfl
      · have hsame : ({ s.scrubRewrite t.val with vm := s.vm } : State) = u := by
          rw [heq, hu.rest]
        rw [hsame]
        exact hu
      · rw [hcls, if_pos rfl]
      · rw [hcls, if_neg hx]
      · rw [heq]
      · rw [heq]

end Sys2Proof.Proofs
end

section
/-! A bank's Regrow that ends in a state whose bank map names a free spare (O33). -/
namespace Sys2Proof.Machine

/-- A machine in Run that replaces bank 0 by the spare of group 127, where the bank map serves bank 0 from the spare of group 0
although that spare is idle and not USED. So nine spares of tier 0 are free: of group 0 and of groups 1 to 8, the others being
USED. The configuration raises VM_SPARE_LOW to FATAL (R445), and Vector Memory holds one byte. -/
def freeSpareMapped : State :=
  let s : State := { State.reset with
    st := { State.reset.st with base := mRun }
    vm := { VMem.reset with
      bytes := [(0, 1)]
      bankMap := [(0, 8192)] }
    regs := (upTo 118).map (fun g => (VM_SPARE (9 + g), 1)) }
  let s := (s.setFld ST_MODE ST_MODE.MODE mRun).setFld VM_STATUS VM_STATUS.READY 1
  let s := (s.setFld (VM_REGROW 0) VM_REGROW.SPARE 127).setFld (VM_REGROW 0) VM_REGROW.ACTIVE 1
  (s.setFld (FJ_SRC_CFG vmSpareLow) FJ_SRC_CFG.SEV svFatal).setUst (bankUnit 8319) usRegrow

theorem freeSpareMapped_still : Still freeSpareMapped := by
  constructor <;> decide +kernel

theorem freeSpareMapped_freeSpares : (freeSpareMapped.freeSpares 0).length = 9 := by
  decide +kernel

/-- R180, R448: the bank replaced is fenced, which leaves eight free spares; VM_SPARE_LOW is raised, and the FATAL event takes
the device to Starter-only. -/
theorem freeSpareMapped_stops : (freeSpareMapped.bankRegrowEnd 0).settle.st.base = mStarter ∧
    (freeSpareMapped.bankRegrowEnd 0).settle.vm = VMem.reset := by
  decide +kernel

end Sys2Proof.Machine

namespace Sys2Proof.Proofs
open Sys2Proof Sys2Proof.Machine

/-- Refutes O33 in its clause on BANK_REGROW_END, which excludes eight free spares before the command only. In
`freeSpareMapped` the command fences the ninth, and VM_SPARE_LOW, being FATAL there, resets Vector Memory. A premise that the
bank map names only USED spares would exclude this; the other clauses are not concerned. -/
theorem not_placementAndRepair : ¬ Obligations.PlacementAndRepair := by
  unfold Obligations.PlacementAndRepair
  rintro ⟨-, hrepairs⟩
  obtain ⟨-, hregrow, -⟩ := hrepairs freeSpareMapped
  obtain ⟨u, hexec, -, hbytes, -⟩ := hregrow 0 freeSpareMapped_still (by decide +kernel) rfl rfl (by decide +kernel)
    (by decide +kernel) (by simp [freeSpareMapped_freeSpares])
  have hend : freeSpareMapped.after (freeSpareMapped.bankRegrowEnd 0).settle = u := Host.Outcome.next.inj hexec
  have hlost : u.vm = VMem.reset := by
    rw [← hend, State.after_vm, freeSpareMapped_stops.2]
  have hheld : freeSpareMapped.vm.bytes ≠ VMem.reset.bytes := by
    decide +kernel
  exact hheld (by rw [← hbytes, hlost])

end Sys2Proof.Proofs
end


section
/-! What a served access of Vector Memory counts (R170, R185), and a host's memory window (O46). -/
namespace Sys2Proof.Machine

/-! ### Accesses counted -/

/-- R621: the fields below the overflow flag of a counter read as before. -/
theorem fld_countWrap_below (s : State) {a r : Nat} (k : Nat) {f g : Fld} (hf : Fld.low f) (hg : Fld.low g)
    (hfg : g.1 + g.2 ≤ f.1) (hr : r < a ∨ a + 8 ≤ r) : (s.countWrap a k r f).fld r g = s.fld r g := by
  have hset : (s.setRegNat a 2 ((s.regNat a 2 + k) % 2 ^ 64)).reg r = s.reg r := State.reg_setRegNat_of_outside _ _ _ _ _ hr
  unfold State.countWrap
  dsimp only
  split
  · rw [State.fld_setFld_low _ _ _ hf hg, bitsOf_setBits_below _ _ _ _ _ _ hfg, State.fld_low _ _ hg, hset]
  · rw [State.fld_low _ _ hg, State.fld_low _ _ hg, hset]

theorem vmCount_rest (s : State) (a k : Nat) :
    s.vmCount a k = { s with vm := { s.vm with placeAcc := (s.vmCount a k).vm.placeAcc }, regs := (s.vmCount a k).regs } :=
  (vmCount_counts s a k).rest

/-- The regions' registers lie above the counter. -/
theorem vmCount_fld_region (s : State) (a k r : Nat) (f : Fld) : (s.vmCount a k).fld (VM_REGION r) f = s.fld (VM_REGION r) f := by
  have hreg := (countWrap_only { s with vm := { s.vm with
    placeAcc := cput s.vm.placeAcc (a / 2 ^ 30) (cget s.vm.placeAcc (a / 2 ^ 30) + k) } } VM_PERF_ACCESS k (r := VM_STATUS)
    (f := VM_STATUS.OVF_ACCESS) (by decide)).regs
  unfold State.fld
  rw [State.regNat_congr (s := s)]
  intro i _
  refine hreg _ ?_
  simp only [VM_PERF_ACCESS, VM_STATUS, VM_REGION, List.mem_cons, List.not_mem_nil, or_false]
  omega

/-- VM_STATUS shows as before whether Vector Memory is ready, and which map is in force. -/
theorem vmCount_flag_status (s : State) (a k : Nat) :
    ∀ f ∈ [VM_STATUS.READY, VM_STATUS.TADPOLE_MAP], (s.vmCount a k).flag VM_STATUS f = s.flag VM_STATUS f := by
  intro f hf
  have hlow : Fld.low f ∧ f.1 + f.2 ≤ VM_STATUS.OVF_ACCESS.1 := by
    revert f
    decide
  have hfld : (s.vmCount a k).fld VM_STATUS f = s.fld VM_STATUS f :=
    (fld_countWrap_below _ _ (by decide) hlow.1 hlow.2 (by decide)).trans (State.fld_congr (by rfl) _ _)
  rw [State.flag, State.flag, hfld]

theorem vmCount_vmTad (s : State) (a k : Nat) : (s.vmCount a k).vmTad = s.vmTad :=
  vmCount_flag_status s a k VM_STATUS.TADPOLE_MAP (by simp)

theorem vmCount_vmKey (s : State) (a k r st lane : Nat) : (s.vmCount a k).vmKey r st lane = s.vmKey r st lane := by
  have hfld := vmCount_fld_region s a k r
  have hdelta : (s.vmCount a k).migDelta r st = s.migDelta r st := by rw [State.migDelta, hfld, hfld, State.migDelta]
  have hswapped : (s.vmCount a k).vm.swapped = s.vm.swapped := by rw [vmCount_rest]
  rw [State.vmKey, hfld, hfld, hfld, hfld, hdelta, hswapped, State.vmKey]

theorem vmCount_vmBank (s : State) (a k g : Nat) : (s.vmCount a k).vmBank g = s.vmBank g := by
  have htier : (s.vmCount a k).vm.tadTier = s.vm.tadTier := by rw [vmCount_rest]
  simp only [State.vmBank, State.vmLoc, vmCount_vmTad, vmCount_vmKey, htier]

/-- R170: counting an access leaves what Vector Memory serves. -/
theorem vmCount_vmOk (s : State) (a k x len : Nat) : (s.vmCount a k).vmOk x len = s.vmOk x len := by
  have hready := vmCount_flag_status s a k VM_STATUS.READY (by simp)
  have hsize : (s.vmCount a k).vmSize = s.vmSize := by rw [State.vmSize, vmCount_vmTad, State.vmSize]
  have hbank : ∀ b, (s.vmCount a k).bankOk b = s.bankOk b := by
    intro b
    rw [vmCount_rest]
    rfl
  simp only [State.vmOk, hready, hsize, vmCount_vmBank, hbank]

theorem vmCount_gcls (s : State) (a k g : Nat) : (s.vmCount a k).gcls g = s.gcls g := by
  rw [vmCount_rest]
  rfl

/-! ### The memory window (R206, R428) -/

/-- A request of a function that is up, which no other waits before, is performed through the window of BAR4. -/
theorem after_hostRequest_window {s t : State} {r : HostReq} (h : s.hostMem r = some t) (hpending : t.pending = s.pending)
    (hbar : r.bar = 2) (hup : s.epUp r.ep = true) (hex : s.epExists r.ep = true) (hon : s.hostFuncOn r.ep r.f = true)
    (hfree : s.hostBehind r.ep = false) : s.after (s.hostRequest r) = t := by
  have hserve : s.hostServe r = some t := (if_pos hbar).trans h
  have hrequest : s.hostRequest r = t := by simp [State.hostRequest, hup, hex, hon, hfree, hserve]
  rw [hrequest, State.after, ← hpending]

section
variable {s : State} {r : HostReq} {a : Nat} (hrun : s.st.holdup = false ∧ s.st.base ≠ mBrum)
  (hwin : s.hostWindow r = some a) (hend : a + r.len ≤ 0x1800000000) (hok : s.vmOk a r.len = true)
  (hclean : ∀ g ∈ granules a r.len, s.gcls g = .clean)
include hrun hwin hend hok hclean

/-- R428: a read through the window of clean Granules is answered with the bytes that are there. -/
theorem hostMem_read (hdata : r.data = none) :
    ∃ t, s.hostMem r = some t ∧ t = { s with vm := t.vm, regs := t.regs, hp := { s.hp with
        resp := s.hp.resp ++ [⟨r.ep, r.off, 0, memRead s.vm.bytes a r.len, false⟩] } } ∧ t.vm.bytes = s.vm.bytes := by
  have hrest := vmCount_rest s a (granules a r.len).length
  obtain ⟨u, hu, hread⟩ := vmRead_accessOnly (s := s.vmCount a (granules a r.len).length) .full
    ((vmCount_vmOk s a _ a r.len).trans hok) (fun g hg => (vmCount_gcls s a _ g).trans (hclean g hg))
  have hbytes : (s.vmCount a (granules a r.len).length).vm.bytes = s.vm.bytes := by rw [hrest]
  obtain ⟨hholdup, hbrum⟩ := hrun
  refine ⟨u.hostAnswer r.ep r.off 0 (memRead s.vm.bytes a r.len) false, ?_, ?_, ?_⟩
  · rw [hbytes] at hread
    simp [State.hostMem, hholdup, hbrum, hwin, hok, hdata, hread, show ¬ 0x1800000000 ≤ a + r.len - 1 by omega]
  · rw [hu.rest, hrest]
    rfl
  · exact hu.bank.2.2.trans hbytes

/-- R428: a write through the window of clean Granules writes its bytes. -/
theorem hostMem_write {d : List Byte} (hdata : r.data = some d) (hd : r.len = d.length) (hpsn : r.poison = false) :
    ∃ t, s.hostMem r = some t ∧ t = { s with vm := t.vm, regs := t.regs } ∧
      t.vm.bytes = memWrite s.vm.bytes a d ∧ ∀ g, t.gcls g = s.gcls g := by
  have hrest := vmCount_rest s a (granules a r.len).length
  obtain ⟨m, hwrite, hbytes, hcls⟩ := vmWrite_clean (s.vmCount a (granules a r.len).length) a d
    ((vmCount_vmOk s a _ a _).trans (hd ▸ hok)) (fun g hg => (vmCount_gcls s a _ g).trans (hclean g (hd ▸ hg)))
  obtain ⟨hholdup, hbrum⟩ := hrun
  refine ⟨{ s.vmCount a (granules a r.len).length with vm := m }, ?_, ?_, ?_, fun g => ?_⟩
  · simp [State.hostMem, hholdup, hbrum, hwin, hok, hdata, hpsn, hwrite, show ¬ 0x1800000000 ≤ a + r.len - 1 by omega]
  · rw [hrest]
  · rw [hrest] at hbytes
    exact hbytes
  · exact (hcls g).trans (vmCount_gcls s a _ g)

end

end Sys2Proof.Machine
end

section
/-! The state of a host endpoint: its fields, its MSI-X tables, and the messages that it sends (O46). -/
namespace Sys2Proof.Machine

/-! ### Endpoints -/

section
variable (s : State) (i : Fin 4)

@[simp] theorem hostEp_setHostEp (e : HostEp) : (s.setHostEp i e).hostEp i = e := by
  simp [State.hostEp, HostPorts.ep, State.setHostEp]

theorem hostEp_setHostEp_ne (e : HostEp) {k : Nat} (h : k ≠ i) : (s.setHostEp i e).hostEp k = s.hostEp k := by
  simp [State.hostEp, HostPorts.ep, State.setHostEp, List.getElem?_set_ne h.symm]

theorem setHostEp_setHostEp (e e' : HostEp) : (s.setHostEp i e).setHostEp i e' = s.setHostEp i e' := by
  simp [State.setHostEp, Vector.setIfInBounds_setIfInBounds]

end

/-! ### MSI-X tables (R431) -/

theorem tab_setTab (e : HostEp) (f off : Nat) (b : Byte) (g o : Nat) :
    (e.setTab f off b).tab g o = if g * 32768 + o = f * 32768 + off then b else e.tab g o :=
  mget_mput e.table (f * 32768 + off) b (g * 32768 + o)

/-- A byte of a table of 32,768 bytes is of one function and at one offset. -/
theorem tab_setTab_inside (e : HostEp) (f : Nat) {off : Nat} (b : Byte) (g : Nat) {o : Nat} (hoff : off < 32768) (ho : o < 32768) :
    (e.setTab f off b).tab g o = if g = f ∧ o = off then b else e.tab g o := by
  rw [tab_setTab]
  exact if_congr (by omega) rfl rfl

/-- Bytes read beside the byte that was set are as before. -/
theorem tabNat_setTab_of_outside (e : HostEp) (f : Nat) {off : Nat} (b : Byte) {o n : Nat} (h : o + n ≤ off ∨ off < o) :
    (e.setTab f off b).tabNat f o n = e.tabNat f o n := by
  unfold HostEp.tabNat
  refine congrArg ofBytes (List.map_congr_left fun k hk => ?_)
  have hk' : k < n := List.mem_range.1 hk
  rw [tab_setTab, if_neg (by omega)]

/-- What a vector's entry reads as is in the table alone. -/
theorem tabNat_congr {e e' : HostEp} (h : e.table = e'.table) (f o n : Nat) : e.tabNat f o n = e'.tabNat f o n := by
  simp only [HostEp.tabNat, HostEp.tab, h]

theorem tabNat_one (e : HostEp) (f off : Nat) : e.tabNat f off 1 = (e.tab f off).toNat := by
  simp [HostEp.tabNat, upTo, ofBytes]

/-- An endpoint with the mask bit of a vector cleared. -/
def HostEp.unmask (e : HostEp) (f v : Nat) : HostEp := e.setTab f (v * 16 + 12) (e.tab f (v * 16 + 12) &&& 0xFE)

theorem unmask_clear (e : HostEp) (f v : Nat) : (e.unmask f v).tabNat f (v * 16 + 12) 1 % 2 = 0 := by
  rw [tabNat_one, HostEp.unmask, tab_setTab, if_pos rfl, BitVec.toNat_and, ← Nat.pow_one 2, Nat.and_mod_two_pow]
  exact Nat.and_zero _

/-! ### Messages (R431) -/

/-- A function of an endpoint that may send the message of a vector of its. -/
def State.mayMessage (s : State) (i f v : Nat) : Prop :=
  s.epUp i = true ∧ f ∈ (s.hostEp i).bme ∧ f ∈ (s.hostEp i).msixOn ∧ f ∉ (s.hostEp i).fmask ∧ (f = 0 ∨ v < 64)

/-- The message of a vector, as its table gives it. -/
def HostEp.message (e : HostEp) (i f v : Nat) : HostOut := .msix i f v (e.tabNat f (v * 16) 8) (e.tabNat f (v * 16 + 8) 4)

theorem message_congr {e e' : HostEp} (h : e.table = e'.table) (i f v : Nat) : e.message i f v = e'.message i f v := by
  simp only [HostEp.message, tabNat_congr h]

theorem message_unmask (e : HostEp) (i f v : Nat) : (e.unmask f v).message i f v = e.message i f v := by
  unfold HostEp.message HostEp.unmask
  rw [tabNat_setTab_of_outside _ _ _ (by omega), tabNat_setTab_of_outside _ _ _ (by omega)]

/-- The message of a vector that is not masked leaves the device. -/
theorem msix_sent {s : State} {i f v : Nat} (h : s.mayMessage i f v) (hclear : (s.hostEp i).tabNat f (v * 16 + 12) 1 % 2 = 0) :
    s.msix i f v = { s with hp := { s.hp with out := s.hp.out ++ [(s.hostEp i).message i f v] } } := by
  obtain ⟨hup, hbme, hon, hmask, hrange⟩ := h
  unfold State.msix
  simp only [hup, List.contains_iff_mem.2 hbme, List.contains_iff_mem.2 hon, hclear]
  rw [if_neg (by omega)]
  simp [hmask, HostEp.message]

/-- The one pending vector of a function, no longer masked, is sent, and is pending no more. -/
theorem msixSend_single {s : State} (i : Fin 4) {f v : Nat} (h : s.mayMessage i f v)
    (hpend : (s.hostEp i).pend.filter (fun x => x.1 == f) = [(f, v)])
    (hclear : (s.hostEp i).tabNat f (v * 16 + 12) 1 % 2 = 0) :
    s.msixSend i f = { s.setHostEp i { s.hostEp i with pend := (s.hostEp i).pend.filter (fun x => x.1 != f) } with
      hp := { (s.setHostEp i { s.hostEp i with pend := (s.hostEp i).pend.filter (fun x => x.1 != f) }).hp with
        out := s.hp.out ++ [(s.hostEp i).message i f v] } } := by
  have hgo : (s.hostEp i).pend.filter (fun x => x.1 == f && decide ((s.hostEp i).tabNat f (x.2 * 16 + 12) 1 % 2 = 0)) = [(f, v)] := by
    have hmore := congrArg (List.filter fun x => decide ((s.hostEp i).tabNat f (x.2 * 16 + 12) 1 % 2 = 0)) hpend
    rw [List.filter_filter] at hmore
    simpa [Bool.and_comm, hclear] using hmore
  have hleft : (s.hostEp i).pend.filter (fun x => !([(f, v)] : List (Nat × Nat)).contains x)
      = (s.hostEp i).pend.filter (fun x => x.1 != f) := by
    refine List.filter_congr fun x hx => ?_
    by_cases hxf : x.1 = f
    · have hmem : x ∈ (s.hostEp i).pend.filter (fun x => x.1 == f) := List.mem_filter.2 ⟨hx, by simpa using hxf⟩
      rw [hpend, List.mem_singleton] at hmem
      simp [hmem]
    · have hne : x ≠ (f, v) := fun e => hxf (congrArg Prod.fst e)
      simp [hxf, hne]
  have hsend : (s.setHostEp i { s.hostEp i with pend := (s.hostEp i).pend.filter (fun x => x.1 != f) }).mayMessage i f v := by
    obtain ⟨hup, hrest⟩ := h
    rw [State.mayMessage, hostEp_setHostEp]
    exact ⟨hup, hrest⟩
  obtain ⟨hup, hbme, hon, hmask, hrange⟩ := h
  unfold State.msixSend
  simp only [List.contains_iff_mem.2 hon, hgo, hleft, List.foldl_cons, List.foldl_nil]
  rw [if_neg (by simpa using hmask), msix_sent hsend (by rw [hostEp_setHostEp]; exact hclear), hostEp_setHostEp]
  rfl

/-- What MSIX_UNMASK leaves at its endpoint: the vector not masked, and no longer pending. -/
def HostEp.unmasked (e : HostEp) (f v : Nat) : HostEp := { e.unmask f v with pend := e.pend.filter (fun x => x.1 != f) }

/-- MSIX_UNMASK of the one pending vector of a function sends its message. -/
theorem msixUnmask_sent {s : State} (i : Fin 4) {f v : Nat} (h : s.mayMessage i f v)
    (hpend : (s.hostEp i).pend.filter (fun x => x.1 == f) = [(f, v)]) :
    s.msixUnmask i f (some v) = { s.setHostEp i ((s.hostEp i).unmasked f v) with
      hp := { (s.setHostEp i ((s.hostEp i).unmasked f v)).hp with out := s.hp.out ++ [(s.hostEp i).message i f v] } } := by
  have hep : (s.setHostEp i ((s.hostEp i).unmask f v)).hostEp i = (s.hostEp i).unmask f v := hostEp_setHostEp ..
  have hmay : (s.setHostEp i ((s.hostEp i).unmask f v)).mayMessage i f v := by
    obtain ⟨hup, hrest⟩ := h
    rw [State.mayMessage, hep]
    exact ⟨hup, hrest⟩
  have hsend := msixSend_single i hmay (by rw [hep]; exact hpend) (by rw [hep]; exact unmask_clear ..)
  rw [hep, message_unmask, setHostEp_setHostEp] at hsend
  exact hsend

end Sys2Proof.Machine
end

section
/-! A PF's mailbox: MB_HCTL, HP_MBCTL, and the firmware's answer (O46). -/
namespace Sys2Proof.Machine

/-! ### MB_HCTL (Table 13-12) -/

section
variable (s : State) (i : Fin 4)

@[simp] theorem hostEp_setMbFld (f : Fld) (v : Nat) : (s.setMbFld i f v).hostEp i =
    { s.hostEp i with hctl := BitVec.ofNat 32 (setBits (s.hostEp i).hctl.toNat f.1 f.2 v) } :=
  hostEp_setHostEp ..

theorem mbFld_setMbFld (v : Nat) {f : Fld} (hf : Fld.low f) (g : Fld) :
    (s.setMbFld i f v).mbFld i g = bitsOf (setBits (s.hostEp i).hctl.toNat f.1 f.2 v) g.1 g.2 := by
  rw [State.mbFld, hostEp_setMbFld, BitVec.toNat_ofNat, Nat.mod_eq_of_lt (setBits_lt _ _ _ _ _ (BitVec.isLt _) hf.2)]

theorem mbFld_setMbFld_self (v : Nat) {f : Fld} (hf : Fld.low f) : (s.setMbFld i f v).mbFld i f = v % 2 ^ f.2 := by
  rw [mbFld_setMbFld s i v hf, bitsOf_setBits]

theorem mbFld_setMbFld_ne (v : Nat) {f g : Fld} (hf : Fld.low f) (h : f.1 + f.2 ≤ g.1 ∨ g.1 + g.2 ≤ f.1) :
    (s.setMbFld i f v).mbFld i g = s.mbFld i g := by
  rw [mbFld_setMbFld s i v hf]
  rcases h with habove | hbelow
  · exact bitsOf_setBits_above _ _ _ _ _ _ habove
  · exact bitsOf_setBits_below _ _ _ _ _ _ hbelow

@[simp] theorem mbFld_setFld (a : Nat) (f : Fld) (v : Nat) (g : Fld) : (s.setFld a f v).mbFld i g = s.mbFld i g := by
  simp [State.mbFld, State.hostEp]

@[simp] theorem fld_setMbFld (f : Fld) (v a : Nat) (g : Fld) : (s.setMbFld i f v).fld a g = s.fld a g :=
  State.fld_congr (by rfl) a g

end

/-! ### What the mailbox of an endpoint may change -/

/-- MB_HCTL and HP_MBCTL of the endpoint may have changed, and nothing else of it. -/
structure MailboxOnly (s t : State) (i : Fin 4) : Prop where
  rest : t = { s with regs := t.regs, hp := { s.hp with eps := t.hp.eps } }
  ep : t.hostEp i = { s.hostEp i with hctl := (t.hostEp i).hctl }
  regs : ∀ a, a ≠ hpMbctl i → t.reg a = s.reg a

section
variable {s t u : State} {i : Fin 4}

theorem MailboxOnly.trans (h : MailboxOnly s t i) (g : MailboxOnly t u i) : MailboxOnly s u i := by
  refine ⟨?_, ?_, fun a ha => (g.regs a ha).trans (h.regs a ha)⟩
  · rw [g.rest, h.rest]
  · rw [g.ep, h.ep]

theorem MailboxOnly.setMbFld (s : State) (i : Fin 4) (f : Fld) (v : Nat) : MailboxOnly s (s.setMbFld i f v) i :=
  ⟨rfl, by simp only [hostEp_setMbFld], fun _ _ => rfl⟩

theorem MailboxOnly.of_regs (h : RegsOnly s t [hpMbctl i]) : MailboxOnly s t i := by
  refine ⟨?_, ?_, fun a ha => h.regs a (by simpa using ha)⟩
  · rw [h.rest]
  · rw [h.rest]
    rfl

theorem MailboxOnly.setFld (s : State) (i : Fin 4) {f : Fld} (v : Nat) (hf : Fld.low f) : MailboxOnly s (s.setFld (hpMbctl i) f v) i :=
  .of_regs (.setFld s v hf (by simp))

/-- The mailbox leaves the queue of commands as it found it. -/
theorem MailboxOnly.after (h : MailboxOnly s t i) : s.after t = t := by
  rw [h.rest]
  rfl

/-- A field of a register other than HP_MBCTL reads as before. -/
theorem MailboxOnly.fld (h : MailboxOnly s t i) {a : Nat} {f : Fld} (hf : Fld.low f) (ha : a ≠ hpMbctl i) : t.fld a f = s.fld a f := by
  rw [State.fld_low _ _ hf, State.fld_low _ _ hf, h.regs a ha]

/-- The MSI-X tables of the endpoint are not the mailbox's. -/
theorem MailboxOnly.table (h : MailboxOnly s t i) : (t.hostEp i).table = (s.hostEp i).table := by
  rw [h.ep]

theorem hpMbctl_apart (i : Fin 4) : hpStatus i ≠ hpMbctl i ∧ hpCtl i ≠ hpMbctl i := by
  simp only [hpStatus, hpCtl, hpMbctl, HP_STATUS, HP_CTL, HP_MBCTL]
  omega

/-- The endpoint sends its messages as before. -/
theorem MailboxOnly.mayMessage (h : MailboxOnly s t i) {f v : Nat} (hs : s.mayMessage i f v) : t.mayMessage i f v := by
  obtain ⟨hup, hrest⟩ := hs
  refine ⟨?_, ?_⟩
  · rw [State.epUp] at hup ⊢
    rwa [h.fld (by decide) (hpMbctl_apart i).1]
  · rw [h.ep]
    exact hrest

end

/-! ### GO and ABORT (R432) -/

/-- GO of a request for firmware: LEN, DEST and BUSY in MB_HCTL, DONE clear, and PEND in HP_MBCTL. -/
theorem mailboxGo_firmware {s : State} (i : Fin 4) {n : Nat} (hn : n < 2 ^ 9) (hbusy : s.mbBusy i = false) (hup : s.epUp i = true) :
    MailboxOnly s (s.mailboxGo i true n) i ∧ (s.mailboxGo i true n).mbFld i MB_HCTL.LEN = n ∧
      (s.mailboxGo i true n).mbFld i MB_HCTL.DEST = 1 ∧ (s.mailboxGo i true n).mbFld i MB_HCTL.BUSY = 1 ∧
      (s.mailboxGo i true n).mbFld i MB_HCTL.DONE = 0 ∧ (s.mailboxGo i true n).flag (hpMbctl i) HP_MBCTL.PEND = true := by
  have heq : s.mailboxGo i true n = ((((s.setMbFld i MB_HCTL.LEN n).setMbFld i MB_HCTL.DEST 1).setMbFld i MB_HCTL.BUSY 1).setMbFld i
      MB_HCTL.DONE 0).setFld (hpMbctl i) HP_MBCTL.PEND 1 := by
    simp [State.mailboxGo, hbusy, hup, bit01]
  rw [heq]
  refine ⟨((((MailboxOnly.setMbFld s i _ _).trans (.setMbFld _ i _ _)).trans (.setMbFld _ i _ _)).trans (.setMbFld _ i _ _)).trans
    (.setFld _ i 1 (by decide)), ?_, ?_, ?_, ?_, ?_⟩
  · rw [mbFld_setFld, mbFld_setMbFld_ne _ _ _ (by decide) (by decide), mbFld_setMbFld_ne _ _ _ (by decide) (by decide),
      mbFld_setMbFld_ne _ _ _ (by decide) (by decide), mbFld_setMbFld_self _ _ _ (by decide)]
    exact Nat.mod_eq_of_lt hn
  · rw [mbFld_setFld, mbFld_setMbFld_ne _ _ _ (by decide) (by decide), mbFld_setMbFld_ne _ _ _ (by decide) (by decide),
      mbFld_setMbFld_self _ _ _ (by decide)]
    rfl
  · rw [mbFld_setFld, mbFld_setMbFld_ne _ _ _ (by decide) (by decide), mbFld_setMbFld_self _ _ _ (by decide)]
    rfl
  · rw [mbFld_setFld, mbFld_setMbFld_self _ _ _ (by decide)]
    rfl
  · rw [State.flag, State.fld_setFld_self]
    rfl

theorem mbAbort_idle (s : State) (i : Fin 4) : MailboxOnly s (s.mbAbort i) i ∧ (s.mbAbort i).mbBusy i = false ∧
    (s.mbAbort i).flag (hpMbctl i) HP_MBCTL.PEND = false := by
  unfold State.mbAbort
  refine ⟨(MailboxOnly.setMbFld s i _ _).trans (.setFld _ i 0 (by decide)), ?_, ?_⟩
  · rw [State.mbBusy, mbFld_setFld, mbFld_setMbFld_self _ _ _ (by decide)]
    rfl
  · rw [State.flag, State.fld_setFld_self]
    rfl

/-! ### A word written by its access types (R613) -/

theorem testBit_bitsOut (v : Nat) {mask b : Nat} (hb : b < 32) : (bitsOut v mask).testBit b = (v.testBit b && !mask.testBit b) := by
  have hcut : 0xFFFFFFFF - mask % 2 ^ 32 = 2 ^ 32 - (mask % 2 ^ 32 + 1) := by omega
  rw [bitsOut, Nat.testBit_and, hcut, Nat.testBit_two_pow_sub_succ (Nat.mod_lt _ (by decide)), Nat.testBit_mod_two_pow]
  simp [hb]

/-- R613: where no reserved bit is written, each bit of the word is set, cleared, stored or kept by its access type. -/
theorem wordWrite_regs (s : State) {a v : Nat} {r : RegDesc} {i j w : Nat} (hfind : regFind a = some (r, i, j, w))
    (hrsv : bitsIn v (r.mask w).rsv = 0) :
    RegsOnly s (s.wordWrite a v) [a] ∧ ∀ b < 32, ((s.wordWrite a v).reg a).toNat.testBit b =
      (((s.reg a).toNat.testBit b && !((r.mask w).rw ||| (if s.locked r i j then 0 else (r.mask w).rwl)).testBit b
        || v.testBit b && ((r.mask w).rw ||| (if s.locked r i j then 0 else (r.mask w).rwl)).testBit b)
          && !(v.testBit b && (r.mask w).w1c.testBit b) || v.testBit b && (r.mask w).w1s.testBit b) := by
  unfold State.wordWrite
  simp only [hfind, hrsv, ne_eq, not_true_eq_false, if_false]
  refine ⟨⟨fun x hx => ?_, rfl⟩, fun b hb => ?_⟩
  · rw [State.reg_setReg, if_neg (by simpa using hx)]
  · rw [State.reg_setReg, if_pos rfl, BitVec.toNat_ofNat, Nat.testBit_mod_two_pow, Nat.testBit_or, testBit_bitsOut _ hb,
      Nat.testBit_or, testBit_bitsOut _ hb]
    simp only [bitsIn, Nat.testBit_and, hb, decide_true, Bool.true_and]

/-- Fields agree where their bits do. -/
theorem bitsOf_eq_of_testBit {x y lo len : Nat} (h : ∀ b, lo ≤ b → b < lo + len → x.testBit b = y.testBit b) :
    bitsOf x lo len = bitsOf y lo len := by
  refine Nat.eq_of_testBit_eq fun k => ?_
  simp only [bitsOf, Nat.testBit_mod_two_pow, Nat.testBit_div_two_pow]
  by_cases hk : k < len
  · rw [Nat.add_comm, h (lo + k) (by omega) (by omega)]
  · simp [hk]


/-! ### HP_MBCTL (R433, Table 13-12) -/

/-- HP_MBCTL: IE and RLEN are stored, WORLD and OVEN too unless the lock is set, ANSWER is set by one, and PEND is shown. -/
def mbctlMask : WordMask := { rw := 0xFFA, rwl := 0xF000, w1c := 0, w1s := 4, rsv := 0 }

theorem regFind_mbctl (i : Fin 4) : ∃ r x y w, regFind (hpMbctl i) = some (r, x, y, w) ∧ r.mask w = mbctlMask := by
  have hmask : (regFind (hpMbctl i)).map (fun p => p.1.mask p.2.2.2) = some mbctlMask := by
    revert i
    decide +kernel
  obtain ⟨⟨r, x, y, w⟩, hfind, heq⟩ := Option.map_eq_some_iff.1 hmask
  exact ⟨r, x, y, w, hfind, heq⟩

/-- What HP_MBCTL stores of its bits up to RLEN does not depend on the lock. -/
theorem mbctl_stored : ∀ locked : Bool, ∀ b < 12,
    (mbctlMask.rw ||| (if locked then 0 else mbctlMask.rwl)).testBit b = mbctlMask.rw.testBit b := by
  decide

/-- A write of HP_MBCTL stores RLEN and leaves PEND. -/
theorem mbctl_written (s : State) (i : Fin 4) (v : Nat) :
    RegsOnly s (s.wordWrite (hpMbctl i) v) [hpMbctl i] ∧
      (s.wordWrite (hpMbctl i) v).fld (hpMbctl i) HP_MBCTL.PEND = s.fld (hpMbctl i) HP_MBCTL.PEND ∧
      (s.wordWrite (hpMbctl i) v).fld (hpMbctl i) HP_MBCTL.RLEN = bitsOf v 3 9 := by
  obtain ⟨r, x, y, w, hfind, hmask⟩ := regFind_mbctl i
  obtain ⟨honly, hbits⟩ := wordWrite_regs s (v := v) hfind (by rw [hmask]; exact Nat.and_zero v)
  rw [hmask] at hbits
  refine ⟨honly, ?_, ?_⟩
  · rw [State.fld_low _ _ (by decide), State.fld_low _ _ (by decide)]
    refine bitsOf_eq_of_testBit fun b _ hb => ?_
    obtain rfl : b = 0 := Nat.lt_one_iff.1 hb
    rw [hbits 0 (by decide), mbctl_stored _ 0 (by decide)]
    simp [mbctlMask]
  · rw [State.fld_low _ _ (by decide)]
    refine bitsOf_eq_of_testBit fun b hlo hb => ?_
    have hmasks : ∀ c < 12, 3 ≤ c → mbctlMask.rw.testBit c = true ∧ mbctlMask.w1s.testBit c = false := by decide
    have hc : b < 12 := hb
    rw [hbits b (by omega), mbctl_stored _ b hc, (hmasks b hc hlo).1, (hmasks b hc hlo).2]
    simp [mbctlMask]

/-! ### ANSWER (R433) -/

/-- ANSWER and RLEN of the word that MAILBOX_ANSWER writes. -/
theorem answer_fields (o : Nat) {n : Nat} (hn : n < 2 ^ 9) :
    bitAt (setBits o 2 10 (1 + 2 * n)) 2 = true ∧ bitsOf (setBits o 2 10 (1 + 2 * n)) 3 9 = n := by
  have hword := bitsOf_setBits o 2 10 (1 + 2 * n)
  simp only [bitsOf, bitAt, beq_iff_eq] at hword ⊢
  omega

/-- A request that waits for firmware, at an endpoint whose mailbox may send its message. -/
structure MailboxAsked (s : State) (i : Fin 4) : Prop where
  pend : s.flag (hpMbctl i) HP_MBCTL.PEND = true
  busy : s.mbBusy i = true
  may : s.mayMessage i 0 (s.fld (hpCtl i) HP_CTL.MB_VEC)
  clear : (s.hostEp i).tabNat 0 (s.fld (hpCtl i) HP_CTL.MB_VEC * 16 + 12) 1 % 2 = 0

/-- The mailbox after an answer of `n` bytes: RLEN and DONE in MB_HCTL, BUSY and PEND clear. -/
structure MailboxAnswered (s t : State) (i : Fin 4) (n : Nat) : Prop where
  only : MailboxOnly s t i
  rlen : t.mbFld i MB_HCTL.RLEN = n
  done : t.mbFld i MB_HCTL.DONE = 1
  idle : t.mbBusy i = false
  pend : t.flag (hpMbctl i) HP_MBCTL.PEND = false

/-- The state in which the endpoint has sent the mailbox's message of state `s`. -/
def State.mailboxSent (s : State) (i : Fin 4) (t : State) : State := { t with hp := { t.hp with
  out := t.hp.out ++ [(s.hostEp i).message i 0 (s.fld (hpCtl i) HP_CTL.MB_VEC)] } }

/-- What firmware's answer leaves before its message. -/
def State.mbAnswered (s : State) (i : Nat) : State :=
  (((s.setFld (hpMbctl i) HP_MBCTL.PEND 0).setMbFld i MB_HCTL.RLEN (s.fld (hpMbctl i) HP_MBCTL.RLEN)).setMbFld i
    MB_HCTL.DONE 1).setMbFld i MB_HCTL.BUSY 0

theorem mbAnswered_answered {s : State} (i : Fin 4) {n : Nat} (hn : n < 2 ^ 9) (hlen : s.fld (hpMbctl i) HP_MBCTL.RLEN = n) :
    MailboxAnswered s (s.mbAnswered i) i n where
  only := (((MailboxOnly.setFld s i 0 (by decide)).trans (.setMbFld _ i _ _)).trans (.setMbFld _ i _ _)).trans (.setMbFld _ i _ _)
  rlen := by
    rw [State.mbAnswered, mbFld_setMbFld_ne _ _ _ (by decide) (by decide), mbFld_setMbFld_ne _ _ _ (by decide) (by decide),
      mbFld_setMbFld_self _ _ _ (by decide), hlen]
    exact Nat.mod_eq_of_lt hn
  done := by
    rw [State.mbAnswered, mbFld_setMbFld_ne _ _ _ (by decide) (by decide), mbFld_setMbFld_self _ _ _ (by decide)]
    rfl
  idle := by
    rw [State.mbBusy, State.mbAnswered, mbFld_setMbFld_self _ _ _ (by decide)]
    rfl
  pend := by
    rw [State.flag, State.mbAnswered, fld_setMbFld, fld_setMbFld, fld_setMbFld, State.fld_setFld_self]
    rfl

/-- R432, R433: firmware's answer completes the request and sends the mailbox's message. -/
theorem mbFirmAnswer_sent {s : State} {i : Fin 4} {n : Nat} (h : MailboxAsked s i) (hn : n < 2 ^ 9)
    (hlen : s.fld (hpMbctl i) HP_MBCTL.RLEN = n) : s.mbFirmAnswer i = s.mailboxSent i (s.mbAnswered i) := by
  have honly := (mbAnswered_answered i hn hlen).only
  have hvec : (s.mbAnswered i).fld (hpCtl i) HP_CTL.MB_VEC = s.fld (hpCtl i) HP_CTL.MB_VEC :=
    honly.fld (by decide) (hpMbctl_apart i).2
  have hbusy : (s.setFld (hpMbctl i) HP_MBCTL.PEND 0).mbBusy i = true := by
    rw [State.mbBusy, mbFld_setFld]
    exact h.busy
  have hmsix : s.mbFirmAnswer i = (s.mbAnswered i).msix i 0 (s.fld (hpCtl i) HP_CTL.MB_VEC) := by
    rw [State.mbFirmAnswer, if_pos h.pend, State.mbDone, hbusy, ← hvec]
    rfl
  have hclear := (congrArg (· % 2) (tabNat_congr honly.table 0 (s.fld (hpCtl i) HP_CTL.MB_VEC * 16 + 12) 1)).trans h.clear
  rw [hmsix, msix_sent (honly.mayMessage h.may) hclear, message_congr honly.table]
  rfl

/-- HP_MBCTL as it stores what is written, with ANSWER acting. -/
def State.mbctlStored (s : State) (i v : Nat) : State := (s.wordWrite (hpMbctl i) v).setFld (hpMbctl i) HP_MBCTL.ANSWER 0

section
variable {s : State} {i : Fin 4} (v : Nat)

theorem mbctlStored_only : MailboxOnly s (s.mbctlStored i v) i :=
  (MailboxOnly.of_regs (mbctl_written s i v).1).trans (.setFld _ i 0 (by decide))

theorem mbctlStored_rlen : (s.mbctlStored i v).fld (hpMbctl i) HP_MBCTL.RLEN = bitsOf v 3 9 := by
  rw [State.mbctlStored, State.fld_setFld_low _ _ _ (by decide) (by decide), bitsOf_setBits_above _ _ _ _ _ _ (by decide),
    ← State.fld_low _ _ (by decide), (mbctl_written s i v).2.2]

theorem mbctlStored_pend : (s.mbctlStored i v).fld (hpMbctl i) HP_MBCTL.PEND = s.fld (hpMbctl i) HP_MBCTL.PEND := by
  rw [State.mbctlStored, State.fld_setFld_low _ _ _ (by decide) (by decide), bitsOf_setBits_below _ _ _ _ _ _ (by decide),
    ← State.fld_low _ _ (by decide), (mbctl_written s i v).2.1]

theorem mbctlStored_hostEp : (s.mbctlStored i v).hostEp i = s.hostEp i := by
  rw [State.hostEp, State.mbctlStored, State.setFld_hp, (mbctl_written s i v).1.rest]
  rfl

theorem mbctlStored_vec : (s.mbctlStored i v).fld (hpCtl i) HP_CTL.MB_VEC = s.fld (hpCtl i) HP_CTL.MB_VEC :=
  (mbctlStored_only v).fld (by decide) (hpMbctl_apart i).2

theorem mbctlStored_asked (h : MailboxAsked s i) : MailboxAsked (s.mbctlStored i v) i where
  pend := by
    rw [State.flag, mbctlStored_pend]
    exact h.pend
  busy := by
    rw [State.mbBusy, State.mbFld, mbctlStored_hostEp]
    exact h.busy
  may := by
    rw [mbctlStored_vec]
    exact (mbctlStored_only v).mayMessage h.may
  clear := by
    rw [mbctlStored_vec, mbctlStored_hostEp]
    exact h.clear

end

/-- ANSWER written with RLEN: HP_MBCTL as it stores them, and then the answer. -/
theorem mbctlWrite_answer {s : State} {i : Fin 4} (o : Nat) {n : Nat} (hn : n < 2 ^ 9) (h : MailboxAsked s i) :
    ∃ u, MailboxAnswered s u i n ∧ s.mbctlWrite i (setBits o 2 10 (1 + 2 * n)) = s.mailboxSent i u := by
  obtain ⟨hanswer, hrlen⟩ := answer_fields o hn
  have hlen := (mbctlStored_rlen (s := s) (i := i) (setBits o 2 10 (1 + 2 * n))).trans hrlen
  have hdone := mbAnswered_answered i hn hlen
  have hsent := mbFirmAnswer_sent (mbctlStored_asked _ h) hn hlen
  rw [State.mailboxSent, mbctlStored_vec, mbctlStored_hostEp] at hsent
  refine ⟨_, ⟨(mbctlStored_only _).trans hdone.only, hdone.rlen, hdone.done, hdone.idle, hdone.pend⟩, ?_⟩
  rw [State.mbctlWrite, if_pos hanswer]
  exact hsent

/-! ### HP_MBCTL in the control space -/

theorem hpMbctl_place (i : Fin 4) : 0xB00000 ≤ hpMbctl i ∧ hpMbctl i < 0xC00000 ∧ hpEpOf (hpMbctl i) = i ∧ wideOf (hpMbctl i) = none := by
  revert i
  decide +kernel

/-- R438: a write of HP_MBCTL from Secure supervisor level is taken by its block. -/
theorem ctlPut_mbctl (s : State) (i : Fin 4) {m : Master} (hm : m.secSup = true) {v : Nat} (hv : v < 2 ^ 32) :
    s.ctlPut m none (hpMbctl i) 4 v = (s.mbctlWrite i v, none) := by
  obtain ⟨hlo, hhi, hep, hwide⟩ := hpMbctl_place i
  have hblock : s.blockWrite m none (hpMbctl i) 4 v = s.hpRegWrite m none (hpMbctl i) 4 v := by
    simp (disch := omega) only [State.blockWrite, if_neg, if_pos]
  have hput : s.ctlPut m none (hpMbctl i) 4 v = s.blockWrite m none (hpMbctl i) 4 v := by
    unfold State.ctlPut
    rw [if_neg (by omega), if_neg (by omega), hwide]
  have hword : v % 4294967296 = v := Nat.mod_eq_of_lt hv
  rw [hput, hblock]
  simp [State.hpRegWrite, hm, State.hpWord, hep, hword]

theorem storedBits_lt (s : State) (a : Nat) : s.storedBits a < 2 ^ 32 := by
  unfold State.storedBits
  split
  · decide
  · exact Nat.lt_of_le_of_lt Nat.and_le_left (State.regNat_lt s a 1)

end Sys2Proof.Machine
end

section
namespace Sys2Proof.Proofs
open Sys2Proof Sys2Proof.Machine

/-- Settles O46: the window by `hostMem_write` and `hostMem_read`, the message by `msixUnmask_sent`, the mailbox by what GO, ABORT
and ANSWER leave in MB_HCTL and HP_MBCTL. -/
theorem hostPortsServe : Obligations.HostPortsServe := by
  unfold Obligations.HostPortsServe
  intro s i f who
  refine ⟨?write, ?read, ?unmask, ?go, ?abort, ?answer⟩
  case write =>
    intro off d a hd ⟨hup, hex, hon, hfree, hholdup, hbrum⟩ hwin hok hend hclean
    obtain ⟨t, hserve, hrest, hbytes, hcls⟩ := hostMem_write ⟨hholdup, hbrum⟩ hwin hend hok hclean rfl rfl rfl
    refine ⟨t, ?_, hrest, hbytes, hcls⟩
    show (if hostDataOk d then Host.Outcome.next (s.after (s.hostRequest _)) else _) = _
    rw [if_pos hd]
    exact congrArg Host.Outcome.next (after_hostRequest_window hserve (by rw [hrest]) rfl hup hex hon hfree)
  case read =>
    intro off n a hpos hmax ⟨hup, hex, hon, hfree, hholdup, hbrum⟩ hwin hok hend hclean
    obtain ⟨t, hserve, hrest, hbytes⟩ := hostMem_read ⟨hholdup, hbrum⟩ hwin hend hok hclean rfl
    refine ⟨t, ?_, hrest, hbytes⟩
    show (if decide (0 < n.toNat) && decide (n.toNat ≤ 4096) then Host.Outcome.next (s.after (s.hostRequest _)) else _) = _
    rw [if_pos (by simp [hpos, hmax])]
    exact congrArg Host.Outcome.next (after_hostRequest_window hserve (by rw [hrest]) rfl hup hex hon hfree)
  case unmask =>
    intro v hpend hsends
    refine ⟨_, congrArg (fun u => Host.Outcome.next (s.after u)) (msixUnmask_sent i hsends hpend), rfl, rfl, fun k hk => ?_, ?_,
      fun g o ho => ?_⟩
    · exact hostEp_setHostEp_ne s i _ hk
    · exact congrArg HostEp.pend (hostEp_setHostEp s i _)
    · refine (congrArg (fun e => HostEp.tab e g o) (hostEp_setHostEp s i _)).trans ?_
      refine (tab_setTab_inside _ _ _ g (by omega) ho).trans ?_
      split
      case isTrue h => obtain ⟨rfl, rfl⟩ := h; rfl
      case isFalse h => rfl
  case go =>
    intro n hbusy hup
    obtain ⟨honly, hlen, hdest, hbusy', hdone, hpend⟩ := mailboxGo_firmware i n.isLt hbusy hup
    exact ⟨_, congrArg Host.Outcome.next honly.after, honly.rest, honly.ep, hlen, hdest, hbusy', hdone, hpend, honly.regs⟩
  case abort =>
    obtain ⟨honly, hidle, hpend⟩ := mbAbort_idle s i
    exact ⟨_, congrArg Host.Outcome.next honly.after, honly.rest, honly.ep, hidle, hpend, honly.regs⟩
  case answer =>
    intro n hwho hgo hsup hpend hbusy v hsends hclear
    obtain ⟨u, hu, hwrite⟩ := mbctlWrite_answer (s.storedBits (hpMbctl i)) n.isLt ⟨hpend, hbusy, hsends, hclear⟩
    have hput := ctlPut_mbctl s i hsup (setBits_lt _ 2 10 (1 + 2 * n.toNat) 32 (storedBits_lt s (hpMbctl i)) (by decide))
    rw [hwrite] at hput
    obtain ⟨g, -, hreg⟩ := regWrite_go s _ who _ 4 _ hgo hput
    refine ⟨{ s.mailboxSent i u with fab := g }, ?_, ?_, hu.rlen, hu.done, hu.idle, hu.pend, hu.only.regs⟩
    · show (if who.ok then Host.Outcome.next (s.after (s.fieldWrite who (hpMbctl i) (2, 10) (1 + 2 * n.toNat))) else _) = _
      rw [if_pos hwho, State.fieldWrite, hreg, State.mailboxSent, hu.only.rest]
      rfl
    · rw [State.mailboxSent, hu.only.rest]
      rfl

end Sys2Proof.Proofs
end

section
/-! A Loaf of one C operation that finishes after it: the causes that it can meet, and the state in which the operation has finished
(O21, O22). -/
namespace Sys2Proof.Machine

/-! ### Fields of words -/

theorem bitsOf_toNat {w : Nat} (v : BitVec w) (lo len : Nat) : bitsOf v.toNat lo len = (v.extractLsb' lo len).toNat := by
  rw [bitsOf, BitVec.extractLsb'_toNat, Nat.shiftRight_eq_div_pow]

/-- R237, R273, R276: a field of 17 bits as the address of the syllable that it numbers. -/
theorem syllableAddr_eq {w : Nat} (v : BitVec w) (lo : Nat) :
    BitVec.ofNat 19 (bitsOf v.toNat lo 17 * 4) = (v.extractLsb' lo 17).zeroExtend 19 <<< 2 := by
  rw [bitsOf_toNat]
  apply BitVec.eq_of_toNat_eq
  have hlt := (v.extractLsb' lo 17).isLt
  simp only [BitVec.toNat_ofNat, BitVec.toNat_shiftLeft, BitVec.zeroExtend, BitVec.toNat_setWidth, Nat.shiftLeft_eq]
  omega

/-! ### Causes (R268) -/

/-- R222: a legal C operation in good words of its world raises nothing at its fetch. -/
theorem LoafAt.last_fetch {s : State} {h : SylHdr} (hl : LoafAt s h) {y : Syl} (hy : y.last = true) (hb : y.bad = false) :
    s.fetchCause h.seq (s.seq h.seq).arch [y] false = none := by
  have hdests : y.dests (s.seq h.seq).arch.vd = [] := by
    revert hy
    cases y <;> simp [Syl.last, Syl.dests]
  refine fetchCause_ok s h.seq y ?_ hb (by simp [hdests])
  rw [Syl.size, (Syl.last_slot hy).1]
  exact hl.fetch

/-- With no vector fault to deliver, the causes of a C operation are its descriptor's, its privilege and its gate's. -/
theorem ownCause_last {s : State} {n : Fin 9} (a : Arch) {y : Syl} (hy : y.last = true) (hv : (s.seq n).vecPending = false) :
    (s.queued n y).ownCause n a [y] = (s.dataEcc n a [y]).or ((s.loafPriv n a [y]).or (s.gateCause n a [y])) := by
  have hpend : ((s.queued n y).seq n).vecPending = false := by
    rw [State.queued, State.seq_setSeq_self]
    exact hv
  have hvec : (s.queued n y).vecCause n a [y] = none := by simp [State.vecCause, hpend]
  have hrest : (s.queued n y).recipeCause n [y] = none ∧ stackCause a [y] = none ∧ (s.queued n y).segCause n a [y] = none ∧
      divCause a [y] = none := by
    have hslot := (Syl.last_slot hy).1
    simp only [State.recipeCause, stackCause, State.segCause, divCause, slotOf_single, hslot]
    revert hy
    cases y <;> simp [Syl.last]
  obtain ⟨hrecipe, hstack, hseg, hdiv⟩ := hrest
  rw [State.ownCause, hvec, hrecipe, hstack, hseg, hdiv]
  simp only [Option.none_or]
  rfl

/-- A C operation other than a gate has no descriptor to fault. -/
theorem ownCause_last_plain {s : State} {n : Fin 9} (a : Arch) {y : Syl} (hy : y.last = true) (hg : ∀ r c, y ≠ .gate r c)
    (hv : (s.seq n).vecPending = false) : (s.queued n y).ownCause n a [y] = s.loafPriv n a [y] := by
  have hnone : s.dataEcc n a [y] = none ∧ s.gateCause n a [y] = none := by
    simp only [State.dataEcc, State.gateCause, slotOf_single, (Syl.last_slot hy).1]
    revert hy
    cases y with
    | gate r c => exact absurd rfl (hg r c)
    | _ => simp [Syl.last]
  obtain ⟨hecc, hgate⟩ := hnone
  rw [ownCause_last a hy hv, hecc, hgate, Option.none_or, Option.or_none]

/-! ### The operation finishes -/

/-- The Loaf of the C operation has retired, and the operation is open. -/
def State.tailOpen (s : State) (n : Fin 9) (y : Syl) : State :=
  (s.setSeq n ((s.seq n).opened (s.tailOf n (s.seq n).arch y))).loafCount n 1

@[simp] theorem State.seq_tailOpen (s : State) (n : Fin 9) (y : Syl) :
    (s.tailOpen n y).seq n = (s.seq n).opened (s.tailOf n (s.seq n).arch y) := by
  simp [State.tailOpen]

/-- A sequencer changed while the operation is open is one changed at the count of the Loaf. -/
theorem State.setSeq_tailOpen (s : State) (n : Fin 9) (y : Syl) (q : Seq) :
    (s.tailOpen n y).setSeq n q = (s.setSeq n q).loafCount n 1 := by
  rw [State.tailOpen, setSeq_loafCount, State.setSeq_setSeq]

section
variable {s : State} {n : Fin 9} {y : Syl} (hr : SeqReady s n)
include hr

/-- Nothing is open or fetched at a sequencer that stands ready, so an entry discards nothing. -/
theorem SeqReady.flush_eq (a : Arch) (g : Bool) :
    ({ (s.seq n).flush with arch := a, gateEntered := g } : Seq) = { s.seq n with arch := a, gateEntered := g } := by
  simp only [Seq.flush, ← hr.asm, ← hr.waiting, ← hr.delayOf, ← hr.div, ← hr.tail]

variable (hy : y.last = true) (hf : s.fetchCause n (s.seq n).arch [y] false = none)
  (ho : (s.queued n y).ownCause n (s.seq n).arch [y] = none)
  (hh : (s.changesWorld n (s.seq n).arch [y] && !(s.seq n).quiet) = false)
include hy hf ho hh

/-- The command ends where its operation ends, with nothing left for the sequencer to go on with. -/
theorem syllable_finished {u : State} (h : (s.tailOpen n y).runTail n (s.tailOf n (s.seq n).arch y) = some u) (hu : SeqIdle u n) :
    s.syllable n y true = u := by
  rw [syllable_last s n y hr hy hf ho hh]
  refine pumpN_tail 4 _ u u n (s.tailOf n (s.seq n).arch y) ?_ ?_ ?_ h ?_ rfl
  · rw [seqRuns_loafCount, seqRuns_setSeq]
    exact hr.runs
  · simpa [Seq.opened] using hr.spec
  · simp [Seq.opened]
  · exact pumpOne_idle u n hu.waiting hu.tail (failTake_nil u n hu.spec)

/-- An operation that continues elsewhere leaves the registers it gives, and its Loaf has retired. -/
theorem syllable_moves {a : Arch} {g : Bool} (h : (s.tailOpen n y).runTail n (s.tailOf n (s.seq n).arch y)
      = some ((s.tailOpen n y).setSeq n { ((s.tailOpen n y).seq n).flush with arch := a, gateEntered := g })) :
    Retired s (s.syllable n y true) n { s.seq n with arch := a, gateEntered := g } := by
  have hq : ({ ((s.tailOpen n y).seq n).flush with arch := a, gateEntered := g } : Seq)
      = { s.seq n with arch := a, gateEntered := g } := by
    rw [State.seq_tailOpen, ← hr.flush_eq]
    rfl
  rw [hq, State.setSeq_tailOpen] at h
  rw [syllable_finished hr hy hf ho hh h ⟨by simpa using hr.waiting, by simpa using hr.tail, by simpa using hr.spec⟩]
  exact retired_count s n 0 _

/-- An operation that traps takes its event at the next Loaf, with the Loaf of its own retired. -/
theorem syllable_traps {e : Exc} (hc : e.code ≠ exVector) (hmay : s.mayTake n)
    (h : (s.tailOpen n y).runTail n (s.tailOf n (s.seq n).arch y) =
      (s.tailOpen n y).deliver n e false (s.seq n).arch.world ((s.seq n).arch.pc + 4)) :
    ∃ u, Retired s u n (s.seq n).past ∧
      TakesException u (s.syllable n y true) n (s.seq n).arch.world e.code e.sub e.eaddr ((s.seq n).arch.pc + 4) := by
  obtain ⟨hdf, heip⟩ := hmay
  have hret := retired_count s n 0 (s.seq n).past
  generalize hu : (({ s with freeCtr := s.freeCtr + 0 } : State).setSeq n (s.seq n).past).loafCount n 1 = u at hret
  have hent : (s.tailOpen n y).entered n e (s.seq n).arch.world ((s.seq n).arch.pc + 4)
      = u.entered n e (s.seq n).arch.world ((s.seq n).arch.pc + 4) := by
    rw [State.entered, State.setSeq_tailOpen, State.entered, hret.own, ← hu, setSeq_loafCount, State.setSeq_setSeq, State.seq_tailOpen]
    rfl
  have harch : ((s.tailOpen n y).seq n).arch = (s.seq n).past.arch := by rw [State.seq_tailOpen]; rfl
  have hdel := deliver_same (s.tailOpen n y) n e ((s.seq n).arch.pc + 4) hc (by rw [harch]; exact hdf) (by rw [harch]; exact heip)
  rw [show ((s.tailOpen n y).seq n).arch.world = (s.seq n).arch.world by rw [harch]; rfl, hent] at hdel
  have hidle : SeqIdle (u.entered n e (s.seq n).arch.world ((s.seq n).arch.pc + 4)) n := by
    constructor <;> simp [State.entered, Seq.flush, hret.own, Seq.past, hr.spec]
  refine ⟨u, hret, ?_⟩
  rw [syllable_finished hr hy hf ho hh (h.trans hdel) hidle]
  have htake := entered_takes u n e ((s.seq n).arch.pc + 4)
  rwa [show (u.seq n).arch.world = (s.seq n).arch.world by rw [hret.own]; rfl] at htake

end

/-! ### Each operation (R245, R266, R273, R278) -/

section
variable {s : State} {n : Fin 9} {t : Tail} (hs : (s.seq n).spec = [])
include hs

theorem runTail_syscall {r : Bool} {c : BitVec 16} (h : t.op = .syscall r c) :
    s.runTail n t = s.deliver n (exc exSyscall c.toNat) false (s.seq n).arch.world (s.seq n).arch.pc := by
  simp [State.runTail, hs, h]

theorem runTail_brk {r : Bool} {c : BitVec 16} (h : t.op = .brk r c) :
    s.runTail n t = s.deliver n (exc exBreak c.toNat) false (s.seq n).arch.world (s.seq n).arch.pc := by
  simp [State.runTail, hs, h]

/-- R245: IFLUSH continues once the stores before it are performed. -/
theorem runTail_iflush {r an : Bool} {d : BitVec 23} (h : t.op = .iflush r an d) (hsb : (s.seq n).sb = []) :
    s.runTail n t = some (s.setSeq n { (s.seq n).flush with
      arch := { (s.seq n).arch with pc := directTarget t.pre.pc d.toInt }
      gateEntered := false }) := by
  simp [State.runTail, hs, h, hsb, Seq.flush]

variable (hv : (s.seq n).vecPending = false)
include hv

/-- R270, R273: RFE goes back, once nothing is left in the world it leaves. -/
theorem runTail_rfe {r : Bool} {c : BitVec 16} (h : t.op = .rfe r c)
    (hq : (t.pre.rfeWorld != (s.seq n).arch.world && !(s.seq n).quiet) = false) :
    s.runTail n t = some (s.setSeq n { (s.seq n).flush with arch := (s.seq n).arch.rfe t.pre, gateEntered := false }) := by
  simp only [State.runTail, hs, h, hq, hv]
  simp [Seq.flush]

/-- R270, R278: a gate is entered, once nothing is left in the world that it leaves. -/
theorem runTail_gate {r : Bool} {c : BitVec 16} (h : t.op = .gate r c) (hq : (t.cross && !(s.seq n).quiet) = false) :
    s.runTail n t = some (s.setSeq n { (s.seq n).flush with arch := (s.seq n).arch.gate t.desc t.cross, gateEntered := true }) := by
  simp only [State.runTail, hs, h, hq, hv]
  simp [Seq.flush]

end

end Sys2Proof.Machine
end

section
/-! SYSCALL, BREAK, IFLUSH and RFE, each alone in its Loaf (O21). -/
namespace Sys2Proof.Machine

/-- An exception taken where a Loaf has retired leaves the queue of commands as it was before the Loaf. -/
theorem TakesException.after_retired {s u t : State} {n : Fin 9} {q : Seq} {w : Bool} {cause sub eaddr : Nat} {ret : BitVec 19}
    (h : TakesException u t n w cause sub eaddr ret) (hret : Retired s u n q) : s.after t = t := by
  rw [h.rest, hret.rest]
  rfl

/-- R273: the privilege that RFE needs. -/
theorem loafPriv_rfe (s : State) (n : Fin 9) (a : Arch) (r : Bool) (c : BitVec 16) :
    s.loafPriv n a [.rfe r c] = if a.sup = false ∨ (a.world = false ∧ a.rfeWorld = true) then some (exc exPrivilege 4) else none := by
  simp only [State.loafPriv, List.findSome?_cons, List.findSome?_nil]
  cases a.sup <;> cases a.world <;> cases a.rfeWorld <;> rfl

theorem changesWorld_rfe (s : State) (n : Fin 9) (a : Arch) (r : Bool) (c : BitVec 16) :
    s.changesWorld n a [.rfe r c] = (a.rfeWorld != a.world) := by
  simp [State.changesWorld]

section
variable {s : State} {h : SylHdr} (hl : LoafAt s h)
include hl

/-- R266, R268: an operation that only traps takes its cause at the next Loaf. -/
theorem LoafAt.traps {y : Syl} {e : Exc} (hy : y.last = true) (hb : y.bad = false) (hg : ∀ r c, y ≠ .gate r c)
    (hp : s.loafPriv h.seq (s.seq h.seq).arch [y] = none) (hw : s.changesWorld h.seq (s.seq h.seq).arch [y] = false)
    (hc : e.code ≠ exVector) (hmay : s.mayTake h.seq)
    (hrun : (s.tailOpen h.seq y).runTail h.seq (s.tailOf h.seq (s.seq h.seq).arch y) =
      (s.tailOpen h.seq y).deliver h.seq e false ((s.tailOpen h.seq y).seq h.seq).arch.world ((s.tailOpen h.seq y).seq h.seq).arch.pc) :
    ∃ u, Retired s u h.seq (s.seq h.seq).past ∧
      TakesException u (s.syllable h.seq y true) h.seq (s.seq h.seq).arch.world e.code e.sub e.eaddr ((s.seq h.seq).arch.pc + 4) := by
  refine syllable_traps hl.ready hy (hl.last_fetch hy hb) ((ownCause_last_plain _ hy hg hl.ready.vec).trans hp) (by simp [hw]) hc
    hmay (hrun.trans ?_)
  rw [State.seq_tailOpen]
  rfl

/-- R266: SYSCALL takes its cause with its code. -/
theorem LoafAt.syscall_traps (c : BitVec 16) (hmay : s.mayTake h.seq) :
    ∃ u, Retired s u h.seq (s.seq h.seq).past ∧
      TakesException u (s.syllable h.seq (.syscall h.rsv c) true) h.seq (s.seq h.seq).arch.world exSyscall c.toNat 0
        ((s.seq h.seq).arch.pc + 4) :=
  hl.traps (e := exc exSyscall c.toNat) rfl hl.rsv (by simp) rfl rfl (by decide : exSyscall ≠ exVector) hmay
    (runTail_syscall (by simpa [Seq.opened] using hl.ready.spec) rfl)

/-- R266: BREAK takes its cause with its code. -/
theorem LoafAt.brk_traps (c : BitVec 16) (hmay : s.mayTake h.seq) :
    ∃ u, Retired s u h.seq (s.seq h.seq).past ∧
      TakesException u (s.syllable h.seq (.brk h.rsv c) true) h.seq (s.seq h.seq).arch.world exBreak c.toNat 0
        ((s.seq h.seq).arch.pc + 4) :=
  hl.traps (e := exc exBreak c.toNat) rfl hl.rsv (by simp) rfl rfl (by decide : exBreak ≠ exVector) hmay
    (runTail_brk (by simpa [Seq.opened] using hl.ready.spec) rfl)

/-- R245: IFLUSH, with every store performed, continues at its target. -/
theorem LoafAt.iflush_retired (d : BitVec 23) (hsb : (s.seq h.seq).sb = []) :
    Retired s (s.syllable h.seq (.iflush h.rsv false d) true) h.seq { s.seq h.seq with
      arch := { (s.seq h.seq).arch with pc := directTarget (s.seq h.seq).arch.pc d.toInt }
      gateEntered := false } := by
  refine syllable_moves hl.ready rfl (hl.last_fetch rfl (by simp [Syl.bad, hl.rsv]))
    (ownCause_last_plain _ rfl (by simp) hl.ready.vec) rfl ?_
  rw [runTail_iflush (by simpa [Seq.opened] using hl.ready.spec) rfl (by simpa [Seq.opened] using hsb), State.seq_tailOpen]
  rfl

theorem LoafAt.rfe_fetch : s.fetchCause h.seq (s.seq h.seq).arch [.rfe h.rsv 0] false = none :=
  hl.last_fetch rfl (by simp [Syl.bad, hl.rsv])

theorem LoafAt.rfe_own : (s.queued h.seq (.rfe h.rsv 0)).ownCause h.seq (s.seq h.seq).arch [.rfe h.rsv 0] =
    s.loafPriv h.seq (s.seq h.seq).arch [.rfe h.rsv 0] :=
  ownCause_last_plain _ rfl (by simp) hl.ready.vec

/-- R273: RFE at supervisor level goes back to a world that it may enter, with nothing left in the one it leaves. -/
theorem LoafAt.rfe_retired (hsup : (s.seq h.seq).arch.sup = true)
    (hworld : (s.seq h.seq).arch.world = false → (s.seq h.seq).arch.rfeWorld = false)
    (hquiet : (s.seq h.seq).arch.rfeWorld = (s.seq h.seq).arch.world ∨ (s.seq h.seq).sb = []) :
    Retired s (s.syllable h.seq (.rfe h.rsv 0) true) h.seq { s.seq h.seq with
      arch := (s.seq h.seq).arch.rfe (s.seq h.seq).arch
      gateEntered := false } := by
  have hpriv : s.loafPriv h.seq (s.seq h.seq).arch [.rfe h.rsv 0] = none := by
    rw [loafPriv_rfe, if_neg]
    rintro (hlow | ⟨hgen, hsec⟩)
    · simp [hsup] at hlow
    · simp [hworld hgen] at hsec
  have hstay : ((s.seq h.seq).arch.rfeWorld != (s.seq h.seq).arch.world && !(s.seq h.seq).quiet) = false := by
    rcases hquiet with hsame | hsb
    · simp [hsame]
    · simp [Seq.quiet, hl.ready.outs, hsb]
  refine syllable_moves hl.ready rfl hl.rfe_fetch (hl.rfe_own.trans hpriv) (by rwa [changesWorld_rfe]) ?_
  rw [runTail_rfe (by simpa [Seq.opened] using hl.ready.spec) ?_ rfl ?_, State.seq_tailOpen]
  · rfl
  · rw [State.seq_tailOpen]
    exact hl.ready.vec
  · rw [State.seq_tailOpen]
    exact hstay

/-- R273, Table 8-2: RFE at user level, or into the Secure world from the General one, takes PRIVILEGE. -/
theorem LoafAt.rfe_privilege (hmay : s.mayTake h.seq)
    (hlow : (s.seq h.seq).arch.sup = false ∨ ((s.seq h.seq).arch.world = false ∧ (s.seq h.seq).arch.rfeWorld = true)) :
    TakesException s (s.syllable h.seq (.rfe h.rsv 0) true) h.seq (s.seq h.seq).arch.world exPrivilege 4 0
      (s.seq h.seq).arch.pc := by
  obtain ⟨hdf, heip⟩ := hmay
  have hpriv : s.loafPriv h.seq (s.seq h.seq).arch [.rfe h.rsv 0] = some (exc exPrivilege 4) := by rw [loafPriv_rfe, if_pos hlow]
  rw [syllable_cause s h.seq _ (exc exPrivilege 4) hl.ready (by decide) (by decide) hdf heip
    (.inr ⟨hl.rfe_fetch, hl.rfe_own.trans hpriv⟩)]
  exact entered_takes s h.seq (exc exPrivilege 4) _

end

/-- R273: where RFE returns to outside double-fault state. -/
theorem Arch.rfe_eq {a : Arch} (hd : a.dfault = false) : a.rfe a = { a with
    ssr := (a.ctx a.world).esr &&& 0xFF3F
    pc := ((a.ctx a.world).era.extractLsb' 2 17).zeroExtend 19 <<< 2 } := by
  simp [Arch.rfe, hd, indirectTarget, syllableAddr_eq]

/-- R273, R279: RFE in double-fault state restores from its registers and ends it. -/
theorem Arch.rfe_double {a : Arch} (hd : a.dfault = true) : a.rfe a = { a with
    ssr := a.dsr &&& 0xFF3F
    pc := (a.dra.extractLsb' 2 17).zeroExtend 19 <<< 2
    dfault := false } := by
  simp [Arch.rfe, hd, indirectTarget, syllableAddr_eq]

theorem Arch.rfeWorld_eq {a : Arch} (hd : a.dfault = false) : a.rfeWorld = (a.ctx a.world).esr.getLsbD 0 := by
  simp [Arch.rfeWorld, hd]

theorem Arch.rfeWorld_double {a : Arch} (hd : a.dfault = true) : a.rfeWorld = a.dsr.getLsbD 0 := by
  simp [Arch.rfeWorld, hd]

end Sys2Proof.Machine

namespace Sys2Proof.Proofs
open Sys2Proof Sys2Proof.Machine

/-- Settles O21: SYSCALL and BREAK by `syllable_traps`, IFLUSH and RFE by `syllable_moves`, RFE without the right by the cause
that it meets. -/
theorem trapsAndReturns : Obligations.TrapsAndReturns := by
  refine ⟨fun s h code hl hmay p hp => ?traps, fun s h disp hl => ⟨fun hsb => ?iflush, fun hsup hd hworld hquiet => ?rfe,
    fun hsup hd hworld hquiet => ?double, fun hmay hlow => ?privilege⟩⟩
  case traps =>
    simp only [List.mem_cons, List.not_mem_nil, or_false] at hp
    rcases hp with rfl | rfl
    · obtain ⟨u, hret, htake⟩ := hl.syscall_traps code hmay
      exact ⟨u, _, exec_stop rfl hl.stop (htake.after_retired hret), hret, htake⟩
    · obtain ⟨u, hret, htake⟩ := hl.brk_traps code hmay
      exact ⟨u, _, exec_stop rfl hl.stop (htake.after_retired hret), hret, htake⟩
  case iflush =>
    have hret := hl.iflush_retired disp hsb
    exact ⟨_, exec_stop rfl hl.stop hret.after, hret⟩
  case rfe =>
    rw [← Arch.rfeWorld_eq hd] at hworld hquiet
    have hret := hl.rfe_retired hsup hworld hquiet
    rw [Arch.rfe_eq hd] at hret
    exact ⟨_, exec_stop rfl hl.stop hret.after, hret⟩
  case double =>
    rw [← Arch.rfeWorld_double hd] at hworld hquiet
    have hret := hl.rfe_retired hsup hworld hquiet
    rw [Arch.rfe_double hd] at hret
    exact ⟨_, exec_stop rfl hl.stop hret.after, hret⟩
  case privilege =>
    rw [← Arch.rfeWorld_eq hmay.1] at hlow
    have htake := hl.rfe_privilege hmay hlow
    exact ⟨_, exec_stop rfl hl.stop htake.after, htake⟩

end Sys2Proof.Proofs
end

section
/-! GATE: the checks that it passes, and the registers that it enters with (O22). -/
namespace Sys2Proof.Machine

/-! ### The Loaf -/

theorem dataEcc_gate (s : State) (n : Fin 9) (a : Arch) (r : Bool) (c : BitVec 16) :
    s.dataEcc n a [.gate r c] = (s.gateEcc n a.world c.toNat).map (fun w => exc exProgEcc 1 w) := by
  simp only [State.dataEcc, List.findSome?_cons, List.findSome?_nil]
  cases s.gateEcc n a.world c.toNat <;> rfl

theorem gateCause_gate (s : State) (n : Fin 9) (a : Arch) (r : Bool) (c : BitVec 16) :
    s.gateCause n a [.gate r c] = s.gateFault n a c.toNat := by
  simp [State.gateCause, slotOf_single, Syl.slot]

/-- R277, R278: a gate whose checks pass is entered, with nothing left in the world that it leaves. -/
theorem LoafAt.gate_retired {s : State} {h : SylHdr} (hl : LoafAt s h) {code : BitVec 16} (hcode : code.toNat < 16)
    (hecc : s.gateEcc h.seq (s.seq h.seq).arch.world code.toNat = none)
    (hfault : s.gateFault h.seq (s.seq h.seq).arch code.toNat = none)
    (hsb : s.gateCross h.seq (s.seq h.seq).arch.world code.toNat = true → (s.seq h.seq).sb = []) :
    Retired s (s.syllable h.seq (.gate h.rsv code) true) h.seq { s.seq h.seq with
      arch := ({ (s.seq h.seq).arch with pc := (s.seq h.seq).arch.pc + 4 }).gate
        (s.gateFields h.seq (s.seq h.seq).arch.world code.toNat) (s.gateCross h.seq (s.seq h.seq).arch.world code.toNat)
      gateEntered := true } := by
  have hown : (s.queued h.seq (.gate h.rsv code)).ownCause h.seq (s.seq h.seq).arch [.gate h.rsv code] = none := by
    rw [ownCause_last _ rfl hl.ready.vec, dataEcc_gate, gateCause_gate, hecc, hfault]
    rfl
  have hstay : (s.gateCross h.seq (s.seq h.seq).arch.world code.toNat && !(s.seq h.seq).quiet) = false := by
    rw [Bool.and_eq_false_imp]
    intro hcross
    simp [Seq.quiet, hl.ready.outs, hsb hcross]
  have hchange : s.changesWorld h.seq (s.seq h.seq).arch [.gate h.rsv code] = s.gateCross h.seq (s.seq h.seq).arch.world code.toNat := by
    simp [State.changesWorld, hfault]
  refine syllable_moves hl.ready rfl (hl.last_fetch rfl (by simp [Syl.bad, hl.rsv, hcode])) hown (by rwa [hchange]) ?_
  rw [runTail_gate (by simpa [Seq.opened] using hl.ready.spec) ?_ rfl ?_, State.seq_tailOpen]
  · rfl
  · rw [State.seq_tailOpen]
    exact hl.ready.vec
  · rw [State.seq_tailOpen]
    exact hstay

/-! ### The registers (R278) -/

section
variable (a : Arch) (d : BitVec 128) (cross : Bool)

/-- R278: the world that a gate enters. -/
def Arch.gateDest : Bool := a.world || cross

theorem Arch.gate_ssr : (a.gate d cross).ssr = (a.ssr &&& ~~~(0xF : W32)) |||
    (BitVec.ofNat 32 (bit01 (a.gateDest cross) + 2 + 4 * bit01 (d.getLsbD 4) + 8 * bit01 (d.getLsbD 5)) &&& 0xF) :=
  ssrWith_eq _ _ _

/-- R278: the world, the level, IE and CT are new; EIP, RSM and CTXID are kept. -/
theorem Arch.gate_status : (a.gate d cross).world = a.gateDest cross ∧ (a.gate d cross).sup = true ∧
    (a.gate d cross).ie = d.getLsbD 4 ∧ (a.gate d cross).ct = d.getLsbD 5 ∧ (a.gate d cross).eip = a.eip ∧
    (a.gate d cross).rsm = a.rsm ∧ (a.gate d cross).ctxid = a.ctxid := by
  simp only [Arch.world, Arch.sup, Arch.ie, Arch.ct, Arch.eip, Arch.rsm, Arch.ctxid, bitsOf_toNat, Arch.gate_ssr]
  generalize a.gateDest cross = w
  generalize d.getLsbD 4 = ie
  generalize d.getLsbD 5 = ct
  have hhigh : ∀ v : W32, (((a.ssr &&& ~~~(0xF : W32)) ||| (v &&& 0xF)).extractLsb' 8 8) = a.ssr.extractLsb' 8 8 := by
    intro v
    ext i hi
    have hmask : (0xF : W32).getLsbD (8 + i) = false := by
      revert i
      decide
    have hlt : 8 + i < 32 := by omega
    simp only [BitVec.getElem_extractLsb', BitVec.getLsbD_or, BitVec.getLsbD_and, BitVec.getLsbD_not, hmask, hlt]
    simp
  rw [hhigh]
  cases w <;> cases ie <;> cases ct <;> simp [bit01]

theorem Arch.gate_pc : (a.gate d cross).pc = (d.extractLsb' 8 17).zeroExtend 19 <<< 2 := syllableAddr_eq d 8

/-- R278: ERA and ESR of the world entered; its other registers, and those of the other world, are kept. -/
theorem Arch.gate_ctx : (a.gate d cross).ctx (a.gateDest cross)
      = { a.ctx (a.gateDest cross) with era := a.pc.zeroExtend 64, esr := a.ssr } ∧
    (a.gate d cross).ctx (!a.gateDest cross) = a.ctx (!a.gateDest cross) := by
  unfold Arch.gate Arch.gateDest
  cases a.world || cross <;> cases gateBit d 6 <;> exact ⟨rfl, rfl⟩

/-- R278: the stack that the descriptor loads. -/
theorem Arch.gate_g : (a.gate d cross).g = if d.getLsbD 6 = true then
    (a.g.set 62 a.g[63]).set 63 (BitVec.ofNat 64 (d.extractLsb' 32 48).toNat) else a.g := by
  unfold Arch.gate gateBit
  rw [bitsOf_toNat]
  cases a.world || cross <;> cases d.getLsbD 6 <;> rfl

theorem Arch.gate_kept : (a.gate d cross).vd = a.vd ∧ (a.gate d cross).dra = a.dra ∧ (a.gate d cross).dsr = a.dsr ∧
    (a.gate d cross).dcause = a.dcause ∧ (a.gate d cross).dfault = a.dfault := by
  unfold Arch.gate
  cases a.world || cross <;> cases gateBit d 6 <;> and_intros <;> rfl

end

end Sys2Proof.Machine

namespace Sys2Proof.Proofs
open Sys2Proof Sys2Proof.Machine

/-- Settles O22: `LoafAt.gate_retired` for the Loaf, and the registers of `Arch.gate` part by part. -/
theorem gateEnters : Obligations.GateEnters := by
  intro s h code hl hcode q a w d cross dest hecc hfault hsb
  have hret := hl.gate_retired hcode hecc hfault hsb
  have harch : ((s.syllable h.seq (.gate h.rsv code) true).seq h.seq).arch = ({ a with pc := a.pc + 4 } : Arch).gate d cross := by
    rw [hret.own]
  refine ⟨_, exec_stop rfl hl.stop hret.after, by rw [harch]; exact hret, ?_⟩
  dsimp only
  rw [harch]
  obtain ⟨hworld, hsup, hie, hct, heip, hrsm, hctxid⟩ := Arch.gate_status { a with pc := a.pc + 4 } d cross
  obtain ⟨hin, hout⟩ := Arch.gate_ctx { a with pc := a.pc + 4 } d cross
  have hg := Arch.gate_g { a with pc := a.pc + 4 } d cross
  exact ⟨Arch.gate_pc _ d cross, hworld, hsup, hie, hct, heip, hrsm, hctxid, hin, hout, fun hkeep => by rw [hg, hkeep]; rfl,
    fun hload => by rw [hg, if_pos hload], Arch.gate_kept { a with pc := a.pc + 4 } d cross⟩

end Sys2Proof.Proofs
end

section
/-! Events of a Loaf boundary: interrupts, which may enter the other world, and late bus errors (O23). -/
namespace Sys2Proof.Machine

/-! ### The registers of an entry (R269) -/

section
variable (a : Arch) (w : Bool) (e : Exc) (ret : BitVec 19)

theorem Arch.enter_ssr : (a.enter w e ret).ssr = (a.ssr &&& ~~~(0x17 : W32)) ||| (BitVec.ofNat 32 (0x12 + bit01 w) &&& 0x17) :=
  ssrWith_eq _ _ _

/-- Of SSR, an entry writes WORLD, SUP, IE and EIP. -/
theorem Arch.enter_status : (a.enter w e ret).world = w ∧ (a.enter w e ret).sup = true ∧ (a.enter w e ret).ie = false ∧
    (a.enter w e ret).eip = true ∧ (a.enter w e ret).ssr &&& ~~~(0x17 : W32) = a.ssr &&& ~~~(0x17 : W32) := by
  have hkeep : ∀ x v m : W32, ((x &&& ~~~m) ||| (v &&& m)) &&& ~~~m = x &&& ~~~m := by
    intro x v m
    ext i hi
    simp only [BitVec.getElem_and, BitVec.getElem_or, BitVec.getElem_not]
    cases x[i] <;> cases v[i] <;> cases m[i] <;> rfl
  simp only [Arch.world, Arch.sup, Arch.ie, Arch.eip, Arch.enter_ssr, hkeep]
  cases w <;> simp [bit01]

/-- An entry saves in the registers of the world that it enters. -/
theorem Arch.enter_ctx : (a.enter w e ret).ctx w = { a.ctx w with
      era := ret.zeroExtend 64
      esr := a.ssr
      ecause := BitVec.ofNat 32 (e.code + 65536 * e.sub)
      eaddr := BitVec.ofNat 64 e.eaddr } ∧
    (a.enter w e ret).ctx (!w) = a.ctx (!w) := by
  rw [Nat.mul_comm 65536]
  cases w <;> exact ⟨rfl, rfl⟩

theorem Arch.enter_pc : (a.enter w e ret).pc = BitVec.ofNat 19 ((if w then 0x800 else 0) + 32 * e.code) := by
  rw [Nat.mul_comm 32]
  rfl

theorem Arch.enter_kept : ((a.enter w e ret).g = a.g ∧ (a.enter w e ret).vd = a.vd) ∧ (a.enter w e ret).dra = a.dra ∧
    (a.enter w e ret).dsr = a.dsr ∧ (a.enter w e ret).dcause = a.dcause ∧ (a.enter w e ret).dfault = a.dfault := by
  cases w <;> exact ⟨⟨rfl, rfl⟩, rfl, rfl, rfl, rfl⟩

end

/-- R269, R282: an event entered in either world. -/
theorem entered_takes_in (s : State) (n : Fin 9) (e : Exc) (w : Bool) (ret : BitVec 19) :
    TakesException s (s.entered n e w ret) n w e.code e.sub e.eaddr ret := by
  have harch : ((s.entered n e w ret).seq n).arch = (s.seq n).arch.enter w e ret := by simp [State.entered]
  obtain ⟨hworld, hsup, hie, heip, hssr⟩ := (s.seq n).arch.enter_status w e ret
  obtain ⟨hin, hout⟩ := (s.seq n).arch.enter_ctx w e ret
  obtain ⟨hregs, hdouble⟩ := (s.seq n).arch.enter_kept w e ret
  constructor
  case rest =>
    rw [harch]
    rfl
  all_goals rw [harch]
  case pc => exact Arch.enter_pc _ w e ret
  all_goals assumption

/-! ### Interrupts (R281 to R284) -/

/-- R281: a line's cause is not that of a vector fault. -/
theorem firstLine_code {s : State} {n : Fin 9} {w : Bool} {c : Nat} (h : s.firstLine n w = some c) : c ≠ exVector := by
  have hmem : c ∈ [exFault, exTimer, exQueue, exMailbox, exNotify] := List.mem_of_find?_eq_some h
  simp only [List.mem_cons, List.not_mem_nil, or_false] at hmem
  rcases hmem with rfl | rfl | rfl | rfl | rfl <;> decide

theorem eligibleLine_code {s : State} {n : Fin 9} {c : Nat} {w : Bool} (h : s.eligibleLine n = some (c, w)) : c ≠ exVector := by
  simp only [State.eligibleLine] at h
  split at h
  · cases h
  split at h
  next x hx =>
    obtain ⟨rfl, -⟩ := Prod.mk.inj (Option.some.inj h)
    split at hx
    · exact firstLine_code hx
    · cases hx
  next =>
    split at h
    · obtain ⟨x, hx, heq⟩ := Option.map_eq_some_iff.1 h
      obtain ⟨rfl, -⟩ := Prod.mk.inj heq
      exact firstLine_code hx
    · cases h

/-- R269, R270: an interrupt is never a double fault; into the other world it waits for the work of the running one. -/
theorem deliver_interrupt {s : State} {n : Fin 9} {e : Exc} {w : Bool} (ret : BitVec 19) (hc : e.code ≠ exVector)
    (hw : w = (s.seq n).arch.world ∨ ((s.seq n).quiet = true ∧ (s.seq n).vecPending = false)) :
    s.deliver n e true w ret = some (s.entered n e w ret) := by
  have hdouble : (s.seq n).doubles e true = false := by simp [Seq.doubles, hc]
  have htake : s.take n e true w ret = s.entered n e w ret := by
    simp only [State.take, hdouble, Seq.delivered, hc, Bool.not_true, Bool.and_false, Bool.false_eq_true, if_false]
    rfl
  simp only [State.deliver, hdouble, htake, Bool.not_true, Bool.and_false, Bool.false_or]
  rcases hw with rfl | ⟨hquiet, hvec⟩
  · simp
  · simp [hquiet, hvec]

/-! ### The boundary (R268) -/

section
variable {s : State} {n : Fin 9} (hat : (s.seq n).atBoundary = true)
include hat

theorem boundary_interrupt {c : Nat} {w : Bool} (hlate : (s.seq n).late (s.seq n).arch.world = none)
    (hline : s.eligibleLine n = some (c, w))
    (hw : w = (s.seq n).arch.world ∨ ((s.seq n).quiet = true ∧ (s.seq n).vecPending = false)) :
    s.boundary n = .taken (s.entered n (exc c) w (s.seq n).arch.pc) := by
  simp only [State.boundary, hat, hlate, hline, ite_self, Bool.not_true, Bool.false_eq_true, if_false,
    deliver_interrupt (e := exc c) _ (eligibleLine_code hline) hw]

theorem boundary_late {e : LateErr} (hlate : (s.seq n).late (s.seq n).arch.world = some e) (hdiv : (s.seq n).div = none)
    (hmay : s.mayTake n) :
    s.boundary n = .taken ((s.setSeq n ((s.seq n).setLate (s.seq n).arch.world none)).entered n
      (exc exLate (e.seg.val + 64 * bit01 e.multi) e.off) (s.seq n).arch.world (s.seq n).arch.pc) := by
  have harch : ((s.setSeq n ((s.seq n).setLate (s.seq n).arch.world none)).seq n).arch = (s.seq n).arch := by
    rw [State.seq_setSeq_self]
    cases (s.seq n).arch.world <;> rfl
  obtain ⟨hdf, heip⟩ := hmay
  have hdel := deliver_same (s.setSeq n ((s.seq n).setLate (s.seq n).arch.world none)) n
    (exc exLate (e.seg.val + 64 * bit01 e.multi) e.off) (s.seq n).arch.pc (by decide : exLate ≠ exVector)
    (by rw [harch]; exact hdf) (by rw [harch]; exact heip)
  rw [harch] at hdel
  simp only [State.boundary, hat, hlate, hdiv, hdel, Option.isSome_none, Bool.not_true, Bool.false_eq_true, if_false]

end

/-- INTERRUPT_ENTRY and LATE_BUS_ERROR end with what their boundary takes. -/
theorem after_boundaryTake {s t : State} {n : Fin 9} {b : Bool} (hrun : s.seqRuns n = true)
    (hb : ((s.seq n).late (s.seq n).arch.world).isSome = b) (h : s.boundary n = .taken t) (hi : SeqIdle t n)
    (hp : t.pending = s.pending) : s.after ((s.boundaryTake n b).pump n) = t := by
  have htake : s.boundaryTake n b = t := by simp [State.boundaryTake, hrun, hb, h]
  rw [htake, after_pump_idle hi hp]

/-- A sequencer that has entered an event has nothing to go on with. -/
theorem entered_idle {s : State} {n : Fin 9} (hs : (s.seq n).spec = []) (e : Exc) (w : Bool) (ret : BitVec 19) :
    SeqIdle (s.entered n e w ret) n := by
  constructor <;> simp [State.entered, Seq.flush, hs]

theorem Seq.setLate_spec (q : Seq) (w : Bool) (e : Option LateErr) : (q.setLate w e).spec = q.spec := by
  cases w <;> rfl

end Sys2Proof.Machine

namespace Sys2Proof.Proofs
open Sys2Proof Sys2Proof.Machine

/-- Settles O23: each command takes what `boundary_interrupt` or `boundary_late` finds at the boundary. -/
theorem interruptsAndLateErrors : Obligations.InterruptsAndLateErrors := by
  intro s n hrun q hspec _ htail hdelay
  have hat : q.atBoundary = true := by simp [Seq.atBoundary, hspec, hdelay, htail]
  refine ⟨fun c w hlate hline hw => ?interrupt, fun e hlate hdiv hmay => ?late⟩
  case interrupt =>
    have hfree : w = q.arch.world ∨ (q.quiet = true ∧ q.vecPending = false) :=
      hw.imp_right fun ⟨houts, hsb, hvec⟩ => ⟨by simp [Seq.quiet, houts, hsb], hvec⟩
    exact ⟨_, congrArg Host.Outcome.next (after_boundaryTake (b := false) hrun (congrArg Option.isSome hlate)
      (boundary_interrupt hat hlate hline hfree) (entered_idle hspec _ _ _) rfl), entered_takes_in s n (exc c) w q.arch.pc⟩
  case late =>
    exact ⟨_, congrArg Host.Outcome.next (after_boundaryTake (b := true) hrun (congrArg Option.isSome hlate)
      (boundary_late hat hlate hdiv hmay) (entered_idle (by rw [State.seq_setSeq_self, Seq.setLate_spec]; exact hspec) _ _ _) rfl),
      entered_takes_in (s.setSeq n (q.setLate q.arch.world none)) n (exc exLate (e.seg.val + 64 * bit01 e.multi) e.off) q.arch.world
        q.arch.pc⟩

end Sys2Proof.Proofs
end

section
/-! LOAD_RESPONSE and STORE_BUFFER_DRAIN where program memory or Vector Memory answers (O19). -/
namespace Sys2Proof.Machine

/-! ### Loaded values (Table 7-7) -/

theorem ofNat_ofInt_toSigned {w : Nat} (hw : 0 < w) (v : Nat) :
    BitVec.ofNat 64 (ofInt 64 (toSigned w v)) = (BitVec.ofNat w v).signExtend 64 := by
  rw [toSigned_eq_toInt hw, ofInt_eq_toNat, BitVec.ofNat_toNat, BitVec.setWidth_eq]
  rfl

theorem ofNat_mod_zeroExtend (w v : Nat) : BitVec.ofNat 64 (v % 2 ^ w) = (BitVec.ofNat w v).zeroExtend 64 := by
  rw [← BitVec.toNat_ofNat, BitVec.ofNat_toNat]

/-- What each load leaves in the registers for the bytes `v` (R232, R235, R236). -/
def loadResults (a : Arch) (x : Access) (v : Nat) : List (MemOp × Arch) :=
  [(.lb, a.setReg x.dst ((BitVec.ofNat 8 v).signExtend 64)), (.lbu, a.setReg x.dst ((BitVec.ofNat 8 v).zeroExtend 64)),
   (.lh, a.setReg x.dst ((BitVec.ofNat 16 v).signExtend 64)), (.lhu, a.setReg x.dst ((BitVec.ofNat 16 v).zeroExtend 64)),
   (.lw, a.setReg x.dst ((BitVec.ofNat 32 v).signExtend 64)), (.lwu, a.setReg x.dst ((BitVec.ofNat 32 v).zeroExtend 64)),
   (.ld, a.setReg x.dst (BitVec.ofNat 64 v)), (.sgld, a.setSeg x.world x.dst (BitVec.ofNat 128 v)),
   (.vdld, { a with vd := a.vd.set (Fin.ofNat 32 x.dst.val) (BitVec.ofNat 256 v) })]

theorem loaded_eq {a b : Arch} {x : Access} {v : Nat} (hp : x.isPld = false) (h : (x.op, b) ∈ loadResults a x v) :
    x.op.isAtomic = false ∧ a.loaded x v = b := by
  simp only [loadResults, List.mem_cons, List.not_mem_nil, or_false, Prod.mk.injEq] at h
  rcases h with ⟨hop, rfl⟩ | ⟨hop, rfl⟩ | ⟨hop, rfl⟩ | ⟨hop, rfl⟩ | ⟨hop, rfl⟩ | ⟨hop, rfl⟩ | ⟨hop, rfl⟩ | ⟨hop, rfl⟩ | ⟨hop, rfl⟩ <;>
    simp [Arch.loaded, hp, hop, MemOp.isAtomic, MemOp.extend, ← ofNat_ofInt_toSigned, ← ofNat_mod_zeroExtend]

/-! ### Frames -/

theorem loafCount_rest (s : State) (n : Fin 9) (k : Nat) : s.loafCount n k = { s with regs := (s.loafCount n k).regs } := by
  rw [State.loafCount, State.countWrap_eq]

theorem vmCount_seq (s : State) (a k : Nat) (n : Fin 9) : (s.vmCount a k).seq n = s.seq n := (vmCount_counts s a k).seq n

theorem gcls_loafCount (s : State) (n : Fin 9) (k g : Nat) : (s.loafCount n k).gcls g = s.gcls g := by
  rw [loafCount_rest]
  rfl

theorem vm_loafCount (s : State) (n : Fin 9) (k : Nat) : (s.loafCount n k).vm = s.vm := by
  rw [loafCount_rest]

theorem bytes_vmCount (s : State) (a k : Nat) : (s.vmCount a k).vm.bytes = s.vm.bytes := by
  rw [vmCount_rest]

/-- A state that differs in named parts alone keeps the queue of commands. -/
theorem after_eq {s t : State} (h : t.pending = s.pending) : s.after t = t := by
  rw [State.after, ← h]

/-- R170: with an access counted and a sequencer changed, the machine has changed in registers, sequencers and Vector Memory. -/
structure VmAccessed (s t : State) (n : Fin 9) (q : Seq) (bytes : List Host.Cell) : Prop where
  own : t.seq n = q
  others : ∀ m, m ≠ n → t.seq m = s.seq m
  bytes : t.vm.bytes = bytes
  marks : ∀ g, t.gcls g = s.gcls g
  rest : t = { s with seqs := t.seqs, regs := t.regs, vm := t.vm }

theorem VmAccessed.after {s t : State} {n : Fin 9} {q : Seq} {bytes : List Host.Cell} (h : VmAccessed s t n q bytes) :
    s.after t = t := after_eq (by rw [h.rest])

theorem vmAccessed_counted (s : State) (m : VMem) (hm : ∀ g, mget (fun _ => GClass.clean) m.cls g = s.gcls g) (n : Fin 9)
    (a k : Nat) (q : Seq) : VmAccessed s ((({ s with vm := m } : State).vmCount a k).setSeq n q) n q m.bytes where
  own := State.seq_setSeq_self ..
  others i hi := (State.seq_setSeq_ne _ _ _ _ hi).trans (vmCount_seq ..)
  bytes := bytes_vmCount ..
  marks g := (vmCount_gcls { s with vm := m } a k g).trans (hm g)
  rest := by
    rw [vmCount_rest]
    rfl

theorem VmAccessed.loafCount {s t : State} {n : Fin 9} {q : Seq} {bytes : List Host.Cell} (h : VmAccessed s t n q bytes) (k : Nat) :
    VmAccessed s (t.loafCount n k) n q bytes where
  own := (seq_loafCount ..).trans h.own
  others i hi := (seq_loafCount ..).trans (h.others i hi)
  bytes := by rw [vm_loafCount, h.bytes]
  marks g := (gcls_loafCount ..).trans (h.marks g)
  rest := by
    rw [loafCount_rest, h.rest]

/-! ### Loads (R271) -/

section
variable {s : State} {n : Fin 9} {id : Nat} {ck : Arch} {lp : BitVec 19} {x : Access}
  (hsp : (s.seq n).spec = [⟨id, ck, lp, 1, .access x none false false⟩]) (hm : x.misaligned = false) (hw : (s.seq n).waiting = [])
  (ht : (s.seq n).tail = none) (ho : (s.seq n).outs = [])
include hsp hm hw ht ho

/-- R246: the one PLD returns the word that program memory holds. -/
theorem loadResponse_pld (hp : x.isPld = true) : Retired s (s.loadResponse n) n { s.seq n with
    arch := (s.seq n).arch.setReg x.dst (BitVec.ofNat 64 (s.pmNat n.val x.addr x.size))
    spec := [] } := by
  have holdest : (s.seq n).oldest = some (id, x, false, false) := by simp [Seq.oldest, hsp]
  have hdone : s.loadResponse n = s.accessDone n id x (s.pmNat n.val x.addr x.size) := by
    simp [State.loadResponse, holdest, hp]
  rw [hdone, accessDone_single s n id ck lp 1 x false _ hsp hm hw ht ho, Arch.loaded, if_pos hp]
  exact retired_count s n 0 _

/-- R271: the one load returns what clean Granules hold. -/
theorem loadResponse_vm (hp : x.isPld = false) (hat : x.op.isAtomic = false) (htgt : x.tgt = .vm) (hok : s.vmOk x.addr x.size = true)
    (hclean : ∀ g ∈ granules x.addr x.size, s.gcls g = .clean) :
    VmAccessed s (s.loadResponse n) n { s.seq n with
      arch := (s.seq n).arch.loaded x (ofBytes (memRead s.vm.bytes x.addr x.size))
      spec := [] } s.vm.bytes := by
  have holdest : (s.seq n).oldest = some (id, x, false, false) := by simp [Seq.oldest, hsp]
  obtain ⟨m, hread, hbytes, hcls⟩ := readGranules_clean .full (granules x.addr x.size) s hclean
  have hvm : s.vmRead .full x.addr x.size = ({ s with vm := m }, some (memRead s.vm.bytes x.addr x.size, false)) := by
    simp [State.vmRead, hok, hread, hbytes]
  have hdone : s.loadResponse n =
      (({ s with vm := m } : State).vmCount x.addr 1).accessDone n id x (ofBytes (memRead s.vm.bytes x.addr x.size)) := by
    simp [State.loadResponse, holdest, hp, hat, htgt, State.loadVm, hsp, SpecRec.isBranch, hvm]
  have hseq : (({ s with vm := m } : State).vmCount x.addr 1).seq n = s.seq n := vmCount_seq ..
  rw [hdone, accessDone_single _ n id ck lp 1 x false _ (by rw [hseq, hsp]) hm (by rw [hseq, hw]) (by rw [hseq, ht]) (by rw [hseq, ho]),
    hseq, ← hbytes]
  exact (vmAccessed_counted s m (fun g => by rw [hcls]; rfl) n x.addr 1 _).loafCount 1

end

/-! ### Stores (R194) -/

/-- Bytes put one by one into a map, from `b` on. -/
theorem mget_foldl_mput {d : Nat → Byte} (b : Nat) (bs : List Byte) (k : Nat) (m : List Host.Cell) (y : Nat) :
    mget d ((bs.zipIdx k).foldl (fun m x => mput d m (b + x.2) x.1) m) y =
      if b + k ≤ y ∧ y < b + k + bs.length then bs.getD (y - (b + k)) 0 else mget d m y := by
  induction bs generalizing k m with
  | nil => rw [if_neg (by simp)]; rfl
  | cons c bs ih =>
    rw [List.zipIdx_cons, List.foldl_cons, ih, mget_mput, List.length_cons]
    by_cases hy : y = b + k
    · subst hy
      rw [if_neg (by omega), if_pos rfl, if_pos (by omega), Nat.sub_self]
      rfl
    · by_cases hin : b + (k + 1) ≤ y ∧ y < b + (k + 1) + bs.length
      · rw [if_pos hin, if_pos (by omega), show y - (b + k) = y - (b + (k + 1)) + 1 by omega, List.getD_cons_succ]
      · rw [if_neg hin, if_neg hy, if_neg (by omega)]

/-- R246: a number written to program SRAM. -/
theorem pmWrite_toBytes {s : State} {n a o : Nat} (h : s.pmSram n a = some o) (size v : Nat) :
    (s.pmWrite n a (toBytes size v) = { s with pm := (s.pmWrite n a (toBytes size v)).pm
                                               pmBad := (s.pmWrite n a (toBytes size v)).pmBad }) ∧
    ∀ y, mget (pmDefault s.pmImg) (s.pmWrite n a (toBytes size v)).pm y =
      if n * 0x40000 + o ≤ y ∧ y < n * 0x40000 + o + size then BitVec.ofNat 8 (v / 256 ^ (y - (n * 0x40000 + o)))
      else mget (pmDefault s.pmImg) s.pm y := by
  simp only [State.pmWrite, h]
  refine ⟨trivial, fun y => ?_⟩
  rw [mget_foldl_mput, toBytes_length, Nat.add_zero]
  split
  · rw [toBytes_getD _ _ _ (by omega)]
  · rfl

section
variable {s : State} {n : Fin 9} {e : SbEntry} {rest : List SbEntry} (hsb : (s.seq n).sb = e :: rest) (hsent : e.sent = false)
  (hsp : (s.seq n).spec = []) (hw : (s.seq n).waiting = []) (ht : (s.seq n).tail = none)
include hsb hsent hsp hw ht

/-- R194: the oldest store writes clean Granules of Vector Memory. -/
theorem storeBufDrain_vm (htgt : e.tgt = .vm) (hok : s.vmOk e.addr e.size = true)
    (hclean : ∀ g ∈ granules e.addr e.size, s.gcls g = .clean) :
    VmAccessed s (s.storeBufDrain n) n { s.seq n with sb := rest } (memWrite s.vm.bytes e.addr (toBytes e.size e.data)) := by
  have hlen := toBytes_length e.size e.data
  obtain ⟨m, hwrite, hbytes, hcls⟩ := vmWrite_clean s e.addr (toBytes e.size e.data) (by rwa [hlen]) (by rwa [hlen])
  have hdrain : s.storeBufDrain n = (({ s with vm := m } : State).vmCount e.addr 1).sbPop n false := by
    simp [State.storeBufDrain, hsb, hsent, htgt, hwrite]
  have hseq : (({ s with vm := m } : State).vmCount e.addr 1).seq n = s.seq n := vmCount_seq ..
  rw [hdrain, sbPop_ok _ n e rest (by rw [hseq, hsb]) (by rw [hseq, hw]) (by rw [hseq, ht]) (by rw [hseq, hsp]), hseq, ← hbytes]
  exact vmAccessed_counted s m hcls n e.addr 1 _

/-- R246: the oldest store writes program SRAM. -/
theorem storeBufDrain_pm (htgt : e.tgt = .pm) :
    s.storeBufDrain n = (s.pmWrite n.val e.addr (toBytes e.size e.data)).setSeq n { s.seq n with sb := rest } := by
  have hseq : ∀ d, (s.pmWrite n.val e.addr d).seq n = s.seq n := by
    intro d
    unfold State.pmWrite
    split <;> rfl
  have hdrain : s.storeBufDrain n = (s.pmWrite n.val e.addr (toBytes e.size e.data)).sbPop n false := by
    simp [State.storeBufDrain, hsb, hsent, htgt]
  rw [hdrain, sbPop_ok _ n e rest (by rw [hseq, hsb]) (by rw [hseq, hw]) (by rw [hseq, ht]) (by rw [hseq, hsp]), hseq]

end

end Sys2Proof.Machine

namespace Sys2Proof.Proofs
open Sys2Proof Sys2Proof.Machine

/-- Settles O19: `loadResponse_pld` and `loadResponse_vm` for the loads, `storeBufDrain_vm` and `storeBufDrain_pm` for the
stores. -/
theorem loadsReturnStoresDrain : Obligations.LoadsReturnStoresDrain := by
  refine ⟨fun s n id ck lp x hsp hm hw ht ho => ⟨fun hp => ?pld, fun hp htgt hok hclean a hop => ?load⟩,
    fun s n e rest hsb hsent hsp hw ht => ⟨fun htgt hok hclean => ?store, fun o htgt ho => ?program⟩⟩
  case pld =>
    have hret := loadResponse_pld hsp hm hw ht ho hp
    exact ⟨_, congrArg Host.Outcome.next hret.after, hret⟩
  case load =>
    obtain ⟨hat, hloaded⟩ := loaded_eq (a := (s.seq n).arch) hp hop
    have hacc := loadResponse_vm hsp hm hw ht ho hp hat htgt hok hclean
    rw [hloaded] at hacc
    exact ⟨_, congrArg Host.Outcome.next hacc.after, hacc.own, hacc.others, hacc.bytes, hacc.marks, hacc.rest⟩
  case store =>
    have hacc := storeBufDrain_vm hsb hsent hsp hw ht htgt hok hclean
    refine ⟨_, congrArg Host.Outcome.next hacc.after, hacc.own, hacc.others, fun y => ?_, hacc.marks, hacc.rest⟩
    rw [hacc.bytes, memByte_memWrite_toBytes]
  case program =>
    obtain ⟨hrest, hbytes⟩ := pmWrite_toBytes ho e.size e.data
    have hdrain := storeBufDrain_pm hsb hsent hsp hw ht htgt
    refine ⟨s.storeBufDrain n, congrArg Host.Outcome.next (after_eq ?_), ?_, fun m hne => ?_, fun y => ?_, ?_⟩ <;> rw [hdrain]
    · rw [hrest]
      rfl
    · exact State.seq_setSeq_self ..
    · rw [State.seq_setSeq_ne _ _ _ _ hne, hrest]
      rfl
    · rw [State.setSeq_pm, ← hbytes y, State.setSeq_pmImg, hrest]
    · rw [hrest]
      rfl

end Sys2Proof.Proofs
end

section
/-! Fields of a register of two words, what a written word stores and sets, and states that differ in one more component
(O37, O39). -/
namespace Sys2Proof.Machine

/-! ### Bits of a word -/

theorem bitAt_eq_testBit (v i : Nat) : bitAt v i = v.testBit i := by
  rw [Nat.testBit_eq_decide_div_mod_eq]
  rfl

/-- The bits that were set read as the new value's, the others as before. -/
theorem testBit_setBits (v lo len x b : Nat) :
    (setBits v lo len x).testBit b = if lo ≤ b ∧ b < lo + len then x.testBit (b - lo) else v.testBit b := by
  have hlow : v % 2 ^ lo < 2 ^ lo := Nat.mod_lt _ (Nat.two_pow_pos lo)
  have hcut : x % 2 ^ len * 2 ^ lo + v % 2 ^ lo < 2 ^ (lo + len) := by
    have hx : x % 2 ^ len < 2 ^ len := Nat.mod_lt _ (Nat.two_pow_pos len)
    rw [Nat.pow_add]
    nlinarith [Nat.two_pow_pos lo]
  rw [setBits, Nat.add_assoc, Nat.mul_comm (v / _), Nat.testBit_two_pow_mul_add _ hcut, Nat.mul_comm (x % _),
    Nat.testBit_two_pow_mul_add _ hlow, Nat.testBit_mod_two_pow, Nat.testBit_mod_two_pow, Nat.testBit_div_two_pow]
  split_ifs with h1 h2 h3 h4
  · omega
  · simp [h2]
  · simp; omega
  · omega
  · omega
  · rw [Nat.sub_add_cancel (Nat.le_of_not_lt h1)]

/-! ### Fields of a register of two words -/

/-- A field that lies in the two words of its register. -/
abbrev Fld.pair (f : Fld) : Prop := 0 < f.2 ∧ f.1 + f.2 ≤ 64

/-- The bits of a register of two words are those of its lower and of its higher word. -/
theorem testBit_regNat_two (s : State) (a b : Nat) :
    (s.regNat a 2).testBit b = if b < 32 then (s.reg a).toNat.testBit b else (s.reg (a + 4)).toNat.testBit (b - 32) := by
  rw [regNat_two, Nat.add_comm, Nat.testBit_two_pow_mul_add _ (s.reg a).isLt]

/-- Where a field of a register of two words lies: in the lower word, in the higher word, or in both. -/
theorem Fld.pair_cases {f : Fld} (h : Fld.pair f) :
    Fld.low f ∨ (f.1 / 32 = 1 ∧ f.1 % 32 = f.1 - 32 ∧ 32 ≤ f.1 ∧ fldWords f = 1) ∨
    (f.1 / 32 = 0 ∧ f.1 % 32 = f.1 ∧ fldWords f = 2) := by
  obtain ⟨hpos, hle⟩ := h
  unfold fldWords Fld.low
  omega

theorem State.fld_pair (s : State) (a : Nat) {f : Fld} (h : Fld.pair f) : s.fld a f = bitsOf (s.regNat a 2) f.1 f.2 := by
  rcases Fld.pair_cases h with hlow | ⟨hword, hbit, hge, hone⟩ | ⟨hword, hbit, htwo⟩
  · rw [State.fld_low _ _ hlow]
    refine bitsOf_eq_of_testBit fun b _ hb => ?_
    rw [testBit_regNat_two, if_pos (by omega)]
  · have hread : s.regNat (a + 4 * 1) 1 = (s.reg (a + 4)).toNat := by simp [State.regNat]
    rw [State.fld, hword, hbit, hone, hread]
    refine Nat.eq_of_testBit_eq fun b => ?_
    simp only [bitsOf, Nat.testBit_mod_two_pow, Nat.testBit_div_two_pow, testBit_regNat_two]
    rw [if_neg (by omega), Nat.add_sub_assoc hge]
  · rw [State.fld, hword, hbit, htwo]
    rfl

/-- A register of two words in which a field was set. -/
theorem State.regNat_setFld_pair (s : State) (a v : Nat) {f : Fld} (h : Fld.pair f) :
    (s.setFld a f v).regNat a 2 = setBits (s.regNat a 2) f.1 f.2 v := by
  rcases Fld.pair_cases h with hlow | ⟨hword, hbit, hge, hone⟩ | ⟨hword, hbit, htwo⟩
  · have hmod := Nat.mod_eq_of_lt (setBits_lt (s.reg a).toNat f.1 f.2 v 32 (s.reg a).isLt hlow.2)
    have hnext : a + 4 ≠ a := by omega
    refine Nat.eq_of_testBit_eq fun b => ?_
    simp only [testBit_setBits, testBit_regNat_two, State.reg_setFld_low _ _ _ _ hlow, if_true, if_neg hnext, BitVec.toNat_ofNat, hmod]
    by_cases hb : b < 32
    · simp only [hb, if_true]
    · have hbeyond : ¬ (f.1 ≤ b ∧ b < f.1 + f.2) := by have := hlow.2; omega
      simp only [hb, if_false, hbeyond]
  · have hset : s.setFld a f v = s.setReg (a + 4) (BitVec.ofNat 32 (setBits (s.reg (a + 4)).toNat (f.1 - 32) f.2 v)) := by
      simp [State.setFld, hword, hbit, hone, State.regNat, State.setRegNat]
    have hle := h.2
    have hmod := Nat.mod_eq_of_lt (setBits_lt (s.reg (a + 4)).toNat (f.1 - 32) f.2 v 32 (s.reg _).isLt (by omega))
    have hnext : a ≠ a + 4 := by omega
    refine Nat.eq_of_testBit_eq fun b => ?_
    simp only [testBit_setBits, testBit_regNat_two, hset, State.reg_setReg, if_true, if_neg hnext, BitVec.toNat_ofNat, hmod,
      show b - 32 - (f.1 - 32) = b - f.1 by omega]
    by_cases hb : b < 32
    · have hbelow : ¬ (f.1 ≤ b ∧ b < f.1 + f.2) := by omega
      simp only [hb, if_true, if_false, hbelow]
    · have hshift : (f.1 - 32 ≤ b - 32 ∧ b - 32 < f.1 - 32 + f.2) ↔ (f.1 ≤ b ∧ b < f.1 + f.2) := by omega
      simp only [hb, if_false, hshift]
  · rw [State.setFld, hword, hbit, htwo]
    simp only [Nat.mul_zero, Nat.add_zero]
    rw [State.regNat_setRegNat_self]
    exact Nat.mod_eq_of_lt (setBits_lt _ _ _ _ _ (State.regNat_lt s a 2) h.2)

/-- A field beside the one that was set reads as before. -/
theorem State.fld_setFld_apart (s : State) (a v : Nat) {f g : Fld} (hf : Fld.pair f) (hg : Fld.pair g)
    (h : f.1 + f.2 ≤ g.1 ∨ g.1 + g.2 ≤ f.1) : (s.setFld a f v).fld a g = s.fld a g := by
  rw [State.fld_pair _ _ hg, State.fld_pair _ _ hg, State.regNat_setFld_pair _ _ _ hf]
  exact h.elim (bitsOf_setBits_above _ _ _ _ _ _) (bitsOf_setBits_below _ _ _ _ _ _)

/-- A field of a register that shares no word with the one written reads as before. -/
theorem State.fld_setFld_far (s : State) (a v b : Nat) {f g : Fld} (hf : Fld.pair f) (hg : Fld.pair g)
    (h : a + 8 ≤ b ∨ b + 8 ≤ a) : (s.setFld a f v).fld b g = s.fld b g := by
  obtain ⟨hfpos, hfle⟩ := hf
  obtain ⟨hgpos, hgle⟩ := hg
  refine State.fld_setFld_of_outside _ _ _ _ _ _ ?_
  unfold fldWords
  omega

theorem decide_bitsOf_one (v i : Nat) : decide (bitsOf v i 1 ≠ 0) = bitAt v i := by
  rw [bitsOf, bitAt]
  rcases Nat.mod_two_eq_zero_or_one (v / 2 ^ i) with h | h <;> simp [h]

theorem State.flag_eq_bitAt (s : State) (a : Nat) {f : Fld} (hf : Fld.low f) (hone : f.2 = 1) :
    s.flag a f = bitAt (s.reg a).toNat f.1 := by
  rw [State.flag, State.fld_low _ _ hf, hone, decide_bitsOf_one]

/-! ### What a written word stores and sets (R613) -/

/-- A value below the reserved bits writes none of them. -/
theorem bitsIn_of_lt {v k mask : Nat} (hv : v < 2 ^ k) (hmask : ∀ b < k, mask.testBit b = false) : bitsIn v mask = 0 := by
  refine Nat.eq_of_testBit_eq fun b => ?_
  rw [bitsIn, Nat.testBit_and, Nat.zero_testBit, Bool.and_eq_false_iff]
  by_cases hb : b < k
  · exact .inr (hmask b hb)
  · exact .inl (Nat.testBit_lt_two_pow (hv.trans_le (Nat.pow_le_pow_right (by decide) (Nat.le_of_not_lt hb))))

section
variable (s : State) {a v : Nat} {r : RegDesc} {i j w : Nat} (hfind : regFind a = some (r, i, j, w))
  (hrsv : bitsIn v (r.mask w).rsv = 0)
include hfind hrsv

/-- A field whose bits are stored reads as written. -/
theorem wordWrite_stored {f : Fld} (hf : Fld.low f)
    (hbits : ∀ b < 32, f.1 ≤ b → b < f.1 + f.2 →
      ((r.mask w).rw ||| (if s.locked r i j then 0 else (r.mask w).rwl)).testBit b = true ∧
      (r.mask w).w1c.testBit b = false ∧ (r.mask w).w1s.testBit b = false) :
    (s.wordWrite a v).fld a f = bitsOf v f.1 f.2 := by
  rw [State.fld_low _ _ hf]
  refine bitsOf_eq_of_testBit fun b hlo hhi => ?_
  have hb : b < 32 := by have := hf.2; omega
  obtain ⟨hst, hc, hs⟩ := hbits b hb hlo hhi
  rw [(wordWrite_regs s hfind hrsv).2 b hb, hst, hc, hs]
  simp

/-- A bit that a one sets is set where a one is written. -/
theorem wordWrite_set {f : Fld} (hf : Fld.low f) (hone : f.2 = 1) (hset : (r.mask w).w1s.testBit f.1 = true) (hv : bitAt v f.1 = true) :
    (s.wordWrite a v).flag a f = true := by
  have hb : f.1 < 32 := by have := hf.2; omega
  rw [bitAt_eq_testBit] at hv
  rw [State.flag_eq_bitAt _ _ hf hone, bitAt_eq_testBit, (wordWrite_regs s hfind hrsv).2 _ hb, hset, hv]
  simp

end

/-! ### Frames -/

theorem RegsOnly.mono {s t : State} {as bs : List Nat} (h : RegsOnly s t as) (hsub : ∀ a ∈ as, a ∈ bs) : RegsOnly s t bs :=
  ⟨fun a ha => h.regs a fun hmem => ha (hsub a hmem), h.rest⟩

/-- A field set in a register of two words leaves every other register as it was. -/
theorem RegsOnly.setFld_pair (s : State) {a : Nat} {f : Fld} (v : Nat) {as : List Nat}
    (hf : Fld.pair f) (ha : a ∈ as) (hb : a + 4 ∈ as) : RegsOnly s (s.setFld a f v) as := by
  obtain ⟨hpos, hle⟩ := hf
  refine ⟨fun x hx => ?_, State.setFld_eq ..⟩
  have hne : x ≠ a ∧ x ≠ a + 4 := ⟨fun e => hx (e ▸ ha), fun e => hx (e ▸ hb)⟩
  unfold State.setFld
  dsimp only
  rw [State.reg_setRegNat, if_neg]
  unfold fldWords
  omega

/-- Registers are written the same whatever the fabric holds. -/
theorem State.setRegNat_with_fab (s : State) (f : Fabric) (a w v : Nat) :
    ({ s with fab := f } : State).setRegNat a w v = { s.setRegNat a w v with fab := f } := by
  induction w generalizing s a v with
  | zero => rfl
  | succ w ih => exact ih (s.setReg a (BitVec.ofNat 32 v)) (a + 4) (v / 2 ^ 32)

theorem State.setFld_with_fab (s : State) (g : Fabric) (a : Nat) (f : Fld) (v : Nat) :
    ({ s with fab := g } : State).setFld a f v = { s.setFld a f v with fab := g } := by
  unfold State.setFld
  dsimp only
  rw [State.setRegNat_with_fab, State.regNat_congr (s := s) (t := { s with fab := g }) _ _ fun _ _ => rfl]

/-! ### Plain events in states that differ -/

/-- Whether an event is plain is read off the Fault and Journal Unit, its saved words and the registers from its block on. -/
theorem EventPlain.of_same_unit {s t : State} {k sev : Nat} (h : EventPlain s k sev) (hregs : ∀ a, 0xC00000 ≤ a → t.reg a = s.reg a)
    (hfj : t.fj = s.fj) (hnv : t.nv = s.nv) : EventPlain t k sev := by
  have hfld : ∀ a f, Fld.low f → 0xC00000 ≤ a → t.fld a f = s.fld a f := fun a f hf ha => by
    rw [State.fld_low _ _ hf, State.fld_low _ _ hf, hregs a ha]
  have hcfg : 0xC00000 ≤ FJ_SRC_CFG k := by
    unfold FJ_SRC_CFG
    omega
  refine ⟨?_, h.known, ?_, ?_, by rw [hfj]; exact h.calm, by rw [hfj]; exact h.noFatal, ?_, by rw [hfj]; exact h.room⟩
  · rw [State.fjRuns, State.mode, hfld _ _ (by decide) (by decide)]
    exact h.runs
  · rw [hfld _ _ (by decide) hcfg]
    exact h.low
  · rw [hfld _ _ (by decide) hcfg]
    exact h.noTrip
  · rw [State.jLost, hnv]
    exact h.kept

/-- The fabric takes no part in an event. -/
theorem EventRaised.with_fab {s t : State} {k : Nat} (h : EventRaised s t k) (f : Fabric) :
    EventRaised { s with fab := f } { t with fab := f } k where
  count := h.count
  latched := h.latched
  outside := h.outside
  calm := h.calm
  live := h.live
  rest := congrArg (fun x : State => { x with fab := f }) h.rest

end Sys2Proof.Machine
end

section
/-! A port of the fabric that grants one request and then another, a request that its block serves, and one that times out
(O37). -/
namespace Sys2Proof.Machine

/-! ### A request that its block serves -/

theorem regListed_lt {a size : Nat} (h : regListed a size = true) : a < 0x1400000 := by
  by_contra hge
  have hblock : blockRegs a = [] := by
    simp (disch := omega) only [blockRegs, if_neg]
  simp [regListed, regFind, hblock] at h

theorem fabAnswer_own {s : State} {r : FabReq} (h : r.who.isHost = false) (c v : Nat) :
    s.fabAnswer r c v = { s with fab := { s.fab with answers := s.fab.answers ++ [(r, c, v)] } } := by
  have hport : ¬ (r.who.id = 11 ∨ r.who.id = 12) := by simpa [Master.isHost] using h
  rw [State.fabAnswer, if_neg hport]

/-- A write that goes straight to its block is performed there. -/
theorem fabServe_write {s t : State} {m : Master} {a size v : Nat} (h : CtlGo s m a size) (hput : s.ctlPut m none a size v = (t, none)) :
    s.fabServe ⟨m, false, .ctl, 0, a, size, some v⟩ = (t, some (0, 0)) := by
  obtain ⟨_, hchain, hhost, _⟩ := h.lt
  have haccess : ¬ ((size ≠ 4 ∧ size ≠ 8) ∨ a % size ≠ 0 ∨ (!regListed a size) = true) := by
    rw [h.aligned, h.listed]
    rcases h.wide with rfl | rfl <;> simp
  have hword : ¬ 8 < size := by rcases h.wide with rfl | rfl <;> decide
  have hwrite : s.ctlWrite m none a size v = (t, .ok ()) := by
    unfold State.ctlWrite
    simp only [h.gate, hput]
    rw [if_neg haccess]
  have hallowed : fabAllowed ⟨m, false, .ctl, 0, a, size, some v⟩ = true := by
    rcases h.who with hseq | hstarter
    · simp [fabAllowed, hseq]
    · simp [fabAllowed, hstarter]
  unfold State.fabServe State.fabGate State.fabCtl
  simp [hallowed, hchain, hhost, hword, hwrite]

theorem fabricRequest_exec {s : State} {l : List FabReq} (h : ∀ r ∈ l, r.ok = true) :
    exec (.fabricRequest l) s = .next (s.after (s.fabRun l)) :=
  if_pos (List.all_eq_true.2 h)

/-- R613, R345: a register write that goes straight to its block is performed and answered. -/
theorem fabricRequest_write {s t : State} {m : Master} {a size v : Nat} (h : CtlGo s m a size) (hv : v < 2 ^ (8 * size)) (hm : m.ok = true)
    (hput : s.ctlPut m none a size v = (t, none)) :
    ∃ f, exec (.fabricRequest [⟨m, false, .ctl, 0, a, size, some v⟩]) s = .next { t with pending := s.pending, fab := f } ∧
      f.waiting = t.fab.waiting ∧ f.answers = t.fab.answers ++ [(⟨m, false, .ctl, 0, a, size, some v⟩, 0, 0)] := by
  obtain ⟨hid, _, hhost, _⟩ := h.lt
  have hok : (⟨m, false, .ctl, 0, a, size, some v⟩ : FabReq).ok = true := by
    have haddr : decide (a < 2 ^ 32) = true := decide_eq_true ((regListed_lt h.listed).trans (by decide))
    have hvc : m.id ≠ 14 := by
      have := h.who
      simp only [Master.isSeq, decide_eq_true_eq] at this
      omega
    have hdata : decide (v < 2 ^ (8 * size)) = true := decide_eq_true hv
    have hsize : [1, 2, 4, 8, 16, 32, 64].contains size = true := by rcases h.wide with rfl | rfl <;> rfl
    simp only [FabReq.ok, hm, hsize, hdata, beq_eq_false_iff_ne.2 hvc, haddr]
    rfl
  refine ⟨{ t.fab with
    parked := mput (fun _ => 13) t.fab.parked (fabPort ⟨m, false, .ctl, 0, a, size, some v⟩) m.id
    answers := t.fab.answers ++ [(⟨m, false, .ctl, 0, a, size, some v⟩, 0, 0)] }, ?_, rfl, rfl⟩
  rw [fabricRequest_exec (by simpa using hok), fabRun_one s t _ 0 0 h.free hid (fabServe_write h hput), fabAnswer_own hhost]
  rfl

/-! ### Two requests at one port (R347) -/

theorem findSome?_upTo {α : Type} {f : Nat → Option α} {n k : Nat} {x : α} (hk : k < n) (hbefore : ∀ i < k, f i = none)
    (hat : f k = some x) : (upTo n).findSome? f = some x := by
  unfold upTo
  induction n with
  | zero => exact absurd hk (Nat.not_lt_zero k)
  | succ n ih =>
    rw [List.range_succ, List.findSome?_append]
    rcases Nat.lt_succ_iff_lt_or_eq.1 hk with hlt | rfl
    · rw [ih hlt]
      rfl
    · have hnone : (List.range k).findSome? f = none :=
        List.findSome?_eq_none_iff.2 fun i hi => hbefore i (List.mem_range.1 hi)
      simp [hnone, hat]

/-- R347: how long a request of the port stands back in the rotation after the master last granted. -/
def State.portTurn (s : State) (port : Nat) (r : FabReq) : Nat := (r.who.id + 15 - s.parkedOn port) % 16

/-- R347: the port grants `a` before `b`: on VC2, or from the parked master, or earlier in the rotation. -/
def State.grantsFirst (s : State) (port : Nat) (a b : FabReq) : Prop :=
  a.vc2 = true ∨ (s.flag FAB_CTL FAB_CTL.PARK_DIS = false ∧ a.who.id = s.parkedOn port) ∨
    ((s.flag FAB_CTL FAB_CTL.PARK_DIS = true ∨ b.who.id ≠ s.parkedOn port) ∧ s.portTurn port a < s.portTurn port b)

section
variable {s : State} {port : Nat} {a b : FabReq} {l : List FabReq}
  (hport : ∀ r ∈ l, fabPort r = port) (hid : ∀ r ∈ l, r.who.id < 16)
  (htwo : ∀ r ∈ l, r = a ∨ r = b) (ha : a ∈ l) (hne : a.who.id ≠ b.who.id)
include hport hid htwo ha hne

/-- The port serves `a` next of the requests `a` and `b`, in whichever order they came. -/
theorem fabPick_first (hvc : b.vc2 = false) (hfirst : s.grantsFirst port a b) : s.fabPick port l = some a := by
  have hmine : l.filter (fun r => fabPort r == port) = l := List.filter_eq_self.2 fun r hr => by simpa using hport r hr
  generalize hfirsts : (upTo 16).filterMap (fun i => l.find? (fun r => r.who.id == i)) = firsts
  have hmem : a ∈ firsts := by
    rw [← hfirsts, List.mem_filterMap]
    refine ⟨a.who.id, List.mem_range.2 (hid a ha), find?_eq_of_unique ha (beq_self_eq_true _) fun y hy hyid => ?_⟩
    rcases htwo y hy with rfl | rfl
    · rfl
    · exact absurd (eq_of_beq hyid).symm hne
  have honly : ∀ r ∈ firsts, r = a ∨ r = b := fun r hr => by
    rw [← hfirsts, List.mem_filterMap] at hr
    obtain ⟨i, _, hi⟩ := hr
    exact htwo r (List.mem_of_find?_eq_some hi)
  have hfind : ∀ p : FabReq → Bool, p a = true → p b = false → firsts.find? p = some a := fun p hpa hpb =>
    find?_eq_of_unique hmem hpa fun y hy hpy => (honly y hy).resolve_right fun e => by simp [e, hpb] at hpy
  have hnone : ∀ p : FabReq → Bool, p a = false → p b = false → firsts.find? p = none := fun p hpa hpb =>
    List.find?_eq_none.2 fun y hy => by rcases honly y hy with rfl | rfl <;> simp [hpa, hpb]
  unfold State.fabPick
  simp only [hmine, hfirsts]
  cases hva : a.vc2 with
  | true => rw [hfind (fun r => r.vc2) hva hvc]
  | false =>
    rw [hnone (fun r => r.vc2) hva hvc]
    dsimp only
    by_cases hpark : s.flag FAB_CTL FAB_CTL.PARK_DIS = false ∧ a.who.id = s.parkedOn port
    · obtain ⟨hdis, hown⟩ := hpark
      rw [hdis, hfind (fun r => r.who.id == s.parkedOn port) (by simp [hown]) (by simpa [← hown] using hne.symm)]
      rfl
    · obtain ⟨hother, hturn⟩ := (hfirst.resolve_left (by simp [hva])).resolve_left hpark
      have hskip : (if s.flag FAB_CTL FAB_CTL.PARK_DIS then none else firsts.find? (fun r => r.who.id == s.parkedOn port)) = none := by
        cases hdis : s.flag FAB_CTL FAB_CTL.PARK_DIS with
        | true => rfl
        | false =>
          refine hnone _ (by simpa [hdis] using hpark) ?_
          simpa [hdis] using hother
      rw [hskip]
      refine findSome?_upTo (k := s.portTurn port a) (Nat.mod_lt _ (by decide)) (fun i hi => hnone _ ?_ ?_) (hfind _ ?_ ?_)
      · exact beq_false_of_ne (Nat.ne_of_gt hi)
      · exact beq_false_of_ne (Nat.ne_of_gt (hi.trans hturn))
      · exact beq_self_eq_true (s.portTurn port a)
      · exact beq_false_of_ne (Nat.ne_of_gt hturn)

end

/-- The state in which `a` has been answered and its port is parked on its master. -/
def State.fabGranted (s : State) (a : FabReq) (c v : Nat) : State := { s with fab := { s.fab with
  parked := mput (fun _ => 13) s.fab.parked (fabPort a) a.who.id
  answers := s.fab.answers ++ [(a, c, v)] } }

theorem fab_no_waiting {s : State} (h : s.fab.waiting = []) : ({ s with fab := { s.fab with waiting := [] } } : State) = s := by
  rw [← h]

/-- R347: what is left to serve after the request granted first is served as if it had come alone. -/
theorem fabRun_first {s s1 : State} {a b : FabReq} {c v : Nat} {l : List FabReq} (hfree : s.fab.waiting = []) (hhost : a.who.isHost = false)
    (hlen : l.length = 2) (hl : ∀ r ∈ l, fabPort r = fabPort a) (herase : l.erase a = [b]) (hpick : s.fabPick (fabPort a) l = some a)
    (hserve : s.fabServe a = (s1, some (c, v))) (hfree1 : s1.fab.waiting = []) :
    s.fabRun l = (s1.fabGranted a c v).fabRun [b] := by
  obtain ⟨x, y, rfl⟩ := List.length_eq_two.1 hlen
  have hx : fabPort x = fabPort a := hl x (by simp)
  have hstep : fabGrant 2 s [x, y] = fabGrant 1 (s1.fabGranted a c v) [b] := by
    rw [fabGrant]
    simp only [hx, hpick, hserve, herase, fabAnswer_own hhost]
    rfl
  have hrest : (s1.fabGranted a c v).fabRun [b] = fabGrant 1 (s1.fabGranted a c v) [b] := by
    have hfree2 : (s1.fabGranted a c v).fab.waiting = [] := hfree1
    simp only [State.fabRun, hfree2, List.nil_append, List.length_singleton, fab_no_waiting hfree2]
  rw [hrest, ← hstep]
  simp only [State.fabRun, hfree, List.nil_append, List.length_cons, List.length_nil, fab_no_waiting hfree]

/-- R347: of two requests at one port the one whose turn it is goes first, and the other finds the port as that leaves it. -/
theorem fabricRequest_first {s s1 : State} {a b : FabReq} {c v : Nat} {l : List FabReq} (hl : l = [a, b] ∨ l = [b, a])
    (hfree : s.fab.waiting = []) (ha : a.ok = true) (hb : b.ok = true) (hne : a.who.id ≠ b.who.id) (hhost : a.who.isHost = false)
    (hport : fabPort a = fabPort b) (hvc : b.vc2 = false) (hfirst : s.grantsFirst (fabPort a) a b)
    (hserve : s.fabServe a = (s1, some (c, v))) (hpend : s1.pending = s.pending) (hfree1 : s1.fab.waiting = []) :
    exec (.fabricRequest l) s = exec (.fabricRequest [b]) (s1.fabGranted a c v) := by
  have hab : a ≠ b := fun e => hne (by rw [e])
  have htwo : ∀ r ∈ l, r = a ∨ r = b := by rcases hl with rfl | rfl <;> simp [or_comm]
  have hok : ∀ r ∈ l, r.ok = true := fun r hr => by rcases htwo r hr with rfl | rfl <;> assumption
  have hports : ∀ r ∈ l, fabPort r = fabPort a := fun r hr => by rcases htwo r hr with rfl | rfl <;> simp [hport]
  have hid : ∀ r ∈ l, r.who.id < 16 := fun r hr => by
    have := hok r hr
    simp only [FabReq.ok, Master.ok, Bool.and_eq_true, Bool.or_eq_true, decide_eq_true_eq, beq_iff_eq] at this
    omega
  have hpick := fabPick_first hports hid htwo (by rcases hl with rfl | rfl <;> simp) hne hvc hfirst
  have herase : l.erase a = [b] := by rcases hl with rfl | rfl <;> simp [hab.symm]
  have hrun := fabRun_first hfree hhost (by rcases hl with rfl | rfl <;> rfl) hports herase hpick hserve hfree1
  rw [fabricRequest_exec hok, fabricRequest_exec (by simpa using hb), hrun, State.after, State.after, ← hpend]
  rfl

/-! ### A request that times out (R351) -/

/-- R351: FAB_ERR after an error response: its fields, or MULTI when it holds a record. -/
def State.fabCaptured (s : State) (r : FabReq) (code : Nat) : State :=
  if s.flag FAB_ERR FAB_ERR.VALID then s.setFld FAB_ERR FAB_ERR.MULTI 1
  else (((((((s.setFld FAB_ERR FAB_ERR.ADDR r.addr).setFld FAB_ERR FAB_ERR.MASTER r.who.id).setFld FAB_ERR FAB_ERR.CODE code).setFld
    FAB_ERR FAB_ERR.KIND (fabKindNo r.kind)).setFld FAB_ERR FAB_ERR.UNIT (if r.kind = .ctl then 0 else r.unit.val)).setFlag
    FAB_ERR FAB_ERR.WRITE r.data.isSome).setFld FAB_ERR FAB_ERR.VALID 1)

theorem fabCaptured_only (s : State) (r : FabReq) (code : Nat) : RegsOnly s (s.fabCaptured r code) [FAB_ERR, FAB_ERR + 4] := by
  have hset : ∀ (u : State) (f : Fld) (v : Nat), Fld.pair f → RegsOnly u (u.setFld FAB_ERR f v) [FAB_ERR, FAB_ERR + 4] :=
    fun u f v hf => .setFld_pair u v hf (by simp) (by simp)
  unfold State.fabCaptured
  split
  · exact hset _ _ _ (by decide)
  · exact ((((((hset _ _ _ (by decide)).trans (hset _ _ _ (by decide))).trans (hset _ _ _ (by decide))).trans
      (hset _ _ _ (by decide))).trans (hset _ _ _ (by decide))).trans (hset _ _ _ (by decide))).trans (hset _ _ _ (by decide))

/-- R351, Table 10-18: the first error response since VALID was cleared is shown with its request. -/
structure ErrShown (t : State) (r : FabReq) (code : Nat) : Prop where
  addr : t.fld FAB_ERR FAB_ERR.ADDR = r.addr % 2 ^ 32
  master : t.fld FAB_ERR FAB_ERR.MASTER = r.who.id % 2 ^ 4
  code : t.fld FAB_ERR FAB_ERR.CODE = code % 2 ^ 3
  kind : t.fld FAB_ERR FAB_ERR.KIND = fabKindNo r.kind
  unit : t.fld FAB_ERR FAB_ERR.UNIT = if r.kind = .ctl then 0 else r.unit.val
  write : t.flag FAB_ERR FAB_ERR.WRITE = r.data.isSome
  valid : t.flag FAB_ERR FAB_ERR.VALID = true

theorem fabCaptured_first {s : State} (r : FabReq) (code : Nat) (h : s.flag FAB_ERR FAB_ERR.VALID = false) :
    ErrShown (s.fabCaptured r code) r code := by
  have hkind : fabKindNo r.kind % 2 ^ 2 = fabKindNo r.kind := by cases r.kind <;> rfl
  have hunit : (if r.kind = .ctl then 0 else r.unit.val) % 2 ^ 4 = if r.kind = .ctl then 0 else r.unit.val :=
    Nat.mod_eq_of_lt (by split <;> omega)
  have hwrite : decide (bit01 r.data.isSome % 2 ^ 1 ≠ 0) = r.data.isSome := by cases r.data.isSome <;> rfl
  rw [State.fabCaptured, h]
  refine ⟨?_, ?_, ?_, .trans ?_ hkind, .trans ?_ hunit, .trans ?_ hwrite, ?_⟩
  all_goals
    simp (disch := decide) only [Bool.false_eq_true, if_false, State.flag, State.setFlag, State.fld_setFld_apart, State.fld_setFld_self]
  all_goals rfl

theorem fabCaptured_with_fab (s : State) (f : Fabric) (r : FabReq) (code : Nat) :
    ({ s with fab := f } : State).fabCaptured r code = { s.fabCaptured r code with fab := f } := by
  have hvalid : ({ s with fab := f } : State).flag FAB_ERR FAB_ERR.VALID = s.flag FAB_ERR FAB_ERR.VALID := rfl
  unfold State.fabCaptured
  rw [hvalid]
  split
  · rw [State.setFld_with_fab]
  · simp only [State.setFlag, State.setFld_with_fab]

theorem fabErr_timeout (s : State) (r : FabReq) :
    s.fabErr r.who (fabKindNo r.kind) (if r.kind = .ctl then 0 else r.unit.val) r.addr r.data.isSome erTimeout =
      (s.fabCaptured r erTimeout).raise 0xFB fabUnit svSevere := rfl

/-- R351: a request of the Starter's that times out is answered TIMEOUT and held no more; FAB_ERR captures it and the event is
raised. -/
theorem fabricTimeout_starter {s : State} {a : FabReq} (hok : a.ok = true) (hid : a.who.id = 13) (h : EventPlain s 0xFB svSevere) :
    ∃ t, exec (.fabricTimeout a) s = .next t ∧ EventRaised (s.fabCaptured a erTimeout) { t with fab := s.fab } 0xFB ∧
      t.fab = { s.fab with
        waiting := s.fab.waiting.erase a
        answers := s.fab.answers ++ [(a, erTimeout, 0)] } := by
  generalize hf : ({ s.fab with waiting := s.fab.waiting.erase a } : Fabric) = f
  have honly := fabCaptured_only s a erTimeout
  have hplain : EventPlain ({ s.fabCaptured a erTimeout with fab := f } : State) 0xFB svSevere := by
    refine h.of_same_unit (fun x hx => honly.regs x ?_) (by rw [honly.rest]) (by rw [honly.rest])
    simp only [FAB_ERR, List.mem_cons, List.not_mem_nil, or_false]
    omega
  have hraised := raise_plain _ 0xFB fabUnit svSevere 0 false hplain
  generalize hu : State.raise _ 0xFB fabUnit svSevere false 0 = u at hraised
  have hfab : u.fab = f := by rw [hraised.rest]
  have hdone : s.fabTimeout a = { u with fab := { f with answers := f.answers ++ [(a, erTimeout, 0)] } } := by
    rw [State.fabTimeout]
    dsimp only
    rw [hf, fabErr_timeout, fabCaptured_with_fab, hu, fabAnswer_own (by simp [Master.isHost, hid]), hfab]
  have hseq : (s.fabTimeout a).seqTimeout a = s.fabTimeout a := by
    rw [State.seqTimeout, dif_neg (by omega)]
  have hexec : exec (.fabricTimeout a) s = .next (s.after (s.fabTimeout a)) := by
    show (if a.ok then _ else _) = _
    rw [if_pos hok, hseq]
  have hpend : u.pending = s.pending := by rw [hraised.rest, honly.rest]
  refine ⟨s.fabTimeout a, ?_, ?_, ?_⟩
  · rw [hexec, after_eq]
    rw [hdone]
    exact hpend
  · rw [hdone]
    have hfab0 : (s.fabCaptured a erTimeout).fab = s.fab := by rw [honly.rest]
    rw [← hfab0]
    exact hraised.with_fab _
  · rw [hdone, ← hf]

end Sys2Proof.Machine
end

section
namespace Sys2Proof.Proofs
open Sys2Proof Sys2Proof.Machine

/-- Settles O37: `fabricRequest_write` for a request that is served, `fabricRequest_first` for two at one port, in either order,
and `fabricTimeout_starter` with `fabCaptured_first` for a time-out. -/
theorem fabricGrantsAndTimesOut : Obligations.FabricGrantsAndTimesOut := by
  intro s a b p turn
  refine ⟨fun m x size v t hgo hv hm hput => fabricRequest_write hgo hv hm hput,
    fun s1 c v hfree ha hb hne hhost hport hvc hfirst hserve hpend hfree1 => ?_, fun hok hid hplain => ?_⟩
  · exact ⟨fabricRequest_first (.inl rfl) hfree ha hb hne hhost hport hvc hfirst hserve hpend hfree1,
      fabricRequest_first (.inr rfl) hfree ha hb hne hhost hport hvc hfirst hserve hpend hfree1⟩
  · obtain ⟨t, hexec, hraised, hfab⟩ := fabricTimeout_starter hok hid hplain
    refine ⟨s.fabCaptured a erTimeout, t, hexec, fabCaptured_only s a erTimeout, hraised, hfab, ?_⟩
    cases hvalid : s.flag FAB_ERR FAB_ERR.VALID with
    | true => exact if_pos hvalid
    | false =>
      have shown := fabCaptured_first a erTimeout hvalid
      exact ⟨shown.addr, shown.master.trans (by rw [hid]; rfl), shown.code, shown.kind, shown.unit, shown.write, shown.valid⟩

end Sys2Proof.Proofs
end

section
/-! A local store's secure part and its wipes, its clear, and its march engine (O39). -/
namespace Sys2Proof.Machine

/-! ### Bytes and words zeroed -/

/-- The bytes that `hit` picks, set to zero with valid check bits. -/
def State.zeroWhere (s : State) (hit : Nat → Bool) : State :=
  { s with ls := s.ls.filter (fun p => !hit p.1), lsBad := s.lsBad.filter (fun w => !hit (w * 8)) }

theorem mget_filter_not {β : Type} (d : Nat → β) (hit : Nat → Bool) (m : List (Nat × β)) (k : Nat) :
    mget d (m.filter (fun p => !hit p.1)) k = if hit k then d k else mget d m k := by
  induction m with
  | nil => simp [mget]
  | cons x m ih =>
    obtain ⟨a, v⟩ := x
    cases ha : hit a with
    | true =>
      rw [List.filter_cons_of_neg (by simp [ha]), ih, mget]
      by_cases hk : a = k
      · simp [← hk, ha]
      · rw [if_neg hk]
    | false =>
      rw [List.filter_cons_of_pos (by simp [ha]), mget, mget, ih]
      by_cases hk : a = k
      · simp [← hk, ha]
      · simp only [if_neg hk]

/-- Exactly the bytes that `hit` picks read as zero, and exactly their words hold no error any more. -/
structure Zeroed (s t : State) (hit : Nat → Bool) : Prop where
  bytes : ∀ a, memByte t.ls a = if hit a then 0 else memByte s.ls a
  words : t.lsBad = s.lsBad.filter (fun w => !hit (w * 8))

theorem zeroWhere_zeroed (s : State) (hit : Nat → Bool) : Zeroed s (s.zeroWhere hit) hit :=
  ⟨mget_filter_not _ hit s.ls, rfl⟩

/-- A part of a store zeroed: the bytes from its first to before its end. -/
theorem lsZero_zeroed (s : State) (n lo hi : Nat) :
    Zeroed s (s.lsZero n lo hi) (fun a => decide (lsAddr n lo ≤ a) && decide (a < lsAddr n hi)) :=
  zeroWhere_zeroed s (fun a => decide (lsAddr n lo ≤ a) && decide (a < lsAddr n hi))

theorem Zeroed.of_regsOnly {s t u : State} {hit : Nat → Bool} {as : List Nat} (h : Zeroed s t hit) (g : RegsOnly t u as) :
    Zeroed s u hit := by
  rw [g.rest]
  exact ⟨h.bytes, h.words⟩

/-! ### Writes of LS_SEC and LS_MARCH_CTL (R344) -/

/-- A word whose bits from `k` on are zero. -/
theorem toNat_lt_of_bitsOf {v : W32} (k : Nat) (hk : k ≤ 32) (h : bitsOf v.toNat k (32 - k) = 0) : v.toNat < 2 ^ k := by
  have hdiv : v.toNat / 2 ^ k < 2 ^ (32 - k) := by
    rw [Nat.div_lt_iff_lt_mul (Nat.two_pow_pos k), ← Nat.pow_add, Nat.sub_add_cancel hk]
    exact v.isLt
  rw [bitsOf, Nat.mod_eq_of_lt hdiv] at h
  exact (Nat.div_eq_zero_iff.1 h).resolve_left (Nat.two_pow_pos k).ne'

theorem bitAt_of_lt {v k i : Nat} (h : v < 2 ^ k) (hi : k ≤ i) : bitAt v i = false := by
  rw [bitAt_eq_testBit]
  exact Nat.testBit_lt_two_pow (h.trans_le (Nat.pow_le_pow_right (by decide) hi))

theorem bitAt_setBits_one (v i : Nat) : bitAt (setBits v i 1 1) i = true := by
  rw [bitAt_eq_testBit, testBit_setBits, if_pos (by omega), Nat.sub_self]
  rfl

/-- LS_SEC: SIZE is stored unless LOCK is set, WIPE and LOCK are set by ones. -/
def lsSecMask : WordMask := { rw := 0, rwl := 0x1F, w1c := 0, w1s := 0x80000020, rsv := 0x7FFFFFC0 }

/-- LS_MARCH_CTL: ALG, BG, PRESERVE and BANKS are stored, START and ABORT are set by ones. -/
def marchCtlMask : WordMask := { rw := 0x1FFFFF, rwl := 0, w1c := 0, w1s := 0x600000, rsv := 0xFF800000 }

theorem regFind_lsSec (n : Fin 9) : ∃ r i j w, regFind (LS_SEC n) = some (r, i, j, w) ∧ r.mask w = lsSecMask ∧
    ∀ s : State, s.locked r i j = s.flag (LS_SEC n) LS_SEC.LOCK := by
  have hdesc : (regFind (LS_SEC n)).map (fun p => (p.1.mask p.2.2.2, p.1.lockAt, p.1.lockAt + p.2.1 * p.1.lk1 + p.2.2.1 * p.1.lk2,
      p.1.lockBit)) = some (lsSecMask, 0x600004, LS_SEC n, 31) := by
    revert n
    decide +kernel
  obtain ⟨⟨r, i, j, w⟩, hfind, heq⟩ := Option.map_eq_some_iff.1 hdesc
  simp only [Prod.mk.injEq] at heq
  obtain ⟨hmask, hlock, hat, hbit⟩ := heq
  refine ⟨r, i, j, w, hfind, hmask, fun s => ?_⟩
  rw [State.locked, hat, hbit, hlock]
  rfl

theorem regFind_marchCtl (n : Fin 9) : ∃ r i j w, regFind (LS_MARCH_CTL n) = some (r, i, j, w) ∧ r.mask w = marchCtlMask := by
  have hmask : (regFind (LS_MARCH_CTL n)).map (fun p => p.1.mask p.2.2.2) = some marchCtlMask := by
    revert n
    decide +kernel
  obtain ⟨⟨r, i, j, w⟩, hfind, heq⟩ := Option.map_eq_some_iff.1 hmask
  exact ⟨r, i, j, w, hfind, heq⟩

/-- A write of LS_SEC that leaves LOCK and the reserved bits zero. -/
structure SecStored (s t : State) (n : Fin 9) (v : Nat) : Prop where
  only : RegsOnly s t [LS_SEC n]
  size : t.fld (LS_SEC n) LS_SEC.SIZE = bitsOf v 0 5
  wipe : bitAt v 5 = true → t.flag (LS_SEC n) LS_SEC.WIPE = true

theorem lsSec_stored {s : State} {n : Fin 9} {v : Nat} (hlock : s.flag (LS_SEC n) LS_SEC.LOCK = false) (hv : v < 2 ^ 6) :
    SecStored s (s.wordWrite (LS_SEC n) v) n v := by
  obtain ⟨r, i, j, w, hfind, hmask, hlocked⟩ := regFind_lsSec n
  have hrsv : bitsIn v (r.mask w).rsv = 0 := by
    rw [hmask]
    exact bitsIn_of_lt hv (by decide)
  refine ⟨(wordWrite_regs s hfind hrsv).1, wordWrite_stored s hfind hrsv (by decide) ?_,
    wordWrite_set s hfind hrsv (f := LS_SEC.WIPE) (by decide) rfl (by rw [hmask]; decide)⟩
  rw [hlocked, hlock, hmask]
  decide

/-- A write of LS_MARCH_CTL that leaves the reserved bits zero. -/
structure MarchStored (s t : State) (n : Fin 9) (v : Nat) : Prop where
  only : RegsOnly s t [LS_MARCH_CTL n]
  alg : t.fld (LS_MARCH_CTL n) LS_MARCH_CTL.ALG = bitsOf v 0 2
  bg : t.fld (LS_MARCH_CTL n) LS_MARCH_CTL.BG = bitsOf v 2 2
  preserve : t.fld (LS_MARCH_CTL n) LS_MARCH_CTL.PRESERVE = bitsOf v 4 1
  banks : t.fld (LS_MARCH_CTL n) LS_MARCH_CTL.BANKS = bitsOf v 5 16
  abort : bitAt v 22 = true → t.flag (LS_MARCH_CTL n) LS_MARCH_CTL.ABORT = true

theorem marchCtl_stored (s : State) (n : Fin 9) {v : Nat} (hv : v < 2 ^ 23) : MarchStored s (s.wordWrite (LS_MARCH_CTL n) v) n v := by
  obtain ⟨r, i, j, w, hfind, hmask⟩ := regFind_marchCtl n
  have hrsv : bitsIn v (r.mask w).rsv = 0 := by
    rw [hmask]
    exact bitsIn_of_lt hv (by decide)
  have hstored : (marchCtlMask.rw ||| (if s.locked r i j then 0 else marchCtlMask.rwl)) = 0x1FFFFF := by
    cases s.locked r i j <;> rfl
  have hfld : ∀ f : Fld, Fld.low f → (∀ b < 32, f.1 ≤ b → b < f.1 + f.2 → Nat.testBit 0x1FFFFF b = true ∧
      marchCtlMask.w1c.testBit b = false ∧ marchCtlMask.w1s.testBit b = false) →
      (s.wordWrite (LS_MARCH_CTL n) v).fld (LS_MARCH_CTL n) f = bitsOf v f.1 f.2 := fun f hf hbits =>
    wordWrite_stored s hfind hrsv hf (by rwa [hmask, hstored])
  exact ⟨(wordWrite_regs s hfind hrsv).1, hfld _ (by decide) (by decide), hfld _ (by decide) (by decide),
    hfld _ (by decide) (by decide), hfld _ (by decide) (by decide),
    wordWrite_set s hfind hrsv (f := LS_MARCH_CTL.ABORT) (by decide) rfl (by rw [hmask]; decide)⟩

theorem lsRegs_narrow (n : Fin 9) : wideOf (LS_SEC n) = none ∧ wideOf (LS_MARCH_CTL n) = none := by
  revert n
  decide +kernel

/-- A write of LS_SEC or LS_MARCH_CTL from a master that may write the store's block is taken by it. -/
theorem ctlPut_ls (s : State) {n : Fin 9} {m : Master} (hm : lsMayWrite m n = true) {a : Nat} (ha : a = LS_SEC n ∨ a = LS_MARCH_CTL n)
    {v : Nat} (hv : v < 2 ^ 32) : s.ctlPut m none a 4 v = (s.lsWord n a v, none) := by
  have hplace : 0x600000 ≤ a ∧ a < 0x690000 ∧ (a - 0x600000) / 0x10000 = n := by
    have hn := n.isLt
    rcases ha with rfl | rfl
    · unfold LS_SEC
      omega
    · unfold LS_MARCH_CTL
      omega
  have hwide : wideOf a = none := by
    rcases ha with rfl | rfl
    · exact (lsRegs_narrow n).1
    · exact (lsRegs_narrow n).2
  obtain ⟨hlo, hhi, hstore⟩ := hplace
  have hblock : s.blockWrite m none a 4 v = s.lsRegWrite m a 4 v := by
    simp (disch := omega) only [State.blockWrite, if_neg, if_pos]
  have hput : s.ctlPut m none a 4 v = s.blockWrite m none a 4 v := by
    unfold State.ctlPut
    rw [if_neg (by omega), if_neg (by omega), hwide]
  rw [hput, hblock]
  simp only [State.lsRegWrite, hstore, hm, Nat.mod_eq_of_lt hv]
  rfl

/-- Such a write goes through the fabric, which only answers it. -/
theorem regWrite_ls {s : State} {n : Fin 9} {m : Master} (hm : lsMayWrite m n = true) {a : Nat} (ha : a = LS_SEC n ∨ a = LS_MARCH_CTL n)
    (hgo : CtlGo s m a 4) {v : Nat} (hv : v < 2 ^ 32) :
    ∃ f : Fabric, f.waiting = (s.lsWord n a v).fab.waiting ∧ s.regWrite m a 4 v = { s.lsWord n a v with fab := f } :=
  regWrite_go s _ m a 4 v hgo (ctlPut_ls s hm ha hv)

/-! ### The secure part (R337, R338) -/

theorem lsSec_ne_lsStatus (n : Nat) : LS_SEC n ≠ LS_STATUS n := by
  simp only [LS_SEC, LS_STATUS]
  omega

theorem RegsOnly.with_wipes {s t : State} {as : List Nat} (h : RegsOnly s t as) (l : List LsWipe) :
    RegsOnly { s with lsWipes := l } { t with lsWipes := l } as :=
  ⟨h.regs, congrArg (fun x : State => { x with lsWipes := l }) h.rest⟩

/-- A wipe begun: it is listed, and SEC_WIPING shows it. -/
theorem lsWipeStart_only (s : State) (w : LsWipe) :
    RegsOnly { s with lsWipes := s.lsWipes ++ [w] } (s.lsWipeStart w) [LS_STATUS w.store] :=
  .setFld _ 1 (by decide) (by simp)

theorem lsWipeStart_wiping (s : State) (w : LsWipe) : (s.lsWipeStart w).flag (LS_STATUS w.store) LS_STATUS.SEC_WIPING = true := by
  rw [State.flag, State.lsWipeStart, State.fld_setFld_self]
  rfl

theorem lsWipeStart_sec (s : State) (w : LsWipe) {f : Fld} (hf : Fld.low f) :
    (s.lsWipeStart w).fld (LS_SEC w.store) f = s.fld (LS_SEC w.store) f := by
  rw [State.lsWipeStart, State.fld_setFld_ne _ _ _ _ (by decide) hf (lsSec_ne_lsStatus _)]
  refine State.fld_congr ?_ _ _
  rfl

theorem lsWord_sec (s : State) (n v : Nat) : s.lsWord n (LS_SEC n) v = s.lsSecWrite n v := if_pos rfl

section
variable {s : State} {n : Fin 9} {v : Nat} (hlock : s.flag (LS_SEC n) LS_SEC.LOCK = false) (hv : v < 2 ^ 6)
include hlock hv

/-- R337: a SIZE that shrinks nothing takes effect at once. -/
theorem lsWord_grows (hwipe : bitAt v 5 = false) (hsize : min 16 (s.fld (LS_SEC n) LS_SEC.SIZE) ≤ min 16 (bitsOf v 0 5)) :
    RegsOnly s (s.lsWord n (LS_SEC n) v) [LS_SEC n] ∧ (s.lsWord n (LS_SEC n) v).fld (LS_SEC n) LS_SEC.SIZE = bitsOf v 0 5 := by
  have stored := lsSec_stored hlock hv
  have heq : s.lsWord n (LS_SEC n) v = s.wordWrite (LS_SEC n) v := by
    simp only [lsWord_sec, State.lsSecWrite, stored.size, hwipe, Nat.not_lt.2 hsize, if_false, Bool.false_eq_true]
  rw [heq]
  exact ⟨stored.only, stored.size⟩

/-- R337: a SIZE that shrinks the secure part waits, and the blocks it releases are wiped. -/
theorem lsWord_shrinks (hwipe : bitAt v 5 = false) (hsize : min 16 (bitsOf v 0 5) < min 16 (s.fld (LS_SEC n) LS_SEC.SIZE)) :
    RegsOnly { s with lsWipes := s.lsWipes ++ [⟨n, min 16 (bitsOf v 0 5) * 65536, min 16 (s.fld (LS_SEC n) LS_SEC.SIZE) * 65536,
        some (bitsOf v 0 5)⟩] } (s.lsWord n (LS_SEC n) v) [LS_SEC n, LS_STATUS n] ∧
      (s.lsWord n (LS_SEC n) v).fld (LS_SEC n) LS_SEC.SIZE = s.fld (LS_SEC n) LS_SEC.SIZE ∧
      (s.lsWord n (LS_SEC n) v).flag (LS_STATUS n) LS_STATUS.SEC_WIPING = true := by
  have stored := lsSec_stored hlock hv
  generalize hold : s.fld (LS_SEC n) LS_SEC.SIZE = old at hsize ⊢
  generalize hw : (⟨n, min 16 (bitsOf v 0 5) * 65536, min 16 old * 65536, some (bitsOf v 0 5)⟩ : LsWipe) = w
  have hstore : w.store = n := by rw [← hw]
  have heq : s.lsWord n (LS_SEC n) v = ((s.wordWrite (LS_SEC n) v).setFld (LS_SEC n) LS_SEC.SIZE old).lsWipeStart w := by
    simp only [lsWord_sec, State.lsSecWrite, stored.size, hold, hwipe, hsize, if_true, if_false, Bool.false_eq_true, hw]
  have hkept : RegsOnly s ((s.wordWrite (LS_SEC n) v).setFld (LS_SEC n) LS_SEC.SIZE old) [LS_SEC n] :=
    stored.only.trans (.setFld _ old (by decide) (by simp))
  have hlist : ((s.wordWrite (LS_SEC n) v).setFld (LS_SEC n) LS_SEC.SIZE old).lsWipes = s.lsWipes := by rw [hkept.rest]
  have hbegun := lsWipeStart_only ((s.wordWrite (LS_SEC n) v).setFld (LS_SEC n) LS_SEC.SIZE old) w
  rw [hlist] at hbegun
  rw [heq]
  refine ⟨((hkept.with_wipes _).mono (by simp)).trans (hbegun.mono (by simp [hstore])), ?_, hstore ▸ lsWipeStart_wiping _ w⟩
  have hsec := lsWipeStart_sec ((s.wordWrite (LS_SEC n) v).setFld (LS_SEC n) LS_SEC.SIZE old) w (f := LS_SEC.SIZE) (by decide)
  rw [hstore] at hsec
  rw [hsec, State.fld_setFld_self, ← hold]
  exact Nat.mod_eq_of_lt (Nat.mod_lt _ (by decide))

/-- R338: WIPE starts a wipe of the whole secure part. -/
theorem lsWord_wipes (hwipe : bitAt v 5 = true) (hsize : bitsOf v 0 5 = s.fld (LS_SEC n) LS_SEC.SIZE) :
    RegsOnly { s with lsWipes := s.lsWipes ++ [⟨n, 0, s.lsSecure n, none⟩] } (s.lsWord n (LS_SEC n) v) [LS_SEC n, LS_STATUS n] ∧
      (s.lsWord n (LS_SEC n) v).fld (LS_SEC n) LS_SEC.SIZE = s.fld (LS_SEC n) LS_SEC.SIZE ∧
      (s.lsWord n (LS_SEC n) v).flag (LS_SEC n) LS_SEC.WIPE = true ∧
      (s.lsWord n (LS_SEC n) v).flag (LS_STATUS n) LS_STATUS.SEC_WIPING = true := by
  have stored := lsSec_stored hlock hv
  have hsame := stored.size.trans hsize
  have hsecure : (s.wordWrite (LS_SEC n) v).lsSecure n = s.lsSecure n := by rw [State.lsSecure, hsame, State.lsSecure]
  generalize hw : (⟨n, 0, s.lsSecure n, none⟩ : LsWipe) = w
  have hstore : w.store = n := by rw [← hw]
  have heq : s.lsWord n (LS_SEC n) v = (s.wordWrite (LS_SEC n) v).lsWipeStart w := by
    simp only [lsWord_sec, State.lsSecWrite, hsame, hwipe, Nat.lt_irrefl, if_true, if_false, hsecure, hw]
  have hlist : (s.wordWrite (LS_SEC n) v).lsWipes = s.lsWipes := by rw [stored.only.rest]
  have hbegun := lsWipeStart_only (s.wordWrite (LS_SEC n) v) w
  rw [hlist] at hbegun
  have hsec : ∀ f, Fld.low f →
      ((s.wordWrite (LS_SEC n) v).lsWipeStart w).fld (LS_SEC n) f = (s.wordWrite (LS_SEC n) v).fld (LS_SEC n) f :=
    fun f hf => by
      have := lsWipeStart_sec (s.wordWrite (LS_SEC n) v) w hf
      rwa [hstore] at this
  rw [heq]
  refine ⟨((stored.only.with_wipes _).mono (by simp)).trans (hbegun.mono (by simp [hstore])), ?_, ?_, hstore ▸ lsWipeStart_wiping _ w⟩
  · rw [hsec _ (by decide), hsame]
  · rw [State.flag, hsec _ (by decide)]
    exact stored.wipe hwipe

end

/-! ### The end of a wipe and of a clear (R338, R339) -/

/-- A lowered SIZE takes its new value. -/
def State.wipeResized (s : State) (n : Nat) (size : Option Nat) : State :=
  match size with
  | some k => s.setFld (LS_SEC n) LS_SEC.SIZE k
  | none => s

theorem wipeResized_only (s : State) (n : Nat) (size : Option Nat) : RegsOnly s (s.wipeResized n size) [LS_SEC n] := by
  cases size with
  | some k => exact .setFld s k (by decide) (by simp)
  | none => exact .refl s _

theorem wipeResized_size (s : State) (n : Nat) (size : Option Nat) : (s.wipeResized n size).fld (LS_SEC n) LS_SEC.SIZE =
    match size with
    | some k => k % 32
    | none => s.fld (LS_SEC n) LS_SEC.SIZE := by
  cases size with
  | some k => exact State.fld_setFld_self ..
  | none => rfl

/-- The state in which the bytes of a part read as zero and no wipe of the store is listed. -/
def State.wiped (s : State) (n lo hi : Nat) : State := { s.lsZero n lo hi with lsWipes := s.lsWipes.filter (fun x => x.store != n) }

theorem wiped_zeroed (s : State) (n lo hi : Nat) :
    Zeroed s (s.wiped n lo hi) (fun a => decide (lsAddr n lo ≤ a) && decide (a < lsAddr n hi)) :=
  ⟨(lsZero_zeroed s n lo hi).bytes, rfl⟩

/-- R337, R338: the one wipe of a store ends. -/
theorem lsWipeDone_single {s : State} {n : Nat} {w : LsWipe} (h : s.lsWipes.filter (fun x => x.store == n) = [w]) :
    RegsOnly (s.wiped n w.lo w.hi) (s.lsWipeDone n) [LS_SEC n, LS_STATUS n] ∧
      (s.lsWipeDone n).flag (LS_STATUS n) LS_STATUS.SEC_WIPING = false ∧
      (s.lsWipeDone n).flag (LS_SEC n) LS_SEC.WIPE = false ∧
      (s.lsWipeDone n).fld (LS_SEC n) LS_SEC.SIZE = match w.size with
        | some k => k % 32
        | none => s.fld (LS_SEC n) LS_SEC.SIZE := by
  have hresized := wipeResized_only (s.lsZero n w.lo w.hi) n w.size
  generalize hu : ({ (s.lsZero n w.lo w.hi).wipeResized n w.size with lsWipes := s.lsWipes.filter (fun x => x.store != n) } : State) = u
  have hlist : ((s.lsZero n w.lo w.hi).wipeResized n w.size).lsWipes = s.lsWipes := by
    rw [hresized.rest]
    rfl
  have heq : s.lsWipeDone n = (u.setFld (LS_STATUS n) LS_STATUS.SEC_WIPING 0).setFld (LS_SEC n) LS_SEC.WIPE 0 := by
    rw [← hu, ← hlist, State.lsWipeDone, h]
    rfl
  have honly : RegsOnly (s.wiped n w.lo w.hi) u [LS_SEC n, LS_STATUS n] := by
    rw [← hu]
    exact (hresized.with_wipes _).mono (by simp)
  have hsize : u.fld (LS_SEC n) LS_SEC.SIZE = match w.size with
      | some k => k % 32
      | none => s.fld (LS_SEC n) LS_SEC.SIZE := by
    rw [← hu]
    exact wipeResized_size (s.lsZero n w.lo w.hi) n w.size
  rw [heq]
  refine ⟨(honly.trans (.setFld _ 0 (by decide) (by simp))).trans (.setFld _ 0 (by decide) (by simp)), ?_, ?_, ?_⟩
  · rw [State.flag, State.fld_setFld_ne _ _ _ _ (by decide) (by decide) (lsSec_ne_lsStatus n).symm, State.fld_setFld_self]
    rfl
  · rw [State.flag, State.fld_setFld_self]
    rfl
  · rw [State.fld_setFld_apart _ _ _ (by decide) (by decide) (by decide),
      State.fld_setFld_ne _ _ _ _ (by decide) (by decide) (lsSec_ne_lsStatus n), hsize]

/-- R339: a clear ends. -/
theorem lsClearDone_shown (s : State) (n : Nat) : RegsOnly (s.lsZero n 0 0x400000) (s.lsClearDone n) [LS_STATUS n] ∧
    (s.lsClearDone n).flag (LS_STATUS n) LS_STATUS.CLEARING = false ∧ (s.lsClearDone n).flag (LS_STATUS n) LS_STATUS.READY = true := by
  rw [State.lsClearDone]
  refine ⟨.trans (.setFld _ 0 (by decide) (by simp)) (.setFld _ 1 (by decide) (by simp)), ?_, ?_⟩
  · rw [State.flag, State.fld_setFld_apart _ _ _ (by decide) (by decide) (by decide), State.fld_setFld_self]
    rfl
  · rw [State.flag, State.fld_setFld_self]
    rfl

end Sys2Proof.Machine
end

section
/-! The march engine of a local store (O39). -/
namespace Sys2Proof.Machine

/-! ### The march registers -/

theorem lsStatus_march_far (n : Nat) : LS_STATUS n + 8 ≤ LS_MARCH_CTL n ∧ LS_STATUS n + 8 ≤ LS_MARCH_STATUS n ∧
    LS_MARCH_CTL n + 8 ≤ LS_MARCH_STATUS n := by
  simp only [LS_STATUS, LS_MARCH_CTL, LS_MARCH_STATUS]
  omega

theorem RegsOnly.with_marches {s t : State} {as : List Nat} (h : RegsOnly s t as) (l : List March) :
    RegsOnly { s with marches := l } { t with marches := l } as :=
  ⟨h.regs, congrArg (fun x : State => { x with marches := l }) h.rest⟩

theorem RegsOnly.fld_low {s t : State} {as : List Nat} (h : RegsOnly s t as) {a : Nat} {f : Fld} (hf : Fld.low f) (ha : a ∉ as) :
    t.fld a f = s.fld a f := by
  rw [State.fld_low _ _ hf, State.fld_low _ _ hf, h.regs a ha]

/-! ### A run starts (R341) -/

/-- R341: what a destructive run waits for is not in LS_MARCH_CTL. -/
theorem marchFree_of_regsOnly {s t : State} {n : Fin 9} (h : RegsOnly s t [LS_MARCH_CTL n]) : t.marchFree n = s.marchFree n := by
  have hoven : ∀ o f, Fld.low f → t.fld (QE_OVEN o) f = s.fld (QE_OVEN o) f := fun o f hf => by
    refine h.fld_low hf ?_
    have hn := n.isLt
    simp only [QE_OVEN, LS_MARCH_CTL, List.mem_singleton]
    omega
  have hunit : t.unitOven (lsUnit n) = s.unitOven (lsUnit n) := by
    rw [h.rest]
    rfl
  have hseqs : t.seqs = s.seqs := by rw [h.rest]
  simp only [State.marchFree, State.flag, hunit, hoven _ _ (show Fld.low QE_OVEN.RDY by decide),
    hoven _ _ (show Fld.low QE_OVEN.INFLIGHT by decide), hseqs]

/-- A march run that has started: BUSY is shown, and no failing line yet. -/
structure MarchRunning (t : State) (n : Nat) : Prop where
  busy : t.flag (LS_MARCH_STATUS n) LS_MARCH_STATUS.BUSY = true
  storeBusy : t.flag (LS_STATUS n) LS_STATUS.MARCH_BUSY = true
  started : t.flag (LS_MARCH_CTL n) LS_MARCH_CTL.START = false
  fresh : ∀ g ∈ [LS_MARCH_STATUS.FAIL_BANKS, LS_MARCH_STATUS.FIRST_LINE, LS_MARCH_STATUS.FAIL_COUNT], t.fld (LS_MARCH_STATUS n) g = 0

/-- The registers of a run that starts. -/
def State.marchOpened (s : State) (n : Nat) : State :=
  (((((s.setFld (LS_MARCH_CTL n) LS_MARCH_CTL.START 0).setFld (LS_MARCH_STATUS n) LS_MARCH_STATUS.FAIL_BANKS 0).setFld
    (LS_MARCH_STATUS n) LS_MARCH_STATUS.FIRST_LINE 0).setFld (LS_MARCH_STATUS n) LS_MARCH_STATUS.FAIL_COUNT 0).setFld
    (LS_MARCH_STATUS n) LS_MARCH_STATUS.BUSY 1).setFld (LS_STATUS n) LS_STATUS.MARCH_BUSY 1

theorem marchOpened_only (s : State) (n : Nat) :
    RegsOnly s (s.marchOpened n) [LS_MARCH_CTL n, LS_MARCH_STATUS n, LS_MARCH_STATUS n + 4, LS_STATUS n] :=
  (((((RegsOnly.setFld s 0 (by decide) (by simp)).trans (.setFld_pair _ 0 (by decide) (by simp) (by simp))).trans
    (.setFld_pair _ 0 (by decide) (by simp) (by simp))).trans (.setFld_pair _ 0 (by decide) (by simp) (by simp))).trans
    (.setFld_pair _ 1 (by decide) (by simp) (by simp))).trans (.setFld _ 1 (by decide) (by simp))

theorem marchOpened_running (s : State) (n : Nat) : MarchRunning (s.marchOpened n) n := by
  obtain ⟨hctl, hstat, hapart⟩ := lsStatus_march_far n
  refine ⟨?_, ?_, ?_, fun g hg => ?_⟩
  · rw [State.flag, State.marchOpened, State.fld_setFld_far _ _ _ _ (by decide) (by decide) (.inl hstat), State.fld_setFld_self]
    rfl
  · rw [State.flag, State.marchOpened, State.fld_setFld_self]
    rfl
  · rw [State.flag, State.marchOpened, State.fld_setFld_far _ _ _ _ (by decide) (by decide) (.inl hctl)]
    simp (disch := decide) only [State.fld_setFld_far _ _ _ _ _ _ (.inr hapart), State.fld_setFld_self]
    rfl
  · simp only [List.mem_cons, List.not_mem_nil, or_false] at hg
    rcases hg with rfl | rfl | rfl
    all_goals
      rw [State.marchOpened, State.fld_setFld_far _ _ _ _ (by decide) (by decide) (.inl hstat)]
      simp (disch := decide) only [State.fld_setFld_apart, State.fld_setFld_self]
      rfl

theorem marchOpened_banks (s : State) (n : Nat) :
    (s.marchOpened n).fld (LS_MARCH_CTL n) LS_MARCH_CTL.BANKS = s.fld (LS_MARCH_CTL n) LS_MARCH_CTL.BANKS := by
  obtain ⟨hctl, _, hapart⟩ := lsStatus_march_far n
  rw [State.marchOpened, State.fld_setFld_far _ _ _ _ (by decide) (by decide) (.inl hctl)]
  simp (disch := decide) only [State.fld_setFld_far _ _ _ _ _ _ (.inr hapart), State.fld_setFld_apart]

/-- A run is shown in registers alone. -/
theorem MarchRunning.of_regs {s t : State} {n : Nat} (h : MarchRunning s n) (hregs : t.regs = s.regs) : MarchRunning t n := by
  have hflag : ∀ a f, t.flag a f = s.flag a f := fun a f => by rw [State.flag, State.flag, State.fld_congr hregs]
  exact ⟨(hflag ..).trans h.busy, (hflag ..).trans h.storeBusy, (hflag ..).trans h.started,
    fun g hg => (State.fld_congr hregs ..).trans (h.fresh g hg)⟩

section
variable {s : State} {n : Fin 9} (hbad : ¬ (s.fld (LS_MARCH_CTL n) LS_MARCH_CTL.ALG = 3 ∨ s.fld (LS_MARCH_CTL n) LS_MARCH_CTL.BG = 3 ∨
  s.fld (LS_MARCH_CTL n) LS_MARCH_CTL.BANKS = 0)) (hnone : ∀ m ∈ s.marches, m.store ≠ n.val)
  (hfree : s.flag (LS_MARCH_CTL n) LS_MARCH_CTL.PRESERVE = true ∨ s.marchFree n = true)
include hbad hnone hfree

/-- R341: a START that nothing refuses starts the run. -/
theorem marchGo_opens : s.marchGo n = { s.marchOpened n with marches := s.marches ++
    [⟨n, s.flag (LS_MARCH_CTL n) LS_MARCH_CTL.PRESERVE, s.fld (LS_MARCH_CTL n) LS_MARCH_CTL.BANKS⟩] } := by
  generalize hu : s.setFld (LS_MARCH_CTL n) LS_MARCH_CTL.START 0 = u
  have honly : RegsOnly s u [LS_MARCH_CTL n] := by
    rw [← hu]
    exact .setFld _ 0 (by decide) (by simp)
  have hfld : ∀ f, Fld.pair f → f.1 + f.2 ≤ 21 → u.fld (LS_MARCH_CTL n) f = s.fld (LS_MARCH_CTL n) f := fun f hf hle => by
    rw [← hu]
    exact State.fld_setFld_apart _ _ _ (by decide) hf (.inr hle)
  have halg := hfld LS_MARCH_CTL.ALG (by decide) (by decide)
  have hbg := hfld LS_MARCH_CTL.BG (by decide) (by decide)
  have hbanks := hfld LS_MARCH_CTL.BANKS (by decide) (by decide)
  have hpres : u.flag (LS_MARCH_CTL n) LS_MARCH_CTL.PRESERVE = s.flag (LS_MARCH_CTL n) LS_MARCH_CTL.PRESERVE := by
    rw [State.flag, State.flag, hfld _ (by decide) (by decide)]
  have hmarches : u.marches = s.marches := by rw [honly.rest]
  have hany : s.marches.any (fun m => m.store == n.val) = false := by
    rw [List.any_eq_false]
    exact fun m hm => by simpa using hnone m hm
  have hrefused : ¬ ((u.fld (LS_MARCH_CTL n) LS_MARCH_CTL.ALG = 3 ∨ u.fld (LS_MARCH_CTL n) LS_MARCH_CTL.BG = 3 ∨
      u.fld (LS_MARCH_CTL n) LS_MARCH_CTL.BANKS = 0) ∨ u.marches.any (fun m => m.store == n.val) = true ∨
      (u.flag (LS_MARCH_CTL n) LS_MARCH_CTL.PRESERVE = false ∧ u.marchFree n = false)) := by
    rw [halg, hbg, hbanks, hpres, hmarches, hany, marchFree_of_regsOnly honly]
    rintro (h | h | ⟨hp, hf⟩)
    · exact hbad h
    · exact Bool.false_ne_true h
    · simp [hp, hf] at hfree
  have hopened : (s.marchOpened n).marches = s.marches := by rw [(marchOpened_only s n).rest]
  have hgo : s.marchGo n = { s.marchOpened n with marches := (s.marchOpened n).marches ++
      [⟨n, u.flag (LS_MARCH_CTL n) LS_MARCH_CTL.PRESERVE, (s.marchOpened n).fld (LS_MARCH_CTL n) LS_MARCH_CTL.BANKS⟩] } := by
    rw [State.marchGo]
    dsimp only
    rw [hu, if_neg hrefused, ← hu]
    rfl
  rw [hgo, hopened, hpres, marchOpened_banks]

end

/-! ### LS_MARCH_CTL written -/

theorem marchCtl_ne_lsSec (n : Nat) : LS_MARCH_CTL n ≠ LS_SEC n := by
  simp only [LS_MARCH_CTL, LS_SEC]
  omega

/-- START alone: the word is stored and the engine looks whether it may start. -/
theorem lsWord_start {n v : Nat} (s : State) (hstart : bitAt v 21 = true) (habort : bitAt v 22 = false) :
    s.lsWord n (LS_MARCH_CTL n) v = (s.wordWrite (LS_MARCH_CTL n) v).marchGo n := by
  simp [State.lsWord, marchCtl_ne_lsSec, hstart, habort]

/-- ABORT during a run: the word is stored, and ABORT stands until the run stops. -/
theorem lsWord_abort {n v : Nat} {s : State} (hstart : bitAt v 21 = false)
    (hrun : (s.wordWrite (LS_MARCH_CTL n) v).marches.any (fun m => m.store == n) = true) :
    s.lsWord n (LS_MARCH_CTL n) v = s.wordWrite (LS_MARCH_CTL n) v := by
  simp only [State.lsWord, if_neg (marchCtl_ne_lsSec n), hstart, hrun, if_true, if_false, Bool.false_eq_true, and_false, reduceCtorEq]

/-- R341: MARCH_START written with a word that is no refusal starts a run of its banks. -/
theorem lsWord_starts_run {s : State} {n : Fin 9} {v : Nat} (hv : v < 2 ^ 22) (halg : bitsOf v 0 2 ≠ 3) (hbg : bitsOf v 2 2 ≠ 3)
    (hbanks : bitsOf v 5 16 ≠ 0) (hnone : ∀ m ∈ s.marches, m.store ≠ n.val) (hfree : bitAt v 4 = true ∨ s.marchFree n = true)
    (hstart : bitAt v 21 = true) :
    RegsOnly { s with marches := s.marches ++ [⟨n, bitAt v 4, bitsOf v 5 16⟩] } (s.lsWord n (LS_MARCH_CTL n) v)
        [LS_MARCH_CTL n, LS_MARCH_STATUS n, LS_MARCH_STATUS n + 4, LS_STATUS n] ∧
      MarchRunning (s.lsWord n (LS_MARCH_CTL n) v) n := by
  have stored := marchCtl_stored s n (hv.trans (by decide))
  have hpres : (s.wordWrite (LS_MARCH_CTL n) v).flag (LS_MARCH_CTL n) LS_MARCH_CTL.PRESERVE = bitAt v 4 := by
    rw [State.flag, stored.preserve, decide_bitsOf_one]
  have hmarches : (s.wordWrite (LS_MARCH_CTL n) v).marches = s.marches := by rw [stored.only.rest]
  have hopens := marchGo_opens (s := s.wordWrite (LS_MARCH_CTL n) v) (n := n)
    (by rw [stored.alg, stored.bg, stored.banks]; tauto) (by rwa [hmarches])
    (by rwa [hpres, marchFree_of_regsOnly stored.only])
  rw [hpres, hmarches, stored.banks] at hopens
  rw [lsWord_start s hstart (bitAt_of_lt hv le_rfl), hopens]
  have honly := (stored.only.mono (bs := [LS_MARCH_CTL n, LS_MARCH_STATUS n, LS_MARCH_STATUS n + 4, LS_STATUS n]) (by simp)).trans
    (marchOpened_only _ n)
  refine ⟨honly.with_marches (s.marches ++ [⟨n, bitAt v 4, bitsOf v 5 16⟩]), 
    (marchOpened_running (s.wordWrite (LS_MARCH_CTL n) v) n).of_regs ?_⟩
  rfl

/-! ### A run ends (R343) -/

/-- The bytes that a run leaves zero: those of its banks, unless it preserves (R341, R342). -/
def March.clears (m : March) (a : Nat) : Bool := !m.preserve && decide (a / 2 ^ 22 = m.store) && bitAt m.banks (a / 64 % 16)

/-- The state in which the run is over and its banks are left as they should be. -/
def State.marchCleared (s : State) (n : Nat) (m : March) : State :=
  { s.zeroWhere m.clears with marches := s.marches.filter (fun x => x.store != n) }

theorem marchCleared_zeroed (s : State) (n : Nat) (m : March) : Zeroed s (s.marchCleared n m) m.clears :=
  ⟨(zeroWhere_zeroed s m.clears).bytes, rfl⟩

/-- The registers of a run that is over. -/
def State.marchShown (s : State) (n : Nat) : State :=
  (((s.setFld (LS_MARCH_STATUS n) LS_MARCH_STATUS.BUSY 0).setFld (LS_STATUS n) LS_STATUS.MARCH_BUSY 0).setFld (LS_MARCH_STATUS n)
    LS_MARCH_STATUS.DONE 1).setFld (LS_MARCH_CTL n) LS_MARCH_CTL.ABORT 0

/-- The failing lines, as LS_MARCH_STATUS records them. -/
def State.marchFailed (s : State) (n l : Nat) (lines : List Nat) : State :=
  (((s.setFld (LS_MARCH_STATUS n) LS_MARCH_STATUS.FAIL 1).setFld (LS_MARCH_STATUS n) LS_MARCH_STATUS.FIRST_LINE l).setFld
    (LS_MARCH_STATUS n) LS_MARCH_STATUS.FAIL_COUNT (min 0xFFFF lines.length)).setFld (LS_MARCH_STATUS n) LS_MARCH_STATUS.FAIL_BANKS
    ((upTo 16).foldl (fun acc b => acc + bit01 (lines.any (fun l => l % 16 == b)) * 2 ^ b) 0)

/-- A march run that has ended. -/
structure MarchOver (t : State) (n : Nat) : Prop where
  idle : t.flag (LS_MARCH_STATUS n) LS_MARCH_STATUS.BUSY = false
  storeIdle : t.flag (LS_STATUS n) LS_STATUS.MARCH_BUSY = false
  done : t.flag (LS_MARCH_STATUS n) LS_MARCH_STATUS.DONE = true
  abort : t.flag (LS_MARCH_CTL n) LS_MARCH_CTL.ABORT = false

theorem marchShown_over (s : State) (n : Nat) : MarchOver (s.marchShown n) n := by
  obtain ⟨hctl, hstat, hapart⟩ := lsStatus_march_far n
  have hfar : ∀ (u : State) (v : Nat) (f g : Fld), Fld.pair f → Fld.pair g →
      (u.setFld (LS_MARCH_CTL n) f v).fld (LS_MARCH_STATUS n) g = u.fld (LS_MARCH_STATUS n) g := fun u v f g hf hg =>
    State.fld_setFld_far u _ v _ hf hg (.inl hapart)
  refine ⟨?_, ?_, ?_, ?_⟩
  · rw [State.flag, State.marchShown, hfar _ _ _ _ (by decide) (by decide),
      State.fld_setFld_apart _ _ _ (by decide) (by decide) (by decide),
      State.fld_setFld_far _ _ _ _ (by decide) (by decide) (.inl hstat), State.fld_setFld_self]
    rfl
  · rw [State.flag, State.marchShown, State.fld_setFld_far _ _ _ _ (by decide) (by decide) (.inr hctl),
      State.fld_setFld_far _ _ _ _ (by decide) (by decide) (.inr hstat), State.fld_setFld_self]
    rfl
  · rw [State.flag, State.marchShown, hfar _ _ _ _ (by decide) (by decide), State.fld_setFld_self]
    rfl
  · rw [State.flag, State.marchShown, State.fld_setFld_self]
    rfl

/-- What LS_MARCH_STATUS records beside BUSY and DONE changes neither. -/
theorem MarchOver.setFld {s : State} {n : Nat} (h : MarchOver s n) {f : Fld} (v : Nat) (hf : Fld.pair f) (hbeside : 2 ≤ f.1) :
    MarchOver (s.setFld (LS_MARCH_STATUS n) f v) n := by
  obtain ⟨hctl, hstat, hapart⟩ := lsStatus_march_far n
  refine ⟨?_, ?_, ?_, ?_⟩
  · rw [State.flag, State.fld_setFld_apart _ _ _ hf (by decide) (.inr (by simp only [LS_MARCH_STATUS.BUSY]; omega))]
    exact h.idle
  · rw [State.flag, State.fld_setFld_far _ _ _ _ hf (by decide) (.inr hstat)]
    exact h.storeIdle
  · rw [State.flag, State.fld_setFld_apart _ _ _ hf (by decide) (.inr (by simp only [LS_MARCH_STATUS.DONE]; omega))]
    exact h.done
  · rw [State.flag, State.fld_setFld_far _ _ _ _ hf (by decide) (.inr hapart)]
    exact h.abort

theorem marchShown_only (s : State) (n : Nat) : RegsOnly s (s.marchShown n) [LS_MARCH_CTL n, LS_MARCH_STATUS n, LS_STATUS n] :=
  (((RegsOnly.setFld s 0 (by decide) (by simp)).trans (.setFld _ 0 (by decide) (by simp))).trans
    (.setFld _ 1 (by decide) (by simp))).trans (.setFld _ 0 (by decide) (by simp))

/-- A number put together from bits has them. -/
theorem testBit_sum_of_bits (p : Nat → Bool) (k : Nat) :
    (upTo k).foldl (fun acc b => acc + bit01 (p b) * 2 ^ b) 0 < 2 ^ k ∧
      ∀ b < k, ((upTo k).foldl (fun acc b => acc + bit01 (p b) * 2 ^ b) 0).testBit b = p b := by
  unfold upTo
  induction k with
  | zero => simp
  | succ k ih =>
    obtain ⟨hlt, hbits⟩ := ih
    have htop : bit01 (p k) ≤ 1 := bit01_le _
    rw [List.range_succ, List.foldl_append]
    simp only [List.foldl_cons, List.foldl_nil]
    rw [Nat.add_comm, Nat.mul_comm]
    refine ⟨?_, fun b hb => ?_⟩
    · rw [Nat.pow_succ]
      nlinarith
    · rw [Nat.testBit_two_pow_mul_add _ hlt]
      rcases Nat.lt_succ_iff_lt_or_eq.1 hb with hlow | rfl
      · rw [if_pos hlow, hbits b hlow]
      · rw [if_neg (Nat.lt_irrefl _), Nat.sub_self]
        cases p b <;> rfl

section
variable (s : State) (n l : Nat) (lines : List Nat)

theorem marchFailed_only : RegsOnly s (s.marchFailed n l lines) [LS_MARCH_STATUS n, LS_MARCH_STATUS n + 4] :=
  (((RegsOnly.setFld_pair s 1 (by decide) (by simp) (by simp)).trans (.setFld_pair _ _ (by decide) (by simp) (by simp))).trans
    (.setFld_pair _ _ (by decide) (by simp) (by simp))).trans (.setFld_pair _ _ (by decide) (by simp) (by simp))

theorem marchFailed_over {s : State} {n : Nat} (h : MarchOver s n) : MarchOver (s.marchFailed n l lines) n :=
  (((h.setFld 1 (by decide) (by decide)).setFld l (by decide) (by decide)).setFld _ (by decide) (by decide)).setFld _ (by decide)
    (by decide)

/-- R343: the run failed; its first failing line, how many there are, and in which banks. -/
theorem marchFailed_recorded (hl : l < 65536) :
    (s.marchFailed n l lines).flag (LS_MARCH_STATUS n) LS_MARCH_STATUS.FAIL = true ∧
      (s.marchFailed n l lines).fld (LS_MARCH_STATUS n) LS_MARCH_STATUS.FIRST_LINE = l ∧
      (s.marchFailed n l lines).fld (LS_MARCH_STATUS n) LS_MARCH_STATUS.FAIL_COUNT = min 0xFFFF lines.length ∧
      ∀ b < 16, bitAt ((s.marchFailed n l lines).fld (LS_MARCH_STATUS n) LS_MARCH_STATUS.FAIL_BANKS) b =
        lines.any (fun l => l % 16 == b) := by
  obtain ⟨hbanks, hbits⟩ := testBit_sum_of_bits (fun b => lines.any (fun l => l % 16 == b)) 16
  unfold State.marchFailed State.flag
  refine ⟨?_, ?_, ?_, fun b hb => ?_⟩
  · simp (disch := decide) only [State.fld_setFld_apart, State.fld_setFld_self]
    rfl
  · simp (disch := decide) only [State.fld_setFld_apart, State.fld_setFld_self]
    exact Nat.mod_eq_of_lt hl
  · simp (disch := decide) only [State.fld_setFld_apart, State.fld_setFld_self]
    exact Nat.mod_eq_of_lt (Nat.lt_of_le_of_lt (Nat.min_le_left _ _) (by decide))
  · rw [State.fld_setFld_self, show 2 ^ LS_MARCH_STATUS.FAIL_BANKS.2 = 2 ^ 16 from rfl, Nat.mod_eq_of_lt hbanks,
      bitAt_eq_testBit, hbits b hb]

end

/-- The state in which a run has ended, before its failing lines are recorded. -/
def State.marchEnded (s : State) (n : Nat) (m : March) (aborted : Bool) : State :=
  if aborted then ((s.marchCleared n m).marchShown n).setFld (LS_MARCH_STATUS n) LS_MARCH_STATUS.ABORTED 1
  else (s.marchCleared n m).marchShown n

section
variable {s : State} {n : Nat} {m : March} (hfind : s.marches.find? (fun m => m.store == n) = some m) {lines : List Nat} (aborted : Bool)
include hfind

omit hfind in
theorem marchEnd_clears : (if m.preserve then s else s.marchZero m) = s.zeroWhere m.clears := by
  cases hpres : m.preserve with
  | true => simp [State.zeroWhere, March.clears, hpres]
  | false => simp [State.zeroWhere, State.marchZero, March.clears, hpres]

/-- A run that found no failing line. -/
theorem marchEnd_passed (h : lines.filter (fun l => bitAt m.banks (l % 16)) = []) :
    s.marchEnd n lines aborted = s.marchEnded n m aborted := by
  unfold State.marchEnd
  simp only [hfind, h, marchEnd_clears]
  rfl

/-- A run that found failing lines: they are recorded and LS_MARCH_FAIL is raised. -/
theorem marchEnd_failed {l : Nat} {rest : List Nat} (h : lines.filter (fun l => bitAt m.banks (l % 16)) = l :: rest) :
    s.marchEnd n lines aborted = ((s.marchEnded n m aborted).marchFailed n l (l :: rest)).raise (0x0B4 + n * 8) (lsUnit n) svDegraded := by
  have hsrc : 0x0B0 + n * 8 + 4 = 0x0B4 + n * 8 := by omega
  unfold State.marchEnd
  simp only [hfind, h, marchEnd_clears, hsrc]
  rfl

end

end Sys2Proof.Machine
end

section
/-! The commands of a local store, with what their events release (O39). -/
namespace Sys2Proof.Machine

/-! ### Nothing waits -/

theorem settled_after {s t : State} (h : Still t) (hp : t.pending = s.pending) : s.after t.settle = t := by
  rw [settle_still t h, after_eq hp]

theorem Still.lsZero {s : State} (h : Still s) (n lo hi : Nat) : Still (s.lsZero n lo hi) :=
  ⟨h.fab, h.chain, h.inbox, h.host, h.seqs, h.repair⟩

theorem Still.wiped {s : State} (h : Still s) (n lo hi : Nat) : Still (s.wiped n lo hi) :=
  ⟨h.fab, h.chain, h.inbox, h.host, h.seqs, h.repair⟩

theorem Still.marchCleared {s : State} (h : Still s) (n : Nat) (m : March) : Still (s.marchCleared n m) :=
  ⟨h.fab, h.chain, h.inbox, h.host, h.seqs, h.repair⟩

theorem Still.with_fab {s : State} (h : Still s) {f : Fabric} (hf : f.waiting = []) : Still { s with fab := f } :=
  ⟨hf, h.chain, h.inbox, h.host, h.seqs, h.repair⟩

/-- An event that runs no reaction releases nothing. -/
theorem Still.of_raised {s t : State} {k : Nat} (h : Still s) (hr : EventRaised s t k) : Still t := by
  have hcalm := hr.calm
  have hrunning : t.fj.running = [] := by
    simp only [FaultUnit.reactions, List.append_eq_nil_iff] at hcalm
    exact hcalm.1.1
  refine ⟨?_, ?_, ?_, ?_, fun n => ?_, by simp [hrunning]⟩
  all_goals rw [hr.rest]
  exacts [h.fab, h.chain, h.inbox, h.host, h.seqs n]

/-! ### Frames of a store's bytes -/

/-- What a store's bytes have become may be read off the state itself. -/
theorem RegsOnly.of_stores {s t : State} {as : List Nat} {l : List Host.Cell} {b : List Nat} {w : List LsWipe} {m : List March}
    (h : RegsOnly { s with ls := l, lsBad := b, lsWipes := w, marches := m } t as) :
    RegsOnly { s with ls := t.ls, lsBad := t.lsBad, lsWipes := w, marches := m } t as := by
  have hls : t.ls = l := by rw [h.rest]
  have hbad : t.lsBad = b := by rw [h.rest]
  rw [hls, hbad]
  exact h

theorem RegsOnly.marchCleared {s t : State} {as : List Nat} (h : RegsOnly s t as) (n : Nat) (m : March) :
    RegsOnly (s.marchCleared n m) (t.marchCleared n m) as :=
  ⟨h.regs, congrArg (fun x : State => x.marchCleared n m) h.rest⟩

/-! ### Commands that write the store's registers -/

/-- A command that is a write of LS_SEC or LS_MARCH_CTL leaves what the block makes of the word, and its answer. -/
theorem lsCommand_writes {s : State} {c : Instr} {who : Master} {n : Fin 9} {a v : Nat}
    (hcmd : exec c s = if who.ok then .next (s.after (s.regWrite who a 4 v)) else .fault .illFormed) (hok : who.ok = true)
    (hmay : lsMayWrite who n = true) (ha : a = LS_SEC n ∨ a = LS_MARCH_CTL n) (hgo : CtlGo s who a 4) (hv : v < 2 ^ 32)
    (hp : (s.lsWord n a v).pending = s.pending) : ∃ f : Fabric, exec c s = .next { s.lsWord n a v with fab := f } := by
  obtain ⟨f, _, hwrite⟩ := regWrite_ls hmay ha hgo hv
  refine ⟨f, ?_⟩
  rw [hcmd, if_pos hok, hwrite]
  exact congrArg Host.Outcome.next (after_eq hp)

/-! ### The march engine's commands -/

theorem marchEnded_only (s : State) (n : Nat) (m : March) (aborted : Bool) :
    RegsOnly (s.marchCleared n m) (s.marchEnded n m aborted) [LS_MARCH_CTL n, LS_MARCH_STATUS n, LS_STATUS n] := by
  unfold State.marchEnded
  split
  · exact (marchShown_only ..).trans (.setFld _ 1 (by decide) (by simp))
  · exact marchShown_only ..

theorem marchEnded_over (s : State) (n : Nat) (m : March) (aborted : Bool) : MarchOver (s.marchEnded n m aborted) n := by
  unfold State.marchEnded
  split
  · exact (marchShown_over ..).setFld 1 (by decide) (by decide)
  · exact marchShown_over ..

theorem marchEnded_with_fab (s : State) (n : Nat) (m : March) (aborted : Bool) (f : Fabric) :
    ({ s with fab := f } : State).marchEnded n m aborted = { s.marchEnded n m aborted with fab := f } := by
  have hcleared : ({ s with fab := f } : State).marchCleared n m = { s.marchCleared n m with fab := f } := rfl
  unfold State.marchEnded State.marchShown
  rw [hcleared]
  split <;> simp only [State.setFld_with_fab]

/-- What a run that ended leaves: its banks, its registers, and nothing else changed. -/
structure MarchLeft (s t : State) (n : Nat) (m : March) (as : List Nat) : Prop where
  only : RegsOnly { s with
    marches := s.marches.filter (fun x => x.store != n)
    ls := t.ls
    lsBad := t.lsBad } t as
  zeroed : Zeroed s t m.clears
  ended : MarchOver t n

theorem marchLeft_of_only {s t : State} {n : Nat} {m : March} {as : List Nat} (h : RegsOnly (s.marchCleared n m) t as)
    (hover : MarchOver t n) : MarchLeft s t n m as :=
  ⟨h.of_stores, (marchCleared_zeroed s n m).of_regsOnly h, hover⟩

/-- The state of a run that found failing lines, before its event. -/
theorem marchFailed_left (s : State) (n : Nat) (m : March) (l : Nat) (lines : List Nat) :
    MarchLeft s ((s.marchEnded n m false).marchFailed n l lines) n m
      [LS_MARCH_CTL n, LS_MARCH_STATUS n, LS_MARCH_STATUS n + 4, LS_STATUS n] :=
  marchLeft_of_only (((marchEnded_only s n m false).mono (by simp)).trans ((marchFailed_only _ n l lines).mono (by simp)))
    (marchFailed_over l lines (marchEnded_over ..))

theorem marchDone_exec {s t : State} {n : Fin 9} {fails : List (Fin 65536)} (habort : s.flag (LS_MARCH_CTL n) LS_MARCH_CTL.ABORT = false)
    (ht : s.marchEnd n (fails.map Fin.val) false = t) (hquiet : Still t) (hp : t.pending = s.pending) :
    exec (.marchDone n fails) s = .next t := by
  show Host.Outcome.next (s.after (s.marchEnd n (fails.map Fin.val) (s.flag (LS_MARCH_CTL n) LS_MARCH_CTL.ABORT)).settle) = _
  rw [habort, ht, settled_after hquiet hp]

section
variable {s : State} {n : Fin 9} {m : March} (hstill : Still s) (hfind : s.marches.find? (fun m => m.store == n.val) = some m)
include hstill hfind

/-- R343: ABORT stops a run that found no failing line. -/
theorem marchAbort_passed {who : Master} {v : W32} {fails : List (Fin 65536)} (hok : who.ok = true) (hmay : lsMayWrite who n = true)
    (hgo : CtlGo s who (LS_MARCH_CTL n) 4) (hv : bitsOf v.toNat 21 11 = 0)
    (hlines : (fails.map Fin.val).filter (fun l => bitAt m.banks (l % 16)) = []) :
    ∃ t f, exec (.marchAbort n who v fails) s = .next { t with fab := f } ∧
      MarchLeft s t n m [LS_MARCH_CTL n, LS_MARCH_STATUS n, LS_STATUS n] ∧
      t.flag (LS_MARCH_STATUS n) LS_MARCH_STATUS.ABORTED = true := by
  have hlow := toNat_lt_of_bitsOf 21 (by decide) hv
  generalize hx : setBits v.toNat 22 1 1 = x
  have hx23 : x < 2 ^ 23 := by
    rw [← hx]
    exact setBits_lt _ _ _ _ _ (hlow.trans (by decide)) (by decide)
  have hstart : bitAt x 21 = false := by rw [← hx, bitAt_setBits_ne _ _ _ _ (by decide), bitAt_of_lt hlow le_rfl]
  have stored := marchCtl_stored s n hx23
  generalize hw : s.wordWrite (LS_MARCH_CTL n) x = w at stored
  have hmarches : w.marches = s.marches := by rw [stored.only.rest]
  have hword : s.lsWord n (LS_MARCH_CTL n) x = w := by
    rw [← hw]
    refine lsWord_abort hstart ?_
    rw [hw, hmarches]
    exact List.any_eq_true.2 ⟨m, List.mem_of_find?_eq_some hfind, List.find?_some (p := fun x : March => x.store == n.val) hfind⟩
  obtain ⟨f, hwait, hwrite⟩ := regWrite_ls hmay (.inr rfl) hgo (hx23.trans (by decide))
  rw [hword] at hwait hwrite
  have hstop : ({ w with fab := f } : State).marchStop n (fails.map Fin.val) = { w.marchEnded n m true with fab := f } := by
    have habort : ({ w with fab := f } : State).flag (LS_MARCH_CTL n) LS_MARCH_CTL.ABORT = true :=
      stored.abort (by rw [← hx]; exact bitAt_setBits_one _ _)
    have hrun : ({ w with fab := f } : State).marches.find? (fun m => m.store == n.val) = some m := by rw [← hfind, ← hmarches]
    rw [State.marchStop, if_pos habort, marchEnd_passed hrun true hlines, marchEnded_with_fab]
  have honly := ((stored.only.marchCleared n m).mono (by simp)).trans (marchEnded_only w n m true)
  have hsettled : Still ({ w.marchEnded n m true with fab := f } : State) := by
    have hquiet := ((hstill.marchCleared n m).of_regsOnly honly)
    refine hquiet.with_fab ?_
    rw [hwait, stored.only.rest]
    exact hstill.fab
  have hpend : (w.marchEnded n m true).pending = s.pending := by rw [honly.rest]; rfl
  refine ⟨w.marchEnded n m true, f, ?_, marchLeft_of_only honly (marchEnded_over ..), ?_⟩
  · show (if who.ok then _ else _) = _
    rw [if_pos hok, hx, hwrite, hstop, settled_after hsettled hpend]
  · rw [State.flag, State.marchEnded, if_pos rfl, State.fld_setFld_self]
    rfl

variable {fails : List (Fin 65536)} (habort : s.flag (LS_MARCH_CTL n) LS_MARCH_CTL.ABORT = false)
include habort

/-- R343: a run that found no failing line ends. -/
theorem marchDone_passed (hlines : (fails.map Fin.val).filter (fun l => bitAt m.banks (l % 16)) = []) :
    exec (.marchDone n fails) s = .next (s.marchEnded n m false) ∧
      MarchLeft s (s.marchEnded n m false) n m [LS_MARCH_CTL n, LS_MARCH_STATUS n, LS_MARCH_STATUS n + 4, LS_STATUS n] := by
  have honly := marchEnded_only s n m false
  refine ⟨marchDone_exec habort (marchEnd_passed hfind false hlines) ((hstill.marchCleared n m).of_regsOnly honly) ?_,
    marchLeft_of_only (honly.mono (by simp)) (marchEnded_over ..)⟩
  rw [honly.rest]
  rfl

/-- R343: a run that found failing lines raises LS_MARCH_FAIL once. -/
theorem marchDone_failed {l : Nat} {rest : List Nat} (hlines : (fails.map Fin.val).filter (fun l => bitAt m.banks (l % 16)) = l :: rest)
    (hplain : EventPlain s (0x0B4 + n.val * 8) svDegraded) :
    ∃ t, exec (.marchDone n fails) s = .next t ∧
      EventRaised ((s.marchEnded n m false).marchFailed n l (l :: rest)) t (0x0B4 + n.val * 8) := by
  have hleft := marchFailed_left s n m l (l :: rest)
  have hquiet : Still ((s.marchEnded n m false).marchFailed n l (l :: rest)) :=
    ((hstill.marchCleared n m).of_regsOnly (marchEnded_only s n m false)).of_regsOnly (marchFailed_only ..)
  have hend := marchEnd_failed hfind false hlines
  generalize (s.marchEnded n m false).marchFailed n l (l :: rest) = u at hleft hquiet hend ⊢
  have huplain : EventPlain u (0x0B4 + n.val * 8) svDegraded := by
    refine hplain.of_same_unit (fun a ha => hleft.only.regs a ?_) (by rw [hleft.only.rest]) (by rw [hleft.only.rest])
    have hn := n.isLt
    simp only [LS_MARCH_CTL, LS_MARCH_STATUS, LS_STATUS, List.mem_cons, List.not_mem_nil, or_false]
    omega
  have hraised := raise_plain u (0x0B4 + n.val * 8) (lsUnit n) svDegraded 0 false huplain
  refine ⟨_, marchDone_exec habort hend (hquiet.of_raised hraised) ?_, hraised⟩
  rw [hraised.rest, hleft.only.rest]

end

end Sys2Proof.Machine
end

section
namespace Sys2Proof.Proofs
open Sys2Proof Sys2Proof.Machine

/-- Settles O39: `lsWord_grows`, `lsWord_shrinks` and `lsWord_wipes` for the secure part, `lsWipeDone_single` and
`lsClearDone_shown` for the ends of a wipe and of a clear, `lsWord_starts_run`, `marchAbort_passed`, `marchDone_passed` and
`marchDone_failed` for the march engine. -/
theorem localStoresWipeAndMarch : Obligations.LocalStoresWipeAndMarch := by
  intro s n who v fails c st old new zeroed part lines
  refine ⟨fun hok hmay => ⟨fun hgo hlock hv => ?secure, fun hgo => ⟨fun hv halg hbg hbanks hnone hfree => ?start,
    fun m hstill hfind hlines hv => ?abort⟩⟩, fun hstill => ⟨fun w hw => ?wiped, ?cleared, fun m hfind habort => ?ended⟩⟩
  case secure =>
    have hlow := toNat_lt_of_bitsOf 6 (by decide) hv
    refine ⟨fun hwipe hsize => ?_, fun hwipe hsize => ?_, fun hsize => ?_⟩
    · obtain ⟨honly, hnew⟩ := lsWord_grows hlock hlow hwipe hsize
      obtain ⟨f, hexec⟩ := lsCommand_writes (c := .secureSizeWrite n who v) rfl hok hmay (.inl rfl) hgo v.isLt (by rw [honly.rest])
      exact ⟨_, f, hexec, honly, hnew⟩
    · obtain ⟨honly, hshown⟩ := lsWord_shrinks hlock hlow hwipe hsize
      obtain ⟨f, hexec⟩ := lsCommand_writes (c := .secureSizeWrite n who v) rfl hok hmay (.inl rfl) hgo v.isLt (by rw [honly.rest])
      exact ⟨_, f, hexec, honly, hshown⟩
    · have hsame : bitsOf (setBits v.toNat 5 1 1) 0 5 = old := (bitsOf_setBits_below _ 0 5 5 1 1 (by decide)).trans hsize
      obtain ⟨honly, hshown⟩ := lsWord_wipes hlock (setBits_lt _ 5 1 1 6 hlow (by decide)) (bitAt_setBits_one _ 5) hsame
      obtain ⟨f, hexec⟩ := lsCommand_writes (c := .secureWipe n who v) rfl hok hmay (.inl rfl) hgo
        (setBits_lt _ 5 1 1 32 v.isLt (by decide)) (by rw [honly.rest])
      exact ⟨_, f, hexec, honly, hshown⟩
  case start =>
    have hlow := toNat_lt_of_bitsOf 22 (by decide) hv
    have hfld : ∀ lo len, lo + len ≤ 21 → bitsOf (setBits v.toNat 21 1 1) lo len = bitsOf v.toNat lo len := fun lo len h =>
      bitsOf_setBits_below _ _ _ _ _ _ h
    have hpres : bitAt (setBits v.toNat 21 1 1) 4 = bitAt v.toNat 4 := bitAt_setBits_ne _ _ _ _ (by decide)
    obtain ⟨honly, running⟩ := lsWord_starts_run (s := s) (n := n) (setBits_lt _ 21 1 1 22 hlow (by decide))
      (by rwa [hfld 0 2 (by decide)]) (by rwa [hfld 2 2 (by decide)]) (by rwa [hfld 5 16 (by decide)]) hnone (by rwa [hpres])
      (bitAt_setBits_one _ 21)
    rw [hpres, hfld 5 16 (by decide)] at honly
    obtain ⟨f, hexec⟩ := lsCommand_writes (c := .marchStart n who v) rfl hok hmay (.inr rfl) hgo
      (setBits_lt _ 21 1 1 32 v.isLt (by decide)) (by rw [honly.rest])
    exact ⟨_, f, hexec, honly, running.busy, running.storeBusy, running.started, running.fresh⟩
  case abort =>
    obtain ⟨t, f, hexec, left, haborted⟩ := marchAbort_passed hstill hfind hok hmay hgo hv hlines
    exact ⟨t, f, hexec, left.only, ⟨left.zeroed.bytes, left.zeroed.words⟩, left.ended.idle, left.ended.storeIdle, left.ended.done,
      haborted, left.ended.abort⟩
  case wiped =>
    obtain ⟨honly, hwiping, hwipe, hsize⟩ := lsWipeDone_single hw
    have hzero := (wiped_zeroed s n w.lo w.hi).of_regsOnly honly
    refine ⟨s.lsWipeDone n, ?_, ⟨hzero.bytes, hzero.words⟩, hwiping, hwipe, hsize, honly.of_stores⟩
    exact congrArg Host.Outcome.next (settled_after ((hstill.wiped n w.lo w.hi).of_regsOnly honly) (by rw [honly.rest]; rfl))
  case cleared =>
    obtain ⟨honly, hclearing, hready⟩ := lsClearDone_shown s n
    have hzero := (lsZero_zeroed s n 0 0x400000).of_regsOnly honly
    refine ⟨s.lsClearDone n, ?_, ⟨hzero.bytes, hzero.words⟩, hclearing, hready, honly.of_stores⟩
    exact congrArg Host.Outcome.next (settled_after ((hstill.lsZero n 0 0x400000).of_regsOnly honly) (by rw [honly.rest]; rfl))
  case ended =>
    cases hlines : lines m with
    | nil =>
      obtain ⟨hexec, left⟩ := marchDone_passed hstill hfind habort hlines
      exact ⟨_, left.only, ⟨left.zeroed.bytes, left.zeroed.words⟩, left.ended.idle, left.ended.storeIdle, left.ended.done,
        fun _ => hexec, fun _ _ h => absurd h (List.cons_ne_nil _ _).symm⟩
    | cons l rest =>
      have left := marchFailed_left s n m l (l :: rest)
      have hl : l < 65536 := by
        have hmem : l ∈ lines m := by simp [hlines]
        obtain ⟨x, _, rfl⟩ := List.mem_map.1 (List.mem_filter.1 hmem).1
        exact x.isLt
      refine ⟨_, left.only, ⟨left.zeroed.bytes, left.zeroed.words⟩, left.ended.idle, left.ended.storeIdle, left.ended.done,
        fun h => absurd h (List.cons_ne_nil _ _), fun l' rest' h hplain => ?_⟩
      obtain ⟨rfl, rfl⟩ := List.cons.inj h
      obtain ⟨t, hexec, hraised⟩ := marchDone_failed hstill hfind habort hlines hplain
      exact ⟨t, hexec, hraised, marchFailed_recorded _ n l (l :: rest) hl⟩

end Sys2Proof.Proofs
end

section
/-! What a channel of the Block Mover holds beside its registers, and its accesses of Vector Memory (O40, O41). -/
namespace Sys2Proof.Machine

/-! ### Channels -/

theorem bmChan_congr {s t : State} (h : t.bm = s.bm) (k : Nat) : t.bmChan k = s.bmChan k := by
  rw [State.bmChan, h, State.bmChan]

section
variable (s : State) (c : Fin 32) (x : BmChan)

theorem setBmChan_eq : s.setBmChan c x = { s with bm := s.bm.set c x } := by
  have hset : s.bm.setIfInBounds c x = s.bm.set c x := by
    ext i hi
    simp [Vector.getElem_setIfInBounds, Vector.getElem_set]
  rw [State.setBmChan, hset]

@[simp] theorem bmChan_setBmChan : (s.setBmChan c x).bmChan c = x := by
  simp [State.bmChan, State.setBmChan]

theorem bmChan_setBmChan_ne {k : Nat} (h : k ≠ c) : (s.setBmChan c x).bmChan k = s.bmChan k := by
  simp [State.bmChan, State.setBmChan, List.getElem?_set_ne h.symm]

theorem setBmChan_rest {s t : State} (h : t = { s with regs := t.regs, vm := t.vm, bm := t.bm }) (c : Nat) (x : BmChan) :
    t.setBmChan c x = { s with regs := (t.setBmChan c x).regs, vm := (t.setBmChan c x).vm, bm := (t.setBmChan c x).bm } :=
  congrArg (fun u : State => { u with bm := (t.setBmChan c x).bm }) h

theorem setBmChan_bmChan : s.setBmChan c (s.bmChan c) = s := by
  simp [setBmChan_eq, State.bmChan]

/-- R369: an element without a mark leaves the channel without one. -/
theorem bmPoison_clean : s.bmPoison c false false = s := by
  simp only [State.bmPoison, Bool.or_false, Bool.false_and, Bool.false_eq_true, if_false]
  exact setBmChan_bmChan s c

end

/-! ### Registers written whole -/

theorem fld_setRegNat_far (s : State) {a w b : Nat} (v : Nat) {g : Fld} (hg : Fld.low g) (h : b < a ∨ a + 4 * w ≤ b) :
    (s.setRegNat a w v).fld b g = s.fld b g := by
  rw [State.fld_low _ _ hg, State.reg_setRegNat_of_outside _ _ _ _ _ h, State.fld_low _ _ hg]

theorem RegsOnly.setRegNat (s : State) {a w : Nat} (v : Nat) {as : List Nat} (h : ∀ i : Fin w, a + 4 * i.val ∈ as) :
    RegsOnly s (s.setRegNat a w v) as := by
  refine ⟨fun x hx => ?_, State.setRegNat_eq ..⟩
  rw [State.reg_setRegNat, if_neg]
  rintro ⟨hlo, hhi, hword⟩
  have hmem := h ⟨(x - a) / 4, by omega⟩
  rw [show a + 4 * ((x - a) / 4) = x by omega] at hmem
  exact hx hmem

/-- Registers are written the same whatever the channels hold. -/
theorem RegsOnly.with_bm {s t : State} {as : List Nat} (h : RegsOnly s t as) (b : Vector BmChan 32) :
    RegsOnly { s with bm := b } { t with bm := b } as :=
  ⟨h.regs, congrArg (fun x : State => { x with bm := b }) h.rest⟩

theorem RegsOnly.regNat {s t : State} {as : List Nat} (h : RegsOnly s t as) {a w : Nat}
    (ha : ∀ i : Fin w, a + 4 * i.val ∉ as) : t.regNat a w = s.regNat a w :=
  State.regNat_congr _ _ fun i hi => h.regs _ (ha ⟨i, hi⟩)

/-! ### Accesses of Vector Memory -/

/-- Vector Memory has served an access: it holds the bytes `bytes` with the marks it had, and beside it only registers of its own
block have changed. -/
structure VmServed (s t : State) (bytes : List Host.Cell) : Prop where
  bytes : t.vm.bytes = bytes
  marks : ∀ g, t.gcls g = s.gcls g
  regs : ∀ a, 0x600000 ≤ a → t.reg a = s.reg a
  rest : t = { s with vm := t.vm, regs := t.regs }

namespace VmServed
variable {s t u : State} {bytes bytes' : List Host.Cell}

theorem trans (h : VmServed s t bytes) (g : VmServed t u bytes') : VmServed s u bytes' where
  bytes := g.bytes
  marks x := (g.marks x).trans (h.marks x)
  regs a ha := (g.regs a ha).trans (h.regs a ha)
  rest := by rw [g.rest, h.rest]

theorem regNat (h : VmServed s t bytes) {a : Nat} (ha : 0x600000 ≤ a) (w : Nat) : t.regNat a w = s.regNat a w :=
  State.regNat_congr _ _ fun _ _ => h.regs _ (ha.trans (Nat.le_add_right _ _))

theorem fld (h : VmServed s t bytes) {a : Nat} (ha : 0x600000 ≤ a) (f : Fld) : t.fld a f = s.fld a f := by
  rw [State.fld, h.regNat (ha.trans (Nat.le_add_right _ _)), State.fld]

theorem bm (h : VmServed s t bytes) : t.bm = s.bm := by rw [h.rest]

theorem chan (h : VmServed s t bytes) (k : Nat) : t.bmChan k = s.bmChan k := bmChan_congr h.bm k

end VmServed

theorem vmCount_served (s : State) (a k : Nat) : VmServed s (s.vmCount a k) s.vm.bytes where
  bytes := bytes_vmCount ..
  marks := vmCount_gcls s a k
  regs x hx := by
    unfold State.vmCount
    dsimp only
    rw [reg_countWrap _ _ (by decide) (by unfold VM_PERF_ACCESS; omega) (by unfold VM_STATUS; omega)]
    rfl
  rest := by
    rw [vmCount_rest]

section
variable {s : State} {a n : Nat} (b : Nat) (hok : s.vmOk a n = true) (hclean : ∀ g ∈ granules a n, s.gcls g = .clean)
include hok hclean

/-- Clean Granules read, the access counted. -/
theorem vmRead_served : ∃ t, VmServed s t s.vm.bytes ∧ (∀ x len, t.vmOk x len = s.vmOk x len) ∧
    (s.vmCount b 1).vmRead .full a n = (t, some (memRead s.vm.bytes a n, false)) := by
  have hcount := vmCount_served s b 1
  have hok' := (vmCount_vmOk s b 1 a n).trans hok
  have hclean' : ∀ g ∈ granules a n, (s.vmCount b 1).gcls g = .clean := fun g hg => (hcount.marks g).trans (hclean g hg)
  obtain ⟨t, honly, hread⟩ := vmRead_accessOnly .full hok' hclean'
  obtain ⟨m, hgranules, -, hcls⟩ := readGranules_clean .full _ _ hclean'
  have ht : t = { s.vmCount b 1 with vm := m } := by
    have := congrArg Prod.fst hread
    simpa [State.vmRead, hok', hgranules] using this.symm
  refine ⟨t, hcount.trans ⟨honly.bank.2.2.trans hcount.bytes, fun g => ?_, fun x _ => ?_, ?_⟩,
    fun x len => (honly.vmOk x len).trans (vmCount_vmOk ..), ?_⟩
  · rw [ht, State.gcls, hcls, State.gcls]
  · rw [ht]
    rfl
  · rw [ht]
  · rw [hread, hcount.bytes]

end

/-- Clean Granules written, the access counted. -/
theorem vmWrite_served {s : State} {a : Nat} {d : List Byte} (b : Nat) (hok : s.vmOk a d.length = true)
    (hclean : ∀ g ∈ granules a d.length, s.gcls g = .clean) : ∃ t, VmServed s t (memWrite s.vm.bytes a d) ∧
    (s.vmCount b 1).vmWrite a d false = (t, some false) := by
  have hcount := vmCount_served s b 1
  obtain ⟨m, hwrite, hbytes, hmarks⟩ := vmWrite_clean (s.vmCount b 1) a d ((vmCount_vmOk s b 1 a _).trans hok)
    fun g hg => (hcount.marks g).trans (hclean g hg)
  rw [hcount.bytes] at hbytes
  have hserved : VmServed (s.vmCount b 1) { s.vmCount b 1 with vm := m } (memWrite s.vm.bytes a d) :=
    ⟨hbytes, hmarks, fun _ _ => rfl, rfl⟩
  exact ⟨_, hcount.trans hserved, hwrite⟩

/-! ### A descriptor in Vector Memory (R359, Table 11-3) -/

/-- The address in Vector Memory of a channel's descriptor. -/
def State.bmDescAt (s : State) (c : Nat) : Nat := bitsOf (s.regNat (BM_DESC c) 2) 6 42 * 64

section
variable {s : State} {c : Nat} (hvm : bitAt (s.regNat (BM_DESC c) 2) 0 = false)
include hvm

theorem bmPlace_vm : bmPlace (s.regNat (BM_DESC c) 2) = (none, s.bmDescAt c) := by
  simp [bmPlace, hvm, State.bmDescAt]

theorem bmLoad_served (hok : s.vmOk (s.bmDescAt c) 64 = true) (hclean : ∀ g ∈ granules (s.bmDescAt c) 64, s.gcls g = .clean) :
    ∃ t, VmServed s t s.vm.bytes ∧ s.bmLoad c = (t, .ok (memRead s.vm.bytes (s.bmDescAt c) 64)) := by
  obtain ⟨t, hserved, -, hread⟩ := vmRead_served (s.bmDescAt c) hok hclean
  exact ⟨t, hserved, by simp only [State.bmLoad, bmPlace_vm hvm, hread]⟩

theorem bmStore_served {off : Nat} {d : List Byte} (hok : s.vmOk (s.bmDescAt c + off) d.length = true)
    (hclean : ∀ g ∈ granules (s.bmDescAt c + off) d.length, s.gcls g = .clean) :
    ∃ t, VmServed s t (memWrite s.vm.bytes (s.bmDescAt c + off) d) ∧ s.bmStore c off d = (t, .ok ()) := by
  obtain ⟨t, hserved, hwrite⟩ := vmWrite_served (s.bmDescAt c) hok hclean
  exact ⟨t, hserved, by simp only [State.bmStore, bmPlace_vm hvm, hwrite]⟩

end

end Sys2Proof.Machine
end

section
/-! A channel of the Block Mover that stops, the channels as a halt and a release leave them, and the first error (O40, O41). -/
namespace Sys2Proof.Machine

/-! ### A channel that stops (R367, R372) -/

/-- A channel left in state `st` at descriptor `desc`: nothing is pending, and it holds nothing of what it ran. -/
structure BmLeft (s t : State) (c : Fin 32) (st desc : Nat) : Prop where
  state : t.bmState c = st
  pause : t.flag (BM_CHST c) BM_CHST.PAUSE_PEND = false
  last : t.fld (BM_CHST c) BM_CHST.LAST = s.fld (BM_CHST c) BM_CHST.LAST
  desc : t.regNat (BM_DESC c) 2 = desc
  phase : (t.bmChan c).phase = .idle
  others : ∀ k, k ≠ c.val → t.bmChan k = s.bmChan k
  only : RegsOnly { s with bm := t.bm } t [BM_CHST c, BM_DESC c, BM_DESC c + 4]

theorem bmDesc_ne_chst (c : Nat) : ∀ i : Fin 2, BM_DESC c + 4 * i.val ∉ [BM_CHST c] := by
  intro i
  rw [List.mem_singleton, BM_DESC, BM_CHST]
  omega

/-- The registers of a channel that stops. -/
def State.bmStopRegs (s : State) (c st desc : Nat) : State :=
  ((s.setBmState c st).setRegNat (BM_DESC c) 2 desc).setFld (BM_CHST c) BM_CHST.PAUSE_PEND 0

theorem bmStop_eq (s : State) (c st desc : Nat) : s.bmStop c st desc = (s.bmStopRegs c st desc).setBmChan c
    { (s.bmStopRegs c st desc).bmChan c with
      phase := .idle, asked := false, got := [], gotPsn := false, writes := [], descErr := false } :=
  rfl

theorem bmStopRegs_only (s : State) (c st desc : Nat) : RegsOnly s (s.bmStopRegs c st desc) [BM_CHST c, BM_DESC c, BM_DESC c + 4] :=
  ((RegsOnly.setFld s st (by decide) (by simp)).trans (.setRegNat _ desc (by simp [Fin.forall_fin_two]))).trans
    (.setFld _ 0 (by decide) (by simp))

theorem bmStopRegs_desc (s : State) (c st : Nat) {desc : Nat} (h : desc < 2 ^ 64) :
    (s.bmStopRegs c st desc).regNat (BM_DESC c) 2 = desc := by
  have hset : RegsOnly ((s.setBmState c st).setRegNat (BM_DESC c) 2 desc) (s.bmStopRegs c st desc) [BM_CHST c] :=
    .setFld _ 0 (by decide) (by simp)
  rw [hset.regNat (bmDesc_ne_chst c), State.regNat_setRegNat_self]
  exact Nat.mod_eq_of_lt h

/-- The fields below PAUSE_PEND see of the three writes the one of STATE. -/
theorem bmStopRegs_chst (s : State) (c st desc : Nat) {g : Fld} (hg : Fld.low g) (hbelow : g.1 + g.2 ≤ 6) :
    (s.bmStopRegs c st desc).fld (BM_CHST c) g = (s.setBmState c st).fld (BM_CHST c) g := by
  have hg' : Fld.pair g := ⟨hg.1, by have := hg.2; omega⟩
  have hchst : BM_CHST c < BM_DESC c := by
    unfold BM_CHST BM_DESC
    omega
  rw [State.bmStopRegs, State.fld_setFld_apart _ _ _ (by decide) hg' (.inr hbelow), fld_setRegNat_far _ _ hg (.inl hchst)]

theorem bmStop_left (s : State) (c : Fin 32) {st desc : Nat} (hst : st < 8) (hdesc : desc < 2 ^ 64) :
    BmLeft s (s.bmStop c st desc) c st desc := by
  have hchan : ∀ k, (s.bmStopRegs c st desc).bmChan k = s.bmChan k :=
    bmChan_congr (by simp [State.bmStopRegs, State.setBmState])
  rw [bmStop_eq]
  generalize hx : ({ (s.bmStopRegs c st desc).bmChan c with phase := .idle, asked := false, got := [], gotPsn := false,
                                                              writes := [], descErr := false } : BmChan) = x
  have hfld : ∀ g, ((s.bmStopRegs c st desc).setBmChan c x).fld (BM_CHST c) g = (s.bmStopRegs c st desc).fld (BM_CHST c) g := fun g =>
    State.fld_congr (by rfl) _ _
  refine ⟨?_, ?_, ?_, (State.regNat_congr _ _ fun _ _ => by rfl).trans (bmStopRegs_desc s c st hdesc), ?_,
    fun k hk => (bmChan_setBmChan_ne _ c _ hk).trans (hchan k), (bmStopRegs_only s c st desc).with_bm _⟩
  · rw [State.bmState, hfld, bmStopRegs_chst _ _ _ _ (by decide) (by decide), State.setBmState, State.fld_setFld_self]
    exact Nat.mod_eq_of_lt hst
  · rw [State.flag, hfld, State.bmStopRegs, State.fld_setFld_self]
    rfl
  · rw [hfld, bmStopRegs_chst _ _ _ _ (by decide) (by decide)]
    exact State.fld_setFld_apart _ _ _ (by decide) (by decide) (.inl (by decide))
  · rw [bmChan_setBmChan, ← hx]

/-! ### A channel that the device ends (R372, R375) -/

/-- The descriptor of channel `c` lies in Vector Memory, which serves its STATUS word. -/
structure State.StatusInVm (s : State) (c : Nat) : Prop where
  vm : bitAt (s.regNat (BM_DESC c) 2) 0 = false
  reached : (s.bmChan c).descErr = false
  ok : s.vmOk (s.bmDescAt c + 60) 4 = true
  clean : ∀ g ∈ granules (s.bmDescAt c + 60) 4, s.gcls g = .clean

/-- Channel `c` ended with `code` in STATUS and LAST, its descriptor's address kept. -/
structure BmKilled (s t : State) (c : Fin 32) (code : Nat) : Prop where
  bytes : t.vm.bytes = memWrite s.vm.bytes (s.bmDescAt c + 60) (toBytes 4 (BmStatus (s.bmChan c) code))
  marks : ∀ g, t.gcls g = s.gcls g
  state : t.bmState c = bsStopped
  erred : t.flag (BM_CHST c) BM_CHST.ERRED = false
  last : t.fld (BM_CHST c) BM_CHST.LAST = code
  pause : t.flag (BM_CHST c) BM_CHST.PAUSE_PEND = false
  phase : (t.bmChan c).phase = .idle
  desc : t.regNat (BM_DESC c) 2 = s.regNat (BM_DESC c) 2
  others : ∀ k, k ≠ c.val → t.bmChan k = s.bmChan k
  rest : t = { s with regs := t.regs, vm := t.vm, bm := t.bm }
  beyond : ∀ a, 0xC00000 ≤ a → t.reg a = s.reg a

theorem bmKill_killed {s : State} {c : Fin 32} {code : Nat} (h : s.StatusInVm c) (hcode : code < 8) :
    BmKilled s (s.bmKill c code) c code := by
  have hc := c.isLt
  obtain ⟨t, served, hstore⟩ := bmStore_served (d := toBytes 4 (BmStatus (s.bmChan c) code)) h.vm h.ok h.clean
  generalize hu : t.setFld (BM_CHST c) BM_CHST.LAST code = u
  have hu_only : RegsOnly t u [BM_CHST c] := by
    rw [← hu]
    exact .setFld _ _ (by decide) (by simp)
  have hu_desc : u.regNat (BM_DESC c) 2 = s.regNat (BM_DESC c) 2 :=
    (hu_only.regNat (bmDesc_ne_chst c)).trans (served.regNat (by unfold BM_DESC; omega) 2)
  have left := bmStop_left u c (st := bsStopped) (by decide) (State.regNat_lt u (BM_DESC c) 2)
  have hkill : s.bmKill c code = (u.bmStop c bsStopped (u.regNat (BM_DESC c) 2)).setFld (BM_CHST c) BM_CHST.ERRED 0 := by
    simp only [State.bmKill, h.reached, Bool.false_eq_true, if_false, State.bmStatusWrite, hstore, hu]
  generalize hleft : u.bmStop c bsStopped (u.regNat (BM_DESC c) 2) = v at left hkill
  have hset : RegsOnly v (s.bmKill c code) [BM_CHST c] := by
    rw [hkill]
    exact .setFld _ _ (by decide) (by simp)
  have hbelow : ∀ g, Fld.pair g → g.1 + g.2 ≤ 7 → (s.bmKill c code).fld (BM_CHST c) g = v.fld (BM_CHST c) g := by
    intro g hg hle
    rw [hkill, State.fld_setFld_apart _ _ _ (by decide) hg (.inr hle)]
  have hbm : (s.bmKill c code).bm = v.bm := by rw [hset.rest]
  have hrest : s.bmKill c code = { s with
      regs := (s.bmKill c code).regs
      vm := (s.bmKill c code).vm
      bm := (s.bmKill c code).bm } := by
    rw [hset.rest, left.only.rest, hu_only.rest, served.rest]
  have hvm : (s.bmKill c code).vm = t.vm := by rw [hset.rest, left.only.rest, hu_only.rest]
  refine ⟨?_, fun g => ?_, ?_, ?_, ?_, ?_, ?_, ?_, fun k hk => ?_, hrest, fun a ha => ?_⟩
  · rw [hvm, served.bytes]
  · rw [← served.marks, State.gcls, hvm, State.gcls]
  · rw [← left.state]
    exact hbelow _ (by decide) (by decide)
  · rw [hkill, State.flag, State.fld_setFld_self]
    rfl
  · rw [hbelow _ (by decide) (by decide), left.last, ← hu, State.fld_setFld_self]
    exact Nat.mod_eq_of_lt hcode
  · rw [← left.pause, State.flag, State.flag, hbelow _ (by decide) (by decide)]
  · rw [bmChan_congr hbm, left.phase]
  · rw [hset.regNat (bmDesc_ne_chst c), left.desc, hu_desc]
  · rw [bmChan_congr hbm, left.others k hk, bmChan_congr (t := u) (s := t) (by rw [hu_only.rest]), served.chan]
  · have hfar : a ≠ BM_CHST c ∧ a ≠ BM_DESC c ∧ a ≠ BM_DESC c + 4 := by
      unfold BM_CHST BM_DESC
      omega
    rw [hset.regs a (by simp [hfar]), left.only.regs a (by simp [hfar])]
    exact (hu_only.regs a (by simp [hfar])).trans (served.regs a (by omega))

/-! ### Many channels set to one state (R370, R372) -/

/-- `f` sets channel `k` to state `v` where `p` picks it, and `p` looks at that channel's own status alone. -/
structure BmEach (f : State → Nat → State) (p : State → Nat → Prop) (v : Nat) : Prop where
  set : ∀ s k, p s k → f s k = s.setBmState k v
  skip : ∀ s k, ¬ p s k → f s k = s
  own : ∀ s t k, t.reg (BM_CHST k) = s.reg (BM_CHST k) → (p t k ↔ p s k)

section
variable {f : State → Nat → State} {p : State → Nat → Prop} {v : Nat} (h : BmEach f p v)
include h

theorem BmEach.only (s : State) (k : Nat) : RegsOnly s (f s k) [BM_CHST k] := by
  by_cases hp : p s k
  · rw [h.set s k hp]
    exact .setFld _ _ (by decide) (by simp)
  · rw [h.skip s k hp]
    exact .refl _ _

theorem BmEach.foldl_only (l : List Nat) (s : State) : RegsOnly s (l.foldl f s) (l.map BM_CHST) := by
  induction l generalizing s with
  | nil => exact .refl _ _
  | cons k l ih => exact ((h.only s k).mono (by simp)).trans ((ih (f s k)).mono (by simp_all))

/-- Each channel of the list is set as it would be alone. -/
theorem BmEach.foldl_reg {l : List Nat} (hl : l.Nodup) (s : State) :
    ∀ k ∈ l, (l.foldl f s).reg (BM_CHST k) = (f s k).reg (BM_CHST k) := by
  induction l generalizing s with
  | nil => simp
  | cons j l ih =>
    obtain ⟨hj, hl⟩ := List.nodup_cons.1 hl
    intro k hk
    rw [List.foldl_cons]
    rcases List.mem_cons.1 hk with rfl | hk
    · refine (h.foldl_only l (f s k)).regs _ ?_
      rintro hmem
      obtain ⟨i, hi, heq⟩ := List.mem_map.1 hmem
      obtain rfl : i = k := by unfold BM_CHST at heq; omega
      exact hj hi
    · have hne : k ≠ j := fun e => hj (e ▸ hk)
      have hsame : (f s j).reg (BM_CHST k) = s.reg (BM_CHST k) := by
        refine (h.only s j).regs _ ?_
        simp only [List.mem_singleton, BM_CHST]
        omega
      rw [ih hl _ k hk]
      by_cases hp : p s k
      · rw [h.set _ _ hp, h.set _ _ ((h.own _ _ _ hsame).2 hp), State.setBmState, State.setBmState,
          State.reg_setFld_low _ _ _ _ (by decide), State.reg_setFld_low _ _ _ _ (by decide), hsame]
      · rw [h.skip _ _ hp, h.skip _ _ (fun hp' => hp ((h.own _ _ _ hsame).1 hp')), hsame]

/-- The state of each channel. -/
theorem BmEach.foldl_state {k : Nat} (hk : k < 32) (hv : v < 8) (s : State) [Decidable (p s k)] :
    ((upTo 32).foldl f s).bmState k = if p s k then v else s.bmState k := by
  have hreg := h.foldl_reg (l := upTo 32) List.nodup_range s k (List.mem_range.2 hk)
  rw [State.bmState, fld_same _ _ (by decide) (by decide) hreg]
  split
  next hp =>
    rw [h.set s k hp, State.setBmState, State.fld_setFld_self]
    exact Nat.mod_eq_of_lt hv
  next hp => rw [h.skip s k hp, State.bmState]

/-- The rest of a channel's status stays. -/
theorem BmEach.foldl_fld {k : Nat} (hk : k < 32) (s : State) {g : Fld} (hg : Fld.low g) (hbeside : 3 ≤ g.1) :
    ((upTo 32).foldl f s).fld (BM_CHST k) g = s.fld (BM_CHST k) g := by
  have hg' : Fld.pair g := ⟨hg.1, by have := hg.2; omega⟩
  have hreg := h.foldl_reg (l := upTo 32) List.nodup_range s k (List.mem_range.2 hk)
  rw [fld_same _ _ hg.2 (by have := hg.1; have := hg.2; omega) hreg]
  by_cases hp : p s k
  · rw [h.set s k hp]
    exact State.fld_setFld_apart _ _ _ (by decide) hg' (.inl hbeside)
  · rw [h.skip s k hp]

end

/-- The channels that a halt stops. -/
def State.bmRunning (s : State) (k : Nat) : Prop := s.bmState k = bsRunning

/-- The channels that a release lets go on: halted, and not erring. -/
def State.bmResumes (s : State) (k : Nat) : Prop := s.bmState k = bsHalted ∧ s.flag (BM_CHST k) BM_CHST.ERRED = false

theorem bmHalt_each : BmEach (fun s k => if s.bmState k = bsRunning then s.setBmState k bsHalted else s) State.bmRunning bsHalted where
  set _ _ h := if_pos h
  skip _ _ h := if_neg h
  own s t k h := by
    unfold State.bmRunning State.bmState
    rw [fld_same _ _ (by decide) (by decide) h]

theorem bmRelease_each : BmEach (fun s k =>
    if s.bmState k = bsHalted ∧ s.flag (BM_CHST k) BM_CHST.ERRED = false then s.setBmState k bsRunning else s)
    State.bmResumes bsRunning where
  set _ _ h := if_pos h
  skip _ _ h := if_neg h
  own s t k h := by
    unfold State.bmResumes State.bmState State.flag
    rw [fld_same _ _ (by decide) (by decide) h, fld_same _ _ (by decide) (by decide) h]

theorem upTo_chst_far {a : Nat} (h : a < 0x901000 ∨ 0x902000 ≤ a) : a ∉ (upTo 32).map BM_CHST := by
  simp only [upTo, List.mem_map, List.mem_range, not_exists, not_and]
  unfold BM_CHST
  omega

/-! ### The release (R372) -/

/-- The halt has ended, and every halted channel that is not erring runs again. -/
structure BmReleased (s t : State) : Prop where
  only : RegsOnly s t ([BM_CTL, BM_STATUS] ++ (upTo 32).map BM_CHST)
  halted : t.flag BM_STATUS BM_STATUS.HALTED = false
  states : ∀ k < 32, t.bmState k
    = if s.bmState k = bsHalted ∧ s.flag (BM_CHST k) BM_CHST.ERRED = false then bsRunning else s.bmState k

theorem bmRelease_released {s w : State} (hw : RegsOnly s w [BM_CTL]) (h : s.flag BM_STATUS BM_STATUS.HALTED = true) :
    BmReleased s w.bmRelease := by
  generalize hu : (w.setFld BM_CTL BM_CTL.RELEASE 0).setFld BM_STATUS BM_STATUS.HALTED 0 = u
  have hctl : RegsOnly s (w.setFld BM_CTL BM_CTL.RELEASE 0) [BM_CTL] := hw.trans (.setFld _ 0 (by decide) (by simp))
  have hflag : (w.setFld BM_CTL BM_CTL.RELEASE 0).flag BM_STATUS BM_STATUS.HALTED = true := by
    rw [← h, State.flag, State.flag, fld_same _ _ (by decide) (by decide) (hctl.regs _ (by decide))]
  have heq : w.bmRelease = (upTo 32).foldl (fun s k =>
      if s.bmState k = bsHalted ∧ s.flag (BM_CHST k) BM_CHST.ERRED = false then s.setBmState k bsRunning else s) u := by
    simp only [State.bmRelease, hflag, Bool.not_true, Bool.false_eq_true, if_false, hu]
  have honly : RegsOnly s u [BM_CTL, BM_STATUS] := by
    rw [← hu]
    exact (hctl.mono (by simp)).trans (.setFld _ 0 (by decide) (by simp))
  have hfold := bmRelease_each.foldl_only (upTo 32) u
  have hsame : ∀ k f, Fld.low f → u.fld (BM_CHST k) f = s.fld (BM_CHST k) f := fun k f hf =>
    honly.fld_low hf (by simp [BM_CHST, BM_CTL, BM_STATUS]; omega)
  rw [heq]
  refine ⟨(honly.mono (by simp)).trans (hfold.mono fun _ => List.mem_append_right _), ?_, fun k hk => ?_⟩
  · rw [State.flag, hfold.fld_low (by decide) (upTo_chst_far (.inl (by decide))), ← hu, State.fld_setFld_self]
    rfl
  · have hstate : u.bmState k = s.bmState k := hsame k _ (by decide)
    have herred : u.flag (BM_CHST k) BM_CHST.ERRED = s.flag (BM_CHST k) BM_CHST.ERRED := by
      rw [State.flag, hsame k _ (by decide), State.flag]
    have hresumes : u.bmResumes k ↔ s.bmResumes k := by rw [State.bmResumes, hstate, herred, State.bmResumes]
    classical
    rw [bmRelease_each.foldl_state hk (by decide), hstate]
    exact if_congr hresumes rfl rfl

/-! ### The first error (R370) -/

/-- What BM_ERR holds of the first error. -/
def bmErrWord (c code side : Nat) : Nat := c % 32 + code % 8 * 2 ^ 5 + side % 4 * 2 ^ 8 + 2 ^ 10

/-- The fields of such a word (Table 11-11). -/
structure BmErrFields (v c code side : Nat) : Prop where
  chan : bitsOf v BM_ERR.CHAN.1 BM_ERR.CHAN.2 = c
  code : bitsOf v BM_ERR.CODE.1 BM_ERR.CODE.2 = code
  side : bitsOf v BM_ERR.SIDE.1 BM_ERR.SIDE.2 = side
  valid : bitsOf v BM_ERR.VALID.1 BM_ERR.VALID.2 = 1
  multi : bitsOf v BM_ERR.MULTI.1 BM_ERR.MULTI.2 = 0

theorem bmErrWord_fields {c code side : Nat} (hc : c < 32) (hcode : code < 8) (hside : side < 3) :
    BmErrFields (bmErrWord c code side) c code side := by
  constructor <;> simp only [bitsOf, bmErrWord, BM_ERR.CHAN, BM_ERR.CODE, BM_ERR.SIDE, BM_ERR.VALID, BM_ERR.MULTI] <;> omega

/-- The erring channel marked, in its status and, where its descriptor's memory answered, in itself. -/
def State.bmErring (s : State) (c side : Nat) : State :=
  let s := s.setFld (BM_CHST c) BM_CHST.ERRED 1
  if side = sdDesc then s.setBmChan c { s.bmChan c with descErr := true } else s

/-- The error recorded. -/
def State.bmNoted (s : State) (c code side addr : Nat) : State :=
  (((s.bmErring c side).setFld BM_STATUS BM_STATUS.HALTED 1).setRegNat BM_ERR 1 (bmErrWord c code side)).setRegNat BM_ERR_ADDR 2 addr

/-- The error recorded, and its channel halted. -/
def State.bmRecorded (s : State) (c code side addr : Nat) : State := (s.bmNoted c code side addr).setBmState c bsHalted

/-- The whole unit halted, before the event. -/
def State.bmHalted (s : State) (c code side addr : Nat) : State :=
  (upTo 32).foldl (fun s k => if s.bmState k = bsRunning then s.setBmState k bsHalted else s) (s.bmRecorded c code side addr)

section
variable (s : State) (c : Fin 32) (code side addr : Nat)

theorem bmErring_only : RegsOnly { s with bm := if side = sdDesc then s.bm.set c { s.bmChan c with descErr := true } else s.bm }
    (s.bmErring c side) [BM_CHST c] := by
  have honly : RegsOnly s (s.setFld (BM_CHST c) BM_CHST.ERRED 1) [BM_CHST c] := .setFld _ 1 (by decide) (by simp)
  unfold State.bmErring
  dsimp only
  split
  · rw [setBmChan_eq, bmChan_congr (State.setFld_bm ..), State.setFld_bm]
    exact honly.with_bm _
  · exact honly

theorem bmErring_fld {a : Nat} {f : Fld} : (s.bmErring c side).fld a f = (s.setFld (BM_CHST c) BM_CHST.ERRED 1).fld a f := by
  unfold State.bmErring
  dsimp only
  split
  · exact State.fld_congr (by rfl) _ _
  · rfl

theorem bmError_first (h : s.flag BM_STATUS BM_STATUS.HALTED = false) : s.bmError c code side addr =
    (s.bmHalted c code side addr).bmRaise bmBusErr (if code = erDefault ∨ code = erDenied then svInfo else svDegraded) := by
  have hflag : (s.bmErring c side).flag BM_STATUS BM_STATUS.HALTED = false := by
    rw [← h, State.flag, bmErring_fld, State.fld_setFld_ne _ _ _ _ (by decide) (by decide) (by unfold BM_STATUS BM_CHST; omega),
      State.flag]
  unfold State.bmError
  dsimp only
  exact if_neg (by rw [Bool.not_eq_true]; exact hflag)

theorem bmRecorded_only : RegsOnly (s.bmErring c side) (s.bmRecorded c code side addr)
    [BM_STATUS, BM_ERR, BM_ERR_ADDR, BM_ERR_ADDR + 4, BM_CHST c] :=
  (((RegsOnly.setFld _ 1 (by decide) (by simp)).trans (.setRegNat _ _ (by simp))).trans
    (.setRegNat _ _ (by simp [Fin.forall_fin_two]))).trans (.setFld _ _ (by decide) (by simp))

theorem bmHalted_only : RegsOnly (s.bmRecorded c code side addr) (s.bmHalted c code side addr) ((upTo 32).map BM_CHST) :=
  bmHalt_each.foldl_only _ _

/-- The registers of the whole unit as the halt leaves them. -/
theorem bmHalted_unit (haddr : addr < 2 ^ 64) : (s.bmHalted c code side addr).flag BM_STATUS BM_STATUS.HALTED = true ∧
    (s.bmHalted c code side addr).regNat BM_ERR_ADDR 2 = addr ∧
    ∀ f, Fld.low f → (s.bmHalted c code side addr).fld BM_ERR f = bitsOf (bmErrWord c code side) f.1 f.2 := by
  have hfold := bmHalted_only s c code side addr
  have hfar : ∀ a < 0x901000, a ∉ (upTo 32).map BM_CHST := fun a ha => upTo_chst_far (.inl ha)
  have hchst : ∀ a < 0x901000, a ≠ BM_CHST c := fun a ha => by
    unfold BM_CHST
    omega
  refine ⟨?_, ?_, fun f hf => ?_⟩
  · rw [State.flag, hfold.fld_low (by decide) (hfar _ (by decide)), State.bmRecorded, State.setBmState, State.bmNoted,
      State.fld_setFld_ne _ _ _ _ (by decide) (by decide) (hchst _ (by decide)), fld_setRegNat_far _ _ (by decide) (.inl (by decide)),
      fld_setRegNat_far _ _ (by decide) (.inl (by decide)), State.fld_setFld_self]
    rfl
  · have hset : RegsOnly (s.bmNoted c code side addr) (s.bmRecorded c code side addr) [BM_CHST c] :=
      .setFld _ _ (by decide) (by simp)
    have hword : ∀ i : Fin 2, BM_ERR_ADDR + 4 * i.val < 0x901000 := by
      unfold BM_ERR_ADDR
      omega
    rw [hfold.regNat fun i => hfar _ (hword i),
      hset.regNat fun i => by simpa using hchst _ (hword i), State.bmNoted, State.regNat_setRegNat_self]
    exact Nat.mod_eq_of_lt haddr
  · have hlt : bmErrWord c code side < 2 ^ 32 := by
      unfold bmErrWord
      omega
    rw [hfold.fld_low hf (hfar _ (by decide)), State.bmRecorded, State.setBmState, State.bmNoted,
      State.fld_setFld_ne _ _ _ _ (by decide) hf (hchst _ (by decide)), fld_setRegNat_far _ _ hf (.inl (by decide)),
      State.fld_low _ _ hf, State.reg_setRegNat, if_pos (by omega), Nat.sub_self, BitVec.toNat_ofNat,
      Nat.zero_div, Nat.mul_zero, Nat.pow_zero, Nat.div_one, Nat.mod_eq_of_lt hlt]

/-- Of a channel's status, recording the error has changed ERRED of the erring one alone. -/
theorem bmNoted_chst (k : Nat) {f : Fld} (hf : Fld.low f) :
    (s.bmNoted c code side addr).fld (BM_CHST k) f = (s.setFld (BM_CHST c) BM_CHST.ERRED 1).fld (BM_CHST k) f := by
  have hfar : BM_ERR_ADDR + 8 ≤ BM_CHST k ∧ BM_ERR + 4 ≤ BM_CHST k ∧ BM_CHST k ≠ BM_STATUS := by
    unfold BM_ERR_ADDR BM_ERR BM_STATUS BM_CHST
    omega
  obtain ⟨haddr, herr, hstatus⟩ := hfar
  rw [State.bmNoted, fld_setRegNat_far _ _ hf (.inr haddr), fld_setRegNat_far _ _ hf (.inr herr),
    State.fld_setFld_ne _ _ _ _ (by decide) hf hstatus, bmErring_fld]

/-- Each channel as the error leaves it before the others halt. -/
theorem bmRecorded_chst (k : Nat) : (s.bmRecorded c code side addr).bmState k = (if k = c.val then bsHalted else s.bmState k) ∧
    (s.bmRecorded c code side addr).flag (BM_CHST k) BM_CHST.ERRED = (s.flag (BM_CHST k) BM_CHST.ERRED || decide (k = c.val)) := by
  unfold State.bmRecorded State.bmState State.flag State.setBmState
  by_cases hk : k = c.val
  · subst hk
    rw [State.fld_setFld_self, State.fld_setFld_apart _ _ _ (by decide) (by decide) (by decide), bmNoted_chst _ _ _ _ _ _ (by decide),
      State.fld_setFld_self]
    simp [BM_CHST.STATE, BM_CHST.ERRED, bsHalted]
  · have hne : BM_CHST k ≠ BM_CHST c := by
      unfold BM_CHST
      omega
    have hsame : ∀ f, Fld.low f → ((s.bmNoted c code side addr).setFld (BM_CHST c) BM_CHST.STATE bsHalted).fld (BM_CHST k) f
        = s.fld (BM_CHST k) f := fun f hf => by
      rw [State.fld_setFld_ne _ _ _ _ (by decide) hf hne, bmNoted_chst _ _ _ _ _ _ hf, State.fld_setFld_ne _ _ _ _ (by decide) hf hne]
    rw [hsame _ (by decide), hsame _ (by decide)]
    simp [hk]

/-- R370: the erring channel and every running one are halted; ERRED marks the erring one. -/
theorem bmHalted_chst {k : Nat} (hk : k < 32) : (s.bmHalted c code side addr).bmState k
      = (if k = c.val ∨ s.bmState k = bsRunning then bsHalted else s.bmState k) ∧
    (s.bmHalted c code side addr).flag (BM_CHST k) BM_CHST.ERRED = (s.flag (BM_CHST k) BM_CHST.ERRED || decide (k = c.val)) := by
  obtain ⟨hstate, herred⟩ := bmRecorded_chst s c code side addr k
  constructor
  · classical
    rw [State.bmHalted, bmHalt_each.foldl_state hk (by decide), State.bmRunning, hstate]
    by_cases hkc : k = c.val
    · simp [hkc]
    · simp [hkc]
  · rw [← herred, State.flag, State.bmHalted, bmHalt_each.foldl_fld hk _ (by decide) (by decide), State.flag]

/-- Beside the erring channel's mark, the halt changes registers of the unit and the channels' status. -/
theorem bmHalted_frame : RegsOnly { s with bm := if side = sdDesc then s.bm.set c { s.bmChan c with descErr := true } else s.bm }
    (s.bmHalted c code side addr) ([BM_STATUS, BM_ERR, BM_ERR_ADDR, BM_ERR_ADDR + 4] ++ (upTo 32).map BM_CHST) := by
  have hc : BM_CHST c ∈ (upTo 32).map BM_CHST := List.mem_map.2 ⟨c, List.mem_range.2 c.isLt, rfl⟩
  refine (((bmErring_only s c side).mono fun a ha => ?_).trans ((bmRecorded_only s c code side addr).mono fun a ha => ?_)).trans
    ((bmHalted_only s c code side addr).mono fun _ => List.mem_append_right _)
  · rw [List.mem_singleton.1 ha]
    exact List.mem_append_right _ hc
  · rcases List.mem_append.1 (show a ∈ [BM_STATUS, BM_ERR, BM_ERR_ADDR, BM_ERR_ADDR + 4] ++ [BM_CHST c] from ha) with h | h
    · exact List.mem_append_left _ h
    · rw [List.mem_singleton.1 h]
      exact List.mem_append_right _ hc

end

end Sys2Proof.Machine
end

section
/-! BM_CMDc and BM_CTL written: what each command of a channel makes of it (O40). -/
namespace Sys2Proof.Machine

/-! ### The BM block in the control space (R357, R378) -/

theorem bmRegs_narrow (c : Fin 32) : wideOf (BM_CMD c) = none ∧ wideOf BM_CTL = none := by
  revert c
  decide +kernel

/-- A word written in the BM block is taken by it. -/
theorem ctlPut_bm (s : State) (m : Master) {a v : Nat} (hlo : 0x900000 ≤ a) (hhi : a < 0xA00000) (hwide : wideOf a = none)
    (hv : v < 2 ^ 32) : s.ctlPut m none a 4 v = s.bmWord m a v := by
  have hblock : s.blockWrite m none a 4 v = s.bmRegWrite m a 4 v := by
    simp (disch := omega) only [State.blockWrite, if_neg, if_pos]
  have hput : s.ctlPut m none a 4 v = s.blockWrite m none a 4 v := by
    unfold State.ctlPut
    rw [if_neg (by omega), if_neg (by omega), hwide]
  rw [hput, hblock, State.bmRegWrite, Nat.mod_eq_of_lt hv]
  rcases s.bmWord m a v with ⟨t, _ | e⟩ <;> rfl

/-- A command that is a write of one word leaves what its block makes of the word, and its answer. -/
theorem wordCommand_writes {s t : State} {i : Instr} {who : Master} {a v : Nat}
    (hcmd : exec i s = if who.ok then .next (s.after (s.regWrite who a 4 v)) else .fault .illFormed) (hok : who.ok = true)
    (hgo : CtlGo s who a 4) (hput : s.ctlPut who none a 4 v = (t, none)) (hp : t.pending = s.pending) :
    ∃ f : Fabric, exec i s = .next { t with fab := f } := by
  obtain ⟨f, _, hwrite⟩ := regWrite_go s t who a 4 v hgo hput
  refine ⟨f, ?_⟩
  rw [hcmd, if_pos hok, hwrite]
  exact congrArg Host.Outcome.next (after_eq hp)

theorem bmWord_cmd (s : State) (m : Master) (c : Fin 32) (v : Nat) (hm : s.bmMaster m c = true) :
    s.bmWord m (BM_CMD c) v = (s.bmCmd c v, none) := by
  have hplace : BM_CMD c ≠ BM_CTL ∧ ¬ BM_CMD c < 0x901000 ∧ (BM_CMD c - 0x901000) / 64 = c ∧ BM_CMD c ≠ BM_CFG c := by
    unfold BM_CMD BM_CTL BM_CFG
    omega
  obtain ⟨hctl, hlow, hchan, hcfg⟩ := hplace
  simp [State.bmWord, hctl, hlow, hchan, hcfg, hm]

theorem ctlPut_cmd {s : State} {m : Master} {c : Fin 32} {v : Nat} (hm : s.bmMaster m c = true) (hv : v < 2 ^ 32) :
    s.ctlPut m none (BM_CMD c) 4 v = (s.bmCmd c v, none) := by
  rw [ctlPut_bm s m (by unfold BM_CMD; omega) (by unfold BM_CMD; omega) (bmRegs_narrow c).1 hv, bmWord_cmd s m c v hm]

/-! ### The commands of a channel (Table 11-13) -/

/-- R357, R377, R380: commands of channel `c` are taken. -/
structure State.BmTakes (s : State) (c : Nat) : Prop where
  ready : s.flag BM_STATUS BM_STATUS.READY = true
  bound : s.flag BM_STATUS BM_STATUS.FENCED = false
  on : s.flag BM_STATUS BM_STATUS.HOLD = false
  tadpole : s.st.base ≠ 3 ∨ c < 8

section
variable {s : State} {c : Fin 32} (h : s.BmTakes c)
include h

theorem State.BmTakes.gate : (!s.flag BM_STATUS BM_STATUS.READY || s.flag BM_STATUS BM_STATUS.FENCED || s.flag BM_STATUS BM_STATUS.HOLD
    || (decide (s.st.base = 3) && decide (8 ≤ c.val))) = false := by
  have hbase : ¬ (s.st.base = 3 ∧ 8 ≤ c.val) := by
    have := h.tadpole
    omega
  simpa [h.ready, h.bound, h.on] using hbase

/-- START fetches BM_DESCc and runs. -/
theorem bmCmd_start (hhalted : s.flag BM_STATUS BM_STATUS.HALTED = false) (hst : s.bmState c = bsIdle ∨ s.bmState c = bsStopped) :
    s.bmCmd c 1 = { s.setFld (BM_CHST c) BM_CHST.STATE bsRunning with
      bm := s.bm.set c { BmChan.reset with phase := .fetch } } := by
  have hfrom : (s.bmState c == bsIdle || s.bmState c == bsStopped) = true := by simpa using hst
  simp only [State.bmCmd, h.gate, hhalted, hfrom, Bool.false_eq_true, if_false, if_true, Bool.not_false, Bool.and_true]
  rw [setBmChan_eq, State.setBmState, State.setFld_bm]

/-- PAUSE is recorded. -/
theorem bmCmd_pause (hst : s.bmState c = bsRunning ∨ s.bmState c = bsHalted ∨ s.bmState c = bsParked) :
    s.bmCmd c 2 = s.setFld (BM_CHST c) BM_CHST.PAUSE_PEND 1 := by
  simp [State.bmCmd, h.gate, hst]

/-- RESUME retries from POS. -/
theorem bmCmd_resume (hhalted : s.flag BM_STATUS BM_STATUS.HALTED = false) (hst : s.bmState c = bsHalted)
    (herred : s.flag (BM_CHST c) BM_CHST.ERRED = true) :
    s.bmCmd c 4 = { (s.setFld (BM_CHST c) BM_CHST.STATE bsRunning).setFld (BM_CHST c) BM_CHST.ERRED 0 with
      bm := s.bm.set c { s.bmChan c with descErr := false, asked := false, got := [], gotPsn := false } } := by
  have hbm : ((s.setBmState c bsRunning).setFld (BM_CHST c) BM_CHST.ERRED 0).bm = s.bm := by
    rw [State.setFld_bm, State.setBmState, State.setFld_bm]
  have hcmd : s.bmCmd c 4 = ((s.setBmState c bsRunning).setFld (BM_CHST c) BM_CHST.ERRED 0).setBmChan c
      { ((s.setBmState c bsRunning).setFld (BM_CHST c) BM_CHST.ERRED 0).bmChan c with
        descErr := false, asked := false, got := [], gotPsn := false } := by
    simp [State.bmCmd, h.gate, hhalted, hst, herred]
  rw [hcmd, setBmChan_eq, bmChan_congr hbm, hbm]
  rfl

/-- ABORT ends the channel. -/
theorem bmCmd_abort (hst : s.bmState c = bsHalted) (herred : s.flag (BM_CHST c) BM_CHST.ERRED = true) :
    s.bmCmd c 8 = s.bmKill c bcAborted := by
  simp [State.bmCmd, h.gate, hst, herred]

end

/-! ### BM_CTL (Table 11-10) -/

/-- BM_CTL: HALT_MAX is stored unless LOCK is set, RELEASE and LOCK are set by ones. -/
def bmCtlMask : WordMask := { rw := 0, rwl := 0x7FE, w1c := 0, w1s := 0x80000001, rsv := 0x7FFFF800 }

theorem regFind_bmCtl : ∃ r i j w, regFind BM_CTL = some (r, i, j, w) ∧ r.mask w = bmCtlMask := by
  have hmask : (regFind BM_CTL).map (fun p => p.1.mask p.2.2.2) = some bmCtlMask := by decide +kernel
  obtain ⟨⟨r, i, j, w⟩, hfind, heq⟩ := Option.map_eq_some_iff.1 hmask
  exact ⟨r, i, j, w, hfind, heq⟩

/-- RELEASE written with the other bits of BM_CTL as they stand changes BM_CTL alone. -/
theorem bmCtl_written (s : State) : RegsOnly s (s.wordWrite BM_CTL (setBits (s.storedBits BM_CTL) 0 1 1)) [BM_CTL] := by
  obtain ⟨r, i, j, w, hfind, hmask⟩ := regFind_bmCtl
  have hstored : s.storedBits BM_CTL < 2 ^ 11 := by
    have hbits : s.storedBits BM_CTL = bitsIn (s.regNat BM_CTL 1) 0x7FE := by
      simp only [State.storedBits, hfind, hmask]
      rfl
    rw [hbits]
    exact Nat.lt_of_le_of_lt Nat.and_le_right (by decide)
  refine (wordWrite_regs s hfind ?_).1
  rw [hmask]
  exact bitsIn_of_lt (setBits_lt _ 0 1 1 11 hstored (by decide)) (by decide)

theorem ctlPut_release (s : State) {m : Master} (hm : m.secSup = true) :
    s.ctlPut m none BM_CTL 4 (setBits (s.storedBits BM_CTL) 0 1 1)
      = ((s.wordWrite BM_CTL (setBits (s.storedBits BM_CTL) 0 1 1)).bmRelease, none) := by
  rw [ctlPut_bm s m (by decide) (by decide) (bmRegs_narrow 0).2 (setBits_lt _ 0 1 1 32 (storedBits_lt s BM_CTL) (by decide))]
  simp [State.bmWord, hm, bitAt_setBits_one]

/-! ### Events of the Block Mover -/

/-- R379: an event after an effect on registers below the Fault and Journal Unit's, on Vector Memory and on channels. -/
theorem bmRaise_plain {s u : State} {k sev : Nat} (h : EventPlain s k sev) (hregs : ∀ a, 0xC00000 ≤ a → u.reg a = s.reg a)
    (hrest : u = { s with regs := u.regs, vm := u.vm, bm := u.bm }) : EventRaised u (u.bmRaise k sev) k :=
  raise_plain u k bmUnit sev 0 false (h.of_same_unit hregs (by rw [hrest]) (by rw [hrest]))

theorem bmRegs_below {as : List Nat} (has : ∀ a ∈ as, a < 0x901000) {a : Nat} (ha : 0xC00000 ≤ a) :
    a ∉ as ++ (upTo 32).map BM_CHST := by
  rw [List.mem_append]
  rintro (hmem | hmem)
  · exact absurd (has a hmem) (by omega)
  · exact upTo_chst_far (.inr (by omega)) hmem

end Sys2Proof.Machine

namespace Sys2Proof.Proofs
open Sys2Proof Sys2Proof.Machine

/-- Settles O40: each command by `bmCmd_start` and its fellows, the end of a halt by `bmRelease_released`, the halt by
`bmHalted_frame`, `bmHalted_unit` and `bmHalted_chst`, and a channel that the device ends by `bmKill_killed`. -/
theorem blockMoverCommands : Obligations.BlockMoverCommands := by
  unfold Obligations.BlockMoverCommands
  intro s c who x a inVm killed released
  have hstatus : inVm → s.StatusInVm c := fun ⟨hvm, hreached, hok, hclean⟩ => ⟨hvm, hreached, hok, hclean⟩
  have hkilled : ∀ {t code}, BmKilled s t c code → killed t code := fun h =>
    ⟨h.bytes, h.marks, h.state, h.erred, h.last, h.pause, h.phase, h.desc, h.others, h.rest⟩
  have hreleased : ∀ {t}, BmReleased s t → released t := fun h => ⟨h.only, h.halted, h.states⟩
  refine ⟨fun hok hgo hmaster hready hbound hon htadpole => ?_, fun hok hgo hsup hhalted => ?_, fun hhalted hplain => ?_,
    fun code side addr hhalted hplain => ?_, fun hquiesce hst hvm hplain => ?_⟩
  · have takes : s.BmTakes c := ⟨hready, hbound, hon, htadpole⟩
    refine ⟨fun hhalted hst => ?start, fun hst => ?pause, fun hhalted hst herred => ?resume, fun hst herred hvm => ?abort⟩
    case start =>
      have hcmd := bmCmd_start takes hhalted hst
      obtain ⟨f, hexec⟩ := wordCommand_writes (i := .bmStart c who) rfl hok hgo (ctlPut_cmd hmaster (by decide))
        (by rw [hcmd]; exact State.setFld_pending ..)
      exact ⟨f, by rw [hexec, hcmd]⟩
    case pause =>
      have hcmd := bmCmd_pause takes hst
      obtain ⟨f, hexec⟩ := wordCommand_writes (i := .bmPause c who) rfl hok hgo (ctlPut_cmd hmaster (by decide))
        (by rw [hcmd]; exact State.setFld_pending ..)
      exact ⟨f, by rw [hexec, hcmd]⟩
    case resume =>
      have hcmd := bmCmd_resume takes hhalted hst herred
      obtain ⟨f, hexec⟩ := wordCommand_writes (i := .bmResume c who) rfl hok hgo (ctlPut_cmd hmaster (by decide))
        (by rw [hcmd]; simp)
      exact ⟨f, by rw [hexec, hcmd]⟩
    case abort =>
      have hkill := bmKill_killed (hstatus hvm) (code := bcAborted) (by decide)
      rw [← bmCmd_abort takes hst herred] at hkill
      obtain ⟨f, hexec⟩ := wordCommand_writes (i := .bmAbort c who) rfl hok hgo (ctlPut_cmd hmaster (by decide)) (by rw [hkill.rest])
      exact ⟨_, f, hexec, hkilled hkill⟩
  · have hrel := bmRelease_released (bmCtl_written s) hhalted
    obtain ⟨f, hexec⟩ := wordCommand_writes (i := .bmRelease who) rfl hok hgo (ctlPut_release s hsup) (by rw [hrel.only.rest])
    exact ⟨_, f, hexec, hreleased hrel⟩
  · have hrel := bmRelease_released (RegsOnly.refl s _) hhalted
    have hraised := bmRaise_plain hplain (fun b hb => hrel.only.regs b (bmRegs_below (by decide) hb)) (by rw [hrel.only.rest])
    refine ⟨_, _, ?_, hreleased hrel, hraised⟩
    show Host.Outcome.next (s.after s.bmHaltAuto) = _
    rw [State.bmHaltAuto, if_pos hhalted, after_eq (by rw [hraised.rest, hrel.only.rest])]
  · have hframe := bmHalted_frame s c code side addr.toNat
    obtain ⟨hshown, haddr, herr⟩ := bmHalted_unit s c code side addr.toNat addr.isLt
    have hraised := bmRaise_plain hplain (fun b hb => hframe.regs b (bmRegs_below (by decide) hb)) (by rw [hframe.rest])
    have word := bmErrWord_fields c.isLt code.isLt side.isLt
    refine ⟨_, _, ?_, hraised, hframe, hshown, haddr, ?_, ?_, ?_, ?_, ?_, fun k hk => bmHalted_chst s c code side addr.toNat hk⟩
    · show Host.Outcome.next (s.after (s.bmError c code side addr.toNat)) = _
      rw [bmError_first s c code side addr.toNat hhalted, after_eq (by rw [hraised.rest, hframe.rest])]
    · rw [herr _ (by decide), word.chan]
    · rw [herr _ (by decide), word.code]
    · rw [herr _ (by decide), word.side]
    · rw [State.flag, herr _ (by decide), word.valid]
      rfl
    · rw [State.flag, herr _ (by decide), word.multi]
      rfl
  · have hkill := bmKill_killed (hstatus hvm) (code := bcPower) (by decide)
    have hraised := bmRaise_plain hplain hkill.beyond hkill.rest
    refine ⟨_, _, ?_, hkilled hkill, hraised⟩
    have hst' : (s.st.quiesce.isSome && (s.bmState c == bsRunning || s.bmState c == bsHalted)) = true := by simpa [hquiesce] using hst
    show Host.Outcome.next (s.after (s.bmPowerAbort c)) = _
    rw [State.bmPowerAbort, if_pos hst', after_eq (by rw [hraised.rest, hkill.rest])]

end Sys2Proof.Proofs
end

section
/-! A channel of the Block Mover fetches a descriptor, moves an element within Vector Memory, and ends its descriptor (O41). -/
namespace Sys2Proof.Machine

/-! ### The fetch (R359, R364) -/

/-- The channel as a fetch of the descriptor `d` begins it. -/
def bmFetched (d : List Byte) : BmChan := { BmChan.reset with desc := BitVec.ofNat 512 (ofBytes d), phase := .move }

/-- R364: the channel begun, at position 0 and with its check register's starting value. -/
def State.bmBegun (s : State) (c : Nat) (x : BmChan) : State :=
  let s := (s.setBmChan c x).setRegNat (BM_POS c) 2 0
  if x.chk && decide (x.ctl 10 1 = 0) then s.setRegNat (BM_CHK c) 1 0xFFFFFFFF else s

theorem bmBegun_only (s : State) (c : Fin 32) (x : BmChan) :
    RegsOnly (s.setBmChan c x) (s.bmBegun c x) [BM_POS c, BM_POS c + 4, BM_CHK c] := by
  have hpos : RegsOnly (s.setBmChan c x) ((s.setBmChan c x).setRegNat (BM_POS c) 2 0) [BM_POS c, BM_POS c + 4, BM_CHK c] :=
    .setRegNat _ _ (by simp [Fin.forall_fin_two])
  unfold State.bmBegun
  dsimp only
  split
  · exact hpos.trans (.setRegNat _ _ (by simp))
  · exact hpos

theorem bmBegun_pos (s : State) (c : Fin 32) (x : BmChan) : (s.bmBegun c x).regNat (BM_POS c) 2 = 0 := by
  unfold State.bmBegun
  dsimp only
  split
  · rw [State.regNat_setRegNat_of_outside _ _ _ _ _ _ (.inr (by unfold BM_CHK BM_POS; omega)), State.regNat_setRegNat_self]
    rfl
  · rw [State.regNat_setRegNat_self]
    rfl

theorem bmBegun_chk (s : State) (c : Fin 32) (x : BmChan) : (s.bmBegun c x).regNat (BM_CHK c) 1
    = if x.chk && decide (x.ctl 10 1 = 0) then 0xFFFFFFFF else s.regNat (BM_CHK c) 1 := by
  unfold State.bmBegun
  dsimp only
  split
  · rw [State.regNat_setRegNat_self]
    rfl
  · rw [State.regNat_setRegNat_of_outside _ _ _ _ _ _ (.inl (by unfold BM_CHK BM_POS; omega))]
    exact State.regNat_congr _ _ fun _ _ => by rfl

theorem bmBegun_chan (s : State) (c : Fin 32) (x : BmChan) (k : Nat) : (s.bmBegun c x).bmChan k = if k = c.val then x else s.bmChan k := by
  rw [bmChan_congr (s := s.setBmChan c x) (by rw [(bmBegun_only s c x).rest])]
  by_cases hk : k = c.val
  · rw [hk, bmChan_setBmChan, if_pos rfl]
  · rw [bmChan_setBmChan_ne _ _ _ hk, if_neg hk]

theorem bmBegun_vm (s : State) (c : Fin 32) (x : BmChan) : (s.bmBegun c x).vm = s.vm := by
  rw [(bmBegun_only s c x).rest]
  rfl

theorem bmBegun_rest {s t : State} {bytes : List Host.Cell} (served : VmServed s t bytes) (c : Fin 32) (x : BmChan) :
    t.bmBegun c x = { s with regs := (t.bmBegun c x).regs, vm := (t.bmBegun c x).vm, bm := (t.bmBegun c x).bm } := by
  rw [(bmBegun_only t c x).rest, served.rest]
  rfl

/-- A sound descriptor that moves at least one element is begun. -/
theorem bmFetch_sound {s t : State} {c : Nat} {d : List Byte} (hrun : s.bmRuns = true) (hst : s.bmState c = bsRunning)
    (hphase : (s.bmChan c).phase = .fetch) (hload : s.bmLoad c = (t, .ok d)) (hsound : (bmFetched d).bad = false)
    (h0 : (bmFetched d).cnt0 ≠ 0) (h1 : (bmFetched d).cnt1 ≠ 0) (h2 : (bmFetched d).cnt2 ≠ 0) :
    s.bmFetch c = t.bmBegun c (bmFetched d) := by
  have hgo : (!s.bmRuns || s.bmState c != bsRunning || (s.bmChan c).phase != .fetch) = false := by simp [hrun, hst, hphase]
  unfold bmFetched at hsound h0 h1 h2
  simp only [State.bmFetch, hgo, hload, hsound, h0, h1, h2, or_self, Bool.false_eq_true, if_false]
  rfl

/-! ### An element (R361, R362, R364) -/

section
variable {s : State} {c i2 i1 i0 : Nat}

/-- The source element of a copy, read from Vector Memory. -/
theorem bmRead_vm {p : Nat} (host : Option (List Byte)) (hop : (s.bmChan c).op = 0) (hspace : (s.bmChan c).sspace = 0)
    (hp : (s.bmChan c).srcAddr i2 i1 i0 = p) (hok : s.vmOk p (s.bmChan c).esize = true)
    (hclean : ∀ g ∈ granules p (s.bmChan c).esize, s.gcls g = .clean) :
    ∃ t, VmServed s t s.vm.bytes ∧ (∀ x len, t.vmOk x len = s.vmOk x len) ∧
      s.bmRead c host i2 i1 i0 = (t, .ok (memRead s.vm.bytes p (s.bmChan c).esize, false)) := by
  obtain ⟨t, served, hsame, hread⟩ := vmRead_served p hok hclean
  refine ⟨t, served, hsame, ?_⟩
  have hneg : ¬ ((p : Int) < 0) := by omega
  simp only [State.bmRead, hop, hspace, hp, hneg, if_false, Int.toNat_natCast, hread, Nat.zero_ne_one]

/-- The destination element written to Vector Memory. -/
theorem bmWrite_vm {q : Nat} {d : List Byte} (elem crc : Nat) (hspace : (s.bmChan c).dspace = 0)
    (hq : (s.bmChan c).dstAddr i2 i1 i0 = q) (hok : s.vmOk q d.length = true) (hclean : ∀ g ∈ granules q d.length, s.gcls g = .clean) :
    ∃ t, VmServed s t (memWrite s.vm.bytes q d) ∧ s.bmWrite c elem crc i2 i1 i0 d false = (t, .ok false) := by
  obtain ⟨t, served, hwrite⟩ := vmWrite_served q hok hclean
  refine ⟨t, served, ?_⟩
  have hneg : ¬ ((q : Int) < 0) := by omega
  simp only [State.bmWrite, hspace, hq, hneg, if_false, Int.toNat_natCast, hwrite]

end

/-- BM_POSc as a number. -/
def bmPosWord (j : Nat × Nat × Nat) : Nat := j.2.2 + j.2.1 * 2 ^ 32 + j.1 % 65536 * 2 ^ 48

/-- The registers after an element: the check register over it, the byte count, and the position moved on. -/
def State.bmMovedRegs (s : State) (c : Nat) (x : BmChan) (d : List Byte) (j : Nat × Nat × Nat) : State :=
  let t := if x.chk then s.setRegNat (BM_CHK c) 1 (crc32c (s.regNat (BM_CHK c) 1) (d.map BitVec.toNat)) else s
  (t.countWrap BM_PERF_BYTES x.esize BM_STATUS BM_STATUS.OVF_BYTES).setRegNat (BM_POS c) 2 (bmPosWord j)

/-- The state after an element: with the last one the channel has only its descriptor's end to do. -/
def State.bmMoved (s : State) (c : Nat) (x : BmChan) (d : List Byte) (j : Nat × Nat × Nat) : State :=
  let t := s.bmMovedRegs c x d j
  if j.1 = x.cnt2 then t.setBmChan c { t.bmChan c with phase := .finish } else t

section
variable (s : State) (c : Fin 32) (x : BmChan) (d : List Byte) (j : Nat × Nat × Nat)

theorem bmMovedRegs_only : RegsOnly s (s.bmMovedRegs c x d j)
    [BM_CHK c, BM_PERF_BYTES, BM_PERF_BYTES + 4, BM_STATUS, BM_POS c, BM_POS c + 4] := by
  have hchk : ∀ v, RegsOnly s (if x.chk then s.setRegNat (BM_CHK c) 1 v else s) [BM_CHK c] := fun v => by
    split
    · exact .setRegNat _ _ (by simp)
    · exact .refl _ _
  exact (((hchk _).mono (by simp)).trans ((countWrap_only _ BM_PERF_BYTES x.esize (by decide)).mono (by simp))).trans
    (.setRegNat _ _ (by simp [Fin.forall_fin_two]))

/-- Only the first of the three writes is one of BM_CHKc. -/
theorem bmMovedRegs_chk : (s.bmMovedRegs c x d j).regNat (BM_CHK c) 1 =
    if x.chk then crc32c (s.regNat (BM_CHK c) 1) (d.map BitVec.toNat) % 2 ^ 32 else s.regNat (BM_CHK c) 1 := by
  have hpos : BM_CHK c + 4 ≤ BM_POS c := by
    unfold BM_CHK BM_POS
    omega
  have hcount : ∀ i : Fin 1, BM_CHK c + 4 * i.val ∉ [BM_PERF_BYTES, BM_PERF_BYTES + 4, BM_STATUS] := fun i => by
    simp only [BM_CHK, BM_PERF_BYTES, BM_STATUS, List.mem_cons, List.not_mem_nil, or_false]
    omega
  rw [State.bmMovedRegs, State.regNat_setRegNat_of_outside _ _ _ _ _ _ (.inl hpos),
    (countWrap_only _ BM_PERF_BYTES x.esize (by decide)).regNat hcount]
  split
  · exact State.regNat_setRegNat_self ..
  · rfl

/-- R378: the bytes written are counted. -/
theorem bmMovedRegs_bytes : (s.bmMovedRegs c x d j).regNat BM_PERF_BYTES 2 = (s.regNat BM_PERF_BYTES 2 + x.esize) % 2 ^ 64 := by
  have hfar : BM_PERF_BYTES + 8 ≤ BM_POS c ∧ BM_PERF_BYTES + 8 ≤ BM_CHK c := by
    unfold BM_PERF_BYTES BM_POS BM_CHK
    omega
  rw [State.bmMovedRegs, State.regNat_setRegNat_of_outside _ _ _ _ _ _ (.inl hfar.1), regNat_countWrap _ _ (by decide) (.inl (by decide))]
  split
  · rw [State.regNat_setRegNat_of_outside _ _ _ _ _ _ (.inl hfar.2)]
  · rfl

/-- The position reads as its three indices. -/
theorem bmMovedRegs_pos (h0 : j.2.2 < 2 ^ 32) (h1 : j.2.1 < 2 ^ 16) : let t := s.bmMovedRegs c x d j
    (t.fld (BM_POS c) BM_POS.I2, t.fld (BM_POS c) BM_POS.I1, t.fld (BM_POS c) BM_POS.I0) = (j.1 % 65536, j.2.1, j.2.2) := by
  have hword : (s.bmMovedRegs c x d j).regNat (BM_POS c) 2 = bmPosWord j := by
    rw [State.bmMovedRegs, State.regNat_setRegNat_self]
    refine Nat.mod_eq_of_lt ?_
    unfold bmPosWord
    omega
  dsimp only
  rw [State.fld_pair _ _ (by decide), State.fld_pair _ _ (by decide), State.fld_pair _ _ (by decide), hword]
  simp only [bitsOf, bmPosWord, BM_POS.I0, BM_POS.I1, BM_POS.I2, Prod.mk.injEq]
  omega

theorem bmMoved_last (h : j.1 = x.cnt2) : s.bmMoved c x d j = (s.bmMovedRegs c x d j).setBmChan c
    { (s.bmMovedRegs c x d j).bmChan c with phase := .finish } :=
  if_pos h

theorem bmMoved_more (h : ¬ j.1 = x.cnt2) : s.bmMoved c x d j = s.bmMovedRegs c x d j :=
  if_neg h

/-- The registers are those, whether or not the element was the last. -/
theorem bmMoved_regs : (s.bmMoved c x d j).regs = (s.bmMovedRegs c x d j).regs := by
  by_cases h : j.1 = x.cnt2
  · rw [bmMoved_last _ _ _ _ _ h]
    rfl
  · rw [bmMoved_more _ _ _ _ _ h]

theorem bmMoved_regNat (a w : Nat) : (s.bmMoved c x d j).regNat a w = (s.bmMovedRegs c x d j).regNat a w :=
  State.regNat_congr _ _ fun _ _ => by rw [State.reg, bmMoved_regs, State.reg]

theorem bmMoved_chan (k : Nat) : (s.bmMoved c x d j).bmChan k =
    if k = c.val ∧ j.1 = x.cnt2 then { s.bmChan c with phase := .finish } else s.bmChan k := by
  have hregs : ∀ k, (s.bmMovedRegs c x d j).bmChan k = s.bmChan k := bmChan_congr (by rw [(bmMovedRegs_only s c x d j).rest])
  by_cases h : j.1 = x.cnt2
  · rw [bmMoved_last _ _ _ _ _ h]
    by_cases hk : k = c.val
    · rw [hk, bmChan_setBmChan, hregs, if_pos ⟨rfl, h⟩]
    · rw [bmChan_setBmChan_ne _ _ _ hk, hregs, if_neg (fun hand => hk hand.1)]
  · rw [bmMoved_more _ _ _ _ _ h, hregs, if_neg (fun hand => h hand.2)]

theorem bmMoved_vm : (s.bmMoved c x d j).vm = s.vm := by
  by_cases h : j.1 = x.cnt2
  · rw [bmMoved_last _ _ _ _ _ h, setBmChan_eq, (bmMovedRegs_only s c x d j).rest]
  · rw [bmMoved_more _ _ _ _ _ h, (bmMovedRegs_only s c x d j).rest]

theorem bmMoved_rest {s₀ : State} {bytes : List Host.Cell} (served : VmServed s₀ s bytes) : s.bmMoved c x d j = { s₀ with
    regs := (s.bmMoved c x d j).regs
    vm := (s.bmMoved c x d j).vm
    bm := (s.bmMoved c x d j).bm } := by
  have hrest : s.bmMovedRegs c x d j = { s₀ with
      regs := (s.bmMovedRegs c x d j).regs
      vm := (s.bmMovedRegs c x d j).vm
      bm := (s.bmMovedRegs c x d j).bm } := by
    rw [(bmMovedRegs_only s c x d j).rest, served.rest]
  by_cases h : j.1 = x.cnt2
  · rw [bmMoved_last _ _ _ _ _ h]
    exact setBmChan_rest hrest _ _
  · rw [bmMoved_more _ _ _ _ _ h]
    exact hrest

end

/-- The last element of the nest is the one after which the outermost index has run out. -/
theorem bmAdvance_last {x : BmChan} {i2 i1 i0 : Nat} (h : i2 < x.cnt2) :
    (bmAdvance x i2 i1 i0).1 = x.cnt2 ↔ x.cnt0 ≤ i0 + 1 ∧ x.cnt1 ≤ i1 + 1 ∧ i2 + 1 = x.cnt2 := by
  unfold bmAdvance
  split_ifs <;> simp only <;> omega

/-- The position as BM_POSc shows it. -/
theorem bmAdvance_shown {x : BmChan} {i2 i1 i0 : Nat} (h : i2 < x.cnt2) :
    ((bmAdvance x i2 i1 i0).1 % 65536, (bmAdvance x i2 i1 i0).2.1, (bmAdvance x i2 i1 i0).2.2) =
      if i0 + 1 < x.cnt0 then (i2, i1, i0 + 1) else if i1 + 1 < x.cnt1 then (i2, i1 + 1, 0) else ((i2 + 1) % 65536, 0, 0) := by
  have hcnt2 : x.cnt2 < 65536 := Nat.mod_lt _ (by decide)
  have hsame : i2 % 65536 = i2 := Nat.mod_eq_of_lt (h.trans hcnt2)
  unfold bmAdvance
  split_ifs <;> simp only [hsame]

/-- The indices stay within their fields. -/
theorem bmAdvance_lt {x : BmChan} {i2 i1 i0 : Nat} (h1 : i1 < 2 ^ 16) :
    (bmAdvance x i2 i1 i0).2.2 < 2 ^ 32 ∧ (bmAdvance x i2 i1 i0).2.1 < 2 ^ 16 := by
  have h0 : x.cnt0 < 2 ^ 32 := Nat.mod_lt _ (by decide)
  have hcnt1 : x.cnt1 < 2 ^ 16 := Nat.mod_lt _ (by decide)
  unfold bmAdvance
  split_ifs <;> simp only <;> omega

/-- BM_ELEMENT of a copy within Vector Memory: the source bytes at the destination, and the position moved on. -/
theorem bmElement_copy {s : State} {c : Fin 32} {x : BmChan} (hx : s.bmChan c = x) {i2 i1 i0 p q : Nat}
    (hi0 : s.fld (BM_POS c) BM_POS.I0 = i0) (hi1 : s.fld (BM_POS c) BM_POS.I1 = i1) (hi2 : s.fld (BM_POS c) BM_POS.I2 = i2)
    (hrun : s.bmRuns = true) (hst : s.bmState c = bsRunning) (hphase : x.phase = .move) (hop : x.op = 0) (hsspace : x.sspace = 0)
    (hdspace : x.dspace = 0) (hover : x.overlap = false) (hp : x.srcAddr i2 i1 i0 = p) (hq : x.dstAddr i2 i1 i0 = q)
    (hpok : s.vmOk p x.esize = true) (hpclean : ∀ g ∈ granules p x.esize, s.gcls g = .clean)
    (hqok : s.vmOk q x.esize = true) (hqclean : ∀ g ∈ granules q x.esize, s.gcls g = .clean) :
    ∃ t, VmServed s t (memWrite s.vm.bytes q (memRead s.vm.bytes p x.esize)) ∧
      s.bmElement c none = t.bmMoved c x (memRead s.vm.bytes p x.esize) (bmAdvance x i2 i1 i0) := by
  subst hx
  have hlen : (memRead s.vm.bytes p (s.bmChan c).esize).length = (s.bmChan c).esize := memRead_length ..
  obtain ⟨u, hu, hsame, hread⟩ := bmRead_vm (host := none) hop hsspace hp hpok hpclean
  generalize memRead s.vm.bytes p (s.bmChan c).esize = d at hlen hread
  have hchan := hu.chan c
  obtain ⟨t, ht, hwrite⟩ := bmWrite_vm (s := u) (d := d) ((i2 * (s.bmChan c).cnt1 + i1) * (s.bmChan c).cnt0 + i0)
    (u.regNat (BM_CHK c) 1) (by rw [hchan]; exact hdspace) (by rw [hchan]; exact hq) (by rw [hsame, hlen]; exact hqok)
    (fun g hg => (hu.marks g).trans (hqclean g (hlen ▸ hg)))
  rw [hu.bytes] at ht
  refine ⟨t, hu.trans ht, ?_⟩
  have hgo : (!s.bmRuns || s.bmState c != bsRunning || (s.bmChan c).phase != .move) = false := by simp [hrun, hst, hphase]
  have hchk : u.regNat (BM_CHK c) 1 = t.regNat (BM_CHK c) 1 := (ht.regNat (by unfold BM_CHK; omega) 1).symm
  have hop2 : (s.bmChan c).op ≠ 2 := by omega
  rw [hchk] at hwrite
  simp only [State.bmElement, hgo, hi0, hi1, hi2, hread, hover, hop2, hchk, hwrite, Bool.false_eq_true, if_false, bmPoison_clean]
  rfl

/-! ### The end of a descriptor (R365 to R367) -/

/-- R367: what a channel shows after a write-back without a mismatch. -/
structure BmEnded (s t : State) (c : Fin 32) (bytes : List Host.Cell) (st desc : Nat) (ph : BmPhase) : Prop where
  marks : ∀ g, t.gcls g = s.gcls g
  bytes : t.vm.bytes = bytes
  state : t.bmState c = st
  last : t.fld (BM_CHST c) BM_CHST.LAST = bcOk
  phase : (t.bmChan c).phase = ph
  desc : t.regNat (BM_DESC c) 2 = desc
  rest : t = { s with regs := t.regs, vm := t.vm, bm := t.bm }

/-- A channel that goes on to the next descriptor. -/
theorem BmEnded.fetching {s t : State} {c : Fin 32} {bytes : List Host.Cell} {st desc : Nat} {ph : BmPhase}
    (h : BmEnded s t c bytes st desc ph) : BmEnded s (t.setBmChan c { t.bmChan c with phase := .fetch }) c bytes st desc .fetch where
  marks := h.marks
  bytes := h.bytes
  state := (State.fld_congr (by rfl) _ _).trans h.state
  last := (State.fld_congr (by rfl) _ _).trans h.last
  phase := by rw [bmChan_setBmChan]
  desc := (State.regNat_congr _ _ fun _ _ => by rfl).trans h.desc
  rest := setBmChan_rest h.rest _ _

/-- LAST shows that the write-back's code is OK. -/
def State.bmLastOk (s : State) (c : Nat) : State := s.setFld (BM_CHST c) BM_CHST.LAST bcOk

section
variable {s t : State} {c : Fin 32} {bytes : List Host.Cell} (served : VmServed s t bytes)
include served

theorem bmLastOk_chan : (t.bmLastOk c).bmChan c = s.bmChan c :=
  (bmChan_congr (State.setFld_bm ..) c).trans (served.chan c)

theorem bmLastOk_desc : (t.bmLastOk c).regNat (BM_DESC c) 2 = s.regNat (BM_DESC c) 2 := by
  have hset : RegsOnly t (t.bmLastOk c) [BM_CHST c] := .setFld _ _ (by decide) (by simp)
  rw [hset.regNat (bmDesc_ne_chst c), served.regNat (by unfold BM_DESC; omega)]

theorem bmLastOk_pend : (t.bmLastOk c).flag (BM_CHST c) BM_CHST.PAUSE_PEND = s.flag (BM_CHST c) BM_CHST.PAUSE_PEND := by
  rw [State.flag, State.bmLastOk, State.fld_setFld_apart _ _ _ (by decide) (by decide) (by decide),
    served.fld (by unfold BM_CHST; omega), State.flag]

theorem bmLastOk_msix : (t.bmLastOk c).flag (BM_CFG c) BM_CFG.MSIX_EN = s.flag (BM_CFG c) BM_CFG.MSIX_EN := by
  have hcfg : BM_CFG c ≠ BM_CHST c := by
    unfold BM_CFG BM_CHST
    omega
  rw [State.flag, State.bmLastOk, State.fld_setFld_ne _ _ _ _ (by decide) (by decide) hcfg, served.fld (by unfold BM_CFG; omega),
    State.flag]

/-- A channel stopped after a write-back. -/
theorem bmEnded_stop {st desc : Nat} (hst : st < 8) (hdesc : desc < 2 ^ 64) :
    BmEnded s ((t.bmLastOk c).bmStop c st desc) c bytes st desc .idle := by
  have left := bmStop_left (t.bmLastOk c) c hst hdesc
  have hvm : ((t.bmLastOk c).bmStop c st desc).vm = t.vm := by
    rw [left.only.rest]
    exact State.setFld_vm ..
  refine ⟨fun g => ?_, by rw [hvm, served.bytes], left.state, ?_, left.phase, left.desc, ?_⟩
  · rw [← served.marks, State.gcls, hvm, State.gcls]
  · rw [left.last, State.bmLastOk, State.fld_setFld_self]
    rfl
  · rw [left.only.rest, State.bmLastOk, State.setFld_eq, served.rest]

end

section
variable {t : State} {c : Nat}

/-- Without a link the channel is idle. -/
theorem bmNext_last (hlink : (t.bmChan c).ctl 12 1 = 0) : t.bmNext c bcOk = t.bmStop c bsIdle (t.regNat (BM_DESC c) 2) := by
  simp [State.bmNext, hlink]

/-- With a link, and neither a pause nor a power-down pending, it fetches NEXT. -/
theorem bmNext_link (hlink : (t.bmChan c).ctl 12 1 = 1) (hpause : (t.bmChan c).ctl 14 1 = 0)
    (hpend : t.flag (BM_CHST c) BM_CHST.PAUSE_PEND = false) (hquiesce : t.st.quiesce = none) :
    t.bmNext c bcOk = (t.bmStop c bsRunning (t.bmChan c).next).setBmChan c
      { (t.bmStop c bsRunning (t.bmChan c).next).bmChan c with phase := .fetch } := by
  simp [State.bmNext, hlink, hpause, hpend, hquiesce]

end

section
variable {s : State} {c : Fin 32} {x : BmChan} (hx : s.bmChan c = x) (hrun : s.bmRuns = true) (hst : s.bmState c = bsRunning)
  (hphase : x.phase = .finish) (hwrites : x.writes = []) (hmsix : x.ctl 13 1 = 0 ∨ s.flag (BM_CFG c) BM_CFG.MSIX_EN = false)
include hx hrun hst hphase hwrites hmsix

/-- Without a mismatch the write-back is performed, LAST shows OK, and the channel stops or goes on. -/
theorem bmEnd_ok {t : State} {bytes : List Host.Cell} (served : VmServed s t bytes) (hok : x.chk = false ∨ x.ctl 11 1 = 0)
    (hstore : (if x.chk then s.bmStore c 56 (toBytes 4 (s.regNat (BM_CHK c) 1 ^^^ 0xFFFFFFFF) ++ toBytes 4 (BmStatus x bcOk))
      else s.bmStore c 60 (toBytes 4 (BmStatus x bcOk))) = (t, .ok ())) : s.bmEnd c = (t.bmLastOk c).bmNext c bcOk := by
  subst hx
  have hgo : (!s.bmRuns || s.bmState c != bsRunning || (s.bmChan c).phase != .finish || !(s.bmChan c).writes.isEmpty) = false := by
    simp [hrun, hst, hphase, hwrites]
  have hcode : ((s.bmChan c).chk && decide ((s.bmChan c).ctl 11 1 = 1)
      && decide (s.regNat (BM_CHK c) 1 ^^^ 0xFFFFFFFF ≠ (s.bmChan c).f 448 32)) = false := by
    rcases hok with h | h <;> simp [h]
  have hmatch : ¬ bcOk = bcMismatch := by decide
  have hmsg : ¬ ((s.bmChan c).ctl 13 1 = 1 ∧ (t.setFld (BM_CHST c) BM_CHST.LAST bcOk).flag (BM_CFG c) BM_CFG.MSIX_EN = true) := by
    rintro ⟨hone, hen⟩
    have hen' := (bmLastOk_msix served (c := c)).symm.trans hen
    rcases hmsix with h | h
    · omega
    · rw [hen'] at h
      cases h
  simp only [State.bmEnd, hgo, hcode, hstore, hmatch, hmsg, Bool.false_eq_true, if_false]
  rfl

variable (hvm : bitAt (s.regNat (BM_DESC c) 2) 0 = false)
include hvm

/-- A descriptor without a check value and without a link: STATUS is written, and the channel is idle. -/
theorem bmEnd_last (hchk : x.chk = false) (hlink : x.ctl 12 1 = 0) (hok : s.vmOk (s.bmDescAt c + 60) 4 = true)
    (hclean : ∀ g ∈ granules (s.bmDescAt c + 60) 4, s.gcls g = .clean) :
    BmEnded s (s.bmEnd c) c (memWrite s.vm.bytes (s.bmDescAt c + 60) (toBytes 4 (BmStatus x bcOk))) bsIdle
      (s.regNat (BM_DESC c) 2) .idle := by
  obtain ⟨t, served, hstore⟩ := bmStore_served (d := toBytes 4 (BmStatus x bcOk)) (off := 60) hvm hok hclean
  rw [bmEnd_ok hx hrun hst hphase hwrites hmsix served (.inl hchk) (by rw [hchk]; exact hstore),
    bmNext_last (by rw [bmLastOk_chan served, hx]; exact hlink), bmLastOk_desc served]
  exact bmEnded_stop served (by decide) (State.regNat_lt s (BM_DESC c) 2)

/-- A descriptor with a check value and a link: both words are written, and the channel fetches the next one. -/
theorem bmEnd_link (hchk : x.chk = true) (hcmp : x.ctl 11 1 = 0) (hlink : x.ctl 12 1 = 1) (hpause : x.ctl 14 1 = 0)
    (hpend : s.flag (BM_CHST c) BM_CHST.PAUSE_PEND = false) (hquiesce : s.st.quiesce = none) (hok : s.vmOk (s.bmDescAt c + 56) 8 = true)
    (hclean : ∀ g ∈ granules (s.bmDescAt c + 56) 8, s.gcls g = .clean) :
    BmEnded s (s.bmEnd c) c (memWrite s.vm.bytes (s.bmDescAt c + 56)
      (toBytes 4 (s.regNat (BM_CHK c) 1 ^^^ 0xFFFFFFFF) ++ toBytes 4 (BmStatus x bcOk))) bsRunning x.next .fetch := by
  obtain ⟨t, served, hstore⟩ := bmStore_served (off := 56)
    (d := toBytes 4 (s.regNat (BM_CHK c) 1 ^^^ 0xFFFFFFFF) ++ toBytes 4 (BmStatus x bcOk)) hvm hok hclean
  have hst' : (t.bmLastOk c).st = s.st := by
    rw [State.bmLastOk, State.setFld_st, served.rest]
  have hchan : (t.bmLastOk c).bmChan c = x := (bmLastOk_chan served).trans hx
  rw [bmEnd_ok hx hrun hst hphase hwrites hmsix served (.inr hcmp) (by rw [if_pos hchk]; exact hstore),
    bmNext_link (by rw [hchan]; exact hlink) (by rw [hchan]; exact hpause) ((bmLastOk_pend served).trans hpend)
      (by rw [hst']; exact hquiesce), hchan]
  exact (bmEnded_stop served (by decide) (Nat.mod_lt _ (by decide))).fetching

end

end Sys2Proof.Machine

namespace Sys2Proof.Proofs
open Sys2Proof Sys2Proof.Machine

/-- Settles O41: the fetch by `bmFetch_sound`, the element by `bmElement_copy` and what `bmMoved` shows, the end by `bmEnd_last`
and `bmEnd_link`. -/
theorem blockMoverMoves : Obligations.BlockMoverMoves := by
  unfold Obligations.BlockMoverMoves
  intro s c x a clean hrun hst
  refine ⟨?fetch, ?element, fun hphase hwrites hvm hmsix => ⟨fun hchk hlink hclean => ?last,
    fun hchk hcmp hlink hpause hpend hquiesce hclean => ?link⟩⟩
  case fetch =>
    intro hvm hclean hphase y hsound h0 h1 h2
    obtain ⟨t, served, hload⟩ := bmLoad_served hvm hclean.1 hclean.2
    have hrest := bmBegun_rest served c y
    have hvm' := bmBegun_vm t c y
    refine ⟨t.bmBegun c y, ?_, ?_, fun k hk => ?_, bmBegun_pos t c y, ?_, by rw [hvm', served.bytes], fun g => ?_, hrest⟩
    · show Host.Outcome.next (s.after (s.bmFetch c)) = _
      rw [show s.bmFetch c = t.bmBegun c y from bmFetch_sound hrun hst hphase hload hsound h0 h1 h2, after_eq (by rw [hrest])]
    · rw [bmBegun_chan, if_pos rfl]
    · rw [bmBegun_chan, if_neg hk, served.chan]
    · rw [bmBegun_chk, served.regNat (by unfold BM_CHK; omega)]
    · rw [← served.marks, State.gcls, hvm', State.gcls]
  case element =>
    intro p q i0 i1 i2 d hphase hop hsspace hdspace hover hi2 hp hq hpclean hqclean
    have h1 : i1 < 2 ^ 16 := Nat.mod_lt _ (by decide)
    obtain ⟨t, served, hmoved⟩ := bmElement_copy (s := s) (c := c) rfl rfl rfl rfl hrun hst hphase hop hsspace hdspace hover hp hq
      hpclean.1 hpclean.2 hqclean.1 hqclean.2
    have hrest := bmMoved_rest t c x d (bmAdvance x i2 i1 i0) served
    have hvm := bmMoved_vm t c x d (bmAdvance x i2 i1 i0)
    obtain ⟨hlt0, hlt1⟩ := bmAdvance_lt (x := x) (i2 := i2) (i0 := i0) h1
    refine ⟨_, ?_, by rw [hvm, served.bytes], fun g => ?_, ?_, ?_, ?_, ?_, fun k hk => ?_, hrest⟩
    · show Host.Outcome.next (s.after (s.bmElement c none)) = _
      rw [hmoved]
      exact congrArg Host.Outcome.next (after_eq (by rw [hrest]))
    · rw [← served.marks, State.gcls, hvm, State.gcls]
    · rw [bmMoved_regNat, bmMovedRegs_chk, served.regNat (by unfold BM_CHK; omega)]
    · rw [bmMoved_regNat, bmMovedRegs_bytes, served.regNat (by decide)]
    · have hpos := bmMovedRegs_pos t c x d (bmAdvance x i2 i1 i0) hlt0 hlt1
      rw [State.fld_congr (bmMoved_regs ..), State.fld_congr (bmMoved_regs ..), State.fld_congr (bmMoved_regs ..), hpos]
      exact bmAdvance_shown hi2
    · rw [bmMoved_chan, served.chan]
      exact if_congr ((and_iff_right rfl).trans (bmAdvance_last hi2)) rfl rfl
    · rw [bmMoved_chan, if_neg (fun h => hk h.1), served.chan]
  case last =>
    have ended := bmEnd_last rfl hrun hst hphase hwrites hmsix hvm hchk hlink hclean.1 hclean.2
    refine ⟨_, ?_, ended.marks, ended.bytes, ended.state, ended.last, ended.phase, ended.desc, ended.rest⟩
    exact congrArg Host.Outcome.next (after_eq (by rw [ended.rest]))
  case link =>
    have ended := bmEnd_link rfl hrun hst hphase hwrites hmsix hvm hchk hcmp hlink hpause hpend hquiesce hclean.1 hclean.2
    refine ⟨_, ?_, ended.marks, ended.bytes, ended.state, ended.last, ended.phase, ended.desc, ended.rest⟩
    exact congrArg Host.Outcome.next (after_eq (by rw [ended.rest]))

end Sys2Proof.Proofs
end

section
/-! TRANSIT_TIMEOUT in a state whose MODE names Run although the device is Off (O45). -/
namespace Sys2Proof.Machine

/-- A device that is Off while ST_MODE.MODE still names Run, in Transit with no ring enabled. -/
def offInTransit : State :=
  let s : State := { State.reset with st := { State.reset.st with base := mOff } }
  (s.setFld ST_MODE ST_MODE.MODE mRun).setFld CH_RING CH_RING.TRANSIT 1

theorem offInTransit_plain : EventPlain offInTransit (chSrc 0 ckTransitLong) (srcSev (chSrc 0 ckTransitLong)) := by
  constructor <;> decide +kernel

/-- R484, R486: leaving Transit names the mode Off, in which the Fault and Journal Unit does not run: CH_TRANSIT_LONG is not latched. -/
theorem offInTransit_unlatched : (offInTransit.after offInTransit.transitTimeout.inboxDrain).flag
    (FJ_SRC_STAT (chSrc 0 ckTransitLong)) FJ_SRC_STAT.LATCHED = false := by
  decide +kernel

end Sys2Proof.Machine

namespace Sys2Proof.Proofs
open Sys2Proof Sys2Proof.Machine

/-- Refutes O45 in its clause on TRANSIT_TIMEOUT, which asks that the Fault and Journal Unit runs by the MODE shown before the
command only. In `offInTransit` the command names the mode again, as Off, and CH_TRANSIT_LONG is not recorded. A premise that the
base of the mode is Proofing or above would exclude such a state. -/
theorem not_chainKeepsItself : ¬ Obligations.ChainKeepsItself := by
  unfold Obligations.ChainKeepsItself
  intro h
  obtain ⟨-, -, -, -, -, -, -, -, htimeout, -⟩ := h offInTransit 0 ⟨0, []⟩ mStart
  obtain ⟨u, t, hexec, hraised, -⟩ := htimeout (by decide +kernel) rfl rfl rfl offInTransit_plain (by decide +kernel)
  have hend : offInTransit.after offInTransit.transitTimeout.inboxDrain = t := Host.Outcome.next.inj hexec
  have hlatched := hraised.latched
  rw [← hend] at hlatched
  exact Bool.false_ne_true (offInTransit_unlatched.symm.trans hlatched)

end Sys2Proof.Proofs
end

section
/-! A message of the chain that is for this device, taken alone as it arrives (O43, O44). -/
namespace Sys2Proof.Machine

/-- The types of requests and responses (Table 12-5), which VC0 and VC1 carry. -/
def isRequestOrResponse (m : ChMsg) : Prop := (1 ≤ m.ty ∧ m.ty ≤ 4) ∨ (8 ≤ m.ty ∧ m.ty ≤ 12)

theorem isType_ty {m : ChMsg} {ty : Nat} (h : m.isType ty = true) : m.ty = ty := by
  simp only [ChMsg.isType, Bool.and_eq_true, decide_eq_true_eq] at h
  simpa [ChMsg.ty, ChMsg.f, bitsOf] using h.1

section
variable {s t : State} {p : Fin 8} {m : ChMsg} (hin : ChainIn s p m)
include hin

theorem ChainIn.traffic : s.chTraffic = true := by
  obtain ⟨hbase, hwipe, -⟩ := hin.running
  simp [State.chTraffic, hbase, hwipe]

/-- R391, R396: a request or a response for this device goes to its inbox. -/
theorem chArrive_inbox (hty : isRequestOrResponse m) : s.chArrive p m = s.chInbox p m := by
  have htype : m.ty ≠ 0 ∧ m.ty ≠ mtNBR ∧ m.ty ≠ mtTIME ∧ m.ty ≠ mtLINKDOWN ∧ m.ty ≠ mtMARK ∧ m.ty ≠ mtRECONCILE := by
    simp only [isRequestOrResponse] at hty
    simp only [mtNBR, mtTIME, mtLINKDOWN, mtMARK, mtRECONCILE]
    omega
  obtain ⟨hnop, hnbr, htime, hdown, hmark, hrec⟩ := htype
  simp [State.chArrive, hnop, hin.wellFormed, hnbr, htime, hin.wired, hin.known, hin.traffic, hdown, hmark, hin.here, hrec]

/-- A message that leaves none in the inbox behind it is the only one taken. -/
theorem chMessage_taken (hty : isRequestOrResponse m) (htake : s.inboxTake p m = t) (hempty : t.ch.inbox = []) : s.chMessage p m = t := by
  have hout : ({ s.chInbox p m with ch := { (s.chInbox p m).ch with inbox := [] } } : State) = s := by
    simp only [State.chInbox, ← hin.alone]
  have hinbox : (s.chInbox p m).ch.inbox = [(p.val, m)] := by simp [State.chInbox, hin.alone]
  have hdone : ∀ k, inboxRun k t = t
    | 0 => rfl
    | k + 1 => by simp [inboxRun, hempty]
  rw [State.chMessage, chArrive_inbox hin hty, State.inboxDrain, hinbox]
  simp only [inboxRun, hinbox, hout, htake, hempty]

/-- A command that brings a request or a response, by what taking the message does. -/
theorem messageRow_exec {c : Instr} {ty : Nat}
    (hrow : exec c s = if m.isType ty then .next (s.after (s.chMessage p m)) else .fault .illFormed) (htype : m.isType ty = true)
    (hty : (1 ≤ ty ∧ ty ≤ 4) ∨ (8 ≤ ty ∧ ty ≤ 12)) (htake : s.inboxTake p m = t) (hempty : t.ch.inbox = [])
    (hpending : t.pending = s.pending) : exec c s = .next t := by
  have hhere : isRequestOrResponse m := by rwa [isRequestOrResponse, isType_ty htype]
  rw [hrow, if_pos htype, chMessage_taken hin hhere htake hempty, after_eq hpending]

end

/-! ### Responses (R393, R404) -/

/-- The tag is free again. -/
def State.tagFreed (s : State) (tag : Nat) : State :=
  { s with ch := { s.ch with tags := s.ch.tags.filter (fun x => x.tag != tag) } }

section
variable {s : State} {p : Nat} {m : ChMsg} {tg : ChTag} (hfind : s.ch.tags.find? (fun t => t.tag == m.tag) = some tg)

theorem tag_of_found {tags : List ChTag} {tag : Nat} (h : tags.find? (fun t => t.tag == tag) = some tg) : tg.tag = tag := by
  simpa using List.find?_some h

theorem inboxTake_response (hty : 8 ≤ m.ty ∧ m.ty ≤ 12) : s.inboxTake p m = s.chResponse m := by
  have hreq : m.isReq = false := by
    simp only [ChMsg.isReq, Bool.and_eq_false_iff, decide_eq_false_iff_not]
    omega
  have hmgmt : m.ty ≠ mtMGMT := by
    simp only [mtMGMT]
    omega
  simp [State.inboxTake, hreq, hmgmt]

include hfind

theorem chResponse_bmRead {c : Nat} (hwho : tg.who = .bmRead c) (hty : m.ty = mtRDRSP) :
    s.chResponse m = (s.tagFreed tg.tag).bmGot c (m.data.take m.bytes) m.poison := by
  simp [State.chResponse, hfind, hwho, hty, mtRDRSP, mtWAKING, mtERRRSP, State.tagFreed, tag_of_found hfind]

theorem chResponse_bmReadErr {c : Nat} (hwho : tg.who = .bmRead c) (hty : m.ty = mtERRRSP) :
    s.chResponse m = (s.tagFreed tg.tag).bmReadErr c := by
  simp [State.chResponse, hfind, hwho, hty, mtWAKING, mtERRRSP, State.tagFreed, tag_of_found hfind]

theorem chResponse_bmWrite {c elem : Nat} (hwho : tg.who = .bmWrite c elem) (hty : m.ty = mtWRACK) (hmerge : bitAt m.stat 0 = false) :
    s.chResponse m = (s.tagFreed tg.tag).bmAcked c elem false false := by
  simp [State.chResponse, hfind, hwho, hty, hmerge, mtWRACK, mtWAKING, mtERRRSP, State.tagFreed, tag_of_found hfind]

theorem chResponse_scalar {n : Fin 9} (hwho : tg.who = .scalar n) (hty : m.ty = mtATOMRSP) (hpsn : m.poison = false) :
    s.chResponse m = (s.tagFreed tg.tag).scalarAnswer n (some (ofBytes (m.data.take m.bytes))) := by
  simp [State.chResponse, hfind, hwho, hty, hpsn, mtATOMRSP, mtWAKING, mtERRRSP, State.tagFreed, tag_of_found hfind]

theorem chResponse_bellErr (hwho : tg.who = .bell) (hty : m.ty = mtERRRSP) :
    s.chResponse m = (s.tagFreed tg.tag).chRaise tg.port ckDbErr := by
  simp [State.chResponse, hfind, hwho, hty, mtWAKING, mtERRRSP, State.tagFreed, tag_of_found hfind]

theorem chResponse_waking (hty : m.ty = mtWAKING) : s.chResponse m = { s with ch := { s.ch with
    tags := s.ch.tags.map (fun x => if x.tag = m.tag then { x with waking := true } else x) } } := by
  simp [State.chResponse, hfind, hty]

end

/-- R371: a remote write of a channel is performed, without Poison. -/
theorem bmAcked_performed {s : State} {c : Fin 32} {elem : Nat} {w : Nat × Nat}
    (hw : (s.bmChan c).writes.find? (fun w => w.1 == elem) = some w) :
    s.bmAcked c elem false false = s.setBmChan c { s.bmChan c with writes := (s.bmChan c).writes.erase w } := by
  simp only [State.bmAcked, hw]
  exact bmPoison_clean ..

/-- R404: the one remote atomic of a sequencer returns its old value. -/
theorem scalarAnswer_atomic {s : State} {n : Fin 9} {id : Nat} {ck : Arch} {lp : BitVec 19} {x : Access} {v : Nat}
    (hspec : (s.seq n).spec = [⟨id, ck, lp, 1, .access x none true false⟩]) (htgt : ∃ d a, x.tgt = .remote d a)
    (hpld : x.isPld = false) (hmis : x.misaligned = false) (hop : x.op = .aaddD) (hsize : x.size = 8)
    (hw : (s.seq n).waiting = []) (ht : (s.seq n).tail = none) (ho : (s.seq n).outs = []) :
    Retired s (s.scalarAnswer n (some v)) n { s.seq n with
      arch := (s.seq n).arch.setReg x.dst (BitVec.ofNat 64 v)
      spec := [] } := by
  obtain ⟨d, a, htgt⟩ := htgt
  have hdone : s.scalarAnswer n (some v) = s.accessDone n id x (v % 2 ^ 64) := by
    simp [State.scalarAnswer, hspec, htgt, hsize]
  have hloaded : (s.seq n).arch.loaded x (v % 2 ^ 64) = (s.seq n).arch.setReg x.dst (BitVec.ofNat 64 v) := by
    simp only [Arch.loaded, hpld, hop, MemOp.extend, Bool.false_eq_true, if_false]
    rw [← BitVec.toNat_ofNat, BitVec.ofNat_toNat, BitVec.setWidth_eq]
  rw [hdone, accessDone_single s n id ck lp 1 x true _ hspec hmis hw ht ho, hloaded]
  exact retired_count s n 0 _

/-- R370: a further error of a channel while the unit is halted. -/
theorem bmError_again {s : State} {c : Fin 32} {side : Nat} (h : s.flag BM_STATUS BM_STATUS.HALTED = true) (hside : side ≠ sdDesc)
    (code addr : Nat) : s.bmError c code side addr =
      ((s.setFld (BM_CHST c) BM_CHST.ERRED 1).setFld (BM_CHST c) BM_CHST.STATE bsHalted).setFld BM_ERR BM_ERR.MULTI 1 := by
  have hapart : BM_STATUS ≠ BM_CHST c := by
    simp only [BM_STATUS, BM_CHST]
    omega
  have hkept : (s.setFld (BM_CHST c) BM_CHST.ERRED 1).flag BM_STATUS BM_STATUS.HALTED = true := by
    rwa [State.flag, State.fld_setFld_ne _ _ _ _ (by decide) (by decide) hapart]
  simp only [State.bmError, if_neg hside, if_pos hkept]
  rfl

/-- R372: a refused read of a channel while the unit is halted. -/
theorem bmReadErr_halted {s : State} {c : Fin 32} (h : s.flag BM_STATUS BM_STATUS.HALTED = true) :
    s.bmReadErr c = (((s.setBmChan c { s.bmChan c with asked := false, got := [], gotPsn := false }).setFld (BM_CHST c)
      BM_CHST.ERRED 1).setFld (BM_CHST c) BM_CHST.STATE bsHalted).setFld BM_ERR BM_ERR.MULTI 1 := by
  rw [State.bmReadErr]
  exact bmError_again (by rwa [State.flag, State.fld_congr (by rfl)]) (by decide) _ _

/-! ### Headers (Table 12-4) -/

theorem bitsOf_ofNat {h lo len : Nat} (hfit : lo + len ≤ 128) : bitsOf (BitVec.ofNat 128 h).toNat lo len = bitsOf h lo len := by
  apply bitsOf_eq_of_testBit
  intro b _ hlt
  rw [BitVec.toNat_ofNat, Nat.testBit_mod_two_pow, decide_eq_true (by omega), Bool.true_and]

section
variable {ty vc dst src tag sub ety store bytes addr stat : Nat} {poison : Bool} {data : List Byte}

theorem make_ty (hty : ty < 64) : (ChMsg.make ty vc dst src tag sub ety store bytes addr stat poison data).ty = ty := by
  have hpsn : bit01 poison ≤ 1 := by cases poison <;> decide
  refine (bitsOf_ofNat (by decide)).trans ?_
  unfold bitsOf
  omega

theorem make_tag (hty : ty < 64) (hvc : vc < 4) : (ChMsg.make ty vc dst src tag sub ety store bytes addr stat poison data).tag = tag % 4096 := by
  have hpsn : bit01 poison ≤ 1 := by cases poison <;> decide
  refine (bitsOf_ofNat (by decide)).trans ?_
  unfold bitsOf
  omega

end

/-- R404: the request of a channel's read that timed out, while the Block Mover is halted, is refused as UNKNOWN. -/
theorem tagTimeout_bmRead {s : State} {tag : BitVec 12} {tg : ChTag} {c : Fin 32} (hmode : s.mode ≠ mTransit)
    (hfind : s.ch.tags.find? (fun t => t.tag == tag.toNat) = some tg) (hwho : tg.who = .bmRead c)
    (hhalted : s.flag BM_STATUS BM_STATUS.HALTED = true)
    (hplain : EventPlain s (chSrc tg.port ckRspTimeout) (srcSev (chSrc tg.port ckRspTimeout))) :
    ∃ u, EventRaised s u (chSrc tg.port ckRspTimeout) ∧ s.tagTimeout tag.toNat =
      (((({ u with ch := (s.tagFreed tg.tag).ch } : State).setBmChan c { s.bmChan c with asked := false, got := [], gotPsn := false }).setFld
        (BM_CHST c) BM_CHST.ERRED 1).setFld (BM_CHST c) BM_CHST.STATE bsHalted).setFld BM_ERR BM_ERR.MULTI 1 := by
  have hraised : EventRaised s (s.chRaise tg.port ckRspTimeout) (chSrc tg.port ckRspTimeout) :=
    raise_plain s _ (portUnit tg.port) _ 0 false hplain
  refine ⟨_, hraised, ?_⟩
  generalize hu : s.chRaise tg.port ckRspTimeout = u at hraised
  have hch : u.ch = s.ch := by rw [hraised.rest]
  have hchan : (u.tagFreed tg.tag).bmChan c = s.bmChan c := bmChan_congr (s := s) (by rw [State.tagFreed, hraised.rest]) c
  have htag : (ChMsg.make mtERRRSP 1 s.chId s.chId tag.toNat xrUnknown 0 0 1 0 0 false []).tag = tag.toNat :=
    (make_tag (by decide) (by decide)).trans (Nat.mod_eq_of_lt tag.isLt)
  have hkept : (u.tagFreed tg.tag).flag BM_STATUS BM_STATUS.HALTED = true := by
    have hword : (u.tagFreed tg.tag).reg BM_STATUS = s.reg BM_STATUS := hraised.outside _ (by decide)
    rw [← hhalted, State.flag, State.flag, State.fld_low _ _ (by decide), State.fld_low _ _ (by decide), hword]
  have hrefused : s.tagTimeout tag.toNat = (u.tagFreed tg.tag).bmReadErr c := by
    rw [State.tagTimeout, if_neg hmode, hfind]
    dsimp only
    rw [hu]
    exact chResponse_bmReadErr (by rw [hch, htag, hfind]) hwho (make_ty (by decide))
  rw [hrefused, bmReadErr_halted hkept, hchan, State.tagFreed, hch]
  rfl

end Sys2Proof.Machine

namespace Sys2Proof.Proofs
open Sys2Proof Sys2Proof.Machine

/-- Settles O44: `messageRow_exec` with what each requester makes of its response, and `tagTimeout_bmRead` for the tag that
timed out. -/
theorem chainResponsesReturn : Obligations.ChainResponsesReturn := by
  unfold Obligations.ChainResponsesReturn
  intro s p m tg freed
  refine ⟨fun hin hfind => ⟨fun c hwho htype hc => ?read, fun c elem w hwho htype hmerge hc hw => ?write,
    fun n id ck lp x hwho htype hpsn hspec htgt hpld hmis hop hsize hwait htail houts => ?atomic,
    fun hwho htype hplain => ?bell, fun htype => ?waking⟩, fun tag c hmode hfind hwho hc hhalted hplain => ?timeout⟩
  case read =>
    have htake : s.inboxTake p m = (s.tagFreed tg.tag).bmGot c (m.data.take m.bytes) m.poison := by
      rw [inboxTake_response (by rw [isType_ty htype]; decide), chResponse_bmRead hfind hwho (isType_ty htype)]
    exact messageRow_exec hin rfl htype (by decide) htake hin.alone rfl
  case write =>
    have htake : s.inboxTake p m = (s.tagFreed tg.tag).setBmChan c { s.bmChan c with writes := (s.bmChan c).writes.erase w } := by
      rw [inboxTake_response (by rw [isType_ty htype]; decide), chResponse_bmWrite hfind hwho (isType_ty htype) hmerge]
      exact bmAcked_performed (c := ⟨c, hc⟩) hw
    exact messageRow_exec hin rfl htype (by decide) htake hin.alone rfl
  case atomic =>
    have hret : Retired (s.tagFreed tg.tag) _ n _ := scalarAnswer_atomic (v := ofBytes (m.data.take m.bytes)) hspec htgt hpld hmis hop
      hsize hwait htail houts
    have htake : s.inboxTake p m = (s.tagFreed tg.tag).scalarAnswer n (some (ofBytes (m.data.take m.bytes))) := by
      rw [inboxTake_response (by rw [isType_ty htype]; decide), chResponse_scalar hfind hwho (isType_ty htype) hpsn]
    exact ⟨_, messageRow_exec hin rfl htype (by decide) htake (by rw [hret.rest]; exact hin.alone) (by rw [hret.rest]; rfl), hret⟩
  case bell =>
    have hraised : EventRaised (s.tagFreed tg.tag) _ (chSrc tg.port ckDbErr) := raise_plain _ _ (portUnit tg.port) _ 0 false
      (hplain.of_same_unit (fun _ _ => rfl) rfl rfl)
    have htake : s.inboxTake p m = (s.tagFreed tg.tag).chRaise tg.port ckDbErr := by
      rw [inboxTake_response (by rw [isType_ty htype]; decide), chResponse_bellErr hfind hwho (isType_ty htype)]
    exact ⟨_, messageRow_exec hin rfl htype (by decide) htake (by rw [State.chRaise, hraised.rest]; exact hin.alone)
      (by rw [State.chRaise, hraised.rest]; rfl), hraised⟩
  case waking =>
    exact messageRow_exec hin rfl htype (by decide) ((inboxTake_response (by rw [isType_ty htype]; decide)).trans
      (chResponse_waking hfind (isType_ty htype))) hin.alone rfl
  case timeout =>
    obtain ⟨u, hraised, hend⟩ := tagTimeout_bmRead (c := ⟨c, hc⟩) hmode hfind hwho hhalted hplain
    refine ⟨u, hraised, ?_⟩
    show Host.Outcome.next (s.after (s.tagTimeout tag.toNat)) = _
    have hpending : u.pending = s.pending := by rw [hraised.rest]
    rw [hend, after_eq (by rw [State.setFld_pending, State.setFld_pending, State.setFld_pending]; exact hpending)]
    rfl

end Sys2Proof.Proofs
end

section
/-! A message that leaves by a port off the ring, and requests of another device that are served here (O43). -/
namespace Sys2Proof.Machine

/-! ### Header fields set -/

theorem f_set_apart (m : ChMsg) {lo len a n : Nat} (v : Nat) (hfit : a + n ≤ 128)
    (h : a + n ≤ lo ∨ lo + len ≤ a) : (m.set lo len v).f a n = m.f a n := by
  refine (bitsOf_ofNat hfit).trans ?_
  rcases h with hbelow | habove
  · exact bitsOf_setBits_below _ _ _ _ _ _ hbelow
  · exact bitsOf_setBits_above _ _ _ _ _ _ habove

theorem make_dst {ty vc dst src tag sub ety store bytes addr stat : Nat} {poison : Bool} {data : List Byte} (hty : ty < 64)
    (hvc : vc < 4) : (ChMsg.make ty vc dst src tag sub ety store bytes addr stat poison data).dst = dst % 4096 := by
  have hpsn : bit01 poison ≤ 1 := by cases poison <;> decide
  refine (bitsOf_ofNat (by decide)).trans ?_
  unfold bitsOf
  omega

theorem dst_set {m : ChMsg} {lo len : Nat} (v : Nat) (hlo : 24 ≤ lo) : (m.set lo len v).dst = m.dst :=
  f_set_apart m v (by decide) (.inl hlo)

theorem src_mod (m : ChMsg) : m.src % 4096 = m.src := Nat.mod_mod _ _

theorem errAnswer_dst (s : State) (m : ChMsg) (code : Nat) : (s.errAnswer m code).dst = m.src := by
  rw [State.errAnswer, dst_set _ (by decide), make_dst (by decide) (by decide), src_mod]

theorem chReply_dst (s : State) (m : ChMsg) {ty bytes stat : Nat} {data : List Byte} (hty : ty < 64) :
    (s.chReply m ty bytes stat data).dst = m.src := by
  rw [State.chReply, dst_set _ (by decide), dst_set _ (by decide), make_dst hty (by decide), src_mod]

/-! ### Messages that leave (R396) -/

section
variable {s : State} {m : ChMsg} {b : Nat}

theorem ChainTo.route (h : ChainTo s m.dst b) : s.chRoute m 8 = .port b := by
  simp [State.chRoute, h.away, h.valid, h.direct, h.port, h.usable]

theorem ChainTo.not_held (h : ChainTo s m.dst b) : s.heldDir m = none := by simp [State.heldDir, h.direct]

theorem chEnqueue_plain (h : s.flag (CH_CTL b) CH_CTL.DATELINE = false) : s.chEnqueue b m = s.withQueued b m := by
  rw [State.chEnqueue, h]
  rfl

/-- A message whose destination lies off the ring, behind a port in use, joins the queue of that port. -/
theorem chSend_queued (h : ChainTo s m.dst b) : s.chSend m 8 = s.withQueued b m := by
  rw [State.chSend, chPut, h.route]
  dsimp only
  rw [h.not_held, ite_self]
  exact chEnqueue_plain h.plain

variable (h : ChainTo s m.src b)
include h

/-- R393: a response to a request leaves for the device that sent it. -/
theorem chRespond_queued {ty bytes stat : Nat} {data : List Byte} (hty : ty < 64) :
    s.chRespond m ty bytes stat false data = s.withQueued b (s.chReply m ty bytes stat data) :=
  chSend_queued (show ChainTo s (s.chReply m ty bytes stat data).dst b by rwa [chReply_dst s m hty])

theorem chFail_queued (hreq : m.isReq = true) (code : Nat) : s.chFail m code = s.withQueued b (s.errAnswer m code) := by
  rw [State.chFail, if_pos hreq]
  exact chSend_queued (by rwa [errAnswer_dst])

theorem ChainTo.with_vm (v : VMem) : ChainTo { s with vm := v } m.src b := ⟨h.away, h.valid, h.direct, h.port, h.usable, h.plain⟩

end

/-! ### Requests served (R401) -/

section
variable {s : State} {p : Fin 8} {m : ChMsg} {b : Nat}

theorem isReq_of_ty (h : 1 ≤ m.ty ∧ m.ty ≤ 4) : m.isReq = true := by simp [ChMsg.isReq, h]

variable (hin : ChainIn s p m)
include hin

theorem inboxTake_request (hty : 1 ≤ m.ty ∧ m.ty ≤ 4) : s.inboxTake p m =
    if m.ty = mtDB then s.chBell m else if (upTo 8).any (fun w => s.winAdmits w m) then s.chPerform p m
    else (s.chRaise (min 7 p) ckDenied).chFail m xrDenied := by
  obtain ⟨hbase, hwipe, hhold⟩ := hin.running
  rw [State.inboxTake, if_pos (isReq_of_ty hty), State.chServe]
  simp [hhold, hwipe, hbase]

end

section
variable {s : State} {p : Fin 8} {m : ChMsg} {b : Nat} (hstore : m.store = 15) (hok : s.vmOk m.addr m.bytes = true)
include hstore hok

/-- R165: an ATOM enters the queue of the unit that serves its address. -/
theorem chPerform_atom (hty : m.ty = mtATOM) (hroom : (s.vm.atomQ.filter (fun e => e.unit == s.atomUnitOf m.addr)).length < 64) :
    ∃ e : AtomEl, s.chPerform p m = { s with vm := { s.vm with atomQ := s.vm.atomQ ++ [e] } } ∧ e.unit = s.atomUnitOf m.addr ∧
      e.addr = m.addr ∧ e.op = .vec (atomSub m.sub) ∧ e.v = ofBytes (m.data.take (etyOf m.ety).size) ∧ e.src = .chain p m.src m.tag := by
  have hport : Fin.ofNat 8 p.val = p := Fin.ofNat_val_eq_self p
  rw [State.chPerform, if_pos hstore, hok, hty]
  simp only [Bool.not_true, Bool.false_eq_true, if_false, if_neg (show ¬ mtATOM = mtRD by decide), if_neg (show ¬ mtATOM = mtWR by decide),
    State.atomAdmit, hroom, if_true, hport]
  exact ⟨_, rfl, rfl, rfl, rfl, rfl, rfl⟩

variable (hto : ChainTo s m.src b) (hclean : ∀ g ∈ granules m.addr m.bytes, s.gcls g = .clean)
include hto hclean

/-- R392: RD of clean Granules returns their bytes. -/
theorem chPerform_rd (hty : m.ty = mtRD) : ∃ v, (∀ g, ({ s with vm := v } : State).gcls g = s.gcls g) ∧ v.bytes = s.vm.bytes ∧
    s.chPerform p m = ({ s with vm := v } : State).withQueued b
      (s.chReply m mtRDRSP m.bytes 0 (memRead s.vm.bytes m.addr m.bytes)) := by
  obtain ⟨v, hread, hbytes, hcls⟩ := readGranules_clean .full (granules m.addr m.bytes) s hclean
  have hvm : s.vmRead .full m.addr m.bytes = ({ s with vm := v }, some (memRead s.vm.bytes m.addr m.bytes, false)) := by
    simp [State.vmRead, hok, hread, hbytes]
  refine ⟨v, fun g => by rw [State.gcls, hcls, State.gcls], hbytes, ?_⟩
  rw [State.chPerform, if_pos hstore, hok, hty, hvm]
  simp only [Bool.not_true, Bool.false_eq_true, if_false, if_true]
  exact chRespond_queued (hto.with_vm v) (by decide)

/-- R392: WR of clean Granules writes its bytes. -/
theorem chPerform_wr (hwell : m.ok = true) (hpsn : m.poison = false) (hty : m.ty = mtWR) :
    ∃ v, (∀ g, ({ s with vm := v } : State).gcls g = s.gcls g) ∧ v.bytes = memWrite s.vm.bytes m.addr (m.data.take m.bytes) ∧
      s.chPerform p m = ({ s with vm := v } : State).withQueued b (s.chReply m mtWRACK 1 0 []) := by
  have hlen : (m.data.take m.bytes).length = m.bytes := by
    have hslots : m.data.length = 16 * m.dataSlots := by
      simp only [ChMsg.ok, Bool.and_eq_true, decide_eq_true_eq] at hwell
      tauto
    rw [ChMsg.dataSlots, if_pos (.inl hty)] at hslots
    rw [List.length_take]
    omega
  obtain ⟨v, hwrite, hbytes, hcls⟩ := vmWrite_clean s m.addr (m.data.take m.bytes) (by rwa [hlen]) (by rwa [hlen])
  refine ⟨v, hcls, hbytes, ?_⟩
  rw [State.chPerform, if_pos hstore, hok, hty, hpsn, hwrite]
  simp only [Bool.not_true, Bool.false_eq_true, if_false, if_true, if_neg (show ¬ mtWR = mtRD by decide)]
  exact chRespond_queued (hto.with_vm v) (by decide)

end

/-! ### Doorbells (R402) -/

theorem bitsOf_lt_pow (v lo len : Nat) : bitsOf v lo len < 2 ^ len := Nat.mod_lt _ (Nat.two_pow_pos len)

section
variable {s : State} {q : Nat}

/-- The queue contexts lie above every other register. -/
theorem setQf_fld_below (f : Fld) (v : Nat) {a : Nat} {g : Fld} (h : a + 4 * (g.1 / 32) + 4 * fldWords g ≤ 0x1000000) :
    (s.setQf q f v).fld a g = s.fld a g :=
  State.fld_setFld_of_outside _ _ _ _ _ _ (.inl (h.trans (by unfold QCTX; omega)))

theorem setQf_flag_below (f : Fld) (v : Nat) {a : Nat} {g : Fld} (h : a + 4 * (g.1 / 32) + 4 * fldWords g ≤ 0x1000000) :
    (s.setQf q f v).flag a g = s.flag a g := by
  rw [State.flag, setQf_fld_below f v h, State.flag]

theorem setQf_eq (f : Fld) (v : Nat) : s.setQf q f v = { s with regs := (s.setQf q f v).regs } := State.setFld_eq ..

theorem setQf_seqOf (f : Fld) (v o : Nat) : (s.setQf q f v).seqOf o = s.seqOf o := by
  rw [setQf_eq]
  rfl

theorem setQf_classOvens (f : Fld) (v : Nat) {c : Nat} (hc : c < 16) : (s.setQf q f v).classOvens c = s.classOvens c := by
  have hmask : (s.setQf q f v).fld (QE_CLASS c) QE_CLASS.OVENS = s.fld (QE_CLASS c) QE_CLASS.OVENS :=
    setQf_fld_below f v (show QE_CLASS c + 4 ≤ 0x1000000 by unfold QE_CLASS; omega)
  have hbase : (s.setQf q f v).st = s.st := by rw [setQf_eq]
  simp only [State.classOvens, State.boundOvens, hmask, hbase, setQf_seqOf]

theorem setQf_dozing (f : Fld) (v o : Nat) : (s.setQf q f v).dozing o = s.dozing o := by
  rw [State.dozing, setQf_fld_below f v (by decide), State.dozing]

/-- R296: a doorbell of the chain that moves SQ_TAIL wakes no Oven where one that the class may use is awake. -/
theorem doorbell_tail {v : Nat} (hready : s.flag QE_STATUS QE_STATUS.READY = true) (hbase : s.st.base = 6) (hwipe : s.st.wipe = none)
    (hquiet : s.st.quiesce = none) (hloc : s.qf q QCTX.LOC = 2) (hstate : s.qState q = qsEnabled ∨ s.qState q = qsPaused)
    (hsound : s.dbError q (some v) none = false) (hff : s.now < s.qe.ffAt + 1000)
    (hawake : (s.classOvens (s.qf q QCTX.CLASS)).1.any (fun o => (s.seqOf o).isSome && !s.dozing o) = true) :
    s.doorbell q .chain (some v) none = s.setQf q QCTX.SQ_TAIL v := by
  have htaken : (s.qState q == qsEnabled || s.qState q == qsPaused) = true := by simpa using hstate
  have hclass : (s.setQf q QCTX.SQ_TAIL v).qf q QCTX.CLASS = s.qf q QCTX.CLASS :=
    State.fld_setFld_of_outside _ _ _ _ _ _ (.inr (show QCTX q + 4 * 4 + 4 * 1 ≤ QCTX q + 4 * 6 by omega))
  have hovens : (s.setQf q QCTX.SQ_TAIL v).classOvens (s.qf q QCTX.CLASS) = s.classOvens (s.qf q QCTX.CLASS) :=
    setQf_classOvens _ _ (bitsOf_lt_pow _ _ 4)
  have hnone : ((s.classOvens (s.qf q QCTX.CLASS)).1.filter (fun o => (s.seqOf o).isSome)).all (fun o => s.dozing o) = false := by
    rw [Bool.eq_false_iff]
    intro hall
    obtain ⟨o, hmem, hof⟩ := List.any_eq_true.mp hawake
    rw [Bool.and_eq_true] at hof
    have hdoze := List.all_eq_true.mp hall o (List.mem_filter.mpr ⟨hmem, hof.1⟩)
    rw [hdoze] at hof
    exact Bool.false_ne_true hof.2
  have hcalm : ¬((s.setQf q QCTX.SQ_TAIL v).st.base = 4 ∨ (s.setQf q QCTX.SQ_TAIL v).st.quiesce = some 4
      ∨ (s.setQf q QCTX.SQ_TAIL v).st.quiesce = some 20) := by
    rw [setQf_eq]
    simp [hbase, hquiet]
  have hqe : (s.setQf q QCTX.SQ_TAIL v).qe = s.qe ∧ (s.setQf q QCTX.SQ_TAIL v).now = s.now := by rw [setQf_eq]; exact ⟨rfl, rfl⟩
  have hcross : ∀ was, (s.setQf q QCTX.SQ_TAIL v).ffCross was = s.setQf q QCTX.SQ_TAIL v := fun was => by
    rw [State.ffCross, hqe.1, hqe.2, if_neg (by omega)]
  rw [State.doorbell, if_neg (by simp [hready, hwipe]), if_neg (by simp [State.dbAccepts, hloc, htaken]), if_neg (by simp [hsound])]
  dsimp only
  rw [if_neg hcalm, hclass, hovens]
  simp only [setQf_seqOf, setQf_dozing, hnone, Bool.and_false, Bool.false_eq_true, if_false, hcross]

end

section
variable {s : State} {m : ChMsg} {b : Nat}

/-- What a message meets on its way out lies below the queue contexts. -/
theorem ChainTo.setQf (h : ChainTo s m.src b) (q : Nat) (f : Fld) (v : Nat) : ChainTo (s.setQf q f v) m.src b := by
  have hsrc : m.src < 4096 := bitsOf_lt_pow _ _ 12
  have hroute : CH_ROUTE m.src + 4 ≤ 0x1000000 := by unfold CH_ROUTE; omega
  have hb : b < 8 := h.port ▸ bitsOf_lt_pow _ _ 3
  have hctl : CH_CTL b + 4 ≤ 0x1000000 := by unfold CH_CTL; omega
  have hstatus : CH_STATUS b + 4 ≤ 0x1000000 := by unfold CH_STATUS; omega
  refine ⟨?_, (setQf_flag_below f v hroute).trans h.valid, ?_, (setQf_fld_below f v hroute).trans h.port, ?_,
    (setQf_flag_below f v hctl).trans h.plain⟩
  · rw [State.chId, setQf_fld_below f v (by decide)]
    exact h.away
  · have hring : (s.setQf q f v).onRing m.src = s.onRing m.src := by
      rw [State.onRing, State.ringPos, setQf_flag_below f v hroute, setQf_flag_below f v (by decide), setQf_fld_below f v hroute,
        setQf_fld_below f v (by decide), State.onRing, State.ringPos]
    exact hring.trans h.direct
  · have hup : (s.setQf q f v).chUsable b = s.chUsable b := by
      rw [State.chUsable, State.chUp, State.lstate, setQf_fld_below f v hstatus, setQf_flag_below f v hstatus, State.chUsable,
        State.chUp, State.lstate]
    exact hup.trans h.usable

theorem chReply_setQf (q : Nat) (f : Fld) (v ty bytes stat : Nat) (data : List Byte) :
    (s.setQf q f v).chReply m ty bytes stat data = s.chReply m ty bytes stat data := by
  rw [State.chReply, State.chId, State.chTtl, setQf_fld_below f v (by decide), setQf_fld_below f v (by decide), State.chReply,
    State.chId, State.chTtl]

variable (hto : ChainTo s m.src b)
include hto

/-- R402: doorbells off, a queue in a host's memory, a queue that is Secure. -/
theorem chBell_denied (hreq : m.isReq = true)
    (hno : s.flag CH_CFG CH_CFG.DB_EN = false ∨ s.qf (m.addr % 65536) QCTX.LOC ≠ 2 ∨ s.qWorld (m.addr % 65536) = true) :
    s.chBell m = s.withQueued b (s.errAnswer m xrDenied) := by
  rw [State.chBell, if_neg, chFail_queued hto hreq]
  rcases hno with hoff | hloc | hworld
  · simp [hoff]
  · simp [hloc]
  · simp [hworld]

theorem chBell_rung (hon : s.flag CH_CFG CH_CFG.DB_EN = true) (hloc : s.qf (m.addr % 65536) QCTX.LOC = 2)
    (hworld : s.qWorld (m.addr % 65536) = false) (hhalf : bitAt m.addr 16 = false)
    (hrung : s.doorbell (m.addr % 65536) .chain (some (bitsOf m.addr 32 16)) none
      = s.setQf (m.addr % 65536) QCTX.SQ_TAIL (bitsOf m.addr 32 16)) :
    s.chBell m = (s.setQf (m.addr % 65536) QCTX.SQ_TAIL (bitsOf m.addr 32 16)).withQueued b (s.chReply m mtWRACK 1 0 []) := by
  rw [State.chBell]
  simp only [hon, hloc, hworld, hhalf, hrung]
  simp only [decide_true, Bool.not_false, Bool.and_self, if_true, Bool.false_eq_true, if_false]
  rw [chRespond_queued (hto.setQf _ _ _) (by decide), chReply_setQf]

end

end Sys2Proof.Machine

namespace Sys2Proof.Proofs
open Sys2Proof Sys2Proof.Machine

/-- Settles O43: `messageRow_exec` with what the access makes of Vector Memory or the doorbell of its queue, whose answer
`chSend_queued` puts in the queue of the sender's port. -/
theorem chainRequestsServed : Obligations.ChainRequestsServed := by
  unfold Obligations.ChainRequestsServed
  intro s p m b hin hto vm
  refine ⟨fun hwin hstore hok hclean hpsn => ⟨fun htype => ?read, fun htype => ?write, fun htype hroom => ?atomic⟩,
    fun htype => ?bell⟩
  case read =>
    have hty := isType_ty htype
    obtain ⟨v, hcls, hbytes, hdone⟩ := chPerform_rd (p := p) hstore hok hto hclean hty
    have htake := (inboxTake_request hin (by omega)).trans ((if_neg (by rw [hty]; decide)).trans ((if_pos hwin).trans hdone))
    exact ⟨{ s with vm := v }, ⟨rfl, hcls⟩, hbytes, messageRow_exec hin rfl htype (by decide) htake hin.alone rfl⟩
  case write =>
    have hty := isType_ty htype
    obtain ⟨v, hcls, hbytes, hdone⟩ := chPerform_wr (p := p) hstore hok hto hclean hin.wellFormed hpsn hty
    have htake := (inboxTake_request hin (by omega)).trans ((if_neg (by rw [hty]; decide)).trans ((if_pos hwin).trans hdone))
    exact ⟨{ s with vm := v }, ⟨rfl, hcls⟩, hbytes, messageRow_exec hin rfl htype (by decide) htake hin.alone rfl⟩
  case atomic =>
    have hty := isType_ty htype
    obtain ⟨e, hdone, hunit⟩ := chPerform_atom (p := p) hstore hok hty hroom
    have htake := (inboxTake_request hin (by omega)).trans ((if_neg (by rw [hty]; decide)).trans ((if_pos hwin).trans hdone))
    exact ⟨e, messageRow_exec hin rfl htype (by decide) htake hin.alone rfl, hunit⟩
  case bell =>
    intro q tail
    have hty := isType_ty htype
    have htake : s.inboxTake p m = s.chBell m := (inboxTake_request hin (by omega)).trans (if_pos hty)
    refine ⟨fun hno => ?_, fun hon hloc hworld hhalf hready hstate hsound hquiet hff hawake => ?_⟩
    · exact messageRow_exec hin rfl htype (by decide) (htake.trans (chBell_denied hto (isReq_of_ty (by omega)) hno)) hin.alone rfl
    · obtain ⟨hbase, hwipe, -⟩ := hin.running
      have hrung := doorbell_tail hready hbase hwipe hquiet hloc hstate hsound hff hawake
      have hrest := setQf_eq (s := s) (q := q) QCTX.SQ_TAIL tail
      exact messageRow_exec hin rfl htype (by decide) (htake.trans (chBell_rung hto hon hloc hworld hhalf hrung))
        (by rw [hrest]; exact hin.alone) (by rw [hrest]; rfl)

end Sys2Proof.Proofs
end

section
/-! A chain port trains and loses its link (O42). -/
namespace Sys2Proof.Machine

/-! ### The ports' state and registers -/

/-- Registers are written the same whatever the chain holds. -/
theorem State.setRegNat_with_ch (s : State) (c : ChainState) (a w v : Nat) :
    ({ s with ch := c } : State).setRegNat a w v = { s.setRegNat a w v with ch := c } := by
  induction w generalizing s a v with
  | zero => rfl
  | succ w ih => exact ih (s.setReg a (BitVec.ofNat 32 v)) (a + 4) (v / 2 ^ 32)

theorem State.regNat_with_ch (s : State) (c : ChainState) (a w : Nat) : ({ s with ch := c } : State).regNat a w = s.regNat a w :=
  State.regNat_congr _ _ fun _ _ => rfl

theorem State.setFld_with_ch (s : State) (c : ChainState) (a : Nat) (f : Fld) (v : Nat) :
    ({ s with ch := c } : State).setFld a f v = { s.setFld a f v with ch := c } := by
  rw [State.setFld, State.regNat_with_ch, State.setRegNat_with_ch]
  rfl

section
variable (s : State) (p : Fin 8) (x y : ChPort)

theorem setChPort_eq : s.setChPort p x = { s with ch := { s.ch with ports := s.ch.ports.set p x } } := by
  have hset : s.ch.ports.setIfInBounds p x = s.ch.ports.set p x := by
    ext i hi
    simp [Vector.getElem_setIfInBounds, Vector.getElem_set]
  rw [State.setChPort, hset]

@[simp] theorem chPort_setChPort : (s.setChPort p x).chPort p = x := by
  simp [State.chPort, State.setChPort]

theorem chPort_setChPort_ne {k : Nat} (h : k ≠ p) : (s.setChPort p x).chPort k = s.chPort k := by
  simp [State.chPort, State.setChPort, List.getElem?_set_ne h.symm]

@[simp] theorem setChPort_setChPort : (s.setChPort p x).setChPort p y = s.setChPort p y := by
  simp [setChPort_eq]

theorem setChPort_chPort : s.setChPort p (s.chPort p) = s := by
  simp [setChPort_eq, State.chPort]

theorem chPort_setFld (a : Nat) (f : Fld) (v k : Nat) : (s.setFld a f v).chPort k = s.chPort k := by
  rw [State.setFld_eq]
  rfl


end

section
variable {s t : State} {as : List Nat} (h : RegsOnly s t as)
include h

theorem RegsOnly.setChPort (p : Nat) (x : ChPort) : RegsOnly (s.setChPort p x) (t.setChPort p x) as :=
  ⟨h.regs, congrArg (fun u : State => u.setChPort p x) h.rest⟩

theorem RegsOnly.ch : t.ch = s.ch := by rw [h.rest]
theorem RegsOnly.st : t.st = s.st := by rw [h.rest]
theorem RegsOnly.pending : t.pending = s.pending := by rw [h.rest]

theorem RegsOnly.chPort (p : Nat) : t.chPort p = s.chPort p := by rw [State.chPort, h.ch, State.chPort]

theorem RegsOnly.flag_low {a : Nat} {f : Fld} (hf : Fld.low f) (ha : a ∉ as) : t.flag a f = s.flag a f := by
  rw [State.flag, h.fld_low hf ha, State.flag]

end

theorem inboxDrain_empty {s : State} (h : s.ch.inbox = []) : s.inboxDrain = s := by
  rw [State.inboxDrain, h]
  exact (by simp [inboxRun, h] : inboxRun (15 + 1) s = s)

/-- A row that ends by taking what the ports delivered to this device, when they delivered nothing. -/
theorem drained_exec {s t : State} {c : Instr} (hrow : exec c s = .next (s.after t.inboxDrain)) (hempty : t.ch.inbox = [])
    (hpending : t.pending = s.pending) : exec c s = .next t := by
  rw [hrow, inboxDrain_empty hempty, after_eq hpending]

/-! ### Training ends (R383, R395) -/

/-- Port `p` with RETRAIN cleared and its link in a state. -/
def State.linkAt (s : State) (p v : Nat) : State := (s.setFld (CH_CTL p) CH_CTL.RETRAIN 0).setLstate p v

section
variable (s : State) (p : Fin 8) (v : Nat)

theorem linkAt_only : RegsOnly s (s.linkAt p v) [CH_STATUS p, CH_CTL p] :=
  (RegsOnly.setFld s 0 (by decide) (by simp)).trans (RegsOnly.setFld _ v (by decide) (by simp))

theorem linkAt_lstate (hv : v < 8) : (s.linkAt p v).lstate p = v :=
  (State.fld_setFld_self _ _ _ _).trans (Nat.mod_eq_of_lt hv)

theorem ctl_ne_status : CH_CTL p ≠ CH_STATUS p := by
  unfold CH_CTL CH_STATUS
  omega

theorem linkAt_ctl {f : Fld} (hf : Fld.low f) :
    (s.linkAt p v).fld (CH_CTL p) f = (s.setFld (CH_CTL p) CH_CTL.RETRAIN 0).fld (CH_CTL p) f :=
  State.fld_setFld_ne _ _ _ _ (by decide) hf (ctl_ne_status p)

theorem linkAt_retrain : (s.linkAt p v).flag (CH_CTL p) CH_CTL.RETRAIN = false := by
  rw [State.flag, linkAt_ctl s p v (by decide), State.fld_setFld_self]
  rfl

/-- The fields of CH_CTL below RETRAIN stay. -/
theorem linkAt_ctl_below {f : Fld} (hf : Fld.low f) (hbelow : f.1 + f.2 ≤ 4) :
    (s.linkAt p v).fld (CH_CTL p) f = s.fld (CH_CTL p) f := by
  rw [linkAt_ctl s p v hf, State.fld_setFld_low _ _ _ (by decide) hf, State.fld_low _ _ hf]
  exact bitsOf_setBits_below _ _ _ _ _ _ hbelow

theorem chRegs_ne {a : Nat} (ha : 0xa01000 ≤ a) (hend : a < 0xa10000) : a ∉ [CH_STATUS p, CH_CTL p] := by
  simp only [List.mem_cons, List.not_mem_nil, or_false, CH_STATUS, CH_CTL]
  omega

end

theorem nbrMsg_congr {s t : State} {p : Fin 8} (h : RegsOnly s t [CH_STATUS p, CH_CTL p])
    (hrole : t.fld (CH_CTL p) CH_CTL.ROLE = s.fld (CH_CTL p) CH_CTL.ROLE) : t.nbrMsg p = s.nbrMsg p := by
  have hid : CH_ID ∉ [CH_STATUS p, CH_CTL p] := chRegs_ne p (by decide) (by decide)
  have hring : CH_RING ∉ [CH_STATUS p, CH_CTL p] := chRegs_ne p (by decide) (by decide)
  simp only [State.nbrMsg, State.chId, State.chValid, State.ringPos, hrole, h.fld_low (f := CH_ID.ID) (by decide) hid,
    h.flag_low (f := CH_ID.VALID) (by decide) hid, h.fld_low (f := CH_RING.POS) (by decide) hring]

section
variable {s : State} {p : Fin 8} (hen : s.flag (CH_CTL p) CH_CTL.EN = true) (hdown : s.lstate p = lsDown ∨ s.lstate p = lsTraining)
  (htrain : (s.chPort p).train = .start) (hpow : s.chPowered = true)
include hen hdown htrain hpow

/-- Training from the start, as it ends. -/
theorem linkTrain_start (signal : Bool) : s.linkTrain p signal =
    if signal then (s.setFld (CH_CTL p) CH_CTL.RETRAIN 0).linkUp p
    else (s.linkAt p lsDown).setChPort p { s.chPort p with train := .none } := by
  have hstart : ((s.chPort p).train == .again) = false := by rw [htrain]; rfl
  have hgo : (!s.flag (CH_CTL p) CH_CTL.EN || s.lstate p == lsFenced || !s.chPowered || s.chUp p) = false := by
    rw [hen, hpow, State.chUp]
    rcases hdown with h | h <;> rw [h] <;> rfl
  simp only [State.linkTrain, hgo, hstart, Bool.and_false, Bool.false_eq_true, if_false, State.setLstate, chPort_setFld, State.linkAt]

variable (hsound : (s.chPort p).failed = []) (hdead : s.ch.dead = none) (hplain : s.flag (CH_CTL p) CH_CTL.DATELINE = false)
include hsound hdead hplain

/-- R395: a link that comes up afresh has an empty egress but for NBR. -/
theorem linkTrain_up : s.linkTrain p true = (s.linkAt p lsUp).setChPort p { ChPort.reset with queue := [s.nbrMsg p] } := by
  have hfresh : (s.setFld (CH_CTL p) CH_CTL.RETRAIN 0).setChPort p
      { ChPort.reset with failed := ((s.setFld (CH_CTL p) CH_CTL.RETRAIN 0).chPort p).failed }
        = (s.setFld (CH_CTL p) CH_CTL.RETRAIN 0).setChPort p ChPort.reset := by
    rw [chPort_setFld, hsound]
    rfl
  have hmsg : ((s.linkAt p lsUp).setChPort p ChPort.reset).nbrMsg p = s.nbrMsg p :=
    (rfl : _ = (s.linkAt p lsUp).nbrMsg p).trans
      (nbrMsg_congr (linkAt_only s p lsUp) (linkAt_ctl_below s p lsUp (f := CH_CTL.ROLE) (by decide) (by decide)))
  have hline : ((s.linkAt p lsUp).setChPort p ChPort.reset).flag (CH_CTL p) CH_CTL.DATELINE = false := by
    rw [← hplain]
    exact congrArg (fun v => decide (v ≠ 0)) (linkAt_ctl_below s p lsUp (f := CH_CTL.DATELINE) (by decide) (by decide))
  have hstate : ((s.setFld (CH_CTL p) CH_CTL.RETRAIN 0).setChPort p ChPort.reset).setLstate p lsUp
      = (s.linkAt p lsUp).setChPort p ChPort.reset := by
    have hch : (s.linkAt p lsUp).ch = s.ch := (linkAt_only s p lsUp).ch
    rw [State.setChPort, State.setLstate, State.setFld_with_ch, State.setChPort, hch, State.setFld_ch]
    rfl
  rw [linkTrain_start hen hdown htrain hpow, if_pos rfl, State.linkUp]
  simp only [hfresh, chPort_setChPort]
  rw [show (if ChPort.reset.failed.isEmpty = true then lsUp else lsHalf) = lsUp from rfl, hstate]
  have hdead' : ¬(((s.linkAt p lsUp).setChPort p ChPort.reset).ch.dead = some p.val
      ∧ ((s.linkAt p lsUp).setChPort p ChPort.reset).ch.recDone = true) := by
    rw [setChPort_eq, (linkAt_only s p lsUp).ch, hdead]
    simp
  rw [if_neg hdead', hmsg, State.chEnqueue, hline]
  simp only [Bool.false_eq_true, if_false, chPort_setChPort, setChPort_setChPort]
  rfl

end

/-! ### A link lost or retrained (R383, R386) -/

section
variable {s : State} {p : Fin 8} (hring : s.flag CH_RING CH_RING.EN = false)
include hring

theorem ringDir_off (p : Nat) : s.ringDir p = none := by
  simp [State.ringDir, State.ringPort, hring]

variable (hlive : s.lstate p = lsTraining ∨ s.chUp p = true) (htrain : (s.chPort p).train ≠ .start) (htraffic : s.chTraffic = true)
  (hreplay : (s.chPort p).replay = []) (hsending : (s.chPort p).sending = none) (hqueue : (s.chPort p).queue = [])
include hlive htrain htraffic hreplay hsending hqueue

/-- R386: outside a ring, a link that goes down with nothing to send partitions the configuration. -/
theorem linkLost_down : ∃ u, RegsOnly s u [CH_STATUS p, CH_CTL p] ∧ u.lstate p = lsDown ∧
    s.linkLost p lsDown = (u.setChPort p ChPort.reset).chRaise p ckPartition := by
  obtain ⟨u, hu⟩ : ∃ u, (s.setLstate p lsDown).setFld (CH_CTL p) CH_CTL.RETRAIN 0 = u := ⟨_, rfl⟩
  have honly : RegsOnly s u [CH_STATUS p, CH_CTL p] := hu ▸
    (RegsOnly.setFld s lsDown (by decide) (by simp)).trans (RegsOnly.setFld _ 0 (by decide) (by simp))
  have hdown : u.lstate p = lsDown := hu ▸ (State.fld_setFld_ne _ _ _ _ (by decide) (by decide) (ctl_ne_status p).symm).trans
    (State.fld_setFld_self _ _ _ _)
  have hgo : (!(s.chUp p || s.lstate p == lsTraining)) = false := by
    rcases hlive with h | h <;> simp [h]
  have hstart : ((s.chPort p).train == .start) = false := by simpa using htrain
  have htraffic' : ∀ x, (u.setChPort p x).chTraffic = true := fun x => by
    rw [← htraffic, State.chTraffic, State.chTraffic, show (u.setChPort p x).st = s.st from honly.st]
  have hdir : ∀ x, (u.setChPort p x).ringDir p = none := fun x =>
    ringDir_off ((honly.flag_low (f := CH_RING.EN) (by decide) (chRegs_ne p (by decide) (by decide))).trans hring) p
  refine ⟨u, honly, hdown, ?_⟩
  simp only [State.linkLost, hgo, hstart, Bool.false_eq_true, if_false, hu, htraffic', hdir, Bool.not_true, Bool.or_self,
    setChPort_setChPort, honly.chPort p, hreplay, hsending, hqueue]
  rfl

variable (hempty : s.ch.inbox = []) (hplain : EventPlain s (chSrc p ckPartition) (srcSev (chSrc p ckPartition)))
include hempty hplain

/-- A row that loses the link. -/
theorem linkLost_exec {c : Instr} (hrow : exec c s = .next (s.after (s.linkLost p lsDown).inboxDrain)) :
    ∃ t, exec c s = .next t ∧ ∃ u, EventRaised u t (chSrc p ckPartition) ∧ u.lstate p = lsDown ∧
      RegsOnly { s with ch := { s.ch with ports := s.ch.ports.set p ChPort.reset } } u [CH_STATUS p, CH_CTL p] := by
  obtain ⟨u, honly, hdown, hlost⟩ := linkLost_down hring hlive htrain htraffic hreplay hsending hqueue
  have hframe := honly.setChPort p ChPort.reset
  have hregs : ∀ a, 0xC00000 ≤ a → (u.setChPort p ChPort.reset).reg a = s.reg a := fun a ha => honly.regs a (by
    simp only [List.mem_cons, List.not_mem_nil, or_false, CH_STATUS, CH_CTL]
    omega)
  have hraised : EventRaised (u.setChPort p ChPort.reset) _ (chSrc p ckPartition) := raise_plain _ _ (portUnit p) _ 0 false
    (hplain.of_same_unit hregs (by rw [hframe.rest]; rfl) (by rw [hframe.rest]; rfl))
  refine ⟨_, drained_exec hrow ?_ ?_, u.setChPort p ChPort.reset, hlost ▸ hraised, hdown,
    setChPort_eq s p ChPort.reset ▸ hframe⟩
  · rw [hlost, State.chRaise, hraised.rest, hframe.rest]
    exact hempty
  · rw [hlost, State.chRaise, hraised.rest, hframe.rest]
    rfl

end

/-- Port `p` retrains, keeping what it holds. -/
structure Retrained (s t : State) (p : Fin 8) : Prop where
  rest : t = { s with regs := t.regs, ch := { s.ch with ports := t.ch.ports }, fab := t.fab }
  port : t.chPort p = { s.chPort p with train := .again }
  others : ∀ k, k ≠ p.val → t.chPort k = s.chPort k
  training : t.lstate p = lsTraining

section
variable {s u : State} {p : Fin 8} {as : List Nat} (h : RegsOnly s u as) (hup : u.chUp p = true)
include h hup

theorem chRetrain_retrained : Retrained s (u.chRetrain p) p := by
  have honly : RegsOnly s (u.setLstate p lsTraining) (as ++ [CH_STATUS p]) :=
    (h.mono (fun a ha => List.mem_append_left _ ha)).trans (RegsOnly.setFld _ _ (by decide) (by simp))
  have hdone : u.chRetrain p = (u.setLstate p lsTraining).setChPort p { s.chPort p with train := .again } := by
    rw [State.chRetrain, hup, ← h.chPort p]
    rfl
  rw [hdone]
  refine ⟨?_, chPort_setChPort _ _ _, fun k hk => (chPort_setChPort_ne _ _ _ hk).trans (honly.chPort k),
    (State.fld_setFld_self u (CH_STATUS p) CH_STATUS.LSTATE lsTraining : _)⟩
  rw [honly.rest]
  rfl

end

/-- A row that retrains a port that is up. -/
theorem chRetrain_exec {s : State} {p : Fin 8} {c : Instr} (hempty : s.ch.inbox = []) (hup : s.chUp p = true)
    (hrow : exec c s = .next (s.after (s.chRetrain p).inboxDrain)) : ∃ t, exec c s = .next t ∧ Retrained s t p := by
  have hdone := chRetrain_retrained (RegsOnly.refl s []) hup
  exact ⟨_, drained_exec hrow (by rw [hdone.rest]; exact hempty) (by rw [hdone.rest]), hdone⟩

/-! ### CH_CTL.RETRAIN written -/

/-- CH_CTL: EN, ROLE and DATELINE are stored unless locked, RETRAIN and LOCK are set by ones. -/
def chCtlMask : WordMask := { rw := 0, rwl := 0xF, w1c := 0, w1s := 0x80000010, rsv := 0x7FFFFFE0 }

theorem regFind_chCtl (p : Fin 8) : ∃ r i j w, regFind (CH_CTL p) = some (r, i, j, w) ∧ r.mask w = chCtlMask := by
  have hmask : (regFind (CH_CTL p)).map (fun d => d.1.mask d.2.2.2) = some chCtlMask := by
    revert p
    decide +kernel
  obtain ⟨⟨r, i, j, w⟩, hfind, heq⟩ := Option.map_eq_some_iff.1 hmask
  exact ⟨r, i, j, w, hfind, heq⟩

theorem chCanon_port (p : Fin 8) : chCanon (CH_CTL p) = CH_CTL p ∧ chCanon (CH_LANE p) = CH_LANE p ∧
    wideOf (CH_CTL p) = none ∧ wideOf (CH_LANE p) = none := by
  revert p
  decide +kernel

/-- A word written in a port's registers is taken by its block. -/
theorem ctlPut_ch (s : State) {m : Master} (hm : m.secSup = true) {p : Fin 8} {a v : Nat} (ha : a = CH_CTL p ∨ a = CH_LANE p)
    (hv : v < 2 ^ 32) : s.ctlPut m none a 4 v = (s.chWord a v, none) := by
  have hplace : 0xA00000 ≤ a ∧ a < 0xB00000 ∧ ¬(CH_DBSEND ≤ a ∧ a < CH_DBSEND + 8) := by
    unfold CH_CTL CH_LANE at ha
    unfold CH_DBSEND
    omega
  obtain ⟨hlo, hhi, hbell⟩ := hplace
  obtain ⟨hctl, hlane, hctlWide, hlaneWide⟩ := chCanon_port p
  have hcanon : chCanon a = a ∧ wideOf a = none := by
    rcases ha with rfl | rfl
    · exact ⟨hctl, hctlWide⟩
    · exact ⟨hlane, hlaneWide⟩
  have hblock : s.blockWrite m none a 4 v = s.chRegWrite m a 4 v := by
    simp (disch := omega) only [State.blockWrite, if_neg, if_pos, hcanon.1]
  have hput : s.ctlPut m none a 4 v = s.blockWrite m none a 4 v := by
    unfold State.ctlPut
    rw [if_neg (by omega), if_pos ⟨hlo, hhi⟩, hcanon.1, hcanon.2]
  rw [hput, hblock, State.chRegWrite, if_neg hbell, Nat.mod_eq_of_lt hv]
  simp [hm]

/-- RETRAIN written with the other bits of CH_CTL as they stand leaves EN. -/
theorem chCtl_written (s : State) (p : Fin 8) (hen : s.flag (CH_CTL p) CH_CTL.EN = true) {v : Nat}
    (hv : v = setBits (s.storedBits (CH_CTL p)) 4 1 1) :
    RegsOnly s (s.wordWrite (CH_CTL p) v) [CH_CTL p] ∧ (s.wordWrite (CH_CTL p) v).flag (CH_CTL p) CH_CTL.EN = true := by
  obtain ⟨r, i, j, w, hfind, hmask⟩ := regFind_chCtl p
  have hbits : s.storedBits (CH_CTL p) = bitsIn (s.regNat (CH_CTL p) 1) 0xF := by
    simp only [State.storedBits, hfind, hmask]
    rfl
  have hstored : s.storedBits (CH_CTL p) < 2 ^ 5 := by
    rw [hbits]
    exact Nat.lt_of_le_of_lt Nat.and_le_right (by decide)
  have hrsv : bitsIn v (r.mask w).rsv = 0 := by
    rw [hmask, hv]
    exact bitsIn_of_lt (setBits_lt _ 4 1 1 5 hstored (by decide)) (by decide)
  obtain ⟨honly, hword⟩ := wordWrite_regs s hfind hrsv
  refine ⟨honly, ?_⟩
  rw [State.flag_eq_bitAt _ _ (by decide) rfl, bitAt_eq_testBit] at hen ⊢
  have hold : (s.reg (CH_CTL p)).toNat.testBit 0 = true := hen
  have hkeep : v.testBit 0 = true := by
    rw [hv, testBit_setBits, if_neg (by decide), hbits, bitsIn, Nat.testBit_and,
      show s.regNat (CH_CTL p) 1 = (s.reg (CH_CTL p)).toNat by simp [State.regNat], hold]
    decide
  have hmasks : chCtlMask.w1c.testBit 0 = false := by decide
  refine (hword 0 (by decide)).trans ?_
  rw [hmask, hkeep, hmasks, hold]
  generalize Nat.testBit (_ ||| _) 0 = stored
  cases stored <;> rfl

section
variable {s : State} {p : Fin 8} (hen : s.flag (CH_CTL p) CH_CTL.EN = true) (hup : s.chUp p = true)
include hen hup

/-- R383: RETRAIN set by a write. -/
theorem chWord_retrain {v : Nat} (hv : v = setBits (s.storedBits (CH_CTL p)) 4 1 1) : Retrained s (s.chWord (CH_CTL p) v) p := by
  obtain ⟨honly, hstay⟩ := chCtl_written s p hen hv
  have hset : bitAt v 4 = true := by rw [hv]; exact bitAt_setBits_one _ 4
  have hport : (CH_CTL p - 0xA00000) / 0x10000 = p := by
    unfold CH_CTL
    omega
  have hup' : (s.wordWrite (CH_CTL p) v).chUp p = true := by
    rw [← hup, State.chUp, State.lstate, honly.fld_low (by decide) (by simpa using (ctl_ne_status p).symm), State.chUp, State.lstate]
  have hdone : s.chWord (CH_CTL p) v = (s.wordWrite (CH_CTL p) v).chRetrain p := by
    simp [State.chWord, hport, hen, hstay, hset, hup']
  rw [hdone]
  exact chRetrain_retrained honly hup'

theorem chRetrain_command {who : Master} (hok : who.ok = true) (hgo : CtlGo s who (CH_CTL p) 4) (hsup : who.secSup = true) :
    ∃ t, exec (.chRetrain p who) s = .next t ∧ Retrained s t p := by
  have hdone := chWord_retrain hen hup (v := setBits (s.storedBits (CH_CTL p)) CH_CTL.RETRAIN.1 CH_CTL.RETRAIN.2 1) rfl
  obtain ⟨f, hexec⟩ := wordCommand_writes (i := .chRetrain p who) rfl hok hgo
    (ctlPut_ch s hsup (.inl rfl) (setBits_lt _ _ _ _ 32 (storedBits_lt _ _) (by decide))) (by rw [hdone.rest])
  refine ⟨_, hexec, ⟨?_, hdone.port, hdone.others, hdone.training⟩⟩
  exact congrArg (fun u : State => { u with fab := f }) hdone.rest

end

end Sys2Proof.Machine
end

section
/-! Flits of a chain port, and the errors of its lanes counted (O42). -/
namespace Sys2Proof.Machine

/-! ### Counts that saturate (R384, R621) -/

section
variable (s : State) (a k : Nat) {f sat : Fld} (hf : Fld.pair f) (hsat : Fld.pair sat) (happart : f.1 + f.2 ≤ sat.1)
include hf hsat

theorem countSatBy_only : RegsOnly s (s.countSatBy a f sat k) [a, a + 4] := by
  unfold State.countSatBy
  dsimp only
  split
  · exact (RegsOnly.setFld_pair s _ hf (by simp) (by simp)).trans (RegsOnly.setFld_pair _ 1 hsat (by simp) (by simp))
  · exact RegsOnly.setFld_pair s _ hf (by simp) (by simp)

theorem fld_countSatBy_apart {g : Fld} (hg : Fld.pair g) (hfg : f.1 + f.2 ≤ g.1 ∨ g.1 + g.2 ≤ f.1)
    (hsg : sat.1 + sat.2 ≤ g.1 ∨ g.1 + g.2 ≤ sat.1) : (s.countSatBy a f sat k).fld a g = s.fld a g := by
  unfold State.countSatBy
  dsimp only
  split
  · rw [State.fld_setFld_apart _ _ _ hsat hg hsg, State.fld_setFld_apart _ _ _ hf hg hfg]
  · exact State.fld_setFld_apart _ _ _ hf hg hfg

include happart

theorem fld_countSatBy : (s.countSatBy a f sat k).fld a f = min (2 ^ f.2 - 1) (s.fld a f + k) := by
  have hpow : 0 < 2 ^ f.2 := Nat.two_pow_pos _
  unfold State.countSatBy
  dsimp only
  split
  case isTrue hfull =>
    rw [State.fld_setFld_apart _ _ _ hsat hf (.inr happart), State.fld_setFld_self, Nat.mod_eq_of_lt (by omega), Nat.min_eq_left hfull]
  case isFalse hroom =>
    rw [State.fld_setFld_self, Nat.mod_eq_of_lt (by omega), Nat.min_eq_right (by omega)]

end

/-- Steps that each leave what they meet as it was. -/
theorem foldl_idle {α β : Type} {f : β → α → β} {b : β} {l : List α} (h : ∀ a ∈ l, f b a = b) : l.foldl f b = b :=
  List.foldlRecOn (motive := fun x => x = b) l f rfl fun _ hx a ha => hx ▸ h a ha

section
variable {s : State} {p : Fin 8} (ce ue : Nat)

/-- The errors that the FEC decoder counted, added. -/
def State.errsCounted (s : State) (p ce ue : Nat) : State :=
  let s := if 0 < ce then s.countSatBy (CH_ERRS p) CH_ERRS.FEC_CE CH_ERRS.CE_SAT ce else s
  if 0 < ue then s.countSatBy (CH_ERRS p) CH_ERRS.FEC_UE CH_ERRS.UE_SAT ue else s

theorem errsCounted_only : RegsOnly s (s.errsCounted p ce ue) [CH_ERRS p, CH_ERRS p + 4] := by
  have hce : RegsOnly s (if 0 < ce then s.countSatBy (CH_ERRS p) CH_ERRS.FEC_CE CH_ERRS.CE_SAT ce else s)
      [CH_ERRS p, CH_ERRS p + 4] := by
    split
    · exact countSatBy_only s _ ce (by decide) (by decide)
    · exact RegsOnly.refl s _
  unfold State.errsCounted
  dsimp only
  split
  · exact hce.trans (countSatBy_only _ _ ue (by decide) (by decide))
  · exact hce

theorem errsCounted_ce : (s.errsCounted p ce ue).fld (CH_ERRS p) CH_ERRS.FEC_CE
    = min (2 ^ 31 - 1) (s.fld (CH_ERRS p) CH_ERRS.FEC_CE + ce) := by
  have hmax : s.fld (CH_ERRS p) CH_ERRS.FEC_CE < 2 ^ 31 := bitsOf_lt_pow _ _ 31
  have hce : (if 0 < ce then s.countSatBy (CH_ERRS p) CH_ERRS.FEC_CE CH_ERRS.CE_SAT ce else s).fld (CH_ERRS p) CH_ERRS.FEC_CE
      = min (2 ^ 31 - 1) (s.fld (CH_ERRS p) CH_ERRS.FEC_CE + ce) := by
    split
    · exact fld_countSatBy s _ ce (by decide) (by decide) (by decide)
    · omega
  unfold State.errsCounted
  dsimp only
  split
  · rw [fld_countSatBy_apart _ _ _ (by decide) (by decide) (by decide) (by decide) (by decide), hce]
  · exact hce

theorem errsCounted_ue : (s.errsCounted p ce ue).fld (CH_ERRS p) CH_ERRS.FEC_UE
    = min (2 ^ 15 - 1) (s.fld (CH_ERRS p) CH_ERRS.FEC_UE + ue) := by
  have hmax : s.fld (CH_ERRS p) CH_ERRS.FEC_UE < 2 ^ 15 := bitsOf_lt_pow _ _ 15
  have hce : (if 0 < ce then s.countSatBy (CH_ERRS p) CH_ERRS.FEC_CE CH_ERRS.CE_SAT ce else s).fld (CH_ERRS p) CH_ERRS.FEC_UE
      = s.fld (CH_ERRS p) CH_ERRS.FEC_UE := by
    split
    · exact fld_countSatBy_apart s _ ce (by decide) (by decide) (by decide) (by decide) (by decide)
    · rfl
  unfold State.errsCounted
  dsimp only
  split
  · rw [fld_countSatBy _ _ _ (by decide) (by decide) (by decide), hce]
    rfl
  · omega

variable {errs : List (BitVec 16)} (hup : s.chUp p = true)
  (hfew : ∀ l < 8, (errs.getD l 0).toNat ≤ 2 ^ s.fld (CH_LANE p) CH_LANE.SPARE_EXP)
include hup hfew

/-- R384: no lane beyond the threshold, so the errors are counted and no more. -/
theorem laneWindow_counts : s.laneWindow p (errs.map BitVec.toNat) ce ue = s.errsCounted p ce ue := by
  have hexp : (s.errsCounted p ce ue).fld (CH_LANE p) CH_LANE.SPARE_EXP = s.fld (CH_LANE p) CH_LANE.SPARE_EXP := by
    refine (errsCounted_only ce ue).fld_low (by decide) ?_
    simp only [List.mem_cons, List.not_mem_nil, or_false, CH_LANE, CH_ERRS]
    omega
  have hidle : (upTo 8).foldl (fun t l => if 2 ^ (s.errsCounted p ce ue).fld (CH_LANE p) CH_LANE.SPARE_EXP
      < (errs.map BitVec.toNat).getD l 0 then t.laneFail p l else t) (s.errsCounted p ce ue) = s.errsCounted p ce ue := by
    refine foldl_idle fun l hl => if_neg ?_
    have hget : (errs.map BitVec.toNat).getD l 0 = (errs.getD l 0).toNat := List.getD_map errs 0 BitVec.toNat
    rw [hexp, hget]
    exact Nat.not_lt.mpr (hfew l (by simpa [upTo] using hl))
  rw [State.laneWindow, hup]
  exact hidle

end

/-! ### Flits (R388) -/

theorem pick_empty {x : ChPort} (hqueue : x.queue = []) : x.pick = none := by
  simp [ChPort.pick, hqueue]

/-- With nothing queued and nothing begun, a flit takes no message. -/
theorem fill_empty {x : ChPort} (hqueue : x.queue = []) (hsending : x.sending = none) : x.fill 15 = ([], [], x) := by
  rw [ChPort.fill, pick_empty hqueue, hsending]
  cases x.left <;> rfl

/-- R388: `t` is `u` with the next flit of port `p` sent, all NOPs: it carries the header of port state `x`. -/
def IdleFlit (u t : State) (p : Fin 8) (x : ChPort) : Prop :=
  ∃ g, t.ch.out = u.ch.out ++ [g] ∧ g.port = p.val ∧ g.seq = x.txSeq ∧ g.ack = x.rxSeq ∧ g.nak = x.nakDue ∧
    g.slots = List.replicate 15 (0 : BitVec 128) ∧
    (t.chPort p).rxSeq = x.rxSeq ∧ (t.chPort p).txSeq = (x.txSeq + 1) % 4096 ∧ (t.chPort p).nakDue = false ∧
    (t.chPort p).queue = [] ∧ (t.chPort p).replay = x.replay ++ [⟨x.txSeq, List.replicate 15 (0 : BitVec 128), []⟩] ∧
    t.regNat (CH_PERF_TX p) 2 = (u.regNat (CH_PERF_TX p) 2 + 1) % 2 ^ 64 ∧
    t = { u with regs := t.regs, ch := { u.ch with ports := t.ch.ports, out := t.ch.out } }

/-- A flit that leaves, with the header of its port, whose credits it gives back. -/
theorem flitOut_sends (u : State) (p seq : Nat) (slots : List (BitVec 128)) : ∃ (g : ChFlit) (owed : List Nat),
    g.port = p ∧ g.seq = seq ∧ g.ack = (u.chPort p).rxSeq ∧ g.nak = (u.chPort p).nakDue ∧ g.slots = slots ∧
    u.flitOut p seq slots = ({ u.setChPort p { u.chPort p with owed := owed, nakDue := false, swapReq := none } with
      ch := { (u.setChPort p { u.chPort p with owed := owed, nakDue := false, swapReq := none }).ch with out := u.ch.out ++ [g] }
      }).countWrap (CH_PERF_TX p) 1 (CH_STATUS p) CH_STATUS.OVF_TX :=
  ⟨_, _, rfl, rfl, rfl, rfl, rfl, rfl⟩

theorem flitSend_idle {u : State} {p : Fin 8} {x : ChPort} (hx : u.chPort p = x) (hup : u.chUp p = true) (hroom : x.replay.length < 512)
    (hqueue : x.queue = []) (hsending : x.sending = none) :
    IdleFlit u (u.flitSend p) p x ∧ ∀ a ∉ [CH_PERF_TX p, CH_PERF_TX p + 4, CH_STATUS p], (u.flitSend p).reg a = u.reg a := by
  have hgo : (!u.chUp p || decide (512 ≤ x.replay.length)) = false := by simp [hup, hroom]
  have hsend : u.flitSend p = (u.setChPort p { x with
      txSeq := (x.txSeq + 1) % 4096
      replay := x.replay ++ [⟨x.txSeq, List.replicate 15 0, []⟩] }).flitOut p x.txSeq (List.replicate 15 0) := by
    simp only [State.flitSend, hx, hgo, fill_empty hqueue hsending, Bool.false_eq_true, if_false]
    rfl
  obtain ⟨g, owed, hport, hseq, hack, hnak, hslots, hout⟩ := flitOut_sends (u.setChPort p { x with
    txSeq := (x.txSeq + 1) % 4096
    replay := x.replay ++ [⟨x.txSeq, List.replicate 15 0, []⟩] }) p x.txSeq (List.replicate 15 0)
  rw [chPort_setChPort] at hack hnak hout
  rw [hsend, hout, setChPort_setChPort]
  refine ⟨?_, (countWrap_only _ _ 1 (f := CH_STATUS.OVF_TX) (by decide)).regs⟩
  rw [State.countWrap_eq]
  have hnow := chPort_setChPort u p { x with
    txSeq := (x.txSeq + 1) % 4096
    replay := x.replay ++ [⟨x.txSeq, List.replicate 15 0, []⟩]
    owed := owed
    nakDue := false
    swapReq := none }
  have hperf : CH_STATUS p < CH_PERF_TX p ∨ CH_PERF_TX p + 8 ≤ CH_STATUS p := by
    unfold CH_STATUS CH_PERF_TX
    omega
  refine ⟨g, rfl, hport, hseq, hack, hnak, hslots, (congrArg ChPort.rxSeq hnow : _), (congrArg ChPort.txSeq hnow : _),
    (congrArg ChPort.nakDue hnow : _), ((congrArg ChPort.queue hnow).trans hqueue : _), (congrArg ChPort.replay hnow : _), ?_, rfl⟩
  exact (regNat_countWrap _ 1 (f := CH_STATUS.OVF_TX) (by decide) hperf : _)

/-- A NOP received changes nothing. -/
theorem slotTake_nop {u : State} {p : Fin 8} (hpart : (u.chPort p).part = []) : u.slotTake p 0 = u := by
  have hport : (u.setChPort p { u.chPort p with part := [] }) = u := by
    rw [← hpart]
    exact setChPort_chPort u p
  have hnop : (ChMsg.ofSlots [0]).ty = 0 ∧ (ChMsg.ofSlots [0]).dataSlots = 0 := by decide
  have hend : ¬ [(0 : BitVec 128)].length < (ChMsg.ofSlots [0]).dataSlots + 1 := by rw [hnop.2]; decide
  rw [State.slotTake, hpart]
  dsimp only
  rw [List.nil_append, if_neg hend, if_pos hnop.1, hport, State.chArrive, if_pos hnop.1]

/-- What a flit received leaves for the flit sent after it: registers and the ports' states. -/
theorem IdleFlit.of_base {s u t : State} {p : Fin 8} {x : ChPort} (h : IdleFlit u t p x)
    (hu : u = { s with regs := u.regs, ch := { s.ch with ports := u.ch.ports } })
    (hperf : u.regNat (CH_PERF_TX p) 2 = s.regNat (CH_PERF_TX p) 2) : IdleFlit s t p x := by
  obtain ⟨g, hout, hport, hseq, hack, hnak, hslots, hrx, htx, hdue, hqueue, hreplay, hcount, hrest⟩ := h
  refine ⟨g, hout.trans ?_, hport, hseq, hack, hnak, hslots, hrx, htx, hdue, hqueue, hreplay, hperf ▸ hcount, hrest.trans ?_⟩ <;>
    rw [hu]

section
variable {s : State} {p : Fin 8} {f : FlitIn} {x : ChPort}

/-- R388: a header that acknowledges no flit of the replay buffer, with neither a NAK nor a swap, gives back credits alone. -/
theorem flitHeader_credits (hx : s.chPort p = x) (hnak : f.nak = false) (hswap : f.swap = none)
    (hack : ∀ r ∈ x.replay, r.seq ≠ f.ack.toNat) : ∃ credit, s.flitHeader p f = s.setChPort p { x with credit := credit } := by
  have hkeep : x.replay.any (fun r => r.seq == f.ack.toNat) = false := by simpa using hack
  rw [State.flitHeader, hx, hkeep, hnak, hswap]
  exact ⟨_, rfl⟩

/-- R388: `u` is `s` with a flit accepted that carries nothing. -/
structure FlitTaken (s u : State) (p : Fin 8) (x : ChPort) : Prop where
  frame : u = { s with regs := u.regs, ch := { s.ch with ports := u.ch.ports } }
  port : u.chPort p = x
  live : u.chUp p = s.chUp p
  sent : u.regNat (CH_PERF_TX p) 2 = s.regNat (CH_PERF_TX p) 2
  taken : u.regNat (CH_PERF_RX p) 2 = (s.regNat (CH_PERF_RX p) 2 + 1) % 2 ^ 64

theorem countWrap_taken : FlitTaken s ((s.setChPort p x).countWrap (CH_PERF_RX p) 1 (CH_STATUS p) CH_STATUS.OVF_RX) p x := by
  have honly := countWrap_only (s.setChPort p x) (CH_PERF_RX p) 1 (r := CH_STATUS p) (f := CH_STATUS.OVF_RX) (by decide)
  have hplace : CH_STATUS p < CH_PERF_RX p ∨ CH_PERF_RX p + 8 ≤ CH_STATUS p := by
    unfold CH_STATUS CH_PERF_RX
    omega
  refine ⟨?_, (honly.chPort p).trans (chPort_setChPort s p x), ?_, (honly.regNat fun i => ?_).trans rfl,
    regNat_countWrap _ 1 (by decide) hplace⟩
  · rw [honly.rest]
    rfl
  · rw [State.chUp, State.lstate, fld_countWrap_below _ 1 (by decide) (by decide) (by decide) hplace]
    rfl
  · simp only [List.mem_cons, List.not_mem_nil, or_false, CH_PERF_TX, CH_PERF_RX, CH_STATUS]
    omega

end

section
variable {s : State} {p : Fin 8} {f : FlitIn} (hempty : s.ch.inbox = []) (hok : f.ok = true)
include hempty hok

theorem flitReceive_exec {t : State} {x : ChPort} (hrow : s.flitReceive p f = t) (hsent : IdleFlit s t p x) :
    exec (.flitReceive p f) s = .next t := by
  obtain ⟨g, -, -, -, -, -, -, -, -, -, -, -, -, hrest⟩ := hsent
  refine drained_exec ?_ (by rw [hrest]; exact hempty) (by rw [hrest])
  show (if f.ok then Host.Outcome.next (s.after ((s.flitReceive p f).inboxDrain)) else _) = _
  rw [if_pos hok, hrow]

variable {x : ChPort} (hx : s.chPort p = x) (hup : s.chUp p = true) (hqueue : x.queue = []) (hsending : x.sending = none)
  (hroom : x.replay.length < 512)
include hx hup hqueue hsending hroom

/-- R388: a flit that is damaged is discarded and NAKed. -/
theorem flitReceive_damaged (hbad : f.intact = false) :
    ∃ t, exec (.flitReceive p f) s = .next t ∧ IdleFlit s t p { x with nakDue := true } := by
  have hsent : IdleFlit s ((s.setChPort p { x with nakDue := true }).flitSend p) p { x with nakDue := true } :=
    (flitSend_idle (chPort_setChPort s p { x with nakDue := true }) hup hroom hqueue hsending).1.of_base rfl rfl
  refine ⟨_, flitReceive_exec hempty hok ?_ hsent, hsent⟩
  simp [State.flitReceive, hup, hbad, hx]

variable (hnak : f.nak = false) (hswap : f.swap = none) (hslots : f.slots = List.replicate 15 0) (hpart : x.part = [])
include hnak hswap hslots hpart

/-- R388: a flit in order with nothing in it is acknowledged by the next one sent. -/
theorem flitReceive_inOrder (hgood : f.intact = true) (hseq : f.seq.toNat = (x.rxSeq + 1) % 4096)
    (hack : ∀ r ∈ x.replay, r.seq ≠ f.ack.toNat) :
    ∃ t credit, exec (.flitReceive p f) s = .next t ∧ IdleFlit s t p { x with rxSeq := f.seq.toNat, credit := credit } ∧
      t.regNat (CH_PERF_RX p) 2 = (s.regNat (CH_PERF_RX p) 2 + 1) % 2 ^ 64 := by
  obtain ⟨credit, hheader⟩ := flitHeader_credits hx hnak hswap hack
  have hinto := countWrap_taken (s := s) (p := p) (x := { x with rxSeq := f.seq.toNat, credit := credit })
  obtain ⟨u, hu⟩ : ∃ u, (s.setChPort p { x with rxSeq := f.seq.toNat, credit := credit }).countWrap (CH_PERF_RX p) 1 (CH_STATUS p)
    CH_STATUS.OVF_RX = u := ⟨_, rfl⟩
  rw [hu] at hinto
  have hnops : f.slots.foldl (fun t sl => t.slotTake p sl) u = u := by
    refine foldl_idle fun sl hsl => ?_
    rw [hslots] at hsl
    rw [List.eq_of_mem_replicate hsl]
    exact slotTake_nop (by rw [hinto.port]; exact hpart)
  have hrow : s.flitReceive p f = u.flitSend p := by
    simp only [State.flitReceive, hup, hgood, hheader, chPort_setChPort, setChPort_setChPort, hseq, decide_true, Bool.and_self,
      Bool.not_true, Bool.false_eq_true, if_false, if_true]
    rw [← hseq, hu, hnops]
  obtain ⟨hidle, hregs⟩ := flitSend_idle hinto.port (hinto.live.trans hup) hroom hqueue hsending
  have hsent := hidle.of_base hinto.frame hinto.sent
  refine ⟨_, credit, flitReceive_exec hempty hok hrow hsent, hsent, ?_⟩
  rw [← hinto.taken]
  refine State.regNat_congr _ _ fun i hi => hregs _ ?_
  simp only [List.mem_cons, List.not_mem_nil, or_false, CH_PERF_TX, CH_PERF_RX, CH_STATUS]
  omega

end

end Sys2Proof.Machine
end

section
/-! A lane moved to the spare: a Regrow with its records, which leaves room for the event that reports it (O42). -/
namespace Sys2Proof.Machine

/-! ### The halves of the Journal -/

section
variable (h : JHalf) (a : JArea)

theorem advance_failed (n : Nat) : (h.advance a n).failed = h.failed := by cases a <;> rfl

theorem usable_failed (k : Nat) : (h.usable k a).failed = h.failed := by
  induction k generalizing h with
  | zero => rfl
  | succ k ih =>
    rw [JHalf.usable]
    split
    · exact (ih _).trans (advance_failed h a _)
    · rfl

theorem put_failed (r : BitVec 512) : (h.put a r).failed = h.failed :=
  (advance_failed _ a _).trans (usable_failed h a _)

theorem putCfg_failed (k : Nat) (r : BitVec 512) : (h.putCfg k r).failed = h.failed := by
  induction k generalizing h r with
  | zero => exact put_failed h .cfg r
  | succ k ih =>
    have hput : ((h.usable h.bad.length .cfg).put .cfg r).failed = h.failed := (put_failed _ _ r).trans (usable_failed h _ _)
    rw [JHalf.putCfg]
    split
    · exact (ih _ _).trans hput
    · exact hput

/-- Records written take no half out of service. -/
theorem write_failed (r : BitVec 512) : (h.write a r).failed = h.failed := by
  unfold JHalf.write
  split
  · rfl
  split
  · exact putCfg_failed h _ r
  · exact put_failed h a r

end

/-! ### Work of the Fault and Journal Unit on the Unit State Table -/

/-- The records that are no flush record, of which the queue takes 64 (R459). -/
def State.recordsQueued (s : State) : Nat := (s.fj.jq.filter (fun r => decide (recKind r ≠ kFlush))).length

/-- `t` is `s` with at most `n` records more, the registers `as` below the Fault and Journal Unit's and the units `us` changed;
the settings of the sources are as they were, and MODE names a mode in which the unit runs. -/
structure TableWork (as us : List Nat) (n : Nat) (s t : State) : Prop where
  below : ∀ a ∉ as, a < 0xC00000 → t.reg a = s.reg a
  settings : ∀ a, 0xC01000 ≤ a → a ≠ ST_MODE → t.reg a = s.reg a
  table : ∀ u ∉ us, t.ustEntry u = s.ustEntry u
  mode : 2 ≤ s.mode → 2 ≤ t.mode
  base : t.st.base = s.st.base
  unit : t.fj = { s.fj with jq := t.fj.jq, regrows := t.fj.regrows }
  halves : t.nv.ja.failed = s.nv.ja.failed ∧ t.nv.jb.failed = s.nv.jb.failed
  room : t.recordsQueued ≤ s.recordsQueued + n
  chain : t.ch = s.ch
  pending : t.pending = s.pending

/-- `n` records may be placed, and MODE named again stays a mode in which the Fault and Journal Unit runs. -/
structure TableReady (n : Nat) (s : State) : Prop where
  mode : 2 ≤ s.mode
  base : 2 ≤ s.st.base
  kept : s.jLost = false
  room : s.recordsQueued + n ≤ 64

section
variable {as us : List Nat} {n m : Nat} {s t u : State}

theorem TableWork.refl (as us : List Nat) (s : State) : TableWork as us 0 s s :=
  ⟨fun _ _ _ => rfl, fun _ _ _ => rfl, fun _ _ => rfl, id, rfl, rfl, ⟨rfl, rfl⟩, Nat.le_refl _, rfl, rfl⟩

theorem TableWork.trans (h : TableWork as us n s t) (g : TableWork as us m t u) : TableWork as us (n + m) s u where
  below a ha hlt := (g.below a ha hlt).trans (h.below a ha hlt)
  settings a hge hne := (g.settings a hge hne).trans (h.settings a hge hne)
  table v hv := (g.table v hv).trans (h.table v hv)
  mode hmode := g.mode (h.mode hmode)
  base := g.base.trans h.base
  unit := by rw [g.unit, h.unit]
  halves := ⟨g.halves.1.trans h.halves.1, g.halves.2.trans h.halves.2⟩
  room := by
    have := h.room
    have := g.room
    omega
  chain := g.chain.trans h.chain
  pending := g.pending.trans h.pending

theorem TableWork.mono {bs vs : List Nat} (h : TableWork as us n s t) (hregs : ∀ a ∈ as, a ∈ bs) (hunits : ∀ v ∈ us, v ∈ vs)
    (hn : n ≤ m) :
    TableWork bs vs m s t :=
  { h with
    below := fun a ha => h.below a fun hmem => ha (hregs a hmem)
    table := fun v hv => h.table v fun hmem => hv (hunits v hmem)
    room := h.room.trans (Nat.add_le_add_left hn _) }

theorem TableWork.able (h : TableWork as us n s t) (hable : TableReady (n + m) s) : TableReady m t where
  mode := h.mode hable.mode
  base := h.base ▸ hable.base
  kept := by rw [State.jLost, h.halves.1, h.halves.2]; exact hable.kept
  room := by
    have := h.room
    have := hable.room
    omega

/-- After it an event that was plain is plain. -/
theorem TableWork.plain {k sev : Nat} (h : TableWork as us n s t) (hable : TableReady (n + 1) s)
    (hplain : EventPlain s k sev) : EventPlain t k sev := by
  have hk : k < 512 := srcKnown_lt hplain.known
  have hcfg : t.reg (FJ_SRC_CFG k) = s.reg (FJ_SRC_CFG k) := by
    refine h.settings _ ?_ ?_ <;> simp only [FJ_SRC_CFG, ST_MODE] <;> omega
  have hfld : ∀ f, Fld.low f → t.fld (FJ_SRC_CFG k) f = s.fld (FJ_SRC_CFG k) f := fun f hf => by
    rw [State.fld_low _ _ hf, State.fld_low _ _ hf, hcfg]
  have htable := h.able hable
  refine ⟨decide_eq_true htable.mode, hplain.known, ?_, ?_, ?_, ?_, htable.kept, htable.room⟩
  · rw [hfld _ (by decide)]
    exact hplain.low
  · rw [hfld _ (by decide)]
    exact hplain.noTrip
  · rw [h.unit]
    exact hplain.calm
  · rw [h.unit]
    exact hplain.noFatal

end

/-! ### Its parts -/

section
variable (s : State)

/-- Registers alone. -/
theorem TableWork.of_regs {t : State} {as cs : List Nat} (h : RegsOnly s t cs)
    (hcs : ∀ a ∈ cs, (a ∈ as ∧ a ≠ ST_MODE ∧ a < 0xC00000)
    ∨ (0xC00000 ≤ a ∧ a < 0xC01000)) : TableWork as [] 0 s t where
  below a ha hlt := h.regs a fun hmem => by
    rcases hcs a hmem with ⟨hin, -⟩ | ⟨hge, -⟩
    · exact ha hin
    · omega
  settings a hge hne := h.regs a fun hmem => by
    rcases hcs a hmem with ⟨-, -, hlt⟩ | ⟨-, hlt⟩ <;> omega
  table u hu := by rw [h.rest]; rfl
  mode hmode := by
    have hplace : ST_MODE ∉ cs := fun hmem => by
      rcases hcs _ hmem with ⟨-, hne, -⟩ | ⟨-, hlt⟩
      · exact hne rfl
      · exact absurd hlt (by decide)
    rw [State.mode, h.fld_low (by decide) hplace]
    exact hmode
  base := by rw [h.rest]
  unit := by rw [h.rest]
  halves := by rw [h.rest]; exact ⟨rfl, rfl⟩
  room := by rw [h.rest]; exact Nat.le_refl _
  chain := by rw [h.rest]
  pending := by rw [h.rest]

/-- A field of the Fault and Journal Unit's own registers. -/
theorem TableWork.fjFld (s : State) {a : Nat} {f : Fld} (v : Nat) (hf : Fld.pair f) (hlo : 0xC00000 ≤ a) (hhi : a + 4 < 0xC01000) :
    TableWork [] [] 0 s (s.setFld a f v) :=
  .of_regs s (RegsOnly.setFld_pair s (as := [a, a + 4]) v hf (by simp) (by simp)) fun x hx => .inr (by
    simp only [List.mem_cons, List.not_mem_nil, or_false] at hx
    omega)

theorem fjShow_work : TableWork [] [] 0 s s.fjShow :=
  ((TableWork.fjFld s _ (by decide) (by decide) (by decide)).trans (TableWork.fjFld _ _ (by decide) (by decide) (by decide))).trans
    (TableWork.fjFld _ _ (by decide) (by decide) (by decide))

theorem jShow_work : TableWork [] [] 0 s s.jShow := by
  have hbits : ∀ (u : State) (c : Prop) [Decidable c] (f : Fld), Fld.pair f →
      TableWork [] [] 0 u (if c then u.setFld FJ_JNL_STATUS f 1 else u) := fun u c _ f hf => by
    split
    · exact TableWork.fjFld u 1 hf (by decide) (by decide)
    · exact TableWork.refl _ _ u
  unfold State.jShow
  refine .trans (n := 0) (m := 0) ?_ (hbits _ _ _ (by decide))
  refine .trans (n := 0) (m := 0) ?_ (hbits _ _ _ (by decide))
  refine .trans (n := 0) (m := 0) ?_ (TableWork.fjFld _ _ (by decide) (by decide) (by decide))
  refine .trans (n := 0) (m := 0) ?_ (TableWork.fjFld _ _ (by decide) (by decide) (by decide))
  refine .trans (n := 0) (m := 0) ?_ (TableWork.fjFld _ _ (by decide) (by decide) (by decide))
  refine .trans (n := 0) (m := 0) ?_ (TableWork.fjFld _ _ (by decide) (by decide) (by decide))
  exact (TableWork.fjFld s _ (by decide) (by decide) (by decide)).trans (TableWork.fjFld _ _ (by decide) (by decide) (by decide))

/-- R459: a record placed where the queue has room for it. -/
theorem jPlace_work {n : Nat} (h : TableReady (n + 1) s) (v : Nat) : TableWork [] [] 1 s (s.jPlace v).1 := by
  have hroom : (s.fj.jq.filter (fun r => decide (recKind r ≠ kFlush))).length < 64 := by
    have := h.room
    unfold State.recordsQueued at this
    omega
  rw [State.jPlace, h.kept]
  simp only [Bool.false_eq_true, if_false, hroom, if_true]
  refine ⟨fun _ _ _ => rfl, fun _ _ _ => rfl, fun _ _ => rfl, id, rfl, rfl, ⟨rfl, rfl⟩, ?_, rfl, rfl⟩
  simp only [State.recordsQueued, List.filter_append, List.length_append]
  exact Nat.add_le_add_left (List.length_filter_le _ _) _

/-- ST_MODE written, so that it names a mode in which the unit runs. -/
theorem TableWork.of_mode {s t : State} (h : RegsOnly s t [ST_MODE]) (hmode : 2 ≤ s.mode → 2 ≤ t.mode) :
    TableWork [] [] 0 s t where
  below a _ hlt := h.regs a (by rw [List.mem_singleton]; unfold ST_MODE; omega)
  settings a _ hne := h.regs a (by rwa [List.mem_singleton])
  table u hu := by rw [h.rest]; rfl
  mode := hmode
  base := by rw [h.rest]
  unit := by rw [h.rest]
  halves := by rw [h.rest]; exact ⟨rfl, rfl⟩
  room := by rw [h.rest]; exact Nat.le_refl _
  chain := by rw [h.rest]
  pending := by rw [h.rest]

theorem valveMode_work (m : Nat) : TableWork [] [] 0 s (s.valveMode m) := by
  have hst : ∀ v, TableWork [] [] 0 s { s with st := { s.st with valve := v } } := fun v =>
    ⟨fun _ _ _ => rfl, fun _ _ _ => rfl, fun _ _ => rfl, id, rfl, rfl, ⟨rfl, rfl⟩, Nat.le_refl _, rfl, rfl⟩
  unfold State.valveMode
  split
  · exact hst _
  split
  · exact hst _
  · exact TableWork.refl _ _ s

/-- From Proofing on, every name of MODE is a mode in which the Fault and Journal Unit runs. -/
theorem modeName_runs (h : 2 ≤ s.st.base) : 2 ≤ s.modeName ∧ s.modeName < 16 := by
  unfold State.modeName
  refine iteInduction (motive := fun m => 2 ≤ m ∧ m < 16) (fun _ => by decide) fun _ => ?_
  refine iteInduction (motive := fun m => 2 ≤ m ∧ m < 16) (fun _ => by decide) fun _ => ?_
  refine iteInduction (motive := fun m => 2 ≤ m ∧ m < 16) (fun hlow => ⟨h, hlow.trans (by decide)⟩) fun _ => ?_
  repeat' refine iteInduction (motive := fun m => 2 ≤ m ∧ m < 16) (fun _ => by decide) fun _ => ?_
  decide

theorem rename_work {n : Nat} (h : TableReady (n + 1) s) : TableWork [] [] 1 s s.rename := by
  obtain ⟨hruns, hfits⟩ := modeName_runs s h.base
  have hnamed : TableWork [] [] 0 s (s.setFld ST_MODE ST_MODE.MODE s.modeName) :=
    .of_mode (RegsOnly.setFld s _ (by decide) (by simp)) fun _ => by
      rw [State.mode, State.fld_setFld_self, Nat.mod_eq_of_lt (show s.modeName < 2 ^ ST_MODE.MODE.2 from hfits)]
      exact hruns
  have hvalve := hnamed.trans (valveMode_work (s.setFld ST_MODE ST_MODE.MODE s.modeName) s.modeName)
  have hready : TableReady (n + 1) ((s.setFld ST_MODE ST_MODE.MODE s.modeName).valveMode s.modeName) :=
    hvalve.able (by rwa [Nat.zero_add])
  have hgo : ((s.setFld ST_MODE ST_MODE.MODE s.modeName).valveMode s.modeName).fjRuns = true := decide_eq_true hready.mode
  unfold State.rename
  dsimp only
  split
  · exact (TableWork.refl [] [] s).mono (by simp) (by simp) (by omega)
  split
  · exact hvalve.mono (by simp) (by simp) (by omega)
  · exact hvalve.trans (jPlace_work _ hready _)

theorem moultShow_work {n : Nat} (h : TableReady (n + 1) s) : TableWork [] [] 1 s s.moultShow := by
  have hflag : ∀ b, TableWork [] [] 0 s (s.setFlag ST_MODE ST_MODE.MOULT b) := fun b =>
    .of_mode (RegsOnly.setFlag s b (by decide) (by simp)) fun hmode => by
      rw [State.mode, State.setFlag, State.fld_setFld_apart _ _ _ (by decide) (by decide) (by decide)]
      exact hmode
  exact (hflag _).trans (rename_work _ ((hflag _).able (by rwa [Nat.zero_add])))

/-! ### A Regrow's start and end (R475, R478) -/

/-- What the Journal keeps of a Regrow, and the list of those in progress. -/
theorem regrows_work (l : List Regrow) (k : Nat) (v : List Byte) :
    TableWork [] [] 0 s ({ s with fj := { s.fj with regrows := l } }.regrowKeep k v) :=
  ⟨fun _ _ _ => rfl, fun _ _ _ => rfl, fun _ _ => rfl, id, rfl, rfl, ⟨rfl, rfl⟩, Nat.le_refl _, rfl, rfl⟩

/-- What FJ_STATUS shows of the reactions and Regrows, and Moult, after at most `k` records. -/
theorem shown_work {k n : Nat} {t : State} (h : TableWork [] [] k s t) (hready : TableReady (k + (n + 1)) s) :
    TableWork [] [] (k + 1) s t.fjShow.moultShow :=
  (h.trans (fjShow_work t)).trans (moultShow_work _ ((h.trans (fjShow_work t)).able hready))

theorem regrowOpen_work {n : Nat} (h : TableReady (n + 2) s) (src spare lost : Nat) :
    TableWork [] [] 2 s (s.regrowOpen src spare lost) := by
  have hplaced := jPlace_work s (n := n + 1) h
    (s.jRec { src := src, unit := spare, sev := svInfo, detail := lost } kRegrowStart svInfo false false)
  exact shown_work s (n := n) (hplaced.trans (regrows_work _ _ _ _)) (by rwa [show 1 + 0 + (n + 1) = n + 2 by omega])

theorem regrowClose_work {n : Nat} (h : TableReady (n + 2) s) (spare : Nat) : TableWork [] [] 2 s (s.regrowClose spare) := by
  unfold State.regrowClose
  split
  · exact (TableWork.refl [] [] s).mono (by simp) (by simp) (by omega)
  next g _ =>
    have hkept := regrows_work s (s.fj.regrows.filter (fun x => x.spare != spare)) spare []
    have hplaced := hkept.trans (jPlace_work _ (n := n + 1) (hkept.able (by rwa [Nat.zero_add])) (setBits g.bits.toNat 64 64 s.st.tb))
    exact shown_work s (n := n) hplaced (by rwa [show 0 + 1 + (n + 1) = n + 2 by omega])

/-! ### An entry of the Unit State Table changed (R469) -/

theorem jStore_work (a : JArea) (r : BitVec 512) : TableWork [] [] 0 s (s.jStore a r) := by
  have hhalves : TableWork [] [] 0 s { s with nv := { s.nv with
      ja := s.nv.ja.write a (recStored s.jSingle r), jb := s.nv.jb.write a (recStored s.jSingle r) } } :=
    ⟨fun _ _ _ => rfl, fun _ _ _ => rfl, fun _ _ => rfl, id, rfl, rfl, ⟨write_failed _ a _, write_failed _ a _⟩,
      Nat.le_refl _, rfl, rfl⟩
  exact hhalves.trans (jShow_work _)

theorem setUst_entry (u v : Nat) (x : W32) : (s.setUst u x).ustEntry v = if v = u then x else s.ustEntry v := by
  simp only [State.ustEntry, State.setUst, mget_mput]
  split
  · simp [majority]
  · rfl

theorem ustChange_work {n : Nat} (h : TableReady n s) (u v : Nat) :
    TableWork [] [u] 0 s (s.ustChange u v) ∧ (s.ustChange u v).ustEntry u = BitVec.ofNat 32 v := by
  have hset : TableWork [] [u] 0 s (s.setUst u (BitVec.ofNat 32 v)) :=
    { TableWork.refl [] [u] s with
      table := fun w hw => (setUst_entry s u w _).trans (if_neg (by simpa using hw)) }
  have hnext : ∀ (t : State) (j : Nat), TableWork [] [] 0 t { t with nv := { t.nv with jnext := j } } := fun t j =>
    ⟨fun _ _ _ => rfl, fun _ _ _ => rfl, fun _ _ => rfl, id, rfl, rfl, ⟨rfl, rfl⟩, Nat.le_refl _, rfl, rfl⟩
  have hsaved : ∀ (t : State) (m : List (Nat × W32)), TableWork [] [] 0 t { t with nv := { t.nv with savedUst := m } } := fun t m =>
    ⟨fun _ _ _ => rfl, fun _ _ _ => rfl, fun _ _ => rfl, id, rfl, rfl, ⟨rfl, rfl⟩, Nat.le_refl _, rfl, rfl⟩
  have hjournal : TableWork [] [] 0 (s.setUst u (BitVec.ofNat 32 v)) (s.ustChange u v) := by
    unfold State.ustChange
    dsimp only
    rw [show (s.setUst u (BitVec.ofNat 32 v)).jLost = false from h.kept, if_neg Bool.false_ne_true]
    exact ((hnext _ _).trans (jStore_work _ _ _)).trans (hsaved _ _)
  exact ⟨hset.trans (hjournal.mono (by simp) (by simp) (Nat.le_refl 0)),
    (hjournal.table u (by simp)).trans ((setUst_entry s u u _).trans (if_pos rfl))⟩

end

/-! ### The lane and the spare (R384) -/

/-- A unit whose entry's STATE was set, with or without another cause. -/
theorem unitState_of_entry {s : State} {u v st : Nat} (hentry : s.ustEntry u = BitVec.ofNat 32 v) (hv : bitsOf v 0 3 = st)
    (hst : st < 5) :
    s.unitState u = st := by
  have hlow : bitsOf (s.ustEntry u).toNat 0 3 = st := by
    rw [hentry, BitVec.toNat_ofNat, ← hv]
    unfold bitsOf
    omega
  rw [State.unitState, hlow]
  exact if_neg (by omega)

theorem unitState_congr {s t : State} {u : Nat} (h : t.ustEntry u = s.ustEntry u) : t.unitState u = s.unitState u := by
  rw [State.unitState, h, State.unitState]

theorem ustFence_work {n : Nat} {s : State} (h : TableReady n s) (u cause : Nat) :
    TableWork [] [u] 0 s (s.ustFence u cause) ∧ (s.ustFence u cause).unitState u = usFenced := by
  obtain ⟨hwork, hentry⟩ := ustChange_work s h u (setBits (setBits (s.ustEntry u).toNat 0 3 usFenced) 8 9 cause)
  refine ⟨hwork, unitState_of_entry hentry ?_ (by decide)⟩
  rw [bitsOf_setBits_below _ _ _ _ _ _ (by decide), bitsOf_setBits]
  rfl

theorem ustState_work {n st : Nat} {s : State} (h : TableReady n s) (u : Nat) (hst : st < 5) :
    TableWork [] [u] 0 s (s.ustState u st) ∧ (s.ustState u st).unitState u = st := by
  obtain ⟨hwork, hentry⟩ := ustChange_work s h u (setBits (s.ustEntry u).toNat 0 3 st)
  refine ⟨hwork, unitState_of_entry hentry ?_ hst⟩
  rw [bitsOf_setBits]
  exact Nat.mod_eq_of_lt (by omega)

/-- R384: port `p` of `t` runs logical lane `l` on its spare; FORCE stands as in `s`. -/
structure LaneMoved (s t : State) (p : Fin 8) (l : Nat) : Prop where
  used : t.flag (CH_STATUS p) CH_STATUS.SPARE_USED = true
  spare : t.fld (CH_STATUS p) CH_STATUS.SPARE_OF = l
  fail : bitAt (t.fld (CH_LANE p) CH_LANE.LANE_FAIL) l = true
  forced : t.flag (CH_LANE p) CH_LANE.FORCE = s.flag (CH_LANE p) CH_LANE.FORCE
  fenced : t.unitState (laneUnit p l) = usFenced
  bound : t.unitState (laneUnit p 8) = usBound

/-- R384: the lane has moved, the partner is asked to move it too, and beside it no port has changed. -/
structure LaneSpared (s t : State) (p : Fin 8) (l : Nat) : Prop extends LaneMoved s t p l where
  port : t.chPort p = { s.chPort p with swapReq := some l }
  inbox : t.ch.inbox = s.ch.inbox
  pending : t.pending = s.pending

/-- CH_STATUS and CH_LANE show the lane moved to the spare. -/
def State.laneShown (s : State) (p l : Nat) : State :=
  ((s.setFld (CH_STATUS p) CH_STATUS.SPARE_USED 1).setFld (CH_STATUS p) CH_STATUS.SPARE_OF l).setFld (CH_LANE p) (12 + l, 1) 1

/-- The lane moved to the spare, before the partner is asked and the event raised. -/
def State.laneMoved (s : State) (p l : Nat) : State :=
  (((((s.regrowOpen (chSrc p ckLaneSpare) (laneUnit p 8) (laneUnit p l)).laneShown p l).ustFence (laneUnit p l)
    (chSrc p ckLaneSpare)).ustState (laneUnit p 8) usBound)).regrowClose (laneUnit p 8)

theorem laneRetire_eq (s : State) (p l : Nat) : s.laneRetire p l true =
    ((s.laneMoved p l).setChPort p { (s.laneMoved p l).chPort p with swapReq := some l }).raise (chSrc p ckLaneSpare)
      (laneUnit p l) svDegraded :=
  rfl

theorem laneRegs_low {p : Fin 8} {x : Nat} (h : x ∈ [CH_STATUS p, CH_LANE p]) : x ≠ ST_MODE ∧ x < 0xC00000 := by
  simp only [List.mem_cons, List.not_mem_nil, or_false, CH_STATUS, CH_LANE] at h
  unfold ST_MODE
  omega

theorem chStatus_ne_chLane (p : Fin 8) : CH_STATUS p ≠ CH_LANE p := by
  unfold CH_STATUS CH_LANE
  omega

theorem LaneMoved.congr {s t u : State} {p : Fin 8} {l : Nat} (h : LaneMoved s t p l)
    (hregs : ∀ x ∈ [CH_STATUS p, CH_LANE p], u.reg x = t.reg x)
    (hunits : ∀ v ∈ [laneUnit p l, laneUnit p 8], u.unitState v = t.unitState v) : LaneMoved s u p l := by
  have hfld : ∀ x ∈ [CH_STATUS p, CH_LANE p], ∀ f, Fld.low f → u.fld x f = t.fld x f := fun x hx f hf => by
    rw [State.fld_low _ _ hf, State.fld_low _ _ hf, hregs x hx]
  refine ⟨?_, ?_, ?_, ?_, (hunits _ (by simp)).trans h.fenced, (hunits _ (by simp)).trans h.bound⟩
  · rw [State.flag, hfld _ (by simp) _ (by decide)]
    exact h.used
  · exact (hfld _ (by simp) _ (by decide)).trans h.spare
  · rw [hfld _ (by simp) _ (by decide)]
    exact h.fail
  · rw [State.flag, hfld _ (by simp) _ (by decide)]
    exact h.forced

section
variable {s : State} {p : Fin 8} {l : Nat} (hl : l < 8)
include hl

theorem laneUnit_ne_spare (p : Nat) : laneUnit p l ≠ laneUnit p 8 := by
  unfold laneUnit unitId
  omega

theorem laneShown_work : TableWork [CH_STATUS p, CH_LANE p] [] 0 s (s.laneShown p l) := by
  have honly : RegsOnly s (s.laneShown p l) [CH_STATUS p, CH_LANE p] :=
    ((RegsOnly.setFld s 1 (by decide) (by simp)).trans (RegsOnly.setFld _ l (by decide) (by simp))).trans
      (RegsOnly.setFld _ 1 ⟨Nat.one_pos, by simp only; omega⟩ (by simp))
  exact .of_regs s honly fun a ha => .inl ⟨ha, laneRegs_low ha⟩

/-- What the two registers show, and FORCE as it was. -/
theorem laneShown_fields : (s.laneShown p l).flag (CH_STATUS p) CH_STATUS.SPARE_USED = true ∧
    (s.laneShown p l).fld (CH_STATUS p) CH_STATUS.SPARE_OF = l ∧
    bitAt ((s.laneShown p l).fld (CH_LANE p) CH_LANE.LANE_FAIL) l = true ∧
    (s.laneShown p l).flag (CH_LANE p) CH_LANE.FORCE = s.flag (CH_LANE p) CH_LANE.FORCE := by
  have hbit : Fld.low (12 + l, 1) := ⟨Nat.one_pos, by simp only; omega⟩
  have hne := chStatus_ne_chLane p
  have hstatus : ∀ f, Fld.low f → (s.laneShown p l).fld (CH_STATUS p) f
      = ((s.setFld (CH_STATUS p) CH_STATUS.SPARE_USED 1).setFld (CH_STATUS p) CH_STATUS.SPARE_OF l).fld (CH_STATUS p) f :=
    fun f hf => State.fld_setFld_ne _ _ _ _ hbit hf hne
  refine ⟨?_, ?_, ?_, ?_⟩
  · rw [State.flag, hstatus _ (by decide), State.fld_setFld_apart _ _ _ (by decide) (by decide) (by decide), State.fld_setFld_self]
    rfl
  · rw [hstatus _ (by decide), State.fld_setFld_self]
    exact Nat.mod_eq_of_lt (hl.trans (by decide))
  · have hset := State.fld_setFlag_bit ((s.setFld (CH_STATUS p) CH_STATUS.SPARE_USED 1).setFld (CH_STATUS p) CH_STATUS.SPARE_OF l)
      (CH_LANE p) CH_LANE.LANE_FAIL l true (by decide) (hl.trans (by decide))
    exact (congrArg (fun v => bitAt v l) hset).trans (bitAt_setBits_one _ l)
  · refine congrArg (fun v => decide (v ≠ 0)) ?_
    refine (State.fld_setFld_apart _ _ _ ⟨Nat.one_pos, by simp only; omega⟩ (by decide)
      (.inr (show 4 + 1 ≤ 12 + l by omega))).trans ?_
    rw [State.fld_setFld_ne _ _ _ _ (by decide) (by decide) hne.symm, State.fld_setFld_ne _ _ _ _ (by decide) (by decide) hne.symm]

/-- The Regrow of a lane: four records at most, two units, two registers. -/
theorem laneMoved_moved (hready : TableReady 5 s) :
    TableWork [CH_STATUS p, CH_LANE p] [laneUnit p l, laneUnit p 8] 4 s (s.laneMoved p l) ∧ LaneMoved s (s.laneMoved p l) p l := by
  have hunits := laneUnit_ne_spare hl p
  obtain ⟨a, ha⟩ : ∃ a, a = s.regrowOpen (chSrc p ckLaneSpare) (laneUnit p 8) (laneUnit p l) := ⟨_, rfl⟩
  have hopen : TableWork [] [] 2 s a := ha ▸ regrowOpen_work s (n := 3) hready _ _ _
  have hshown : TableWork [CH_STATUS p, CH_LANE p] [] 0 a (a.laneShown p l) := laneShown_work hl
  have hready₁ : TableReady 3 (a.laneShown p l) := hshown.able (hopen.able hready)
  obtain ⟨hfence, hfenced⟩ := ustFence_work hready₁ (laneUnit p l) (chSrc p ckLaneSpare)
  have hready₂ : TableReady 3 _ := hfence.able hready₁
  obtain ⟨hbind, hbound⟩ := ustState_work hready₂ (laneUnit p 8) (show usBound < 5 by decide)
  have hclose := regrowClose_work _ (n := 1) (hbind.able (m := 3) hready₂) (laneUnit p 8)
  have htable : TableWork [] [laneUnit p l, laneUnit p 8] 2 (a.laneShown p l) (s.laneMoved p l) := by
    rw [State.laneMoved, ← ha]
    exact ((hfence.mono (by simp) (by simp) (Nat.le_refl 0)).trans (hbind.mono (by simp) (by simp) (Nat.le_refl 0))).trans
      (hclose.mono (by simp) (by simp) (Nat.le_refl 2))
  have hregs : ∀ x ∈ [CH_STATUS p, CH_LANE p], ∀ f, Fld.low f →
      (s.laneMoved p l).fld x f = (a.laneShown p l).fld x f := fun x hx f hf => by
    rw [State.fld_low _ _ hf, State.fld_low _ _ hf, htable.below x (by simp) (laneRegs_low hx).2]
  obtain ⟨hused, hspare, hfail, hforce⟩ := laneShown_fields (s := a) (p := p) hl
  refine ⟨((hopen.mono (by simp) (by simp) (Nat.le_refl 2)).trans (hshown.mono (by simp) (by simp) (Nat.le_refl 0))).trans
    (htable.mono (by simp) (by simp) (Nat.le_refl 2)), ?_, (hregs _ (by simp) _ (by decide)).trans hspare, ?_, ?_, ?_, ?_⟩
  · rw [State.flag, hregs _ (by simp) _ (by decide)]
    exact hused
  · rw [hregs _ (by simp) _ (by decide)]
    exact hfail
  · rw [State.flag, hregs _ (by simp) _ (by decide)]
    refine hforce.trans ?_
    rw [State.flag, State.fld_low _ _ (by decide), hopen.below _ (by simp) (laneRegs_low (p := p) (by simp)).2,
      ← State.fld_low _ _ (by decide), State.flag]
  · rw [State.laneMoved, ← ha, unitState_congr (hclose.table _ (by simp)),
      unitState_congr (hbind.table _ (by simpa using hunits)), hfenced]
  · rw [State.laneMoved, ← ha, unitState_congr (hclose.table _ (by simp)), hbound]

/-- R384: a lane that moves to the free spare, asked of the partner, with the event that reports it. -/
theorem laneRetire_spared (hbase : 2 ≤ s.st.base) (hplain : EventPlain s (chSrc p ckLaneSpare) svDegraded)
    (hroom : s.recordsQueued + 4 < 64) : LaneSpared s (s.laneRetire p l true) p l := by
  have hready : TableReady 5 s := ⟨of_decide_eq_true hplain.runs, hbase, hplain.kept, by omega⟩
  obtain ⟨hwork, hmoved⟩ := laneMoved_moved (p := p) hl hready
  rw [laneRetire_eq]
  obtain ⟨c, hc⟩ : ∃ c, s.laneMoved p l = c := ⟨_, rfl⟩
  rw [hc] at hwork hmoved ⊢
  have hport : c.chPort p = s.chPort p := by rw [State.chPort, hwork.chain, State.chPort]
  have hraised := raise_plain (c.setChPort p { c.chPort p with swapReq := some l }) (chSrc p ckLaneSpare) (laneUnit p l)
    svDegraded 0 false
    ((hwork.plain hready hplain).of_same_unit (fun _ _ => rfl) rfl rfl)
  rw [hport] at hraised ⊢
  refine ⟨hmoved.congr (fun x hx => hraised.outside x (.inl (laneRegs_low hx).2)) fun v _ => ?_, ?_, ?_, ?_⟩
  · rw [hraised.rest]
    rfl
  · rw [hraised.rest]
    exact chPort_setChPort c p _
  · rw [hraised.rest]
    exact (congrArg ChainState.inbox hwork.chain : _)
  · rw [hraised.rest]
    exact hwork.pending

end

/-! ### LANE_LOSS and CH_LANE.FORCE -/

section
variable {s : State} {p : Fin 8}

theorem laneLoss_retires {l : Fin 9} (hl : l.val < 8) (hup : s.chUp p = true) (hgood : s.flag (CH_LANE p) (12 + l.val, 1) = false)
    (hlive : l.val ∉ (s.chPort p).failed) (hfree : s.spareFree p = true) : s.laneLoss p l = s.laneRetire p l true := by
  have hmember : (s.chPort p).failed.contains l.val = false := by simpa using hlive
  rw [State.laneLoss, if_neg (by omega), hgood, if_neg Bool.false_ne_true, State.laneFail, hup, hmember, hfree]
  rfl

/-- CH_LANE: FORCE_LANE is stored, SPARE_EXP unless locked, FORCE is set by a one, LANE_FAIL is shown. -/
def chLaneMask : WordMask := { rw := 0xF, rwl := 0xF00, w1c := 0, w1s := 0x10, rsv := 0xE0 }

theorem regFind_chLane (p : Fin 8) : ∃ r i j w, regFind (CH_LANE p) = some (r, i, j, w) ∧ r.mask w = chLaneMask := by
  have hmask : (regFind (CH_LANE p)).map (fun d => d.1.mask d.2.2.2) = some chLaneMask := by
    revert p
    decide +kernel
  obtain ⟨⟨r, i, j, w⟩, hfind, heq⟩ := Option.map_eq_some_iff.1 hmask
  exact ⟨r, i, j, w, hfind, heq⟩

/-- A write of FORCE_LANE and FORCE with the other bits of CH_LANE as they stand stores the lane and leaves the spare's bit of
LANE_FAIL. -/
theorem chLane_written (s : State) (p : Fin 8) {l v : Nat} (hl : l < 8) (hv : v = setBits (s.storedBits (CH_LANE p)) 0 5 (l + 16)) :
    RegsOnly s (s.wordWrite (CH_LANE p) v) [CH_LANE p] ∧ (s.wordWrite (CH_LANE p) v).fld (CH_LANE p) CH_LANE.FORCE_LANE = l ∧
      (s.wordWrite (CH_LANE p) v).flag (CH_LANE p) (12 + 8, 1) = s.flag (CH_LANE p) (12 + 8, 1) := by
  obtain ⟨r, i, j, w, hfind, hmask⟩ := regFind_chLane p
  have hbits : s.storedBits (CH_LANE p) = bitsIn (s.regNat (CH_LANE p) 1) 0xF0F := by
    simp only [State.storedBits, hfind, hmask]
    rfl
  have hstored : ∀ b, 5 ≤ b → v.testBit b = (bitsIn (s.regNat (CH_LANE p) 1) 0xF0F).testBit b := fun b hb => by
    rw [hv, testBit_setBits, if_neg (by omega), hbits]
  have hrsv : bitsIn v (r.mask w).rsv = 0 := by
    rw [hmask]
    refine Nat.eq_of_testBit_eq fun b => ?_
    have hlow : ∀ b < 5, chLaneMask.rsv.testBit b = false := by decide
    have hapart : 0xF0F &&& chLaneMask.rsv = 0 := by decide
    rw [bitsIn, Nat.testBit_and, Nat.zero_testBit]
    by_cases hb : 5 ≤ b
    · rw [hstored b hb, bitsIn, Nat.testBit_and, Bool.and_assoc, ← Nat.testBit_and, hapart, Nat.zero_testBit, Bool.and_false]
    · rw [hlow b (by omega), Bool.and_false]
  have hmasks : ∀ locked : Bool, (∀ b < 4, (chLaneMask.rw ||| if locked then 0 else chLaneMask.rwl).testBit b = true) ∧
      (chLaneMask.rw ||| if locked then 0 else chLaneMask.rwl).testBit 20 = false := by decide
  obtain ⟨hlane, hshown⟩ := hmasks (s.locked r i j)
  obtain ⟨honly, hword⟩ := wordWrite_regs s hfind hrsv
  refine ⟨honly, ?_, ?_⟩
  · have hread := wordWrite_stored s hfind hrsv (f := CH_LANE.FORCE_LANE) (by decide) fun b _ _ hb => by
      have hlow : ∀ b < 4, chLaneMask.w1c.testBit b = false ∧ chLaneMask.w1s.testBit b = false := by decide
      rw [hmask]
      exact ⟨hlane b (by simpa [CH_LANE.FORCE_LANE] using hb), hlow b (by simpa [CH_LANE.FORCE_LANE] using hb)⟩
    rw [hread, hv]
    show bitsOf (setBits _ 0 5 (l + 16)) 0 4 = l
    unfold bitsOf setBits
    omega
  · have hhigh : chLaneMask.w1c.testBit 20 = false ∧ chLaneMask.w1s.testBit 20 = false := by decide
    rw [State.flag_eq_bitAt _ _ (by decide) rfl, State.flag_eq_bitAt _ _ (by decide) rfl, bitAt_eq_testBit, bitAt_eq_testBit]
    refine (hword 20 (by decide)).trans ?_
    rw [hmask, hshown, hhigh.1, hhigh.2]
    simp

/-- FORCE written with a lane: CH_LANE shows FORCE cleared again, and the lane moves to the spare. -/
theorem chWord_force {l v : Nat} (hl : l < 8) (hv : v = setBits (s.storedBits (CH_LANE p)) 0 5 (l + 16)) (hup : s.chUp p = true)
    (hfree : s.spareFree p = true) : ∃ u, RegsOnly s u [CH_LANE p] ∧ u.flag (CH_LANE p) CH_LANE.FORCE = false ∧
      s.chWord (CH_LANE p) v = u.laneRetire p l true := by
  obtain ⟨honly, hlane, hspare⟩ := chLane_written s p hl hv
  have hcleared : RegsOnly s ((s.wordWrite (CH_LANE p) v).setFld (CH_LANE p) CH_LANE.FORCE 0) [CH_LANE p] :=
    honly.trans (RegsOnly.setFld _ 0 (by decide) (by simp))
  have hplace : CH_LANE p ≠ CH_CTL p ∧ CH_STATUS p ∉ [CH_LANE p] ∧ (CH_LANE p - 0xA00000) / 0x10000 = p := by
    rw [List.mem_singleton]
    unfold CH_LANE CH_CTL CH_STATUS
    omega
  obtain ⟨hctl, hstatus, hport⟩ := hplace
  have hset : bitAt v 4 = true := by
    have hforce : ∀ l < 8, (l + 16).testBit (4 - 0) = true := by decide
    rw [hv, bitAt_eq_testBit, testBit_setBits, if_pos (by omega)]
    exact hforce l hl
  obtain ⟨u, hu⟩ : ∃ u, (s.wordWrite (CH_LANE p) v).setFld (CH_LANE p) CH_LANE.FORCE 0 = u := ⟨_, rfl⟩
  rw [hu] at hcleared
  have hup' : u.chUp p = true := by
    rw [← hup, State.chUp, State.lstate, hcleared.fld_low (by decide) hstatus, State.chUp, State.lstate]
  have hfree' : u.spareFree p = true := by
    have hbit : u.flag (CH_LANE p) (12 + 8, 1) = s.flag (CH_LANE p) (12 + 8, 1) := by
      rw [← hspare, ← hu, State.flag, State.fld_setFld_apart _ _ _ (by decide) (by decide) (by decide), State.flag]
    rw [← hfree, State.spareFree, hcleared.flag_low (by decide) hstatus, hbit, State.spareFree]
  refine ⟨u, hcleared, ?_, ?_⟩
  · rw [← hu, State.flag, State.fld_setFld_self]
    rfl
  · simp only [State.chWord, if_neg hctl, if_true, hset, hport, hlane, hu, hup', hfree', hl]
    rfl

theorem starterDie_chLane (p : Fin 8) : starterDie (CH_LANE p) = false := by
  revert p
  decide

/-- CH_LANE lies in a port's block, which is served from Proofing on (R351). -/
theorem base_of_laneGo {who : Master} (hgo : CtlGo s who (CH_LANE p) 4) : 2 ≤ s.st.base := by
  by_contra hlow
  have hgate := hgo.gate
  rw [State.ctlGate] at hgate
  split at hgate
  · rw [if_pos (by simp [starterDie_chLane]; omega)] at hgate
    cases hgate
  · rename_i g hg
    exact hg hgate

theorem laneForce_command {who : Master} (l : BitVec 4) (hl : l.toNat < 8) (hok : who.ok = true) (hgo : CtlGo s who (CH_LANE p) 4)
    (hsup : who.secSup = true) (hup : s.chUp p = true) (hfree : s.spareFree p = true)
    (hplain : EventPlain s (chSrc p ckLaneSpare) svDegraded) (hroom : s.recordsQueued + 4 < 64) :
    ∃ u t, u.flag (CH_LANE p) CH_LANE.FORCE = false ∧ u.chPort p = s.chPort p ∧ exec (.laneForce p who l) s = .next t ∧
      LaneSpared u t p l.toNat := by
  have hv : setBits (s.storedBits (CH_LANE p)) 0 5 (l.toNat + 16) < 2 ^ 32 := setBits_lt _ _ _ _ 32 (storedBits_lt _ _) (by decide)
  obtain ⟨u, honly, hforce, hword⟩ := chWord_force hl rfl hup hfree
  have hfj : u.fj = s.fj := by rw [honly.rest]
  have hregs : ∀ a, 0xC00000 ≤ a → u.reg a = s.reg a := fun a ha => honly.regs a (by
    rw [List.mem_singleton]
    unfold CH_LANE
    omega)
  have hspared := laneRetire_spared (s := u) hl (honly.st ▸ base_of_laneGo hgo)
    (hplain.of_same_unit hregs hfj (by rw [honly.rest])) (by rw [State.recordsQueued, hfj]; exact hroom)
  rw [← hword] at hspared
  obtain ⟨f, hexec⟩ := wordCommand_writes (i := .laneForce p who l) rfl hok hgo (ctlPut_ch s hsup (.inr rfl) hv)
    (hspared.pending.trans honly.pending)
  exact ⟨u, _, hforce, honly.chPort p, hexec,
    ⟨hspared.toLaneMoved.congr (fun _ _ => rfl) fun _ _ => rfl, hspared.port, hspared.inbox, hspared.pending⟩⟩

end

end Sys2Proof.Machine

namespace Sys2Proof.Proofs
open Sys2Proof Sys2Proof.Machine

/-- Settles O42: training by `linkTrain_up` and `linkTrain_start`, a link retrained or lost by `chRetrain_exec` and `linkLost_exec`,
errors by `laneWindow_counts`, lanes by `laneRetire_spared`, flits by `flitReceive_damaged` and `flitReceive_inOrder`. -/
theorem chainLinksTrain : Obligations.ChainLinksTrain := by
  unfold Obligations.ChainLinksTrain
  intro s p who x retrained down hempty
  have hretrained : ∀ t, Retrained s t p → retrained t := fun t h => ⟨h.rest, h.port, h.others, h.training⟩
  refine ⟨fun hen hdown htrain hsound hpow hdead hplain => ?train,
    fun hok hgo hsup hup hen => ?retrain,
    fun hlive htrain htraffic hring hreplay hsending hqueue hplain => ?lost,
    fun hup => ⟨?naks, fun hreplay => ?silent, fun errs ce ue hlen hfew => ?errors,
      fun l hl hok hgo hsup hfree hregrows hplain hroom => ?force,
      fun l hl hbase hgood hlive hfree hregrows hplain hroom => ?loss,
      fun f hnak hswap hslots hpart hqueue hsending hroom => ?flit⟩⟩
  case train =>
    refine ⟨fun c hc => ?_, ?_⟩
    · have hrow : exec c s = .next (s.after (s.linkTrain p true).inboxDrain) := by
        simp only [List.mem_cons, List.not_mem_nil, or_false] at hc
        rcases hc with rfl | rfl <;> rfl
      rw [linkTrain_up hen hdown htrain hpow hsound hdead hplain] at hrow
      have honly := (linkAt_only s p lsUp).setChPort p { ChPort.reset with queue := [s.nbrMsg p] }
      refine ⟨_, drained_exec hrow ?_ ?_, linkAt_lstate s p lsUp (by decide), linkAt_retrain s p lsUp,
        setChPort_eq s p _ ▸ honly⟩
      · rw [honly.rest]
        exact hempty
      · exact honly.pending
    · have hrow : exec (.linkTrain p false) s = .next (s.after (s.linkTrain p false).inboxDrain) := rfl
      rw [linkTrain_start hen hdown htrain hpow, if_neg Bool.false_ne_true] at hrow
      have honly := (linkAt_only s p lsDown).setChPort p { x with train := .none }
      refine ⟨_, drained_exec hrow ?_ ?_, linkAt_lstate s p lsDown (by decide), setChPort_eq s p _ ▸ honly⟩
      · rw [honly.rest]
        exact hempty
      · exact honly.pending
  case retrain =>
    obtain ⟨t, hexec, hdone⟩ := chRetrain_command hen hup hok hgo hsup
    exact ⟨t, hexec, hretrained t hdone⟩
  case lost =>
    refine ⟨fun hstate => ?_, ?_⟩
    · refine linkLost_exec hring hlive htrain htraffic hreplay hsending hqueue hempty hplain ?_
      show Host.Outcome.next (s.after (s.retrainTimeout p).inboxDrain) = _
      rw [State.retrainTimeout, if_pos hstate]
    · exact linkLost_exec hring hlive htrain htraffic hreplay hsending hqueue hempty hplain rfl
  case naks =>
    obtain ⟨t, hexec, hdone⟩ := chRetrain_exec (c := .linkDown p false) hempty hup rfl
    exact ⟨t, hexec, hretrained t hdone⟩
  case silent =>
    have hrow : exec (.flitAckTimeout p) s = .next (s.after (s.chRetrain p).inboxDrain) := by
      show Host.Outcome.next (s.after (s.ackTimeout p).inboxDrain) = _
      rw [State.ackTimeout, if_pos (by simp [hup, hreplay, x])]
    obtain ⟨t, hexec, hdone⟩ := chRetrain_exec hempty hup hrow
    exact ⟨t, hexec, hretrained t hdone⟩
  case errors =>
    have honly := errsCounted_only (s := s) (p := p) ce.toNat ue.toNat
    refine ⟨s.errsCounted p ce.toNat ue.toNat, drained_exec ?_ (honly.ch ▸ hempty) honly.pending, honly,
      errsCounted_ce _ _, errsCounted_ue _ _⟩
    show (if decide (errs.length = 9) then Host.Outcome.next (s.after (s.laneWindow p _ _ _).inboxDrain) else _) = _
    rw [if_pos (decide_eq_true hlen), laneWindow_counts _ _ hup hfew]
  case force =>
    obtain ⟨u, t, hcleared, hport, hexec, hdone⟩ := laneForce_command l hl hok hgo hsup hup hfree hplain hroom
    exact ⟨t, hexec, hdone.used, hdone.spare, hdone.fail, hdone.forced.trans hcleared, hdone.fenced, hdone.bound,
      hdone.port.trans (by rw [hport])⟩
  case loss =>
    have hdone := laneRetire_spared hl hbase hplain hroom
    rw [← laneLoss_retires hl hup hgood hlive hfree] at hdone
    exact ⟨_, drained_exec rfl (hdone.inbox.trans hempty) hdone.pending, hdone.used, hdone.spare, hdone.fail, hdone.fenced, hdone.bound,
      hdone.port⟩
  case flit =>
    intro z sent
    have hok : f.ok = true := by simp [FlitIn.ok, hslots]
    refine ⟨fun hbad => ?_, fun hgood hseq hack => ?_⟩
    · exact flitReceive_damaged hempty hok rfl hup hqueue hsending hroom hbad
    · obtain ⟨t, credit, hexec, hsent, htaken⟩ :=
        flitReceive_inOrder hempty hok rfl hup hqueue hsending hroom hnak hswap hslots hpart hgood hseq hack
      exact ⟨t, hexec, hsent, htaken⟩

end Sys2Proof.Proofs
end
